-- ==== Sys2Proof/Word.lean ====
section
/-! DEFINITION. The plain types of the model: bytes, byte strings and sorted tables keyed by a number. -/

namespace Sys2Proof

/-- One byte of a payload, a frame or a memory. -/
abbrev Byte := BitVec 8

/-- A byte string, lowest offset first (R11). -/
abbrev Bytes := List Byte

/-- A table keyed by an index: rising keys, and an index it does not list holds the table's default. -/
abbrev Tab (α : Type) := List (Nat × α)

/-- The entry a table lists under a key. -/
def tabGet? {α : Type} : Tab α → Nat → Option α
  | [], _ => none
  | (j, a) :: t, k => if j = k then some a else tabGet? t k

/-- The entry of a key, or the default where the table lists none. -/
def tabGet {α : Type} (d : α) (t : Tab α) (k : Nat) : α := (tabGet? t k).getD d

/-- The table with the entry of one key set. -/
def tabSet {α : Type} : Tab α → Nat → α → Tab α
  | [], k, a => [(k, a)]
  | (j, b) :: t, k, a =>
    if k < j then (k, a) :: (j, b) :: t
    else if k = j then (k, a) :: t
    else (j, b) :: tabSet t k a

/-- The table without a key. -/
def tabErase {α : Type} (t : Tab α) (k : Nat) : Tab α := t.filter (fun e => e.1 ≠ k)

end Sys2Proof
end

