-- ==== Sys2Proof/Syntax.lean ====
section
/-! DEFINITION. The commands the block takes: one constructor per row of the opcode table, and the operands they carry.
Every command carries `dt`, the time in ns that has passed since the command before it (log 3). -/

namespace Sys2Proof

/-- The path of a mailbox, an operation or a session (R53): the host port, the USB service port or a TLS session. -/
inductive Path | host | usb | tls (session : Nat)
deriving DecidableEq, Repr

/-- A Ferosh command set request as a client writes it into a mailbox's request area before ringing (R57). -/
structure Request where
  /-- The path that writes and rings. -/
  path : Path := .host
  /-- The mailbox written and rung. -/
  mbox : Fin 32
  /-- FLAGS. -/
  flags : BitVec 16
  /-- TAG. -/
  tag : BitVec 32
  /-- LENGTH. -/
  length : BitVec 32
  /-- CHECK. -/
  check : BitVec 32
  /-- The reserved bytes of the header. -/
  reserved : Bytes
  /-- The payload bytes written after the header. -/
  payload : Bytes
deriving DecidableEq, Repr

/-- The header of a window access record over USB or TLS (R51). -/
structure RecordHead where
  /-- KIND. -/
  kind : Nat
  /-- SEQ. -/
  seq : Nat
  /-- LENGTH. -/
  length : Nat
  /-- ADDRESS. -/
  address : Nat
  /-- RESULT. -/
  result : Nat
  /-- Reserved field. -/
  reserved : Nat
deriving DecidableEq, Repr

/-- What a certificate of a client chain says, and whether its rules of R476 hold. -/
structure CertFacts where
  /-- It uses ecdsa-with-SHA384 and a brainpoolP384r1 key. -/
  algorithms : Bool
  /-- notBefore, zone ns. -/
  notBefore : Nat
  /-- notAfter, zone ns. -/
  notAfter : Nat
deriving DecidableEq, Repr

/-- A TLS client handshake on port 49320: what is offered and what the client's chain shows (R50, R476; log 9). -/
structure TlsOffer where
  /-- TLS 1.3. -/
  tls13 : Bool
  /-- TLS_AES_256_GCM_SHA384. -/
  suite : Bool
  /-- brainpoolP384r1tls13. -/
  group : Bool
  /-- ecdsa_brainpoolP384r1tls13_sha384. -/
  scheme : Bool
  /-- A client certificate. -/
  certificate : Bool
  /-- Session resumption or 0-RTT data. -/
  resumption : Bool
  /-- The chain is the client certificate and at most one intermediate, ending in a signature by the slot 3 key. -/
  anchored : Bool
  /-- The certificates of the chain. -/
  chain : List CertFacts
  /-- The intermediate, where there is one, has basicConstraints cA TRUE and pathLenConstraint 0 or absent. -/
  intermediate : Bool
  /-- The client certificate's keyUsage and extendedKeyUsage allow client authentication. -/
  usage : Bool
deriving DecidableEq, Repr

/-- What the numerical part of a solve found (R123 to R131; log 25): pressures, flows and modes as its last iterate has them, and
the figures of the estimation. -/
structure SolveResult where
  /-- Node pressures, binary64 bits. -/
  pressures : List Nat
  /-- Pipe flows, binary64 bits. -/
  pipes : List Nat
  /-- Element flows, binary64 bits. -/
  elements : List Nat
  /-- Pump modes, by element: 0 SPEED, 1 DP, 2 CLOSED. -/
  modes : List Nat
  /-- Estimation ended on its iteration limit. -/
  estLimit : Bool
  /-- Modes were frozen after the eighth round of mode switches. -/
  frozen : Bool
  /-- Gauss–Newton iterations. -/
  estIter : Nat
  /-- Newton iterations. -/
  newtonIter : Nat
  /-- Conjugate-gradient iterations of the Newton solve. -/
  cgIter : Nat
  /-- Bindings the bad-data rounds removed. -/
  suspects : List Nat
  /-- Per binding its residual, binary32 bits. -/
  residuals : List Nat
  /-- J at the end of estimation, binary32 bits. -/
  j : Nat
  /-- T_ALIGN_US to T_TOTAL_US. -/
  times : List Nat
deriving DecidableEq, Repr

/-- What a warm start found (R149; log 25). -/
structure WarmResult where
  /-- Iterations. -/
  iterations : Nat
  /-- The Newton solve converged. -/
  converged : Bool
  /-- MAX_MASS_RESID, binary32 bits. -/
  mass : Nat
  /-- MAX_HEAD_RESID, binary32 bits. -/
  head : Nat
  /-- Its iterate. -/
  result : SolveResult
deriving DecidableEq, Repr

/-- A plant unit's decision for a step (R151, R168). -/
structure PlantStep where
  /-- P, W, binary32. -/
  output : Nat
  /-- T, °C, binary32. -/
  temp : Nat
  /-- Committed. -/
  on : Bool
deriving DecidableEq, Repr

/-- What the numerical part of a replan found (R168, R169; log 26): the decision variables per step, step 1 first, and its figures. -/
structure ReplanResult where
  /-- By UNIT row of a plant unit. -/
  plants : List (Nat × List PlantStep)
  /-- By UNIT row of a store unit: charge and discharge, W, binary32. -/
  stores : List (Nat × List (Nat × Nat))
  /-- By UNIT row of a group unit: set-back K and recovery W, binary32. -/
  groups : List (Nat × List (Nat × Nat))
  /-- By PUMP element row: Δp, Pa, binary32. -/
  pumps : List (Nat × List Nat)
  /-- Steps with a slack above 0. -/
  relaxed : List Nat
  /-- σ⁺ is above 0 at some step. -/
  unserved : Bool
  /-- σ⁻ is above 0 at some step. -/
  surplus : Bool
  /-- OBJECTIVE, GAP, MAX_INFEAS and SLACK_TOTAL, binary32. -/
  figures : List Nat
  /-- Main-solve iterations. -/
  ipmIter : Nat
  /-- Commitment-pass iterations. -/
  commitIter : Nat
  /-- Erg time used, µs. -/
  ergTime : Nat
deriving DecidableEq, Repr

/-- What fitting a store's model found (R165; log 26): KAPPA, LOSS_SCALE and RMS_ERROR as binary32, and SPREAD. -/
structure FitResult where
  /-- KAPPA. -/
  kappa : Nat
  /-- LOSS_SCALE. -/
  loss : Nat
  /-- SPREAD. -/
  spread : Nat
  /-- RMS_ERROR. -/
  rms : Nat
deriving DecidableEq, Repr

/-- A PTP message other than Sync (R228, R229, R436). -/
inductive PtpMsg
  /-- Announce: the data set's rank (lower is better), clock class, currentUtcOffset where valid, leap61 and leap59. -/
  | announce (rank clockClass : Nat) (utc : Option Int) (leap61 leap59 : Bool)
  /-- A message that completes a path delay measurement, in ns (Follow_Up after Delay_Resp or Pdelay_Resp). -/
  | delay (meanPath : Nat)
  /-- A Follow_Up of a two-step Sync, whose time stamp the SYNC command carries. -/
  | followUp
  /-- A Pdelay_Req that asks for an answer. -/
  | pdelayReq
deriving DecidableEq, Repr

/-- A received FFP frame with what its reception shows (R216, R218, R234 to R239; log 10). -/
structure FfpFrame where
  /-- The switch port it came in on. -/
  port : Nat
  /-- The VID of its tag, none for an untagged frame. -/
  vid : Option Nat
  /-- The source and sequence of its PRP redundancy trailer, none without one. -/
  rct : Option (Nat × Nat)
  /-- Frames already queued when it arrives. -/
  queued : Nat
  /-- UDP destination port. -/
  udpPort : Nat
  /-- UDP payload length. -/
  udpLen : Nat
  /-- The node ID its IPv6 source address stands for, none for any other address. -/
  sender : Option Nat
  /-- VERSION. -/
  version : Nat
  /-- TYPE. -/
  type : Nat
  /-- FLAGS. -/
  flags : Nat
  /-- SRC. -/
  src : Nat
  /-- DST. -/
  dst : Nat
  /-- KEY_EPOCH. -/
  keyEpoch : Nat
  /-- SEQ. -/
  seq : Nat
  /-- LENGTH. -/
  length : Nat
  /-- The reserved field. -/
  reserved : Nat
  /-- The body, decrypted. -/
  body : Bytes
  /-- The tag verifies under the key of SRC, DST and KEY_EPOCH. -/
  tagOk : Bool
deriving DecidableEq, Repr

/-- A received twin link frame's header and whether its tag verifies under the partner's send key (R250). -/
structure TwinHead where
  /-- ITEM_ID. -/
  item : Nat
  /-- SEQ. -/
  seq : Nat
  /-- The tag verifies. -/
  tagOk : Bool
deriving DecidableEq, Repr

/-- One sample of a feed's channels after the chain of R260, in 2⁻¹⁶ V and A: the voltages of the set, the same a quarter period
before, the line currents and the neutral current (R258, R263; log 13). -/
structure MeterSample where
  /-- Voltages of the set. -/
  v : List Int
  /-- The voltages T ÷ 4 earlier. -/
  vq : List Int
  /-- Line currents. -/
  i : List Int
  /-- Neutral current. -/
  n : Int
deriving DecidableEq, Repr

/-- The samples of a feed since those of its last metering command (R263; log 13). -/
structure FeedData where
  /-- The samples, oldest first. -/
  samples : List MeterSample
  /-- Channels that clipped in them: 0 to 7 for MV0 to MV7, 8 to 23 for MI0 to MI15. -/
  clipped : List Nat
  /-- Voltage channels with an accepted crossing in them. -/
  crossed : List Nat
  /-- V_ANGLE and I_ANGLE of the cycle, six binary32. -/
  angles : List Nat
  /-- V_ANGLE and I_ANGLE over the latch interval that ends here, six binary32. -/
  latchAngles : List Nat
deriving DecidableEq, Repr

/-- What one RTD channel's modulator and diagnostic slots gave over a step (R282, R283; log 13). -/
structure RtdSlot where
  /-- The step resistance in µΩ. -/
  resistance : Nat
  /-- All four pads float. -/
  openAll : Bool := false
  /-- The excitation reaches its compliance. -/
  compliance : Bool := false
  /-- A sense pad is pulled to its bias rail. -/
  openSense : Bool := false
  /-- The sense voltage is opposite in sign to the excitation. -/
  reversed : Bool := false
  /-- Force-loop lead resistance in Ω. -/
  lead : Nat := 0
deriving DecidableEq, Repr

/-- What the thermal engine measured since its last step (R282 to R285; log 13). -/
structure ThermData where
  /-- The 16 RTD channels. -/
  rtd : List RtdSlot
  /-- Per flow input the current samples of the step, in µA, evenly spaced. -/
  currents : List (List Nat)
deriving DecidableEq, Repr

/-- What is measured up to the sample at which a save cuts metering: the feeds' samples and the thermal part step (R271, R295). -/
structure Cut where
  /-- The samples of each feed. -/
  feeds : List (Nat × FeedData) := []
  /-- The thermal part step. -/
  therm : Option ThermData := none
deriving DecidableEq, Repr

/-- A replicated latch as an ENERGY item carries it (R274, R299). -/
structure EnergyItem where
  /-- A thermal latch. -/
  therm : Bool
  /-- Feed or pair. -/
  index : Nat
  /-- LATCH_TIME. -/
  latchTime : Nat
  /-- VALUE, WRAP and RESIDUE of each register. -/
  regs : List (Nat × Nat × Nat)
deriving DecidableEq, Repr

/-- What a cycle's execution did, as the bytecode of the image has it (R333, R346, R359; log 24). -/
structure TaskEffects where
  /-- EXEC time in µs. -/
  time : Nat
  /-- Bytes written to instance memory: offset and bytes. -/
  writes : List (Nat × Bytes) := []
  /-- CARAVAN_OPEN calls: activation instant and the TARGET and VALUE pairs. -/
  opens : List (Nat × List (Nat × Nat)) := []
  /-- CARAVAN_ABORT calls: CARAVAN_IDs. -/
  aborts : List Nat := []
  /-- TIMER_ARM calls: timer, target zone time in ns, period in ns (0 for one-shot). -/
  timers : List (Fin 64 × Nat × Nat) := []
deriving DecidableEq, Repr

/-- The traps (R341, R363). -/
inductive TrapCode
  /-- DIV_ZERO. -/
  | divZero
  /-- INDEX_BOUNDS. -/
  | indexBounds
  /-- STACK_OVERFLOW. -/
  | stackOverflow
deriving DecidableEq, Repr

/-- What an axis's encoder did since the last check (R373, R376): quadrature counts as the inputs count them, and the counts at
which the index was seen. -/
structure EncSample where
  /-- Axis. -/
  axis : Fin 8
  /-- Counts since the last check. -/
  count : Int
  /-- Counts since the last check at which the index passed. -/
  index : Option Int
deriving DecidableEq, Repr

/-- What an encoder input shows (R373). -/
inductive EncEvent
  /-- A and B changed together. -/
  | illegal
  /-- The differential input was found open. -/
  | openInput
  /-- The input is no longer open. -/
  | restored
deriving DecidableEq, Repr

/-- The driver conditions of R374's table. -/
inductive DriverFault
  /-- DRIVER_WARM. -/
  | warm
  /-- DRIVER_HOT. -/
  | hot
  /-- OVERCURRENT. -/
  | overcurrent
  /-- OPEN_PHASE. -/
  | openPhase
  /-- VMOT_LOW. -/
  | vmotLow
deriving DecidableEq, Repr

/-- A received CAN frame as it is valid (R389). -/
structure CanRx where
  /-- Identifier. -/
  id : Nat
  /-- IDE. -/
  ide : Bool
  /-- FD frame. -/
  fd : Bool
  /-- BRS. -/
  brs : Bool
  /-- Remote frame. -/
  remote : Bool
  /-- Data bytes. -/
  data : Bytes
deriving DecidableEq, Repr

/-- Whether an object that takes a frame is being read at that moment (R390). -/
inductive CanReading
  /-- No read is in progress. -/
  | idle
  /-- A read that began after the object's last frame came. -/
  | begun
  /-- A read in progress since before the object's last frame came. -/
  | since
deriving DecidableEq, Repr

/-- What becomes of a transmission (R392). -/
inductive CanTxEvent
  /-- It begins. -/
  | started
  /-- Its frame is complete. -/
  | completed
  /-- It loses arbitration. -/
  | lost
  /-- It fails with an error. -/
  | failed
deriving DecidableEq, Repr

/-- An error a controller sees, by how ISO 11898-1 counts it (R394; log 22). -/
inductive CanError
  /-- An error as a transmitter: TEC + 8. -/
  | transmit
  /-- A missing acknowledgement seen by an error-passive transmitter: not counted. -/
  | passiveAck
  /-- An error as a receiver: REC + 1. -/
  | receive
  /-- A dominant bit after a receiver's error flag: REC + 8. -/
  | dominant
  /-- A receiver's error in the data phase of a frame with BRS: REC + 1. -/
  | dataPhase
deriving DecidableEq, Repr

/-- A reply on the M-Bus segment (R397). -/
structure MbusReply where
  /-- Its bytes. -/
  bytes : Bytes
  /-- Every parity is right and no gap exceeds 50 bit times. -/
  whole : Bool
  /-- Its current exceeded the expected space level by more than 20 mA. -/
  collision : Bool
  /-- Time in ns since it began. -/
  began : Nat
deriving DecidableEq, Repr

/-- What a clock monitor reports (R500): codes 1 to 4. -/
inductive ClockTrip
  /-- STOPPED: no edge for the detector's time. -/
  | stopped
  /-- FREQ: a 1 ms window's offset from nominal, 0.01 ppm. -/
  | freq (offset : Int)
  /-- FAST: a period shorter than half the nominal period. -/
  | fast
  /-- LINK_DOWN: an uplink PHY drops its link or SYNCE_VALID. -/
  | linkDown
deriving DecidableEq, Repr

/-- What a PHY reports of its port (R218, R219, R221, R255; log 30). -/
structure PortLink where
  /-- The link is up. -/
  up : Bool
  /-- The partner offers only the 1.0 V mode: no link, with reason AMPLITUDE. -/
  amplitude : Bool
  /-- The pair is reversed. -/
  polarity : Bool
  /-- An uplink PHY shows SYNCE_VALID. -/
  synce : Bool
deriving DecidableEq, Repr

/-- The records of the Cellar housekeeping region that a start reads (R545 step 5, R594). -/
inductive HouseRecord
  /-- The power configuration. -/
  | power
  /-- The clock configuration. -/
  | clocks
  /-- The boot record: PREFERRED and TRIAL. -/
  | boot
  /-- The role record. -/
  | role
  /-- OASIS, OASIS_CAUSE, OASIS_ENTRY_TIME and BASIS_TIME. -/
  | oasis
  /-- The model record. -/
  | model
  /-- The solver configuration. -/
  | solver
  /-- The optimiser configuration. -/
  | optimiser
  /-- The curve table. -/
  | curves
  /-- The store model records. -/
  | stores
  /-- The caravan configuration. -/
  | caravans
  /-- The next caravan counter. -/
  | caravanCounter
  /-- The network configuration. -/
  | network
  /-- The time configuration. -/
  | time
  /-- SENDER_EPOCH. -/
  | senderEpoch
  /-- The electrical configuration. -/
  | elec
  /-- The thermal configuration. -/
  | therm
  /-- The glycol table. -/
  | glycol
  /-- A loop slot's record. -/
  | loop (slot : Fin 512)
  /-- The program configuration. -/
  | program
  /-- The force list. -/
  | forces
  /-- An axis's configuration. -/
  | axis (ax : Fin 8)
  /-- An axis's saved position record. -/
  | position (ax : Fin 8)
  /-- A CAN controller's configuration and objects. -/
  | can (bus : Fin 4)
  /-- The M-Bus configuration. -/
  | mbus
  /-- The I/O configuration. -/
  | io
  /-- The panel configuration. -/
  | panel
  /-- The trigger definitions. -/
  | triggers
  /-- The SEQ that follows the last record written. -/
  | eventSeq
  /-- KEY_EPOCH and the pending rollover. -/
  | keyEpoch
deriving DecidableEq, Repr

/-- What a start finds (R545, R546, R594; log 31). -/
structure StartFacts where
  /-- The strap levels BOOT2:BOOT0 as sampled. -/
  straps : BitVec 3
  /-- VBAT stayed above its retention level while VIN was absent. -/
  vbatKept : Bool
  /-- The TCXO qualifies this many µs after XTO switches on; none: it fails. -/
  tcxo : Option Nat
  /-- DRAM training and test pass. -/
  dram : Bool
  /-- The Cellar answers. -/
  cellar : Bool
  /-- Housekeeping records that cannot be read back. -/
  defaulted : List HouseRecord
  /-- Caravan journal slots that cannot be read back. -/
  journal : List (Fin 16)
  /-- Event ring slots that cannot be read back. -/
  ring : List (Fin 8192)
  /-- The electrical records of the two save buffers can be read back. -/
  elecSaves : Bool × Bool
  /-- The thermal records of the two save buffers can be read back. -/
  thermSaves : Bool × Bool
  /-- The retained data region passes its check. -/
  retained : Bool
  /-- The active program image matches its digest. -/
  program : Bool
  /-- The DRAM region of the published state passes its CRC, where DRAM was kept. -/
  published : Bool
  /-- The DRAM region of the plan and series passes its CRC, where DRAM was kept. -/
  plan : Bool
  /-- Spare cells the Erg's self-test leaves. -/
  spares : Fin 5
deriving DecidableEq, Repr

/-- A command to the block: a row of the opcode table with its operands; `dt` is the time in ns since the command before it (log 3).
A command of the Ferosh command set carries the request a client writes and rings (log 5). -/
inductive Instr
  -- Host window, mailboxes and service ports (chapter 02)
  /-- REGISTER_WRITE (R45). -/
  | registerWrite (dt : Nat) (addr : Nat) (data : Bytes)
  /-- DOORBELL (R58). -/
  | doorbell (dt : Nat) (mask : BitVec 32)
  /-- HOST_CONTROL (R55). -/
  | hostControl (dt : Nat) (v : BitVec 32)
  /-- MBOX_ASSIGN (R53). -/
  | mboxAssign (dt : Nat) (hi : Bool) (v : BitVec 32)
  /-- INTERRUPT_BLOCK_WRITE (R56). -/
  | interruptBlockWrite (dt : Nat) (off : Nat) (v : BitVec 32)
  /-- ACCESS_FAULT (R55). -/
  | accessFault (dt : Nat)
  /-- READ_TARGET_STATUS (R47). -/
  | readTargetStatus (dt : Nat)
  /-- QSPI_WORD_CUT (R48). -/
  | qspiWordCut (dt : Nat) (addr : Nat) (part : Bytes)
  /-- QSPI_UNKNOWN_OPCODE (R47). -/
  | qspiUnknownOpcode (dt : Nat) (opcode : BitVec 8)
  /-- RECORD_READ (R51). -/
  | recordRead (dt : Nat) (path : Path) (h : RecordHead)
  /-- RECORD_WRITE (R52). -/
  | recordWrite (dt : Nat) (path : Path) (h : RecordHead) (data : Bytes)
  /-- RECORD_RING (R59). -/
  | recordRing (dt : Nat) (path : Path) (h : RecordHead)
  /-- MAILBOX_TAKE (R58). -/
  | mailboxTake (dt : Nat) (cut : Cut)
  /-- TLS_HANDSHAKE (R50). -/
  | tlsHandshake (dt : Nat) (offer : TlsOffer)
  /-- TLS_IDLE_TIMEOUT (R50). -/
  | tlsIdleTimeout (dt : Nat) (session : Nat)
  /-- USB_ATTACH (R426). -/
  | usbAttach (dt : Nat) (cc2 : Bool) (held : Nat)
  /-- USB_DETACH (R427). -/
  | usbDetach (dt : Nat) (held : Nat)
  /-- USB_STABLE (R426). -/
  | usbStable (dt : Nat)
  -- System class (02)
  /-- SYSTEM_IDENTIFY (R63). -/
  | systemIdentify (dt : Nat) (r : Request)
  /-- SYSTEM_GET_STATE (R63). -/
  | systemGetState (dt : Nat) (r : Request)
  /-- SYSTEM_ECHO (R63). -/
  | systemEcho (dt : Nat) (r : Request)
  /-- SYSTEM_RELEASE_OPERATION (R69). -/
  | systemReleaseOperation (dt : Nat) (r : Request)
  /-- SYSTEM_CANCEL_OPERATION (R68). -/
  | systemCancelOperation (dt : Nat) (r : Request)
  /-- SYSTEM_FIRMWARE_BEGIN (R71). -/
  | systemFirmwareBegin (dt : Nat) (r : Request)
  /-- SYSTEM_FIRMWARE_PUT (R71). -/
  | systemFirmwarePut (dt : Nat) (r : Request)
  /-- SYSTEM_FIRMWARE_COMMIT (R71). -/
  | systemFirmwareCommit (dt : Nat) (r : Request)
  /-- FW_VERIFY_COMPLETE (R71). -/
  | fwVerifyComplete (dt : Nat) (intact : Bool)
  /-- FW_TIMEOUT (R72). -/
  | fwTimeout (dt : Nat)
  /-- SYSTEM_FREE_READ (R74). -/
  | systemFreeRead (dt : Nat) (r : Request)
  /-- SYSTEM_FREE_WRITE (R75). -/
  | systemFreeWrite (dt : Nat) (r : Request)
  /-- FATAL_ERROR (R80). -/
  | fatalError (dt : Nat) (source : Fin 8) (unit : BitVec 8) (detail : BitVec 16)
  /-- KEEPER_RESTART (R560). -/
  | keeperRestart (dt : Nat) (facts : StartFacts)
  /-- RESIGN_RELEASE (R561). -/
  | resignRelease (dt : Nat)
  -- Attic class (02)
  /-- ATTIC_GET_HEADER (R82). -/
  | atticGetHeader (dt : Nat) (r : Request)
  /-- ATTIC_READ (R82). -/
  | atticRead (dt : Nat) (r : Request)
  /-- ATTIC_READOUT_COMPLETE (R82). -/
  | atticReadoutComplete (dt : Nat) (bad : List Nat)
  /-- ATTIC_GET_BLOCK (R82). -/
  | atticGetBlock (dt : Nat) (r : Request)
  /-- ATTIC_CLEAR (R82). -/
  | atticClear (dt : Nat) (r : Request)
  -- Model store (03)
  /-- MODEL_BEGIN_LOAD (R97). -/
  | modelBeginLoad (dt : Nat) (r : Request)
  /-- MODEL_PUT_ROWS (R94). -/
  | modelPutRows (dt : Nat) (r : Request)
  /-- MODEL_COMMIT_LOAD (R100). -/
  | modelCommitLoad (dt : Nat) (r : Request)
  /-- MODEL_VALIDATION_COMPLETE (R100). -/
  | modelValidationComplete (dt : Nat)
  /-- LOAD_TIMEOUT (R95). -/
  | loadTimeout (dt : Nat)
  /-- MODEL_GET_INFO (R97). -/
  | modelGetInfo (dt : Nat) (r : Request)
  /-- MODEL_READ_ROWS (R97). -/
  | modelReadRows (dt : Nat) (r : Request)
  -- Solver (04)
  /-- EPOCH_INSTANT (R109). -/
  | epochInstant (dt : Nat)
  /-- ESTIMATION_DEADLINE (R124). -/
  | estimationDeadline (dt : Nat)
  /-- NEWTON_DEADLINE (R130). -/
  | newtonDeadline (dt : Nat)
  /-- SOLVE_COMPLETE (R110). -/
  | solveComplete (dt : Nat) (result : SolveResult)
  /-- SCRATCH_UNCORRECTABLE (R108). -/
  | scratchUncorrectable (dt : Nat) (inSolve : Bool)
  /-- QUARANTINE_EXPIRY (R126). -/
  | quarantineExpiry (dt : Nat) (binding : Nat)
  /-- SOLVER_GET_CONFIG (R144). -/
  | solverGetConfig (dt : Nat) (r : Request)
  /-- SOLVER_SET_CONFIG (R146). -/
  | solverSetConfig (dt : Nat) (r : Request)
  /-- SOLVER_GET_STATUS (R147). -/
  | solverGetStatus (dt : Nat) (r : Request)
  /-- SOLVER_READ_STATE (R148). -/
  | solverReadState (dt : Nat) (r : Request)
  /-- SOLVER_RELEASE_BINDING (R126). -/
  | solverReleaseBinding (dt : Nat) (r : Request)
  /-- SOLVER_WARM_START (R149). -/
  | solverWarmStart (dt : Nat) (r : Request)
  /-- WARM_START_COMPLETE (R149). -/
  | warmStartComplete (dt : Nat) (result : WarmResult)
  -- Optimiser (05)
  /-- REPLAN_INSTANT (R166). -/
  | replanInstant (dt : Nat)
  /-- REPLAN_DEADLINE (R170). -/
  | replanDeadline (dt : Nat) (result : ReplanResult)
  /-- REPLAN_COMPLETE (R171). -/
  | replanComplete (dt : Nat) (result : ReplanResult)
  /-- STEP_BOUNDARY (R175). -/
  | stepBoundary (dt : Nat)
  /-- PLAN_AGE_LIMIT (R178). -/
  | planAgeLimit (dt : Nat)
  /-- UPLINK_LOSS (R36). -/
  | uplinkLoss (dt : Nat)
  /-- OASIS_HOLD_END (R179). -/
  | oasisHoldEnd (dt : Nat)
  /-- STORE_FIT_COMPLETE (R165). -/
  | storeFitComplete (dt : Nat) (result : FitResult)
  /-- OPTIMISER_GET_CONFIG (R182). -/
  | optimiserGetConfig (dt : Nat) (r : Request)
  /-- OPTIMISER_SET_CONFIG (R184). -/
  | optimiserSetConfig (dt : Nat) (r : Request)
  /-- OPTIMISER_PUT_CURVES (R163). -/
  | optimiserPutCurves (dt : Nat) (r : Request)
  /-- OPTIMISER_PUT_SERIES (R161). -/
  | optimiserPutSeries (dt : Nat) (r : Request)
  /-- OPTIMISER_GET_STATUS (R185). -/
  | optimiserGetStatus (dt : Nat) (r : Request)
  /-- OPTIMISER_READ_PLAN (R186). -/
  | optimiserReadPlan (dt : Nat) (r : Request)
  /-- OPTIMISER_RECONCILE (R180). -/
  | optimiserReconcile (dt : Nat) (r : Request)
  /-- OPTIMISER_FIT_STORE (R165). -/
  | optimiserFitStore (dt : Nat) (r : Request)
  /-- OPTIMISER_GET_STORE_MODEL (R182). -/
  | optimiserGetStoreModel (dt : Nat) (r : Request)
  -- Caravans (06)
  /-- CARAVAN_STAGE (R212). -/
  | caravanStage (dt : Nat) (r : Request)
  /-- CARAVAN_COMMIT (R195). -/
  | caravanCommit (dt : Nat) (r : Request)
  /-- CARAVAN_ABORT (R196). -/
  | caravanAbort (dt : Nat) (r : Request)
  /-- CARAVAN_GET_STATUS (R211). -/
  | caravanGetStatus (dt : Nat) (r : Request)
  /-- CARAVAN_READ_MEMBERS (R211). -/
  | caravanReadMembers (dt : Nat) (r : Request)
  /-- CARAVAN_LIST (R211). -/
  | caravanList (dt : Nat) (r : Request)
  /-- CARAVAN_GET_CONFIG (R211). -/
  | caravanGetConfig (dt : Nat) (r : Request)
  /-- CARAVAN_SET_CONFIG (R213). -/
  | caravanSetConfig (dt : Nat) (r : Request)
  /-- CARAVAN_ACK (R194). -/
  | caravanAck (dt : Nat) (frame : FfpFrame)
  /-- DECISION_DURABLE (R195). -/
  | decisionDurable (dt : Nat) (caravan : Nat)
  /-- DECISION_ACK (R202). -/
  | decisionAck (dt : Nat) (frame : FfpFrame)
  /-- REPORT (R202). -/
  | report (dt : Nat) (frame : FfpFrame)
  /-- QUERY (R205). -/
  | query (dt : Nat) (frame : FfpFrame)
  /-- CARAVAN_RETRY (R198). -/
  | caravanRetry (dt : Nat) (caravan : Nat)
  /-- STAGE_DEADLINE (R194). -/
  | stageDeadline (dt : Nat) (caravan : Nat)
  /-- ACTIVATION_INSTANT (R198). -/
  | activationInstant (dt : Nat)
  /-- CONFIRM_WINDOW_END (R202). -/
  | confirmWindowEnd (dt : Nat) (caravan : Nat)
  /-- ORPHAN_INSTANT (R202). -/
  | orphanInstant (dt : Nat) (caravan : Nat)
  -- Field network and time (07)
  /-- TELEMETRY (R242). -/
  | telemetry (dt : Nat) (frame : FfpFrame)
  /-- WRITE_ACK (R245). -/
  | writeAck (dt : Nat) (frame : FfpFrame)
  /-- WRITE_RETRY (R245). -/
  | writeRetry (dt : Nat) (writeId : Nat)
  /-- NAK (R247). -/
  | nak (dt : Nat) (frame : FfpFrame)
  /-- ANNOUNCE_TIMER (R246). -/
  | announceTimer (dt : Nat)
  /-- ANNOUNCE (R246). -/
  | announce (dt : Nat) (frame : FfpFrame)
  /-- NODE_SILENCE (R248). -/
  | nodeSilence (dt : Nat) (node : Nat)
  /-- PRP_SUPERVISION (R218). -/
  | prpSupervision (dt : Nat)
  /-- SYNC (R231). -/
  | sync (dt : Nat) (uplink domain t1 : Nat)
  /-- SYNC_TIMEOUT (R229). -/
  | syncTimeout (dt : Nat) (announce : Bool)
  /-- HOLDOVER_LIMIT (R229). -/
  | holdoverLimit (dt : Nat)
  /-- T1L_SYNC_TRANSMIT (R228). -/
  | t1lSyncTransmit (dt : Nat)
  /-- PPS_IN_EDGE (R226). -/
  | ppsInEdge (dt : Nat)
  /-- PPS_OUT_EDGE (R226). -/
  | ppsOutEdge (dt : Nat)
  /-- NET_GET_CONFIG (R253). -/
  | netGetConfig (dt : Nat) (r : Request)
  /-- NET_SET_CONFIG (R254). -/
  | netSetConfig (dt : Nat) (r : Request)
  /-- PORT_GET_STATUS (R253). -/
  | portGetStatus (dt : Nat) (r : Request)
  /-- PORT_CABLE_TEST (R222). -/
  | portCableTest (dt : Nat) (r : Request)
  /-- FFP_GET_COUNTERS (R253). -/
  | ffpGetCounters (dt : Nat) (r : Request)
  /-- NODE_GET_STATUS (R253). -/
  | nodeGetStatus (dt : Nat) (r : Request)
  /-- TIME_GET (R253). -/
  | timeGet (dt : Nat) (r : Request)
  /-- TIME_GET_CONFIG (R253). -/
  | timeGetConfig (dt : Nat) (r : Request)
  /-- TIME_SET_CONFIG (R254). -/
  | timeSetConfig (dt : Nat) (r : Request)
  /-- TIME_SET (R255). -/
  | timeSet (dt : Nat) (r : Request)
  /-- TIME_STEP (R255). -/
  | timeStep (dt : Nat) (r : Request)
  /-- TIME_READ_CAPTURES (R253). -/
  | timeReadCaptures (dt : Nat) (r : Request)
  -- Twin link (07, 19)
  /-- TWIN_HEARTBEAT_TIMER (R34). -/
  | twinHeartbeatTimer (dt : Nat)
  /-- HEARTBEAT (R34). -/
  | heartbeat (dt : Nat) (head : TwinHead) (data : Bytes)
  /-- TWIN_SILENCE (R34). -/
  | twinSilence (dt : Nat)
  /-- RESIGN (R34). -/
  | resign (dt : Nat) (head : TwinHead)
  /-- TAKEOVER (R34). -/
  | takeover (dt : Nat) (cut : Cut)
  /-- TWIN_ACK (R252). -/
  | twinAck (dt : Nat) (head : TwinHead) (data : Bytes)
  /-- TWIN_ACK_TIMEOUT (R252). -/
  | twinAckTimeout (dt : Nat)
  /-- JOURNAL (R251). -/
  | journal (dt : Nat) (head : TwinHead) (data : Bytes)
  /-- ENERGY (R274). -/
  | energy (dt : Nat) (head : TwinHead) (data : Bytes)
  /-- RETAINED (R358). -/
  | retained (dt : Nat) (head : TwinHead) (data : Bytes)
  /-- PLAN (R251). -/
  | plan (dt : Nat) (head : TwinHead) (data : Bytes)
  /-- MODEL_STATE (R251). -/
  | modelState (dt : Nat) (head : TwinHead) (data : Bytes)
  /-- MODEL_TABLES (R100). -/
  | modelTables (dt : Nat) (head : TwinHead) (data : Bytes)
  /-- KEY_EPOCH (R473). -/
  | keyEpoch (dt : Nat) (head : TwinHead) (data : Bytes)
  /-- HELLO (R554). -/
  | hello (dt : Nat) (data : Bytes)
  /-- HELLO_TIMER (R554). -/
  | helloTimer (dt : Nat)
  /-- HELLO_REPLY (R555). -/
  | helloReply (dt : Nat) (data : Bytes)
  /-- HELLO_CONFIRM (R556). -/
  | helloConfirm (dt : Nat) (head : TwinHead) (data : Bytes)
  /-- TWIN_RETRY (R556). -/
  | twinRetry (dt : Nat)
  -- Electrical metering (08)
  /-- LINE_CYCLE_END (R263). -/
  | lineCycleEnd (dt : Nat) (feed : Nat) (data : FeedData) (cut : Cut)
  /-- ZC_TIMEOUT (R262). -/
  | zcTimeout (dt : Nat) (channel : Nat)
  /-- TIMER_CYCLE_END (R262). -/
  | timerCycleEnd (dt : Nat) (feed : Nat) (data : FeedData) (cut : Cut)
  /-- PERIODIC_SAVE (R271). -/
  | periodicSave (dt : Nat) (cut : Cut)
  -- Thermal metering (09)
  /-- THERMAL_STEP (R291). -/
  | thermalStep (dt : Nat) (data : ThermData) (cut : Cut)
  /-- FLOW_PULSE (R285). -/
  | flowPulse (dt : Nat) (input width : Nat)
  /-- BUS_READING (R286). -/
  | busReading (dt : Nat) (input value : Nat)
  /-- BUS_TIMEOUT (R287). -/
  | busTimeout (dt : Nat) (input : Nat)
  -- Electrical and thermal commands (08, 09)
  /-- ELEC_GET_CONFIG (R279). -/
  | elecGetConfig (dt : Nat) (r : Request)
  /-- ELEC_SET_CONFIG (R278). -/
  | elecSetConfig (dt : Nat) (r : Request)
  /-- ELEC_READ_VALUES (R279). -/
  | elecReadValues (dt : Nat) (r : Request)
  /-- ELEC_READ_REGISTERS (R279). -/
  | elecReadRegisters (dt : Nat) (r : Request)
  /-- ELEC_GET_STATUS (R279). -/
  | elecGetStatus (dt : Nat) (r : Request)
  /-- ELEC_ACKNOWLEDGE_LOSS (R273). -/
  | elecAcknowledgeLoss (dt : Nat) (r : Request)
  /-- THERM_GET_CONFIG (R305). -/
  | thermGetConfig (dt : Nat) (r : Request)
  /-- THERM_SET_CONFIG (R304). -/
  | thermSetConfig (dt : Nat) (r : Request)
  /-- THERM_READ_VALUES (R305). -/
  | thermReadValues (dt : Nat) (r : Request)
  /-- THERM_READ_REGISTERS (R305). -/
  | thermReadRegisters (dt : Nat) (r : Request)
  /-- THERM_GET_STATUS (R305). -/
  | thermGetStatus (dt : Nat) (r : Request)
  /-- THERM_READ_CHANNELS (R305). -/
  | thermReadChannels (dt : Nat) (r : Request)
  /-- THERM_PUT_GLYCOL (R290). -/
  | thermPutGlycol (dt : Nat) (r : Request)
  /-- THERM_GET_GLYCOL (R305). -/
  | thermGetGlycol (dt : Nat) (r : Request)
  /-- THERM_ACKNOWLEDGE_LOSS (R296). -/
  | thermAcknowledgeLoss (dt : Nat) (r : Request)
  -- Loops (10)
  /-- LOOP_SAMPLE (R308). -/
  | loopSample (dt : Nat)
  /-- LOOP_GET_CONFIG (R329). -/
  | loopGetConfig (dt : Nat) (r : Request)
  /-- LOOP_SET_CONFIG (R328). -/
  | loopSetConfig (dt : Nat) (r : Request)
  /-- LOOP_SET_MODE (R329). -/
  | loopSetMode (dt : Nat) (r : Request)
  /-- LOOP_SET_SETPOINT (R324). -/
  | loopSetSetpoint (dt : Nat) (r : Request)
  /-- LOOP_SET_OUTPUT (R329). -/
  | loopSetOutput (dt : Nat) (r : Request)
  /-- LOOP_READ_STATUS (R329). -/
  | loopReadStatus (dt : Nat) (r : Request)
  /-- LOOP_REPLICATION_TIMER (R326). -/
  | loopReplicationTimer (dt : Nat)
  -- Cyclic program (11)
  /-- TASK_INPUT (R333). -/
  | taskInput (dt : Nat) (task : Fin 5)
  /-- TASK_EXECUTION_END (R333). -/
  | taskExecutionEnd (dt : Nat) (task : Fin 5) (fx : TaskEffects)
  /-- TASK_OUTPUT (R334). -/
  | taskOutput (dt : Nat) (task : Fin 5)
  /-- TASK_WATCHDOG (R334). -/
  | taskWatchdog (dt : Nat) (task : Fin 4)
  /-- TE_EVENT (R335). -/
  | teEvent (dt : Nat) (index caravan : Nat)
  /-- TRAP (R341). -/
  | trap (dt : Nat) (task : Fin 5) (code : TrapCode) (inst off : Nat)
  /-- HW_TIMER (R346). -/
  | hwTimer (dt : Nat) (timer : Fin 64)
  /-- HOLD_LIMIT (R352). -/
  | holdLimit (dt : Nat)
  /-- CHANGE_SWITCH (R355). -/
  | changeSwitch (dt : Nat)
  /-- CHANGE_TIMEOUT (R355). -/
  | changeTimeout (dt : Nat)
  /-- RETAINED_RECORD_DURABLE (R357). -/
  | retainedRecordDurable (dt : Nat)
  /-- PROGRAM_PUT_IMAGE (R361). -/
  | programPutImage (dt : Nat) (r : Request)
  /-- PROGRAM_COMMIT_IMAGE (R340). -/
  | programCommitImage (dt : Nat) (r : Request)
  /-- PROGRAM_GET_INFO (R361). -/
  | programGetInfo (dt : Nat) (r : Request)
  /-- PROGRAM_SET_MODE (R350). -/
  | programSetMode (dt : Nat) (r : Request)
  /-- PROGRAM_STEP (R352). -/
  | programStep (dt : Nat) (r : Request)
  /-- PROGRAM_GET_STATUS (R363). -/
  | programGetStatus (dt : Nat) (r : Request)
  /-- PROGRAM_READ_VARS (R361). -/
  | programReadVars (dt : Nat) (r : Request)
  /-- PROGRAM_SET_FORCE (R354). -/
  | programSetForce (dt : Nat) (r : Request)
  /-- PROGRAM_RELEASE_FORCE (R354). -/
  | programReleaseForce (dt : Nat) (r : Request)
  /-- PROGRAM_LIST_FORCES (R361). -/
  | programListForces (dt : Nat) (r : Request)
  /-- PROGRAM_GET_CONFIG (R362). -/
  | programGetConfig (dt : Nat) (r : Request)
  /-- PROGRAM_SET_CONFIG (R362). -/
  | programSetConfig (dt : Nat) (r : Request)
  -- Motion (12)
  /-- AXIS_MOTION_END (R369). -/
  | axisMotionEnd (dt : Nat) (ax : Fin 8)
  /-- STALL_CHECK (R373). -/
  | stallCheck (dt : Nat) (samples : List EncSample)
  /-- ENC_ERROR (R373). -/
  | encError (dt : Nat) (ax : Fin 8) (what : EncEvent)
  /-- LIMIT_SWITCH (R375). -/
  | limitSwitch (dt : Nat) (ax : Fin 8) (high : Bool)
  /-- DRIVER_FAULT (R374). -/
  | driverFault (dt : Nat) (ax : Fin 8) (fault : DriverFault) (present : Bool)
  /-- HOLD_DELAY (R372). -/
  | holdDelay (dt : Nat) (ax : Fin 8)
  /-- STANDSTILL_RECORD (R378). -/
  | standstillRecord (dt : Nat) (ax : Fin 8)
  /-- AXIS_GET_CONFIG (R383). -/
  | axisGetConfig (dt : Nat) (r : Request)
  /-- AXIS_SET_CONFIG (R382). -/
  | axisSetConfig (dt : Nat) (r : Request)
  /-- AXIS_SET_MODE (R383). -/
  | axisSetMode (dt : Nat) (r : Request)
  /-- AXIS_MOVE (R383). -/
  | axisMove (dt : Nat) (r : Request)
  /-- AXIS_HOME (R376). -/
  | axisHome (dt : Nat) (r : Request)
  /-- AXIS_CLEAR_FAULT (R374). -/
  | axisClearFault (dt : Nat) (r : Request)
  /-- AXIS_READ_STATUS (R383). -/
  | axisReadStatus (dt : Nat) (r : Request)
  -- CAN FD and M-Bus (13)
  /-- CAN_FRAME_RECEIVED (R389). -/
  | canFrameReceived (dt : Nat) (bus : Fin 4) (frame : CanRx) (sof : Nat) (reading : CanReading)
  /-- CAN_FRAME_TRANSMITTED (R392). -/
  | canFrameTransmitted (dt : Nat) (bus : Fin 4) (ev : CanTxEvent)
  /-- CAN_PERIODIC_SEND (R392). -/
  | canPeriodicSend (dt : Nat)
  /-- BUS_OFF (R394). -/
  | busOff (dt : Nat) (bus : Fin 4)
  /-- BUS_OFF_RECOVERY (R394). -/
  | busOffRecovery (dt : Nat) (bus : Fin 4)
  /-- CAN_TRANSCEIVER_FAULT (R395). -/
  | canTransceiverFault (dt : Nat) (bus fault : Fin 4) (present : Bool)
  /-- DETECT_DWELL (R388). -/
  | detectDwell (dt : Nat) (bus : Fin 4)
  /-- DETECT_TIMEOUT (R388). -/
  | detectTimeout (dt : Nat) (bus : Fin 4)
  /-- MBUS_CYCLE_INSTANT (R397). -/
  | mbusCycleInstant (dt : Nat)
  /-- MBUS_REPLY (R398). -/
  | mbusReply (dt : Nat) (reply : MbusReply)
  /-- MBUS_REPLY_TIMEOUT (R397). -/
  | mbusReplyTimeout (dt : Nat)
  /-- MBUS_OVERCURRENT (R396). -/
  | mbusOvercurrent (dt : Nat) (ma : Nat)
  /-- MBUS_POWER_RETRY (R396). -/
  | mbusPowerRetry (dt : Nat)
  /-- CAN_GET_CONFIG (R402). -/
  | canGetConfig (dt : Nat) (r : Request)
  /-- CAN_SET_CONFIG (R387). -/
  | canSetConfig (dt : Nat) (r : Request)
  /-- CAN_SET_OBJECTS (R393). -/
  | canSetObjects (dt : Nat) (r : Request)
  /-- CAN_GET_OBJECTS (R402). -/
  | canGetObjects (dt : Nat) (r : Request)
  /-- CAN_READ_OBJECTS (R390). -/
  | canReadObjects (dt : Nat) (r : Request)
  /-- CAN_SEND (R392). -/
  | canSend (dt : Nat) (r : Request)
  /-- CAN_DETECT_RATE (R388). -/
  | canDetectRate (dt : Nat) (r : Request)
  /-- CAN_RECOVER (R394). -/
  | canRecover (dt : Nat) (r : Request)
  /-- CAN_GET_STATUS (R402). -/
  | canGetStatus (dt : Nat) (r : Request)
  /-- MBUS_GET_CONFIG (R402). -/
  | mbusGetConfig (dt : Nat) (r : Request)
  /-- MBUS_SET_CONFIG (R403). -/
  | mbusSetConfig (dt : Nat) (r : Request)
  /-- MBUS_READ_RECORDS (R402). -/
  | mbusReadRecords (dt : Nat) (r : Request)
  /-- MBUS_GET_STATUS (R402). -/
  | mbusGetStatus (dt : Nat) (r : Request)
  /-- MBUS_TRANSACT (R402). -/
  | mbusTransact (dt : Nat) (r : Request)
  -- Field I/O and panel (14)
  /-- DI_LEVEL_ACCEPTED (R406). -/
  | diLevelAccepted (dt : Nat) (input : Fin 32) (mv vdo : Int) (held : Nat)
  /-- DI_OUT_OF_BAND (R405). -/
  | diOutOfBand (dt : Nat) (input : Fin 32) (mv vdo : Int) (held : Nat)
  /-- DI_STUCK (R407). -/
  | diStuck (dt : Nat) (input : Fin 32)
  /-- CHATTER_WINDOW_END (R408). -/
  | chatterWindowEnd (dt : Nat) (input : Fin 32)
  /-- AIN_WINDOW (R409). -/
  | ainWindow (dt : Nat) (input : Fin 16) (mean : Int) (moved : Bool)
  /-- DO_OVERLOAD (R411). -/
  | doOverload (dt : Nat) (output : Fin 24) (hot : Bool)
  /-- DO_RETRY (R411). -/
  | doRetry (dt : Nat) (output : Fin 24)
  /-- DO_OPEN_TEST (R412). -/
  | doOpenTest (dt : Nat) (output : Fin 24) (current before during : Int)
  /-- AOUT_FAULT (R413). -/
  | aoutFault (dt : Nat) (output : Fin 8) (current pad : Int) (held : Nat)
  /-- BLOCK_REMOVAL_WINDOW (R418). -/
  | blockRemovalWindow (dt : Nat) (blk : Fin 16)
  /-- BLOCK_REINSERT (R419). -/
  | blockReinsert (dt : Nat) (blk : Fin 16)
  /-- KEY_MEASUREMENT (R422). -/
  | keyMeasurement (dt : Nat) (signals : List Int)
  /-- IO_GET_CONFIG (R430). -/
  | ioGetConfig (dt : Nat) (r : Request)
  /-- IO_SET_CONFIG (R429). -/
  | ioSetConfig (dt : Nat) (r : Request)
  /-- IO_GET_STATUS (R430). -/
  | ioGetStatus (dt : Nat) (r : Request)
  /-- IO_READ_COUNTERS (R430). -/
  | ioReadCounters (dt : Nat) (r : Request)
  /-- IO_SET_OUTPUT (R428). -/
  | ioSetOutput (dt : Nat) (r : Request)
  /-- IO_CLEAR_OUTPUT (R411). -/
  | ioClearOutput (dt : Nat) (r : Request)
  /-- IO_RESET_INTERLOCK (R415). -/
  | ioResetInterlock (dt : Nat) (r : Request)
  /-- PANEL_GET_CONFIG (R430). -/
  | panelGetConfig (dt : Nat) (r : Request)
  /-- PANEL_SET_CONFIG (R430). -/
  | panelSetConfig (dt : Nat) (r : Request)
  /-- PANEL_GET_KEYS (R430). -/
  | panelGetKeys (dt : Nat) (r : Request)
  /-- PANEL_SET_LEDS (R425). -/
  | panelSetLeds (dt : Nat) (r : Request)
  -- RTC and recorder (15)
  /-- RTC_SYNC (R434). -/
  | rtcSync (dt : Nat)
  /-- CAL_UPDATE (R433). -/
  | calUpdate (dt : Nat) (error : Int)
  /-- ALARM (R440). -/
  | alarm (dt : Nat) (index : Nat)
  /-- PERIODIC_WAKE (R442). -/
  | periodicWake (dt : Nat)
  /-- LEAP (R436). -/
  | leap (dt : Nat)
  /-- OSC_STOPPED (R435). -/
  | oscStopped (dt : Nat)
  /-- VBAT_LOW (R435). -/
  | vbatLow (dt : Nat) (low : Bool)
  /-- FREEZE_TIMEOUT (R437). -/
  | freezeTimeout (dt : Nat)
  /-- RTC_GET_TIME (R437). -/
  | rtcGetTime (dt : Nat) (r : Request)
  /-- RTC_STAGE (R438). -/
  | rtcStage (dt : Nat) (r : Request)
  /-- RTC_COMMIT (R439). -/
  | rtcCommit (dt : Nat) (r : Request)
  /-- RTC_DISCARD (R439). -/
  | rtcDiscard (dt : Nat) (r : Request)
  /-- RTC_SET_ALARM (R440). -/
  | rtcSetAlarm (dt : Nat) (r : Request)
  /-- RTC_GET_ALARMS (R453). -/
  | rtcGetAlarms (dt : Nat) (r : Request)
  /-- RECORDER_TICK (R448). -/
  | recorderTick (dt : Nat)
  /-- RING_WRITE (R449). -/
  | ringWrite (dt : Nat)
  /-- EVENT_READ (R452). -/
  | eventRead (dt : Nat) (r : Request)
  /-- EVENT_GET_TRIGGER (R454). -/
  | eventGetTrigger (dt : Nat) (r : Request)
  /-- EVENT_SET_TRIGGER (R446). -/
  | eventSetTrigger (dt : Nat) (r : Request)
  /-- EVENT_FIRE (R447). -/
  | eventFire (dt : Nat) (r : Request)
  /-- EVENT_MARK (R448). -/
  | eventMark (dt : Nat) (r : Request)
  /-- EVENT_GET_STATUS (R454). -/
  | eventGetStatus (dt : Nat) (r : Request)
  -- Security (16)
  /-- TAMPER_DETECTED (R480). -/
  | tamperDetected (dt : Nat) (source : Fin 10)
  /-- TAMPER_SOURCE_CLEAR (R480). -/
  | tamperSourceClear (dt : Nat) (source : Fin 10)
  /-- KEY_UPDATE_COMMIT (R470). -/
  | keyUpdateCommit (dt : Nat)
  /-- KEY_EPOCH_SWITCH (R473). -/
  | keyEpochSwitch (dt : Nat)
  /-- OVERLAP_END (R473). -/
  | overlapEnd (dt : Nat)
  /-- DEBUG_EXPIRY (R486). -/
  | debugExpiry (dt : Nat)
  /-- SEC_GET_STATUS (R491). -/
  | secGetStatus (dt : Nat) (r : Request)
  /-- SEC_GET_CERTIFICATE (R460). -/
  | secGetCertificate (dt : Nat) (r : Request)
  /-- SEC_ATTEST (R461). -/
  | secAttest (dt : Nat) (r : Request)
  /-- SEC_LIST_SLOTS (R490). -/
  | secListSlots (dt : Nat) (r : Request)
  /-- SEC_INSTALL_AUTHORITY (R467). -/
  | secInstallAuthority (dt : Nat) (r : Request)
  /-- SEC_KEY_UPDATE (R469). -/
  | secKeyUpdate (dt : Nat) (r : Request)
  /-- SEC_ENROL_NODE (R474). -/
  | secEnrolNode (dt : Nat) (r : Request)
  /-- SEC_SET_KEY_EPOCH (R473). -/
  | secSetKeyEpoch (dt : Nat) (r : Request)
  /-- SEC_GET_TAMPER_CONFIG (R490). -/
  | secGetTamperConfig (dt : Nat) (r : Request)
  /-- SEC_SET_TAMPER_CONFIG (R479). -/
  | secSetTamperConfig (dt : Nat) (r : Request)
  /-- SEC_REARM (R483). -/
  | secRearm (dt : Nat) (r : Request)
  /-- SEC_GET_DEBUG_CHALLENGE (R485). -/
  | secGetDebugChallenge (dt : Nat) (r : Request)
  /-- SEC_OPEN_DEBUG (R485). -/
  | secOpenDebug (dt : Nat) (r : Request)
  /-- SEC_CLOSE_DEBUG (R486). -/
  | secCloseDebug (dt : Nat) (r : Request)
  /-- SEC_RAISE_MIN_VERSION (R463). -/
  | secRaiseMinVersion (dt : Nat) (r : Request)
  /-- SEC_PUT_SERVER_CHAIN (R476). -/
  | secPutServerChain (dt : Nat) (r : Request)
  /-- SEC_ZEROISE (R477). -/
  | secZeroise (dt : Nat) (r : Request)
  /-- SEC_SIGN (R490). -/
  | secSign (dt : Nat) (r : Request)
  -- Clocks (17)
  /-- SOURCE_QUALIFIED (R497). -/
  | sourceQualified (dt : Nat) (source : Fin 8) (offset : Int) (stopped : Bool)
  /-- SOURCE_TRIP (R500). -/
  | sourceTrip (dt : Nat) (source : Fin 8) (trip : ClockTrip)
  /-- QUALIFICATION_LIMIT (R497). -/
  | qualificationLimit (dt : Nat)
  /-- SOURCE_RETRY (R497). -/
  | sourceRetry (dt : Nat)
  /-- WTR_REVERT (R505). -/
  | wtrRevert (dt : Nat)
  /-- PLL_LOCKED (R505). -/
  | pllLocked (dt : Nat)
  /-- CLK_GET_CONFIG (R514). -/
  | clkGetConfig (dt : Nat) (r : Request)
  /-- CLK_SET_CONFIG (R513). -/
  | clkSetConfig (dt : Nat) (r : Request)
  /-- CLK_GET_STATUS (R514). -/
  | clkGetStatus (dt : Nat) (r : Request)
  /-- CLK_GET_GATES (R514). -/
  | clkGetGates (dt : Nat) (r : Request)
  /-- CLK_SET_GATE (R509). -/
  | clkSetGate (dt : Nat) (r : Request)
  /-- CLK_GET_OSC_START (R514). -/
  | clkGetOscStart (dt : Nat) (r : Request)
  /-- CLK_SET_OSC_START (R499). -/
  | clkSetOscStart (dt : Nat) (r : Request)
  -- Power (18)
  /-- VIN_LOW (R533). -/
  | vinLow (dt : Nat) (vin hold held : Nat)
  /-- VIN_OVERVOLTAGE (R517). -/
  | vinOvervoltage (dt : Nat) (vin : Nat)
  /-- VIN_PRESENT (R545). -/
  | vinPresent (dt : Nat) (vin held : Nat) (facts : StartFacts)
  /-- LAST_GASP_COMPLETE (R533). -/
  | lastGaspComplete (dt : Nat) (cut : Cut) (micros bytes : Nat)
  /-- ORDERLY_POWER_DOWN (R533). -/
  | orderlyPowerDown (dt : Nat) (hold : Nat)
  /-- VDO_LOW (R518). -/
  | vdoLow (dt : Nat) (mv held : Nat)
  /-- VMOT_LOW (R518). -/
  | vmotLow (dt : Nat) (mv : Nat)
  /-- GOVERNOR_STEP_ENTRY (R528). -/
  | governorStepEntry (dt : Nat) (mv : Nat)
  /-- GOVERNOR_STEP_EXIT (R528). -/
  | governorStepExit (dt : Nat) (mv held : Nat)
  /-- CORE_UNDERVOLTAGE (R529). -/
  | coreUndervoltage (dt : Nat) (mv held : Nat)
  /-- WAKE (R526). -/
  | wake (dt : Nat) (di : BitVec 32) (host : Bool)
  /-- VIN_LOST_IN_STANDBY (R527). -/
  | vinLostInStandby (dt : Nat) (vin held : Nat)
  /-- HOLD_MEASUREMENT (R532). -/
  | holdMeasurement (dt : Nat) (hold : Nat)
  /-- HOLD_MEASUREMENT_END (R532). -/
  | holdMeasurementEnd (dt : Nat) (hold : Nat)
  /-- POWER_GET_STATUS (R539). -/
  | powerGetStatus (dt : Nat) (r : Request)
  /-- POWER_SET_STATE (R521). -/
  | powerSetState (dt : Nat) (r : Request) (cut : Cut)
  /-- POWER_GET_CONFIG (R539). -/
  | powerGetConfig (dt : Nat) (r : Request)
  /-- POWER_SET_CONFIG (R538). -/
  | powerSetConfig (dt : Nat) (r : Request)
  /-- POWER_MEASURE_HOLDUP (R532). -/
  | powerMeasureHoldup (dt : Nat) (r : Request)
  -- Start-up and reset (19)
  /-- PIN_RESET (R558). -/
  | pinReset (dt : Nat) (held : Nat)
  /-- PCIE_PERST (R542). -/
  | pciePerst (dt : Nat)
  /-- RESET_RELEASE (R545). -/
  | resetRelease (dt : Nat) (facts : StartFacts)
  /-- BOOT_FAILURE (R546). -/
  | bootFailure (dt : Nat) (cause : Fin 5)
  /-- ROLE_RESOLUTION (R553). -/
  | roleResolution (dt : Nat) (lock : Bool)
  /-- ROLE_WAIT_TIMEOUT (R553). -/
  | roleWaitTimeout (dt : Nat)
  /-- UNPAIRED_STANDBY_TIMEOUT (R553). -/
  | unpairedStandbyTimeout (dt : Nat) (cut : Cut)
  /-- PLANT_START (R550). -/
  | plantStart (dt : Nat)
  /-- TRIAL_TIMEOUT (R548). -/
  | trialTimeout (dt : Nat)
  /-- TRIAL_CONFIRM (R548). -/
  | trialConfirm (dt : Nat)
  -- Events of further chapters
  /-- TLS_SESSION_END (R69). -/
  | tlsSessionEnd (dt : Nat) (session : Nat)
  /-- PORT_LINK_CHANGE (R218). -/
  | portLinkChange (dt : Nat) (port : Fin 11) (link : PortLink)
  /-- PTP_MESSAGE (R229). -/
  | ptpMessage (dt : Nat) (port domain : Nat) (msg : PtpMsg)
  /-- CAN_BUS_ERROR (R394). -/
  | canBusError (dt : Nat) (bus : Fin 4) (err : CanError)
  /-- SUPPLY_RESTORED (R518). -/
  | supplyRestored (dt : Nat) (vmot : Bool) (mv : Nat)
  /-- HOLD_READY (R530). -/
  | holdReady (dt : Nat) (hold : Nat)
  /-- MODEL_ACTIVATION_PASSED (R101). -/
  | modelActivationPassed (dt : Nat)
  /-- ZC_RETURNED (R262). -/
  | zcReturned (dt : Nat) (channel : Nat)
  /-- LED_FAULT (R425). -/
  | ledFault (dt : Nat) (led : Fin 8) (current forward : Nat)
  /-- HEARTBEAT_COUNT (R55). -/
  | heartbeatCount (dt : Nat)
deriving DecidableEq, Repr

end Sys2Proof
end

