-- ==== Sys2Proof/Config.lean ====
section
/-! DEFINITION. What the spec names and does not compute: cryptographic primitives of external standards, curves of
external standards, and values it leaves open. Each is an opaque constant, so nothing can evaluate it or prove a value of
it: a statement about one holds for every value. Log 8 lists them. -/

namespace Sys2Proof

/-- SHA-384 of a byte string, 48 bytes (R57 aside, an external standard). -/
opaque Config.sha384 : Bytes → Bytes

/-- ECDSA with SHA-384 on brainpoolP384r1: public key, message and signature verify. -/
opaque Config.ecdsaVerify : Bytes → Bytes → Bytes → Bool

/-- ECDSA on brainpoolP384r1: the signature of a private key over a SHA-384 digest, 96 bytes. -/
opaque Config.ecdsaSign : Bytes → Bytes → Bytes

/-- The public key x ‖ y of a private key on brainpoolP384r1, 96 bytes. -/
opaque Config.ecPublic : Bytes → Bytes

/-- ECDH on brainpoolP384r1: the shared x-coordinate of a private and a public key, 48 bytes. -/
opaque Config.ecdh : Bytes → Bytes → Bytes

/-- The order of the brainpoolP384r1 group (R460 names it n). -/
opaque Config.groupOrder : Nat

/-- AES-256-GCM: ciphertext and 16-byte tag of a key, a nonce, additional data and a plaintext. -/
opaque Config.gcmSeal : Bytes → Bytes → Bytes → Bytes → Bytes × Bytes

/-- AES-256-GCM: the plaintext of a key, a nonce, additional data, a ciphertext and a tag, where the tag verifies. -/
opaque Config.gcmOpen : Bytes → Bytes → Bytes → Bytes → Bytes → Option Bytes

/-- ROOT_SECRET, 32 bytes of fuses (R456). -/
opaque Config.rootSecret : Bytes

/-- VENDOR_DEBUG_KEY_DIGEST, 48 bytes of fuses (R456). -/
opaque Config.vendorDebugKeyDigest : Bytes

/-- The vendor's debug-token public key, 96 bytes; the spec does not say where the module holds it (R485). -/
opaque Config.vendorDebugKey : Bytes

/-- Random bytes the module draws: the n-th draw, of a length (R474, R485, R554). -/
opaque Config.random : Nat → Nat → Bytes

/-- The identity certificate and the Device CA certificate as DER (R460). -/
opaque Config.certificate : Nat → Bytes

/-- The public key of the first certificate of a DER chain (R476). -/
opaque Config.certKey : Bytes → Bytes

/-- The firmware image installed at manufacture (R70; log 4). -/
opaque Config.factoryImage : Bytes

/-- VENDOR_IMAGE_KEY_DIGEST, 48 bytes of fuses (R456). -/
opaque Config.vendorImageKeyDigest : Bytes

/-- Bytes of the Attic whose contents the spec leaves to the firmware: dump number and byte offset (R81). -/
opaque Config.atticByte : Nat → Nat → Byte

/-- The stored CRC of an Attic block that failed verification: dump number and block (R82). -/
opaque Config.atticCrc : Nat → Nat → Nat

/-- INCR the servo chooses: the count of servo corrections and the measured offset (R224, R231: the control law is open). -/
opaque Config.servoIncr : Nat → Int → Nat

/-- The clock class announced on the T1L ports while LOCKED to PPS_IN, which names no grandmaster (R229). -/
opaque Config.ppsClockClass : Nat

/-- What a cable test of a port measures at a local instant: RESULT, its range aside, and a distance in m (R222). -/
opaque Config.cableTest : Nat → Nat → Nat × Nat

/-- Density of water in kg/m³ by IAPWS-IF97 region 1, at a temperature in µK above 0 °C and an absolute pressure in Pa (R116, R288). -/
opaque Config.waterDensity : Int → Rat → Rat

/-- Specific enthalpy of water in J/kg by IAPWS-IF97 region 1 (R288). -/
opaque Config.waterEnthalpy : Int → Rat → Rat

/-- Saturation pressure of water in Pa at a temperature in µK above 0 °C (R288). -/
opaque Config.waterSaturation : Int → Rat

/-- A jerk-limited ramp: from its limits, position, velocity, acceleration and goal, the position, velocity and acceleration a
number of ns later; R369 bounds its acceleration's change and leaves its shape open (log 19). -/
opaque Config.jerkRamp : Nat × Nat × Nat × Nat → Rat × Rat × Rat → Option Int → Nat → Rat × Rat × Rat

/-- The ns a jerk-limited ramp lasts (log 19). -/
opaque Config.jerkTime : Nat × Nat × Nat × Nat → Rat × Rat × Rat → Option Int → Nat

/-- The number a computation uses for a binary32 that is not finite, where the spec states no result (log 17). -/
opaque Config.nonFinite : Nat → Rat

/-- REC after a success that finds it above 127 lies in 119 to 127 under ISO 11898-1 (R394): the offset from 119, by its value. -/
opaque Config.canRecReturn : Nat → Nat

/-- The number a BCD field with a digit above 9 stands for, where the spec states none (R398). -/
opaque Config.mbusBcd : Bytes → Int

/-- What the M-Bus line monitor measures at a local instant: mA and units of 0.1 V (R403). -/
opaque Config.mbusLine : Nat → Nat × Nat

/-- The bytecode verifier on a Ferosh Program Image: the offset in the code of the first failing byte (R340). -/
opaque Config.bytecodeFault : Bytes → Option Nat

/-- Specific heat of water in J/(kg·K) by IAPWS-IF97 region 1 (R116). -/
opaque Config.waterHeat : Int → Rat → Rat

/-- Dynamic viscosity of water in Pa·s by the IAPWS 2008 correlation (R116). -/
opaque Config.waterViscosity : Int → Rat → Rat

/-- e to the power of a number, as the module's arithmetic rounds it (R133, R139, R289; log 25). -/
opaque Config.exp : Rat → Rat

/-- The decimal logarithm, as the module's arithmetic rounds it (R118; log 25). -/
opaque Config.log10 : Rat → Rat

/-- A positive number to a power, as the module's arithmetic rounds it (R118, R120; log 25). -/
opaque Config.power : Rat → Rat → Rat

/-- The ground temperature of a pipe whose GROUND_REF binding has no sample, by pipe row and epoch instant; the spec states none (log 25). -/
opaque Config.groundTemp : Nat → Nat → Rat

/-- The temperature at which flow leaves a SUBSTATION or PLANT at NODE_A when it runs in reverse, by element row and epoch
instant; the spec states none (log 25). -/
opaque Config.reverseOutlet : Nat → Nat → Rat

/-- The SEQ Event-Fire answers with where its firing takes no SEQ (held off, or its trigger set to OFF in the same span), by the
next SEQ; the spec states none (log 27). -/
opaque Config.unrecordedSeq : Nat → Nat

/-- A supply's measured voltage in mV at a local instant: 0 VIN, 1 VMOT, 2 VDO, 3 HOLD, 4 VBAT, 5 VCORE (R539). -/
opaque Config.supplyMv : Nat → Nat → BitVec 16

/-- The number of a housekeeping record, by the model's index of it (R562). -/
opaque Config.recordNumber : Nat → BitVec 16

/-- The event code recorded when the active program image fails its digest at start-up (R545 step 7). -/
opaque Config.badImageEvent : BitVec 16

/-- What the status report shows of a replan that ended before its numerical part was done: the count of failed replans, and which
figure (R171, R185). -/
opaque Config.attemptFigure : Nat → Nat → BitVec 32

end Sys2Proof
end

