-- ==== Sys2Proof/Machine/Bytes.lean ====
section
/-! DEFINITION. Byte order and field access: little-endian integers in byte strings (R11), sign extension, slices. -/

namespace Sys2Proof.Machine
open Sys2Proof

/-- The `n` low bytes of a number, least significant first (R11). -/
def le : Nat → Nat → Bytes
  | 0, _ => []
  | n + 1, v => BitVec.ofNat 8 v :: le n (v / 256)

/-- The number a byte string spells, least significant byte first (R11). -/
def leNat : Bytes → Nat
  | [] => 0
  | b :: t => b.toNat + 256 * leNat t

/-- The `n` low bytes of a number, most significant first (frames on a wire, R11). -/
def be (n v : Nat) : Bytes := (le n v).reverse

/-- The number a byte string spells, most significant byte first. -/
def beNat (b : Bytes) : Nat := leNat b.reverse

/-- The two's complement of an integer in `n` bytes, least significant first. -/
def leInt (n : Nat) (v : Int) : Bytes := le n (v % (256 ^ n : Int)).toNat

/-- `n` bytes of a string from an offset; bytes beyond its end are not there. -/
def slice (b : Bytes) (off n : Nat) : Bytes := (b.drop off).take n

/-- The unsigned field of `n` bytes at an offset. -/
def fld (b : Bytes) (off n : Nat) : Nat := leNat (slice b off n)

/-- An unsigned number of `w` bits read as two's complement. -/
def toSigned (w v : Nat) : Int :=
  if v < 2 ^ (w - 1) then (v : Int) else (v : Int) - (2 : Int) ^ w

/-- The signed field of `n` bytes at an offset. -/
def sfld (b : Bytes) (off n : Nat) : Int := toSigned (8 * n) (fld b off n)

/-- One bit of a number. -/
def bit (v k : Nat) : Bool := v.testBit k

/-- The bits [hi:lo] of a number. -/
def bits (v hi lo : Nat) : Nat := v / 2 ^ lo % 2 ^ (hi + 1 - lo)

/-- `n` bytes of zero. -/
def zeros (n : Nat) : Bytes := List.replicate n 0

/-- The byte string with the bytes at an offset replaced; the length stays. -/
def patch (b : Bytes) (off : Nat) (w : Bytes) : Bytes :=
  (b.take off) ++ (w.take (b.length - off)) ++ (b.drop (off + w.length))

/-- The byte string padded with zeros, or cut, to a length. -/
def fit (n : Nat) (b : Bytes) : Bytes := (b ++ zeros (n - b.length)).take n

/-- A flag as a number. -/
def b2n (b : Bool) : Nat := if b then 1 else 0

/-- A truth value as bit `k` of a word. -/
def bitAt (k : Nat) (b : Bool) : Nat := if b then 2 ^ k else 0

/-- The number with one bit set. -/
def setBit (v k : Nat) : Nat := v ||| 2 ^ k

/-- A record built from (offset, size, value) entries over `n` zero bytes: a table of defaults. -/
def recordOf (n : Nat) (fs : List (Nat × Nat × Nat)) : Bytes :=
  fs.foldl (fun b f => patch b f.1 (le f.2.1 f.2.2)) (zeros n)

/-- One step of CRC-32C (Castagnoli, reflected polynomial 0x82F63B78) over one bit (R57). -/
def crcBit (c : Nat) : Nat := if c % 2 = 1 then (c / 2) ^^^ 0x82F63B78 else c / 2

/-- One byte entered into the CRC-32C register (R57). -/
def crcByte (c : Nat) (b : Byte) : Nat :=
  crcBit (crcBit (crcBit (crcBit (crcBit (crcBit (crcBit (crcBit (c ^^^ b.toNat))))))))

/-- CRC-32C of a byte string: initial value and final XOR 0xFFFFFFFF (R57). -/
def crc32c (b : Bytes) : Nat := (b.foldl crcByte 0xFFFFFFFF) ^^^ 0xFFFFFFFF

/-- All bytes of a string are zero. -/
def allZero (b : Bytes) : Bool := b.all (· == 0)

/-- Equal-sized pieces of a byte string. -/
def chunks (n : Nat) : Nat → Bytes → List Bytes
  | 0, _ => []
  | k + 1, b => b.take n :: chunks n k (b.drop n)

end Sys2Proof.Machine
end

