-- ==== Sys2Proof/Machine/State.lean ====
section
/-! DEFINITION. The state of the block as plain data, chapter by chapter of the spec, and its reset value.
A field's docstring gives its width, the rule that names it and its reset value; (Ln) names the log entry
notes/assumptions/n.md where the spec gives none: (L2) zero or empty, (L3) the elapsed-time operand, (L4) the delivery
state, (L7) unlisted memory, (L8) a count that names free values. -/

namespace Sys2Proof.Machine
open Sys2Proof

/-- MODULE_STATE.STATE (R55). -/
inductive ModState | booting | ready | tampered | fatal
deriving DecidableEq, Repr

/-- MODULE_STATE.POWER_STATE (R55). -/
inductive PowerState | active | quiet | standby | holdup
deriving DecidableEq, Repr

/-- MODULE_STATE.ROLE (R55). -/
inductive Role | single | active | standby
deriving DecidableEq, Repr

/-- MODULE_STATE.DEBUG_LEVEL (R55). -/
inductive DebugLevel | closed | field | vendor
deriving DecidableEq, Repr

/-- What the Keeper copied of a request when it took the doorbell, kept while the mailbox is BUSY (R58 step 3). -/
structure Taken where
  code : Nat
  flags : Nat
  tag : Nat
  path : Path
  length : Nat := 0
  payload : Bytes
deriving DecidableEq, Repr

/-- The host control block, the interrupt block and the mailboxes (R45 to R60). -/
structure Window where
  /-- 4 bits; R55; reset BOOTING (0x1). MODULE_STATE.STATE. -/
  st : ModState := .booting
  /-- 3 bits; R55; reset ACTIVE (0b000). MODULE_STATE.POWER_STATE. -/
  power : PowerState := .active
  /-- 2 bits; R55; reset SINGLE (0b00). MODULE_STATE.ROLE. -/
  role : Role := .single
  /-- 1 bit; R55; reset 0. MODULE_STATE.OASIS. -/
  oasis : Bool := false
  /-- 2 bits; R55; reset CLOSED (0b00). MODULE_STATE.DEBUG_LEVEL. -/
  debug : DebugLevel := .closed
  /-- 1 bit; R55; kept, at delivery 0 (L4). MODULE_STATE.ATTIC_VALID, held in the Cellar. -/
  atticValid : Bool := false
  /-- 1 bit; R55; kept, at delivery 0 (L4). MODULE_STATE.ATTIC_INCOMPLETE, held in the Cellar. -/
  atticIncomplete : Bool := false
  /-- 1 bit; R55; reset 0. MODULE_STATE.IMAGE_SLOT. -/
  imageSlot : Nat := 0
  /-- 32 bits; R55; reset 0x0000_0100. HOST_CONTROL. -/
  hostControl : BitVec 32 := 0x100
  /-- 64 bits; R55; reset LO 0x0000_0000 and HI 0xAA55_0000. MBOX_ASSIGN_LO and _HI as written. -/
  assign : BitVec 64 := 0xAA55000000000000
  /-- 64 bits; R53; reset as MBOX_ASSIGN. The assignment in effect for each mailbox. -/
  effAssign : BitVec 64 := 0xAA55000000000000
  /-- 32 bits; R55; reset 0x0004_0001. USB_CLASS_MASK. -/
  usbMask : BitVec 32 := 0x40001
  /-- 32 bits; R55; reset 0. TLS_CLASS_MASK. -/
  tlsMask : BitVec 32 := 0
  /-- 32 bits; R55; reset 0. HEARTBEAT. -/
  heartbeat : BitVec 32 := 0
  /-- time; R55; reset 0 (L2). The instant of the last HEARTBEAT increment. -/
  heartbeatAt : Nat := 0
  /-- 32 bits; R55; kept, at delivery 0 (L4). FATAL_CODE, held in the Cellar. -/
  fatalCode : BitVec 32 := 0
  /-- 32 bits; R55; reset 0. ACCESS_FAULT. -/
  accessFault : BitVec 32 := 0
  /-- 32 bits; R58; reset 0 (L2). Doorbells rung and not yet taken. -/
  rung : BitVec 32 := 0
  /-- times; R60; reset empty (L2). The instant each waiting doorbell was rung. -/
  rungAt : Tab Nat := []
  /-- paths; R52; reset empty (L2). The path that rang each waiting doorbell, where it was not the host port. -/
  rungBy : Tab Path := []
  /-- 32 bits; R56; reset 0. MBOX_BUSY. -/
  busy : BitVec 32 := 0
  /-- 32 bits; R56; reset 0. MBOX_COMPLETE. -/
  complete : BitVec 32 := 0
  /-- 32 bits; R56; reset 0. COMPLETE_ENABLE. -/
  completeEnable : BitVec 32 := 0
  /-- 32 bits; R56; reset 0. EVENT_STATUS. -/
  eventStatus : BitVec 32 := 0
  /-- 32 bits; R56; reset 0. EVENT_ENABLE. -/
  eventEnable : BitVec 32 := 0
  /-- 8 × 32 bits; R56; reset 0. PROGRESS_DONE0 to 7, entry 32w + j at bit 32w + j. -/
  progressDone : BitVec 256 := 0
  /-- 8 × 32 bits; R56; reset 0xFFFF_FFFF each. PROGRESS_ENABLE0 to 7. -/
  progressEnable : BitVec 256 := BitVec.allOnes 256
  /-- count; R56; reset 0 (L2). MSIs sent in PCIe mode. -/
  msiSent : Nat := 0
  /-- 1 bit; R46; reset 0, PCIe (L4). The host port is the QSPI target (boot strap). -/
  qspi : Bool := false
  /-- 1 bit; R542; reset 0 (L2). The host has configured MSI; PCIE_PERST_N clears it. -/
  msiConfigured : Bool := false
  /-- 1 bit; R47; reset 0 (L2). The QSPI target's WRITE_ERROR. -/
  writeError : Bool := false
  /-- 1 bit; R47; reset 0 (L2). The QSPI data lines are held at high impedance until QSPI_CS_N rises. -/
  qspiHiZ : Bool := false
  /-- 5 bits; R43; reset 31 (L2). The mailbox served last, so that mailbox 0 is first after a reset. -/
  lastServed : Nat := 31
  /-- 32 bits; R60, R63; reset 0 (L2). LATE_TAKES. -/
  lateTakes : Nat := 0
  /-- 32 bits; R63; reset 0 (L2). The RING_WHILE_BUSY count. -/
  ringBusyCount : Nat := 0
  /-- 32 bits; R63; reset 0 (L2). The CHECK_FAILED count. -/
  checkFailedCount : Nat := 0
  /-- bytes; R45, R58; reset empty, every byte 0 (L7). The request and response areas of the mailboxes, by window address. -/
  mem : List Host.Cell := []
  /-- requests; R58; reset empty (L2). The request of each BUSY mailbox. -/
  taken : Tab Taken := []
deriving DecidableEq, Repr

/-- A progress entry that is not FREE (R64). -/
structure Progress where
  /-- SEQ, 32 bits. -/
  seq : Nat := 0
  /-- STATE: 1 RUNNING, 2 DONE, 3 FAILED, 4 CANCELLED. -/
  state : Nat := 1
  /-- PATH of the starting request. -/
  path : Path := .host
  /-- CODE of the starting command. -/
  code : Nat := 0
  /-- TAG of the starting request. -/
  tag : Nat := 0
  /-- PERMILLE. -/
  permille : Nat := 0
  /-- FINAL_STATUS. -/
  finalStatus : Nat := 0
  /-- ITEMS_DONE. -/
  itemsDone : Nat := 0
  /-- ITEMS_TOTAL. -/
  itemsTotal : Nat := 0
  /-- START_TIME, zone ns. -/
  start : Nat := 0
  /-- UPDATE_TIME, zone ns. -/
  update : Nat := 0
  /-- MAILBOX of the starting request. -/
  mailbox : Nat := 0
  /-- RESULT, 192 bytes. -/
  result : Bytes := []
  /-- The starting USB or TLS session has ended (R69). -/
  orphan : Bool := false
deriving DecidableEq, Repr

/-- A TLS session on port 49320 (R50, R53). -/
structure TlsSession where
  /-- The TLS mailbox it holds. -/
  mbox : Nat
  /-- The instant of the last received record. -/
  lastRecord : Nat
deriving DecidableEq, Repr

/-- One flash firmware slot: the header and the body written (R70). -/
structure FwSlot where
  /-- The 256 header bytes. -/
  header : Bytes := []
  /-- The body bytes. -/
  body : Bytes := []
  /-- The image installed at manufacture, whose bytes the spec does not give (log 4): it passes R462 with SECURITY_VERSION 0. -/
  factory : Bool := false
deriving DecidableEq, Repr

/-- A firmware update in progress (R71). -/
structure FwUpdate where
  /-- Its progress entry. -/
  entry : Nat
  /-- The slot it writes. -/
  slot : Nat
  /-- BODY_LENGTH. -/
  bodyLength : Nat
  /-- The instant of its last Put or Commit (R72). -/
  last : Nat
  /-- MODE of the accepted Commit, none before it. -/
  commit : Option Nat := none
deriving DecidableEq, Repr

/-- An Attic readout in progress (R82). -/
structure Readout where
  /-- Its progress entry. -/
  entry : Nat
  /-- ITEMS_TOTAL. -/
  total : Nat
deriving DecidableEq, Repr

/-- System class state: progress table, sessions, firmware slots, free area, Attic (02). -/
structure System where
  /-- 256 × 256 bytes; R64; reset all FREE (L2). The progress table; an entry not listed is FREE. -/
  ops : Tab Progress := []
  /-- table; R50; reset empty (L2). The TLS sessions by session number. -/
  sessions : Tab TlsSession := []
  /-- count; R53; reset 0 (L2). The number the next TLS session takes (the model's name for it). -/
  nextSession : Nat := 0
  /-- 8 bits; R63; reset 0x49 (L4). GRADE of the part. -/
  grade : Nat := 0x49
  /-- 64 bits; R63; reset 0 (L4). SERIAL. -/
  serial : Nat := 0
  /-- 8 bits; R63; reset 0x42 (R1). STEPPING_LETTER. -/
  steppingLetter : Nat := 0x42
  /-- 8 bits; R63; reset 2 (R1). STEPPING_DIGIT. -/
  steppingDigit : Nat := 2
  /-- 8 bits; R63; reset 4 (R1). FW_MAJOR of the running image. -/
  fwMajor : Nat := 4
  /-- 8 bits; R63; reset 1 (R1). FW_MINOR of the running image. -/
  fwMinor : Nat := 1
  /-- 16 bits; R63; reset 0 (L4). FW_PATCH of the running image. -/
  fwPatch : Nat := 0
  /-- flash slot; R70; reset the image of manufacture (L4). Firmware slot 0. -/
  slot0 : FwSlot := { factory := true }
  /-- flash slot; R70; reset empty (L4). Firmware slot 1. -/
  slot1 : FwSlot := {}
  /-- operation; R71; reset none (L2). The firmware update in progress. -/
  fw : Option FwUpdate := none
  /-- 4,194,304 bytes; R74; reads 0 at delivery. The integrator free area in the Cellar. -/
  free : List Host.Cell := []
  /-- 256 bytes; R81, R82; all 0 while no dump has been written. The stored Attic header. -/
  atticHeader : Bytes := []
  /-- count; R81; reset 0 (L2). Dumps written: names the free contents of the dump's bodies. -/
  dumps : Nat := 0
  /-- 1,024 × 32 bytes; R81; reset empty (L2). The trace of the last mailbox commands, oldest first. -/
  trace : List Bytes := []
  /-- 1,024 × 32 bytes; R81; reset empty (L2). The trace as the last dump stored it. -/
  atticTrace : List Bytes := []
  /-- operation; R82; reset none (L2). The Attic readout in progress. -/
  readout : Option Readout := none
  /-- ITEMS_TOTAL and bad blocks; R82; reset none (L2). The readout that ended DONE since the last dump. -/
  readoutDone : Option (Nat × List Nat) := none
  /-- 7 × (instant, count); R39; reset none (L2). Per YIELD row the instant of its last event and the occurrences since. -/
  yields : Tab (Nat × Nat) := []
  /-- time; R80; reset none (L2). The instant a fatal error was detected, until the Keeper restarts. -/
  fatalAt : Option Nat := none
  /-- 1 bit; R81; reset 0 (L2). A second fatal error has cut the dump: the restart follows at once. -/
  fatalCut : Bool := false
  /-- time; R561; reset none (L2). The instant the resign frame was sent. -/
  resignAt : Option Nat := none
  /-- 1 bit; R561; reset 0 (L2). The module has resigned and released its outputs and the address of node 0x0000. -/
  released : Bool := false
  /-- 1 bit; R56; reset 0 (L2). A restart after a fatal error is on its way to READY, so FATAL_RESTART is due. -/
  fatalRestart : Bool := false
deriving DecidableEq, Repr

/-- An alarm of the RTC (R440), its instant in RTC ticks of 1/32,768 s. -/
structure Alarm where
  /-- ENABLE. -/
  enable : Bool := false
  /-- WAKE. -/
  wake : Bool := false
  /-- FIRED. -/
  fired : Bool := false
  /-- SKIPPED. -/
  skipped : Bool := false
  /-- MISSED. -/
  missed : Nat := 0
  /-- REPEAT_S. -/
  repeatS : Nat := 0
  /-- SECONDS of the instant A. -/
  seconds : Nat := 0
  /-- SUBSEC of the instant A. -/
  subsec : Nat := 0
deriving DecidableEq, Repr

/-- The host shadow of the RTC: the fields staged and their values (R438). -/
structure RtcShadow where
  /-- TIME staged: SECONDS and SUBSEC. -/
  time : Option (Nat × Nat) := none
  /-- LEAP staged: LEAP_NEW and LEAP_TIME. -/
  leap : Option (Int × Nat) := none
  /-- CAL staged. -/
  cal : Option Int := none
  /-- WAKE staged: WAKE_PERIOD. -/
  wake : Option Nat := none
deriving DecidableEq, Repr

/-- The real-time clock (R432 to R443). -/
structure Rtc where
  /-- 48 + 15 bits; R432; reset 0 (L2). The RTC time in ticks: SECONDS × 32,768 + SUBSEC. -/
  ticks : Nat := 0
  /-- fraction; R433; reset 0 (L2). The part of a tick counted, in units of 1/(10⁹ × 2²⁰) tick. -/
  part : Nat := 0
  /-- signed −511 to 511; R433; reset 0 (L2). CAL. -/
  cal : Int := 0
  /-- signed 16 bits; R436; reset 0 (L2). LEAP_OFFSET. -/
  leapOffset : Int := 0
  /-- signed 16 bits; R436; reset 0 (L2). LEAP_NEW. -/
  leapNew : Int := 0
  /-- 64 bits; R436; reset 0, no change pending (L2). LEAP_TIME. -/
  leapTime : Nat := 0
  /-- 1 bit; R435; reset 1: VBAT is first applied. OSC_STOPPED. -/
  oscStopped : Bool := true
  /-- 1 bit; R435; reset 0 (L2). VBAT_LOW. -/
  vbatLow : Bool := false
  /-- 1 bit; R437; reset 0 (L2). FREEZE_TIMEOUT. -/
  freezeTimeout : Bool := false
  /-- 1 bit; R435; reset 0 (L2). The crystal gives no edge, so the counter stands still. -/
  halted : Bool := false
  /-- time; R453; reset none (L2). The instant of the last passed sync check, for SYNCED. -/
  syncedAt : Option Nat := none
  /-- shadow; R438; reset empty (L2). The host shadow. -/
  shadow : RtcShadow := {}
  /-- 4 alarms; R440; reset all disabled (L2). The alarms. -/
  alarms : Tab Alarm := []
  /-- 24 bits; R442; reset 0, off (L2). WAKE_PERIOD. -/
  wakePeriod : Nat := 0
  /-- 32 bits; R442; reset 0 (L2). WAKE_COUNT. -/
  wakeCount : Nat := 0
  /-- ticks; R442; reset 0 (L2). The RTC time up to which periodic wakes have been judged. -/
  wakeSeen : Nat := 0
  /-- seconds; R434; reset none (L2). The zone second at which the last sync check was made. -/
  lastSync : Option Nat := none
  /-- time; R433; reset none (L2). Zone time at which the running 1,024 s CAL measurement began. -/
  calStart : Option Nat := none
  /-- alarms and instants; R443; reset empty (L2). Alarms fired in STANDBY or OFF whose event waits for ACTIVE. -/
  offFires : List (Nat × Nat × Bool × Nat) := []
deriving DecidableEq, Repr

/-- An event that has arisen and has no SEQ yet: code, zone time and its 64-bit items (R445). -/
structure Event where
  /-- The event code, its class in the high byte. -/
  code : Nat
  /-- Zone time at which it arose. -/
  time : Nat
  /-- Its data, as 64-bit items. -/
  items : List (BitVec 64)
  /-- TIME_STATE was LOCKED when it arose. -/
  locked : Bool := false
deriving DecidableEq, Repr

/-- A record of the event ring (R444); the bytes follow from it. -/
structure EvRec where
  /-- SEQ. -/
  seq : Nat
  /-- KIND: 1 EVENT, 2 TRIGGER, 3 MARK, 4 CORRUPT. -/
  kind : Nat
  /-- FLAGS. -/
  flags : Nat
  /-- CODE. -/
  code : Nat
  /-- TIME. -/
  time : Nat
  /-- BOOT. -/
  boot : Nat
  /-- DATA bytes used. -/
  data : Bytes
  /-- ITEMS. -/
  items : Nat
  /-- SUPPRESSED. -/
  suppressed : Nat := 0
  /-- ABSENT. -/
  absent : Nat := 0
  /-- TRIG_GEN. -/
  trigGen : Nat := 0
deriving DecidableEq, Repr

/-- A trigger of the recorder with its running state (R446, R447). -/
structure Trigger where
  /-- The definition, 304 bytes. -/
  defn : Bytes := zeros 304
  /-- TRIG_GEN. -/
  gen : Nat := 0
  /-- The instant (1 ms tick count) from which the definition is in effect. -/
  since : Nat := 0
  /-- The instant of its last record, in ns of the local count. -/
  lastRecord : Option Nat := none
  /-- Firings held off since that record. -/
  suppressed : Nat := 0
  /-- LEVEL: armed for a rising crossing; none before the first firing while WATCH has not been seen below THRESHOLD. -/
  armedRise : Option Bool := none
  /-- LEVEL: armed for a falling crossing, likewise. -/
  armedFall : Option Bool := none
  /-- CHANGE: the watched value at the last firing, or at the first evaluation. -/
  lastValue : Option Rat := none
deriving DecidableEq, Repr

/-- The event recorder (R444 to R452). -/
structure Recorder where
  /-- 8,192 × 256 bytes; R444; reset empty ring (L4). The ring, by slot; an unlisted slot was never written. -/
  ring : Tab EvRec := []
  /-- slots; R451; reset empty (L2). Ring slots whose CRC fails. -/
  badSlots : List Nat := []
  /-- 1 bit; R451; reset 0 (L2). The ring has been checked at this start-up and the recorder takes records. -/
  ready : Bool := false
  /-- codes; R447; reset empty (L2). Codes of events queued outside the order of R448 since the last evaluation. -/
  newCodes : List Nat := []
  /-- 32 bits; R444; reset 1 at delivery. The next SEQ to be assigned, counted on past 2³²; shown modulo 2³². -/
  nextSeq : Nat := 1
  /-- 32 bits; R449, R452; reset 1 at delivery. The SEQ the next record written will carry, counted likewise. -/
  nextWrite : Nat := 1
  /-- 256 records; R449; reset empty (L2). The staging queue, oldest first. -/
  queue : List EvRec := []
  /-- events; R448; reset empty (L2). Events that arose since the last 1 ms instant, in order of arising. -/
  span : List Event := []
  /-- marks; R448; reset empty (L2). Marks taken in the span: mailbox, zone time and text. -/
  marks : List (Nat × Nat × Bytes) := []
  /-- firings; R448; reset empty (L2). Event-Fire commands taken in the span: mailbox and trigger. -/
  fires : List (Nat × Nat) := []
  /-- GAP under way; R449; reset none (L2). Records that found the queue full: count, first TIME, last TIME. -/
  gap : Option (Nat × Nat × Nat) := none
  /-- ms; R448; reset 0 (L2). The tick-count instant, in whole ms, of the last evaluation. -/
  lastTick : Nat := 0
  /-- 128 × 304 bytes; R446; reset all OFF (default). The trigger definitions. -/
  triggers : Tab Trigger := []
  /-- 16 bits; R454; reset 0 (L2). QUEUE_PEAK. -/
  queuePeak : Nat := 0
  /-- 32 bits; R454; reset 0 (L2). GAP_RECORDS. -/
  gapRecords : Nat := 0
  /-- 32 bits; R454; reset 0 (L2). CORRUPT_SLOTS. -/
  corruptSlots : Nat := 0
  /-- 16 bits; R444; reset 1: the delivery start itself (L4). BOOT, Keeper starts of every kind. -/
  boot : Nat := 1
  /-- events; R450; reset empty (L2). Events that arose in STANDBY, kept in the VBAT domain. -/
  standbyEvents : List Event := []
  /-- VBAT record; R450; reset none (L2). Records lost with the queue: count, first and last TIME. -/
  lost : Option (Nat × Nat × Nat) := none
deriving DecidableEq, Repr

/-- A zone model: its header and the rows of its six tables, each row its bytes (R87 to R92). -/
structure ModelImage where
  /-- The 64 header bytes. -/
  header : Bytes := zeros 64
  /-- NODE rows, 16 bytes each. -/
  nodes : List Bytes := []
  /-- PIPE rows, 32 bytes each. -/
  pipes : List Bytes := []
  /-- ELEMENT rows, 48 bytes each. -/
  elements : List Bytes := []
  /-- SENSOR rows, 28 bytes each. -/
  sensors : List Bytes := []
  /-- UNIT rows, 16 bytes each. -/
  units : List Bytes := []
  /-- GROUP rows, 16 bytes each. -/
  groups : List Bytes := []
deriving DecidableEq, Repr

/-- A model load in progress (R97 to R101). -/
structure ModelLoad where
  /-- Its progress entry. -/
  entry : Nat
  /-- The image so far, its header first. -/
  image : ModelImage
  /-- The instant of its last Put or Commit. -/
  last : Nat
  /-- MODE and ACTIVATION_TIME of the accepted Commit. -/
  commit : Option (Nat × Nat) := none
  /-- The load's own validation and read-back have ended well. -/
  validated : Bool := false
  /-- The twin item that carries the model, when one is sent. -/
  twinItem : Option Nat := none
  /-- The standby has acknowledged the model. -/
  twinAcked : Bool := false
  /-- T_A once chosen and sent to the standby, before its acknowledgement. -/
  chosen : Option Nat := none
deriving DecidableEq, Repr

/-- A committed model that awaits its activation instant (R100 step 4, R103). -/
structure ModelPending where
  /-- Its image. -/
  image : ModelImage
  /-- Its slot. -/
  slot : Nat
  /-- T_A, zone ns. -/
  tA : Nat
  /-- The progress entry of its load, if this module started it. -/
  entry : Option Nat
deriving DecidableEq, Repr

/-- The model store (03). -/
structure ModelStore where
  /-- model; R97, R99; reset none (no model at delivery). The active model. -/
  active : Option ModelImage := none
  /-- 1 bit; R96; reset 0 (L2). The slot of the active model. -/
  slot : Nat := 0
  /-- 64 bits; R97; reset 0 (R99). ACTIVATION_TIME of the active model. -/
  activation : Nat := 0
  /-- model record; R96, R103; reset none. The committed model awaiting its instant. -/
  pending : Option ModelPending := none
  /-- operation; R97; reset none (L2). The load in progress. -/
  load : Option ModelLoad := none
  /-- 2 × 24 MiB; R96; reset empty (L4). The flash model slots. -/
  slot0 : Option ModelImage := none
  /-- 2 × 24 MiB; R96; reset empty (L4). The second flash model slot. -/
  slot1 : Option ModelImage := none
  /-- standby copy; R100; reset none (L2). The model a standby is receiving over the twin link. -/
  replica : Option ModelImage := none
deriving DecidableEq, Repr

/-- A binding's aligned value for one solve (R113 to R115). -/
structure Aligned where
  /-- The model value SCALE × x + OFFSET, binary32 bits. -/
  value : Nat
  /-- Age in ns. -/
  age : Nat
  /-- Quality code of R115. -/
  quality : Nat
deriving DecidableEq, Repr

/-- One published state: the records Solver-Read-State returns (R148). -/
structure PubState where
  /-- EPOCH_TIME. -/
  epoch : Nat
  /-- Node records, 16 bytes each. -/
  nodes : List Bytes
  /-- Pipe records, 16 bytes each. -/
  pipes : List Bytes
  /-- Element records, 16 bytes each. -/
  elements : List Bytes
  /-- Binding records, 16 bytes each. -/
  bindings : List Bytes
  /-- Store records, 128 bytes each. -/
  stores : List Bytes
deriving DecidableEq, Repr

/-- A hydraulic state: what a solve ends with, and what the next one starts from (R112, R141). -/
structure Hydro where
  /-- Node pressures, Pa, binary64. -/
  pressures : List Nat
  /-- Pipe flows, m³/s, binary64. -/
  pipes : List Nat
  /-- Element flows, m³/s, binary64: the estimate d_j of a SUBSTATION or STORE. -/
  elements : List Nat
  /-- Element modes: 0 SPEED, 1 DP, 2 CLOSED of a pump; 0 for every other. -/
  modes : List Nat
deriving DecidableEq, Repr

/-- The thermal state (R133 to R137). -/
structure Thermal where
  /-- Per pipe its parcels from FROM_NODE to TO_NODE: volume and temperature, binary32. -/
  pipes : List (List (Nat × Nat))
  /-- Node temperatures, binary32. -/
  nodes : List Nat
  /-- Per element T_in and T_out of the last step, binary32. -/
  elements : List (Nat × Nat)
  /-- Per STORE element its 32 layer temperatures, layer 0 first, binary32. -/
  stores : Tab (List Nat)
  /-- Per pipe the outlet temperature of the last step, binary32, and whether it was an instantaneous link. -/
  outs : List (Nat × Bool)
deriving DecidableEq, Repr

/-- An entry of the thermal path table: source element, fraction, delay in s, gain (R138, R139), binary32. -/
structure PathEntry where
  /-- PLANT or STORE element index. -/
  source : Nat
  /-- Fraction w. -/
  frac : Nat
  /-- Delay τ. -/
  delay : Nat
  /-- Gain a. -/
  gain : Nat
deriving DecidableEq, Repr

/-- The sensitivity set (R138). -/
structure Sens where
  /-- The epoch instant it is tagged with. -/
  epoch : Nat
  /-- Conductance D of every pipe, binary64; 0 where the edge is removed. -/
  pipes : List Nat
  /-- Conductance D of every element, binary64; 0 where it has no law or is removed. -/
  elements : List Nat
  /-- Thermal path table per node that is the supply node of a SUBSTATION or a CRITICAL_POINT, and the fraction left over. -/
  paths : Tab (List PathEntry × Nat)
  /-- ∂d ÷ ∂T_supply of each SUBSTATION, binary32. -/
  response : Tab Nat
deriving DecidableEq, Repr

/-- The solver's running solve (R109). -/
structure Solve where
  /-- t0, the epoch instant. -/
  t0 : Nat
  /-- Aligned bindings, by row. -/
  aligned : List Aligned
  /-- EST_LIMIT has been set by the 80 ms bound. -/
  estLimit : Bool := false
  /-- The Newton solve ended NOT_CONVERGED at the 120 ms bound. -/
  newtonOver : Bool := false
  /-- The solve has been restarted once (R108). -/
  restarted : Bool := false
  /-- The local instant at which it started. -/
  startedAt : Nat
  /-- It starts from the flat start (R141). -/
  flat : Bool
  /-- An epoch instant has passed during it (R29). -/
  overran : Bool := false
deriving DecidableEq, Repr

/-- A warm start in progress (R149). -/
structure WarmStart where
  /-- Its progress entry. -/
  entry : Nat
  /-- MODE. -/
  mode : Nat
deriving DecidableEq, Repr

/-- The solver array and the solve epoch (04). -/
structure Solver where
  /-- 88 bytes; R145; reset its defaults (delivery). The active configuration, in the Cellar. -/
  cfg : Bytes := recordOf 88 [(0x00, 4, 1000), (0x04, 2, 3), (0x06, 2, 6), (0x08, 4, 0x38D1B717), (0x0C, 2, 400),
    (0x0E, 2, 12), (0x10, 4, 0x322BCC77), (0x14, 4, 0x358637BD), (0x18, 4, 0x3F800000), (0x1C, 4, 0x40800000),
    (0x20, 1, 3), (0x21, 1, 10), (0x22, 2, 3600), (0x24, 4, 0x3E99999A), (0x28, 4, 0x358637BD), (0x2C, 4, 0x3F000000),
    (0x30, 4, 0x3D4CCCCD), (0x34, 4, 0x42480000), (0x38, 4, 0x42480000), (0x3C, 4, 0x3C23D70A), (0x40, 4, 0x38D1B717),
    (0x44, 4, 0x43FA0000), (0x48, 4, 0x3C23D70A), (0x4C, 4, 0x3C23D70A), (0x50, 2, 5), (0x54, 2, 200)]
  /-- 88 bytes and PENDING_TIME; R146; reset none (L2). The pending configuration. -/
  pend : Option (Bytes × Nat) := none
  /-- 8 bits; R147; reset IDLE (0). SOLVER_STATE as last reported: FAULTED is kept here, the rest follows R111. -/
  faulted : Bool := false
  /-- solve; R109; reset none (L2). The running solve. -/
  run : Option Solve := none
  /-- time; R29; reset 0 (L2). The last epoch index (zone time ÷ epoch length) judged. -/
  lastEpoch : Nat := 0
  /-- 64 bits; R147; reset 0 (L2). ATTEMPT_TIME. -/
  attempt : Nat := 0
  /-- 8 bits; R140; reset 0 NONE. OUTCOME of the last attempt. -/
  outcome : Nat := 0
  /-- 16 bits; R147; reset 0 (L2). FLAGS. -/
  flags : Nat := 0
  /-- 16 bits; R147; reset 0 (L2). EST_ITER. -/
  estIter : Nat := 0
  /-- 16 bits; R147; reset 0 (L2). NEWTON_ITER. -/
  newtonIter : Nat := 0
  /-- 32 bits; R147; reset 0 (L2). CG_ITER_TOTAL. -/
  cgIter : Nat := 0
  /-- 32 bits; R147; reset 0 (L2). MAX_MASS_RESID. -/
  massResid : Nat := 0
  /-- 32 bits; R147; reset 0 (L2). MAX_HEAD_RESID. -/
  headResid : Nat := 0
  /-- 32 bits; R147; reset 0 (L2). J_FINAL. -/
  jFinal : Nat := 0
  /-- 32 bits; R147; reset 0 (L2). DOF. -/
  dof : Nat := 0
  /-- 4 × 32 bits; R147; reset 0 (L2). BINDINGS_USED, _STALE, _SUSPECT, _QUARANTINED. -/
  bindCounts : List Nat := [0, 0, 0, 0]
  /-- 32 bits; R147; reset 0 (L2). NODES_ISOLATED. -/
  nodesIsolated : Nat := 0
  /-- 32 bits; R147; reset 0 (L2). SUBST_DP_SHORT. -/
  dpShort : Nat := 0
  /-- 32 bits; R147; reset 0 (L2). PARCELS_IN_USE. -/
  parcels : Nat := 0
  /-- 5 bits; R137, R147; reset 1. MERGE_TOL_NOW as a multiple of MERGE_TOL. -/
  tolMul : Nat := 1
  /-- 5 × 32 bits; R147; reset 0 (L2). T_ALIGN_US to T_TOTAL_US. -/
  times : List Nat := [0, 0, 0, 0, 0]
  /-- 16 bits; R147; reset 0 (L2). CONSEC_NONCONV. -/
  consec : Nat := 0
  /-- 3 bits; R105; reset 4 spare cells. SPARE_CELLS. -/
  spares : Nat := 4
  /-- 32 bits; R147; reset 0. SKIPPED_EPOCHS. -/
  skipped : Nat := 0
  /-- 32 bits; R147; reset 0. SOLVES_PUBLISHED. -/
  published : Nat := 0
  /-- 32 bits; R147; reset 0. SOLVES_NOT_CONVERGED. -/
  notConverged : Nat := 0
  /-- 32 bits; R147; reset 0. HW_RETRIES. -/
  hwRetries : Nat := 0
  /-- count; R108; reset 0 (L2). Correctable scratch errors counted. -/
  correctable : Nat := 0
  /-- state; R110; reset none (L2). The published state. -/
  pub : Option PubState := none
  /-- state; R110; reset none (L2). The one previous copy. -/
  prev : Option PubState := none
  /-- set; R138; reset none (L2). The sensitivity set in force. -/
  sens : Option Sens := none
  /-- hydraulic state; R112; reset none (L2). The last published one. -/
  hydro : Option Hydro := none
  /-- hydraulic state; R141; reset none (L2). The last iterate. -/
  iter : Option Hydro := none
  /-- thermal state; R133; reset none (L2). Parcels, temperatures and store layers. -/
  thermal : Option Thermal := none
  /-- time; R112, R133; reset 0 (L2). The zone time the thermal state has been advanced to. -/
  thermTo : Nat := 0
  /-- counts; R126; reset empty (L2). Consecutive SUSPECT solves per binding. -/
  suspect : Tab Nat := []
  /-- times; R126; reset empty (L2). The instant each QUARANTINED binding was quarantined. -/
  quarantine : Tab Nat := []
  /-- 1 bit; R141; reset 1: nothing published yet (L2). The next solve starts from the flat start. -/
  flatNext : Bool := true
  /-- operation; R149; reset none (L2). The warm start in progress. -/
  warm : Option WarmStart := none
  /-- hydraulic state; R143; reset none (L2). A completed warm start's iterate, which starts the next solve. -/
  warmIter : Option Hydro := none
  /-- 10,080 samples; R165; reset empty (L2). Per STORE element: instant, 32 layer temperatures and net flow, oldest first. -/
  history : Tab (List (Nat × Bytes)) := []
  /-- 1 bit; R27; reset 0 (L2). An optimiser cell is to be replaced at the next epoch instant. -/
  optCell : Bool := false
deriving DecidableEq, Repr

/-- A plan: the records of each unit and driven pump, and what it was computed from (R182, R186). -/
structure Plan where
  /-- BASIS_TIME. -/
  basis : Nat
  /-- PUBLISH_TIME. -/
  publish : Nat
  /-- LIN_TIME. -/
  lin : Nat
  /-- STEP1_TIME. -/
  step1 : Nat
  /-- STEP_LENGTH_MS. -/
  stepMs : Nat
  /-- HORIZON. -/
  horizon : Nat
  /-- OUTCOME. -/
  outcome : Nat
  /-- Per UNIT row its plan records, step 1 first. -/
  units : Tab (List Bytes)
  /-- Per PUMP element row its plan records. -/
  pumps : Tab (List Bytes)
  /-- Its replan took its initial values from measurement alone, for a reconciliation (R180). -/
  reconcile : Bool := false
deriving DecidableEq, Repr

/-- What a plan was computed from, as replicated with it to the standby (R182). -/
structure PlanInputs where
  /-- The configuration, 64 bytes. -/
  cfg : Bytes
  /-- The curve table. -/
  curves : Tab Bytes
  /-- The series. -/
  series : Tab (List (Nat × Nat))
  /-- The store model records. -/
  storeModels : Tab Bytes
deriving DecidableEq, Repr

/-- A running replan (R166 to R170). -/
structure Replan where
  /-- T_r. -/
  tr : Nat
  /-- T_r + I − 100 ms. -/
  deadline : Nat
  /-- T_r + I. -/
  due : Nat
  /-- The epoch instant of the sensitivity set it holds. -/
  lin : Nat
  /-- STEP_LENGTH_MS it plans on. -/
  stepMs : Nat
  /-- HORIZON_STEPS. -/
  horizon : Nat
  /-- It takes its initial values from measurement alone (R180). -/
  reconcile : Bool
  /-- FLAGS fixed at its start. -/
  flags : Nat
  /-- The model it works on (R174). -/
  model : ModelImage
  /-- What it works from. -/
  inputs : PlanInputs
  /-- STEP1_TIME. -/
  step1 : Nat
  /-- Per UNIT row of KIND STORE the 32 layers at the start of step 1, binary32 (R160). -/
  layers : Tab (List Nat)
  /-- Per UNIT row of KIND SETBACK_GROUP the deferred energy X at the start of step 1, binary32 (R160). -/
  deferred : Tab Nat
deriving DecidableEq, Repr

/-- A store fit in progress (R165). -/
structure Fit where
  /-- Its progress entry. -/
  entry : Nat
  /-- The STORE element row. -/
  store : Nat
  /-- Samples in the window. -/
  samples : Nat
deriving DecidableEq, Repr

/-- The dispatch optimiser and Oasis mode (05). -/
structure Optimiser where
  /-- 64 bytes; R183; reset its defaults (delivery). The active configuration, in the Cellar. -/
  cfg : Bytes := recordOf 64 [(0x00, 4, 60000), (0x04, 4, 450000), (0x08, 2, 384), (0x0A, 2, 40), (0x0C, 2, 15),
    (0x0E, 2, 3000), (0x10, 4, 0x358637BD), (0x14, 4, 0x3727C5AC), (0x18, 4, 1800), (0x1C, 4, 900),
    (0x24, 4, 0x3C23D70A), (0x28, 4, 0x358637BD), (0x2D, 1, 1), (0x34, 4, 60), (0x38, 4, 0x49742400)]
  /-- 64 bytes and PENDING_TIME; R184; reset none (L2). The pending configuration. -/
  pend : Option (Bytes × Nat) := none
  /-- 256 × 64 bytes; R163; reset all zero (L4). The curve table, in the Cellar. -/
  curves : Tab Bytes := []
  /-- series; R161; reset none (DRAM). The points TIME and VALUE by SERIES × 65,536 + INDEX. -/
  series : Tab (List (Nat × Nat)) := []
  /-- 24 bytes each; R164; reset the default record. Store model records by element row, in the Cellar. -/
  storeModels : Tab Bytes := []
  /-- history; R162; reset empty (L2). Per group, 0xFFFF for substations in none, the estimated heat power at each step boundary of the
  last 24 h, W, binary32. The persistence forecast that a replan's numerical part forms rests on it. -/
  demandHist : Tab (List (Nat × Nat)) := []
  /-- plan; R170; reset none (L2). The current plan. -/
  plan : Option Plan := none
  /-- plan; R170; reset none (L2). A finished plan that waits for T_r + I. -/
  ready : Option (Plan × PlanInputs) := none
  /-- plan and twin item; R32, R170; reset none (L2). A published plan that waits for the standby's acknowledgement. -/
  waiting : Option (Plan × Nat) := none
  /-- replan; R166; reset none (L2). The running replan. -/
  run : Option Replan := none
  /-- index; R25; reset 0 (L2). The last replan index (zone time ÷ interval) judged. -/
  lastReplan : Nat := 0
  /-- index; R25; reset 0 (L2). The last step boundary index judged. -/
  lastStep : Nat := 0
  /-- 1 bit; R27; reset 0 (L2). The optimiser is suspended for a solve. -/
  suspended : Bool := false
  /-- 8 bits; R171; reset 0 NONE. OUTCOME of the last attempt. -/
  outcome : Nat := 0
  /-- 16 bits; R185; reset 0 (L2). FLAGS. -/
  flags : Nat := 0
  /-- 16 bits; R185; reset 0 (L2). IPM_ITER. -/
  ipmIter : Nat := 0
  /-- 16 bits; R185; reset 0 (L2). COMMIT_ITER_USED. -/
  commitIter : Nat := 0
  /-- 4 × 32 bits; R185; reset 0 (L2). OBJECTIVE, GAP, MAX_INFEAS, SLACK_TOTAL. -/
  figures : List Nat := [0, 0, 0, 0]
  /-- 32 bits; R185; reset 0 (L2). ERG_TIME_US. -/
  ergTime : Nat := 0
  /-- 32 bits; R172; reset 0 (L2). Erg time used by the last published replan, µs. -/
  ergPublished : Nat := 0
  /-- 10 × 32 bits; R172; reset empty (L2). The solve durations of the last 10 epochs, µs. -/
  solveTimes : List Nat := []
  /-- 32 bits; R185; reset 0. REPLANS_PUBLISHED. -/
  published : Nat := 0
  /-- 32 bits; R185; reset 0. REPLANS_FAILED. -/
  failed : Nat := 0
  /-- 32 bits; R185; reset 0. STEPS_UNDELIVERED. -/
  undelivered : Nat := 0
  /-- 1 bit; R166; reset 0 (L2). A solve has published since the model's activation. -/
  solved : Bool := false
  /-- 64 bits; R185; reset 0. OASIS_ENTRY_TIME. -/
  oasisEntry : Nat := 0
  /-- 8 bits; R185; reset 0. OASIS_CAUSE. -/
  oasisCause : Nat := 0
  /-- 8 bits; R179; reset 0. OASIS_PHASE. -/
  oasisPhase : Nat := 0
  /-- 1 bit; R180; reset 0 (L2). The first replan after Optimiser-Reconcile has started. -/
  reconcileRun : Bool := false
  /-- 1 bit; R180; reset 0 (L2). The reconciliation plan is published and its caravan is due. -/
  reconcileDue : Bool := false
  /-- caravan; R180; reset none (L2). The reconciliation caravan. -/
  reconcileId : Option Nat := none
  /-- values; R37; reset empty (L2). The members of the last plan step whose caravan reached DONE. -/
  heldStep : List (Nat × Nat) := []
  /-- 1 bit; R181; reset 0 (L2). The next replan starts from measured values (OVERRIDE_ANCHORED). -/
  anchor : Bool := false
  /-- operation; R165; reset none (L2). The store fit in progress. -/
  fit : Option Fit := none
  /-- 1 bit; R104; reset 0 (L2). The current plan is of an older model that is not plan-compatible. -/
  stalePlan : Bool := false
  /-- replicated; R182; reset none (L2). On a standby, the configuration, curves, series and store models of the last plan. -/
  repl : Option PlanInputs := none
deriving DecidableEq, Repr

/-- A member of a caravan (R188, R191, R212). -/
structure Member where
  /-- TARGET. -/
  target : Nat
  /-- VALUE, binary32 bits. -/
  value : Nat
  /-- VALUE_KNOWN. -/
  known : Bool := true
  /-- Status code of R191. -/
  status : Nat := 0
  /-- Reason code. -/
  reason : Nat := 0
  /-- LATE. -/
  late : Bool := false
  /-- UNLOCKED. -/
  unlocked : Bool := false
  /-- APPLY_DELAY_MS. -/
  delay : Nat := 0xFFFFFFFF
  /-- REPORT outcome recorded for an ORPHANED member; 0xFF none (R203). -/
  report : Nat := 0xFF
deriving DecidableEq, Repr

/-- A caravan (R190 to R199). -/
structure Caravan where
  /-- CARAVAN_ID. -/
  id : Nat
  /-- STATE, code of R190. -/
  state : Nat := 0
  /-- ORIGIN: 0 plan, 1 host, 2 program. -/
  origin : Nat
  /-- ABORT_REASON. -/
  abortReason : Nat := 0
  /-- SEALED. -/
  isSealed : Bool := false
  /-- AUTO_COMMIT. -/
  autoCommit : Bool := false
  /-- REQUIRE_LOCK. -/
  requireLock : Bool := false
  /-- ACTIVATION_TIME. -/
  tAct : Nat
  /-- STAGE_DEADLINE. -/
  tStage : Nat
  /-- DECISION_TIME. -/
  tDecision : Nat := 0
  /-- FINAL_TIME. -/
  tFinal : Nat := 0
  /-- LATE_LIMIT_MS. -/
  lateMs : Nat
  /-- CONFIRM_WINDOW_MS. -/
  confirmMs : Nat
  /-- RETRY_INTERVAL_MS. -/
  retryMs : Nat
  /-- RESENDS. -/
  resends : Nat := 0
  /-- The members, in staging order. -/
  members : List Member := []
  /-- A decision taken and not yet durable: commit, or abort with a reason. -/
  deciding : Option (Option Nat) := none
  /-- The decision's journal item on the twin link, when it awaits the standby. -/
  twinItem : Option Nat := none
  /-- The local journal record of the decision has been written. -/
  written : Bool := false
  /-- Mailbox of a Caravan-Commit or Caravan-Abort that waits for the decision to be durable. -/
  waiter : Option Nat := none
  /-- Nodes that have been sent a STAGE. -/
  staged : List Nat := []
  /-- Nodes that have acknowledged the stage. -/
  acked : List Nat := []
  /-- Nodes that have answered the decision. -/
  decisionAcked : List Nat := []
  /-- The instant of the last (re)send. -/
  lastSend : Nat := 0
  /-- On-module members have been judged at the activation instant. -/
  activated : Bool := false
deriving DecidableEq, Repr

/-- The caravan unit and its journal (06). -/
structure CaravanUnit where
  /-- 16 slots of 32 KiB; R206; reset all empty (L4). Open caravans by journal slot. -/
  slots : Tab Caravan := []
  /-- last 64; R206; reset empty (DRAM). Ended caravans, newest first. -/
  ended : List Caravan := []
  /-- 32 bits; R207; at delivery 1 (L4). The next caravan counter, in the Cellar. -/
  nextId : Nat := 1
  /-- 32 bits; R211; reset 0 (L2). COMMITTED_TOTAL. -/
  committedTotal : Nat := 0
  /-- 32 bits; R211; reset 0 (L2). ABORTED_TOTAL. -/
  abortedTotal : Nat := 0
  /-- 32 bits; R211; reset 0 (L2). IN_DOUBT_TOTAL. -/
  inDoubtTotal : Nat := 0
  /-- 32 bits; R211; reset 0 (L2). ORPHANED_TOTAL. -/
  orphanedTotal : Nat := 0
  /-- 32 bytes; R213; reset its defaults. The configuration, in the Cellar. -/
  cfg : Bytes := recordOf 32 [(0x00, 4, 500), (0x04, 4, 100), (0x08, 4, 2000), (0x0C, 4, 30000)]
deriving DecidableEq, Repr

/-- A telemetry sample held for a node's channel (R114, R240). -/
structure Sample where
  /-- VALUE, binary32 bits. -/
  value : Nat
  /-- 0 GOOD, 1 BAD. -/
  quality : Nat
  /-- Zone time of the sample. -/
  stamp : Nat
  /-- Zone time of its reception. -/
  rx : Nat
deriving DecidableEq, Repr

/-- What a receiver keeps per sender and key against replay: the highest SEQ accepted and the window below it (R237). -/
structure SeqWin where
  /-- The key: KEY_EPOCH × 2, plus 1 for the broadcast key. -/
  key : Nat
  /-- Highest SEQ accepted. -/
  high : Nat
  /-- Bit k set: SEQ high − 1 − k has been seen. -/
  seen : BitVec 64
deriving DecidableEq, Repr

/-- A field node as the module knows it (R248, R255). -/
structure Node where
  /-- STATE: 0 NEVER_SEEN, 1 ONLINE, 2 SILENT. -/
  state : Nat := 0
  /-- PORT last heard on. -/
  port : Nat := 0xFF
  /-- FLAGS of its last frame. -/
  flags : Nat := 0
  /-- AUTH_FAILS. -/
  authFails : Nat := 0
  /-- LAST_HEARD, zone ns. -/
  lastHeard : Nat := 0
  /-- Local instant of its last authenticated frame. -/
  heardAt : Nat := 0
  /-- Tasks, as bits, whose next latch carries RETURNED (R249 step 7). -/
  returned : Nat := 0
  /-- Replay windows, per key epoch. -/
  wins : List SeqWin := []
  /-- Samples per channel, newest stamp first, at most eight. -/
  samples : Tab (List Sample) := []
  /-- Set-points last reported APPLIED, per channel (R119). -/
  applied : Tab Nat := []
deriving DecidableEq, Repr

/-- An outstanding WRITE (R245). -/
structure Write where
  /-- Node addressed. -/
  node : Nat
  /-- (channel, value) entries. -/
  entries : List (Nat × Nat)
  /-- Sends made. -/
  sends : Nat
  /-- Local instant of the last send. -/
  last : Nat
deriving DecidableEq, Repr

/-- A switch port (R255). -/
structure Port where
  /-- LINK: 0 DOWN, 1 UP, 2 DISABLED, 3 TESTING. -/
  link : Nat := 0
  /-- REASON. -/
  reason : Nat := 1
  /-- POLARITY_SWAPPED. -/
  polarity : Bool := false
  /-- RX_FRAMES, TX_FRAMES, RX_ERRORS, DISCARDED. -/
  rx : Nat := 0
  /-- TX_FRAMES. -/
  tx : Nat := 0
  /-- RX_ERRORS. -/
  rxErr : Nat := 0
  /-- DISCARDED. -/
  disc : Nat := 0
  /-- PRP_DUPLICATES. -/
  dup : Nat := 0
  /-- MEAN_PATH_NS. -/
  meanPath : Nat := 0
deriving DecidableEq, Repr

/-- The grandmaster data an uplink announces (R229, R436). -/
structure Master where
  /-- priority1, clockClass, clockAccuracy, variance, priority2 as one rank number, lower is better. -/
  rank : Nat
  /-- Clock class. -/
  clockClass : Nat
  /-- currentUtcOffset when valid. -/
  utc : Option Int
  /-- leap61. -/
  leap61 : Bool
  /-- leap59. -/
  leap59 : Bool
  /-- Local instant of the last Announce. -/
  at_ : Nat
deriving DecidableEq, Repr

/-- The field network (07). -/
structure Net where
  /-- 32 bytes; R254; reset its defaults. The network configuration, in the Cellar. -/
  cfg : Bytes := recordOf 32 [(0x08, 2, 100), (0x0A, 1, 1), (0x0B, 1, 1), (0x0C, 1, 10), (0x0D, 1, 4), (0x0E, 2, 50),
    (0x10, 2, 500), (0x12, 2, 5000), (0x14, 1, 0xFF)]
  /-- 32 bytes and EFFECTIVE_TIME; R254; reset none (L2). The pending configuration. -/
  pend : Option (Bytes × Nat) := none
  /-- 11 ports; R215, R255; reset DOWN with NO_PARTNER, counters 0 (L2). Port status. -/
  ports : Tab Port := []
  /-- 65,533 records; R255; reset NEVER_SEEN (L2). The nodes by node ID. -/
  nodes : Tab Node := []
  /-- 32 bits; R253; reset 0 (L2). RX_FRAMES. -/
  rxFrames : Nat := 0
  /-- 32 bits; R253; reset 0 (L2). TX_FRAMES. -/
  txFrames : Nat := 0
  /-- 10 × 32 bits; R238, R253; reset 0 (L2). The discard counts, by code. -/
  discards : Tab Nat := []
  /-- 32 bits; R253; reset 0 (L2). NAK_SENT. -/
  nakSent : Nat := 0
  /-- 32 bits; R253; reset 0 (L2). NAK_RECEIVED. -/
  nakReceived : Nat := 0
  /-- 32 bits; R253; reset 0 (L2). WRITES_UNDELIVERED. -/
  undelivered : Nat := 0
  /-- 1,024 entries; R218; reset empty (L2). PRP duplicate window: source, redundancy sequence and local instant, oldest first. -/
  prpSeen : List (Nat × Nat × Nat) := []
  /-- 32 bits; R237; at delivery 0 (L4). SENDER_EPOCH, in the Cellar. -/
  senderEpoch : Nat := 0
  /-- 32 bits; R237; reset 0 (L2). SEQ[31:0] of the next frame sent. -/
  seqLow : Nat := 0
  /-- 32 bits; R244; reset 1 (L2). The WRITE_ID of the next WRITE. -/
  nextWrite : Nat := 1
  /-- table; R245; reset empty (L2). The unanswered WRITEs, by WRITE_ID. -/
  writes : Tab Write := []
  /-- table; R249; reset empty (L2). The delivery status of each written channel, key node × 256 + channel. -/
  delivery : Tab Nat := []
  /-- time; R36, R220; reset 0 (L2). Local instant of the last valid uplink frame. -/
  uplinkValid : Nat := 0
  /-- time; R246; reset none (L2). Local instant of the last ANNOUNCE sent. -/
  announced : Option Nat := none
  /-- time; R218; reset none (L2). Local instant of the last PRP supervision frame. -/
  supervised : Option Nat := none
deriving DecidableEq, Repr

/-- The time base (R223 to R233, R255). -/
structure TimeBase where
  /-- ns; R22; reset 0 (L3). Elapsed time of the time base's own tick count. -/
  now : Nat := 0
  /-- 48 + 30 + 32 bits; R223, R224; reset 0 (L2). Zone time in units of 2⁻³² ns, fraction accumulator included. -/
  zone32 : Nat := 0
  /-- units of 2⁻³² ns; R224; reset 8 ns nominal. INCR. -/
  incr : Nat := 8 * 2 ^ 32
  /-- 32 bytes; R254; reset its defaults. The time configuration, in the Cellar. -/
  cfg : Bytes := recordOf 32 [(0x03, 1, 0xFD), (0x04, 4, 1000000), (0x08, 4, 3600), (0x0C, 2, 100), (0x0E, 1, 1)]
  /-- 2 bits; R229; reset FREE_RUN (0): no lock since start-up. TIME_STATE. -/
  state : Nat := 0
  /-- 2 bits; R255; reset 0 none. SOURCE. -/
  source : Nat := 0
  /-- signed 32 bits; R255; reset 0 (L2). OFFSET_NS. -/
  offset : Int := 0
  /-- 32 bits; R255; reset 0 (L2). MEAN_PATH_NS. -/
  meanPath : Nat := 0
  /-- signed 64 bits; R231; reset 0. PENDING_STEP_NS. -/
  pendingStep : Int := 0
  /-- 1 bit; R231; reset 0 (L2). TIME_FAULT. -/
  fault : Bool := false
  /-- 1 bit; R255; reset 0: no step since start-up. STEPPED. -/
  stepped : Bool := false
  /-- 1 bit; R229; reset 0 (L2). A first lock has been made. -/
  everLocked : Bool := false
  /-- 5 bits; R229; reset 0 (L2). Consecutive Sync messages, or PPS edges, within ±100 ns, up to 16. -/
  inBand : Nat := 0
  /-- time; R229; reset 0 (L2). Local instant of the source's last Sync. -/
  lastSync : Nat := 0
  /-- ns; R229; reset 10⁹ (L2). The source's Sync interval. -/
  syncInterval : Nat := 1000000000
  /-- time; R229; reset none (L2). Local instant at which HOLDOVER began. -/
  holdoverAt : Option Nat := none
  /-- 1 bit; R229; reset 0 (L2). HOLDOVER_LIMIT_S has passed. -/
  holdoverOver : Bool := false
  /-- 2 uplinks; R228; reset empty (L2). What each uplink announces. -/
  masters : Tab Master := []
  /-- 16 captures; R226; reset empty (L2). PPS_IN captures, newest first, in units of 2⁻³² ns of zone time. -/
  captures : List Nat := []
  /-- 64 bits; R230; reset none (L2). The Time-Set armed for the next PPS_IN edge, SECONDS. -/
  armed : Option Nat := none
  /-- seconds; R226; reset none (L2). The last second at which PPS_OUT rose. -/
  ppsOut : Option Nat := none
  /-- counters; R228; reset 0 (L2). Time-transmitter messages sent on the T1L ports: the last Sync and Announce instants. -/
  t1lSync : Option Nat := none
  /-- time; R228; reset none (L2). Local instant of the last T1L Announce. -/
  t1lAnnounce : Option Nat := none
  /-- count; R231; reset 0 (L8). The model's count of servo corrections, naming the free INCR each takes. -/
  servoCount : Nat := 0
deriving DecidableEq, Repr

/-- An item sent to the partner that is not acknowledged (R252). -/
structure TwinItem where
  /-- ITEM_ID. -/
  id : Nat
  /-- TYPE. -/
  type : Nat
  /-- The item's bytes. -/
  data : Bytes
  /-- Local instant of its last fragment. -/
  sent : Nat
deriving DecidableEq, Repr

/-- The twin link (R250 to R252, R553 to R557). -/
structure Twin where
  /-- 1 bit; R557; reset 0 (L2). The join is complete: the standby has acknowledged every item of the full copy. -/
  joined : Bool := false
  /-- time; R34; reset 0 (L2). Local instant of the last valid twin frame. -/
  lastValid : Nat := 0
  /-- time; R34; reset none (L2). Local instant of the last HEARTBEAT sent. -/
  beatSent : Option Nat := none
  /-- time; R561; reset none (L2). Local instant of the last valid HEARTBEAT received. -/
  beatHeard : Option Nat := none
  /-- 32 bits; R250; reset 1 (L2). The next ITEM_ID. -/
  nextItem : Nat := 1
  /-- 64 bits; R250; reset 1. The SEQ of the next frame sent. -/
  txSeq : Nat := 1
  /-- 64 bits; R250; reset 0 (L2). The SEQ of the last valid frame received. -/
  rxSeq : Nat := 0
  /-- items; R252; reset empty (L2). Unacknowledged items, oldest first. -/
  unacked : List TwinItem := []
  /-- items; R251; reset empty (L2). ITEM_IDs taken from the partner. -/
  received : List Nat := []
  /-- count; R251; reset 0 (L2). Frames discarded because their tag failed. -/
  badFrames : Nat := 0
  /-- time and kind; R34; reset none (L2). The active was declared lost: local instant, and whether the standby listens. -/
  lostAt : Option (Nat × Bool) := none
  /-- 2 bits; R553; reset 0 (L2). Role resolution: 0 not begun, 1 handshake, 2 waiting for the partner, 3 resolved. -/
  resolve : Nat := 0
  /-- time; R553; reset 0 (L2). Local instant at which the wait or the handshake began. -/
  waitFrom : Nat := 0
  /-- 32 bytes; R554; reset none (L2). The nonce of the HELLO last sent, while a handshake runs. -/
  nonce : Option Bytes := none
  /-- 200 bytes; R554; reset none (L2). The partner's HELLO payload, once a HELLO of it has been received. -/
  hello : Option Bytes := none
  /-- 200 bytes; R554; reset none (L2). The partner's HELLO_REPLY payload that echoes this module's nonce. -/
  reply : Option Bytes := none
  /-- 1 bit; R556; reset 0 (L2). HELLO_CONFIRM has been sent in this handshake. -/
  confirmed : Bool := false
  /-- time; R554; reset none (L2). Local instant of the last HELLO sent. -/
  helloSent : Option Nat := none
  /-- 1 bit; R557; reset 0 (L2). Both confirmations have verified: the link keys are in force. -/
  keyed : Bool := false
  /-- 1 bit; R555; reset 0 (L2). This module is to be the active one. -/
  wantActive : Bool := false
  /-- 32 bits; R556; reset 0 none (L2). MISMATCH of the last refused handshake. -/
  mismatch : Nat := 0
  /-- time; R553, R556; reset none (L2). Local instant from which the next handshake is tried. -/
  retryAt : Option Nat := none
  /-- time; R553; reset 0 (L2). Local instant of the last ANNOUNCE heard from node 0x0000. -/
  announceHeard : Nat := 0
  /-- 1 bit; R553; reset 0 (L2). An unpaired standby. -/
  unpaired : Bool := false
  /-- epoch; R237; reset 0 (L2). The SENDER_EPOCH last heard from the active. -/
  partnerEpoch : Nat := 0
deriving DecidableEq, Repr

/-- An energy or volume register: VALUE, WRAP and RESIDUE (R267). -/
structure Reg where
  /-- VALUE, in LSBs. -/
  value : BitVec 64 := 0
  /-- WRAP, passages of VALUE through 0. -/
  wrap : BitVec 16 := 0
  /-- RESIDUE, in 2⁻³² of the LSB. -/
  residue : BitVec 32 := 0
deriving DecidableEq, Repr

/-- The sums over samples from which cycle and latched values follow (R263), in 2⁻³² V², A² or VA summed over samples. -/
structure CycleAcc where
  /-- Samples M. -/
  samples : Nat := 0
  /-- Products of voltage and current per phase (3P4W) or per element (3P3W). -/
  p : List Int := [0, 0, 0]
  /-- Products of the voltage a quarter period before and the current. -/
  q : List Int := [0, 0, 0]
  /-- Squares of the voltages of the set. -/
  v2 : List Nat := [0, 0, 0]
  /-- Squares of the line-to-line voltages. -/
  vll2 : List Nat := [0, 0, 0]
  /-- Squares of the line currents. -/
  i2 : List Nat := [0, 0, 0]
  /-- Squares of the neutral current. -/
  n2 : Nat := 0
  /-- Channels that clipped. -/
  clip : List Nat := []
deriving DecidableEq, Repr

/-- A feed of the electrical metering engine (R258, R264 to R268). -/
structure Feed where
  /-- The 16 running registers. -/
  regs : List Reg := List.replicate 16 {}
  /-- LATCH_SEQ. -/
  latchSeq : Nat := 0
  /-- LATCH_TIME of the latch set. -/
  latchTime : Nat := 0
  /-- The latched values, 160 bytes, once a latch has been made. -/
  latched : Option Bytes := none
  /-- The latched registers. -/
  latchedRegs : List Reg := List.replicate 16 {}
  /-- The running interval's sums. -/
  acc : CycleAcc := {}
  /-- The running cycle's sums, parts cut by a save included. -/
  part : CycleAcc := {}
  /-- Line cycles closed in the running interval. -/
  cycles : Nat := 0
  /-- Cycles of the running interval closed under TIMER_CYCLES. -/
  timerCycles : Nat := 0
  /-- The first crossing of the running interval, in 2⁻¹⁶ samples. -/
  first : Option Nat := none
  /-- The last accepted crossing, in 2⁻¹⁶ samples. -/
  last : Option Nat := none
  /-- P_TOTAL of the last line cycle in W, binary32, and the zone time of its end. -/
  power : Option (Nat × Nat) := none
  /-- The sequence judged last, REVERSE or not (R264). -/
  sequence : Option Bool := none
  /-- PHASE_SEQ_REVERSED. -/
  seqRev : Bool := false
  /-- Consecutive cycles whose judged sequence disagrees with the flag. -/
  seqRun : Nat := 0
  /-- MISSING_NEUTRAL. -/
  noNeutral : Bool := false
  /-- Consecutive cycles towards a change of that flag. -/
  neutralRun : Nat := 0
  /-- TIMER_CYCLES. -/
  timer : Bool := false
  /-- Sample count at which the running timer cycle began. -/
  timerFrom : Nat := 0
  /-- Timer cycles closed since the timer started (which of 533, 533, 534 is next). -/
  timerCount : Nat := 0
  /-- OVERRANGE in the last cycle. -/
  overrange : Bool := false
  /-- REGISTERS_LOST. -/
  lost : Bool := false
  /-- On a standby: own snapshots at its last 16 latches (LATCH_TIME and registers), newest first. -/
  snaps : List (Nat × List Reg) := []
  /-- On a standby: the last replicated latch (LATCH_TIME and registers). -/
  repl : Option (Nat × List Reg) := none
deriving DecidableEq, Repr

/-- A voltage channel's zero-crossing supervision (R262). -/
structure VChan where
  /-- ZC_LOST. -/
  lost : Bool := false
  /-- Local instant of the last accepted crossing. -/
  lastCross : Nat := 0
deriving DecidableEq, Repr

/-- One of the two save buffers of the Cellar's energy register region (R271, R295). -/
structure SaveRec where
  /-- KIND. -/
  kind : Nat
  /-- SAVE_SEQ. -/
  seq : Nat
  /-- CUT_TIME. -/
  cutTime : Nat
  /-- CUT_SAMPLE. -/
  cutSample : Nat
  /-- Electrical registers, feed by feed. -/
  regs : List (List Reg)
  /-- LATCH_SEQ of each feed. -/
  latchSeq : List Nat
  /-- STEP_COUNT. -/
  stepCount : Nat
  /-- Thermal registers, pair by pair. -/
  tregs : List (List Reg)
  /-- LATCH_SEQ of each pair. -/
  tlatchSeq : List Nat
  /-- BUS_BASE: reading and reception time in seconds. -/
  busBase : List (Nat × Nat)
  /-- The electrical record's MAGIC, FORMAT and CRC hold. -/
  ok : Bool := true
  /-- The thermal record's MAGIC, FORMAT and CRC hold. -/
  tok : Bool := true
deriving DecidableEq, Repr

/-- The electrical metering engine (08). -/
structure Elec where
  /-- 864 bytes; R277; reset its defaults. The active configuration, in the Cellar. -/
  cfg : Bytes := zeros 16 ++ (List.replicate 24 (recordOf 32 [(0x04, 4, 0x3F800000), (0x08, 4, 0x3F800000)])).flatten ++
    (List.replicate 5 (recordOf 16 [(0x03, 1, 0xFF), (0x04, 2, 50), (0x06, 1, 50), (0x08, 2, 100), (0x0A, 1, 10),
      (0x0C, 4, 0x43660000)])).flatten
  /-- 864 bytes and the feeds it still waits for; R278; reset none (L2). The pending configuration. -/
  pend : Option (Bytes × List Nat) := none
  /-- 5 feeds; R267; reset all registers 0 at delivery. The feeds. -/
  feeds : Tab Feed := []
  /-- 8 channels; R262; reset not lost (L2). The voltage channels. -/
  vchan : Tab VChan := []
  /-- 8 bits; R279; reset 0 (L2). V_OVERRANGE. -/
  vOver : Nat := 0
  /-- 16 bits; R279; reset 0 (L2). I_OVERRANGE. -/
  iOver : Nat := 0
  /-- 64 bits; R260; reset 0 (L2). The sample count's offset: SAMPLE_COUNT is this plus the elapsed samples. -/
  sampleBase : Nat := 0
  /-- 32 bits; R271; reset 0 (L2). SAVE_SEQ of the newest save. -/
  saveSeq : Nat := 0
  /-- 2 × 32 KiB; R271; reset neither valid (L4). The two save buffers, in the Cellar. -/
  bufA : Option SaveRec := none
  /-- 2 × 32 KiB; R271; reset not valid (L4). The second save buffer. -/
  bufB : Option SaveRec := none
  /-- index; R271; reset 0 (L2). The last 60 s index saved. -/
  lastSave : Nat := 0
  /-- 32 bits; R279; reset 0 at delivery. UNSAVED_INTERVALS. -/
  unsaved : Nat := 0
  /-- 32 bits; R279; reset 0 at delivery. OFF_INTERVALS. -/
  offs : Nat := 0
  /-- 2 × 64 bits; R279; reset 0 (L2). LAST_GAP_START and LAST_GAP_END. -/
  lastGap : Nat × Nat := (0, 0)
  /-- 1 bit; R272; reset 0 (L2). The engine is sampling. -/
  running : Bool := false
deriving DecidableEq, Repr

/-- An RTD channel (R283, R284). -/
structure RtdChan where
  /-- FAULT code. -/
  fault : Nat := 0
  /-- Consecutive clear steps since the fault was last found. -/
  clear : Nat := 0
  /-- The last step was a fault step. -/
  faultStep : Bool := false
  /-- RESISTANCE of the last step, binary32. -/
  resistance : Nat := 0
  /-- TEMPERATURE of the last step, binary32. -/
  temperature : Nat := 0
  /-- TEMPERATURE of the last step, µK above 0 °C. -/
  microK : Int := 0
  /-- LEAD_OHM. -/
  lead : Nat := 0
deriving DecidableEq, Repr

/-- A flow input (R285 to R287). -/
structure FlowIn where
  /-- Pulses counted in the running step. -/
  pulses : Nat := 0
  /-- Local instant of the last edge. -/
  lastEdge : Option Nat := none
  /-- Fault found in the running step. -/
  found : Nat := 0
  /-- Fault of the last step, as recorded. -/
  fault : Nat := 0
  /-- Bus counter base: reading (binary32) and its reception time in zone seconds. -/
  base : Option (Nat × Nat) := none
  /-- Local instant of the last reading. -/
  heard : Nat := 0
  /-- Volume credited by a bus reading in the running step, in 2⁻³² mL. -/
  credit : Nat := 0
  /-- Sum of the enthalpy differences (J/kg) of the steps since the previous reading, and their count. -/
  dhSum : Rat × Nat := (0, 0)
  /-- The base was restored at start-up and no reading has come since. -/
  restored : Bool := false
  /-- Time since the previous reading, in seconds, of the reading credited in the running step. -/
  span : Nat := 0
  /-- BUS_TIMEOUT holds. -/
  timedOut : Bool := false
  /-- Last step flow in m³/s, binary32, with its end instant, and whether it is good. -/
  flow : Nat × Nat × Bool := (0, 0, false)
deriving DecidableEq, Repr

/-- A heat quantity pair (R291 to R294). -/
structure Pair where
  /-- The 8 running registers. -/
  regs : List Reg := List.replicate 8 {}
  /-- LATCH_SEQ. -/
  latchSeq : Nat := 0
  /-- LATCH_TIME. -/
  latchTime : Nat := 0
  /-- The latched values, 64 bytes, once a latch has been made. -/
  latched : Option Bytes := none
  /-- The latched registers. -/
  latchedRegs : List Reg := List.replicate 8 {}
  /-- Steps in the running interval. -/
  steps : Nat := 0
  /-- Fault steps in the running interval. -/
  faultSteps : Nat := 0
  /-- Sum and count over the interval of T_s, of T_r and of ΔT, in µK, over the steps that give one. -/
  tSums : List (Int × Nat) := [(0, 0), (0, 0), (0, 0)]
  /-- Sum and count over the interval of the density in kg/m³ and of the enthalpy difference in J/kg. -/
  mSums : List (Rat × Nat) := [(0, 0), (0, 0)]
  /-- Sums over the interval: volume in 2⁻³² mL and time in ns. -/
  vol : Nat × Nat := (0, 0)
  /-- Sum of Q in 2⁻³² mWh. -/
  energy : Int := 0
  /-- FLAGS gathered in the interval. -/
  flags : Nat := 0
  /-- PROPERTY_RANGE holds. -/
  propRange : Bool := false
  /-- REGISTERS_LOST. -/
  lost : Bool := false
  /-- FS_EXCEEDED, in the VBAT domain. -/
  fsExceeded : Bool := false
  /-- Last step's power in W, binary32, and whether it is good. -/
  power : Nat × Bool := (0, false)
  /-- On a standby: own snapshots at its last 16 latches. -/
  snaps : List (Nat × List Reg) := []
  /-- On a standby: the last replicated latch. -/
  repl : Option (Nat × List Reg) := none
deriving DecidableEq, Repr

/-- The thermal metering engine (09). -/
structure Therm where
  /-- 784 bytes; R303; reset its defaults. The active configuration, in the Cellar. -/
  cfg : Bytes := recordOf 16 [(0x08, 2, 1000), (0x0A, 2, 60)] ++
    (List.replicate 16 (recordOf 16 [(0x08, 4, 0x3F800000)])).flatten ++
    (List.replicate 8 (recordOf 32 [(0x02, 2, 20), (0x04, 4, 0x3A83126F), (0x10, 2, 120), (0x14, 4, 0x42C80000)])).flatten ++
    (List.replicate 8 (recordOf 32 [(0x02, 1, 1), (0x04, 4, 0x49127C00), (0x08, 4, 0x3D4CCCCD), (0x0C, 4, 0x42700000)])).flatten
  /-- 784 bytes and the pairs it still waits for; R304; reset none (L2). The pending configuration. -/
  pend : Option (Bytes × List Nat) := none
  /-- 16 channels; R281; reset no fault (L2). The RTD channels. -/
  chans : Tab RtdChan := []
  /-- 8 inputs; R285; reset no base, no fault (L2). The flow inputs. -/
  flows : Tab FlowIn := []
  /-- 8 pairs; R292; reset all registers 0 (R267). The heat quantity pairs. -/
  pairs : Tab Pair := []
  /-- 64 bits; R295; reset 0 at delivery. STEP_COUNT. -/
  stepCount : Nat := 0
  /-- time; R291; reset none (L2). Local instant at which the running integration step ends. -/
  stepDue : Option Nat := none
  /-- time; R305; reset 0 (L2). STEP_TIME: end instant of the last step. -/
  stepTime : Nat := 0
  /-- time; R295; reset 0 (L2). Local instant at which the running step began. -/
  stepFrom : Nat := 0
  /-- count; R294; reset 0 (L2). Steps since the last latch. -/
  sinceLatch : Nat := 0
  /-- 15 × 64 bytes; R289; reset not VALID (L4). The glycol table, in the Cellar. -/
  glycol : Tab Bytes := []
  /-- 32 bits; R305; reset 0 at delivery. UNSAVED_INTERVALS. -/
  unsaved : Nat := 0
  /-- 32 bits; R305; reset 0 at delivery. OFF_INTERVALS. -/
  offs : Nat := 0
  /-- 2 × 64 bits; R305; reset 0 (L2). LAST_GAP_START and LAST_GAP_END. -/
  lastGap : Nat × Nat := (0, 0)
deriving DecidableEq, Repr

/-- A loop slot: its record and its running state (R307 to R329). -/
structure Loop where
  /-- The record in force, 128 bytes. -/
  record : Bytes := recordOf 128 [(0x04, 4, 10), (0x18, 4, 0x3F800000), (0x20, 4, 0x3A83126F), (0x24, 4, 0x3A83126F),
    (0x28, 4, 3000), (0x2C, 4, 0x80000000), (0x30, 4, 0x7FFFFFFF)]
  /-- A record accepted and not yet in effect, with the local instant at which it takes effect. -/
  pend : Option (Bytes × Nat) := none
  /-- REQ_MODE: 1 MANUAL, 2 AUTO. -/
  req : Nat := 2
  /-- A requested mode not yet in effect, with its local instant. -/
  reqPend : Option (Nat × Nat) := none
  /-- LOCAL set-point, binary32, as last set. -/
  local_ : Nat := 0
  /-- A LOCAL set-point not yet applied, with its local instant. -/
  localPend : Option (Nat × Nat) := none
  /-- A MANUAL output not yet applied, with its local instant. -/
  outPend : Option (Int × Nat) := none
  /-- PV. -/
  pv : Int := 0
  /-- SP. -/
  sp : Int := 0
  /-- SP_R. -/
  spr : Int := 0
  /-- Y. -/
  y : Int := 0
  /-- APPLIED. -/
  applied : Int := 0
  /-- e_prev. -/
  ePrev : Int := 0
  /-- IN_BAND. -/
  inBand : Bool := false
  /-- STOPPED: a stop request stands. -/
  stopped : Bool := false
  /-- INPUT_FAULT. -/
  inFault : Bool := false
  /-- Consecutive samples without fault while in the input-fault condition. -/
  goodRun : Nat := 0
  /-- FOLLOWING_ERROR. -/
  fe : Bool := false
  /-- FE timer in units of 100 µs, when it runs. -/
  feTimer : Option Nat := none
  /-- Up timer (STAGED) or release timer (LIMIT) in units of 100 µs, when it runs. -/
  upTimer : Option Nat := none
  /-- Down timer in units of 100 µs, when it runs. -/
  downTimer : Option Nat := none
  /-- Local instant of the last stage change, or from which MIN_STAGE_MS counts. -/
  stageAt : Nat := 0
  /-- STAGE. -/
  stage : Nat := 0
  /-- ENGAGED. -/
  engaged : Bool := false
  /-- GUARDED. -/
  guarded : Bool := false
  /-- INTERLOCK. -/
  interlock : Bool := false
  /-- OUT_LIMITED. -/
  outLimited : Bool := false
  /-- SP_CLAMPED. -/
  spClamped : Bool := false
  /-- SATURATED, until read. -/
  saturated : Bool := false
  /-- Mode at the last sample (R322 code). -/
  mode : Nat := 0
  /-- Input age at the last sample, ns; 2⁶² while no value has been read. -/
  age : Nat := 2 ^ 62
  /-- The set-point the program last wrote, binary32. -/
  progSp : Nat := 0
  /-- The value of Loop-Set-Output in force while MANUAL is requested. -/
  man : Option Int := none
  /-- No sample has been taken since plant start. -/
  fresh : Bool := true
  /-- A stage change has been made since plant start or since the record took effect. -/
  staged : Bool := false
  /-- Replicated data has changed since the last send (R326). -/
  dirty : Bool := false
deriving DecidableEq, Repr

/-- What an output target holds: the LOCAL or program value, what was written, and who holds it (R319). -/
structure Target where
  /-- The LOCAL value: caravans and host writes, binary32. -/
  local_ : Option Nat := none
  /-- The program's value, binary32. -/
  prog : Option Nat := none
  /-- The value written after R319, in the target's unit. -/
  value : Rat := 0
  /-- Held by a GUARD writer. -/
  guard : Bool := false
  /-- Held by a hardware interlock. -/
  interlock : Bool := false
deriving DecidableEq, Repr

/-- The loop engine (10). -/
structure LoopEngine where
  /-- 512 slots of 128 bytes and state; R307, R327; reset the default record, KIND NONE. The loop slots. -/
  slots : Tab Loop := []
  /-- targets; R314, R319; reset no writer (L2). Key OUT_KIND × 1,024 + index: AOUT, DOUT, AXIS and exchange entries. -/
  targets : Tab Target := []
  /-- 1,024 × 32 bits; R312, R339; reset 0 (L2). The loop exchange area. -/
  exchange : Tab Nat := []
  /-- index; R308; reset 0 (L2). The last 100 µs tick evaluated. -/
  lastTick : Nat := 0
  /-- index; R326; reset 0 (L2). The last 10 ms instant judged for replication. -/
  lastRepl : Nat := 0
deriving DecidableEq, Repr

/-- A task of the cyclic program (R332 to R334). -/
structure Task where
  /-- Local instant t_in of the cycle executing or waiting for its t_out. -/
  tin : Option Nat := none
  /-- The cycle is still executing. -/
  executing : Bool := false
  /-- The cycle has overrun: its outputs wait for the output instant of the last cycle skipped. -/
  overrun : Bool := false
  /-- Local instant at which its outputs are due. -/
  tout : Nat := 0
  /-- The output image, once execution has ended: directory entry and value. -/
  image : Option (List (Bytes × Bytes)) := none
  /-- Caravans the cycle opens at t_out: activation instant and members. -/
  opens : List (Nat × List (Nat × Nat)) := []
  /-- Program caravans the cycle aborts at t_out. -/
  aborts : List Nat := []
  /-- Results of CARAVAN_OPEN that wait for the next input instant: CARAVAN_ID, or 0 with the refusal reason. -/
  results : List (Nat × Nat) := []
  /-- Results of CARAVAN_OPEN that the present cycle reads. -/
  given : List (Nat × Nat) := []
  /-- OVERRUNS. -/
  overruns : Nat := 0
  /-- SKIPPED. -/
  skipped : Nat := 0
  /-- EXEC_LAST_US. -/
  execLast : Nat := 0
  /-- EXEC_MAX_US. -/
  execMax : Nat := 0
  /-- The next cycle is the first after entry to RUN or a change. -/
  first : Bool := true
  /-- Local instant from which input instants count after a start. -/
  from_ : Nat := 0
  /-- The last tick up to which input instants have been judged. -/
  lastIn : Nat := 0
  /-- Program-Step has been accepted for its next input instant. -/
  step : Bool := false
  /-- The next queued TE event is discarded (overrun of a TE run). -/
  discard : Bool := false
  /-- The event TE is running: EVENT_INDEX, DATA, TIME. -/
  event : Option (Nat × Nat × Nat) := none
deriving DecidableEq, Repr

/-- A hardware timer (R346). -/
structure HwTimer where
  /-- Target zone time of the next expiry. -/
  target : Nat
  /-- Period in ns, 0 for one-shot. -/
  period : Nat
  /-- Expiries since arming. -/
  expiries : Nat
deriving DecidableEq, Repr

/-- A latched input: value bytes, quality and age (R343). -/
structure InLatch where
  /-- Value bytes. -/
  value : Bytes
  /-- Quality code. -/
  quality : Nat
  /-- AGE in ns. -/
  age : Nat
deriving DecidableEq, Repr

/-- An on-line change in progress (R355). -/
structure Change where
  /-- The new image. -/
  image : Bytes
  /-- Local instant at which quiescing began. -/
  from_ : Nat
  /-- Mailbox of the Program-Commit-Image that waits. -/
  mbox : Nat
deriving DecidableEq, Repr

/-- The program engines (11). -/
structure Program where
  /-- up to 6,291,456 bytes; R336; reset none (L4). The active image. -/
  image : Option Bytes := none
  /-- bytes; R361; reset none (L2). The staged image. -/
  staged : Bytes := []
  /-- 4 MiB; R342; reset 0 (L2, L7). Instance memory, by byte offset; an unlisted byte is 0. -/
  mem : List Host.Cell := []
  /-- 480 KiB; R357; reset none (L4). The last durable retained data, by byte offset of instance memory, in the Cellar. -/
  retained : List Host.Cell := []
  /-- lines; R357; reset none (L2). Changed 64-byte lines of retained data that wait to be durable, by line number. -/
  retPend : Tab Bytes := []
  /-- 8 bits; R363; reset STOP (1) (L2). REQ_MODE. -/
  req : Nat := 1
  /-- START_KIND; R350; reset WARM (0) (L2). The start kind of the last entry to RUN. -/
  startKind : Nat := 0
  /-- time; R352; reset none (L2). HOLD requested: local instant of its taking. -/
  holdAt : Option Nat := none
  /-- 8 bits; R363; reset 0. STOP_CAUSE. -/
  cause : Nat := 0
  /-- 1 bit; R350; reset 0 (L2). HOT is possible. -/
  hot : Bool := false
  /-- 5 tasks; R331; reset idle (L2). T0 to T3 and TE (4). -/
  tasks : Tab Task := []
  /-- 64 entries; R335; reset empty (L2). TE's queue: event index, DATA, TIME, local instant of detection. -/
  queue : List (Nat × Nat × Nat × Nat) := []
  /-- 64 timers; R346; reset not armed (L2). Hardware timers. -/
  timers : Tab HwTimer := []
  /-- inputs; R343; reset empty (L2). Each INPUT as its task last latched it, by VAR_ID. -/
  inputs : Tab InLatch := []
  /-- outputs; R361; reset empty (L2). Each OUTPUT as last written, by VAR_ID. -/
  outputs : Tab Bytes := []
  /-- 256 forces; R354; reset none (L4). Forces by VAR_ID, in the Cellar. -/
  forces : Tab Bytes := []
  /-- change; R355; reset none (L2). The on-line change in progress. -/
  change : Option Change := none
  /-- trap record; R363; reset 0. TRAP_CODE, TRAP_TASK, TRAP_INSTANCE, TRAP_OFFSET. -/
  trap : Nat × Nat × Nat × Nat := (0, 0, 0, 0)
  /-- 32 bits; R363; reset 0. EVENTS_DISCARDED. -/
  discarded : Nat := 0
  /-- 16 bytes; R362; reset its defaults. The configuration, in the Cellar. -/
  cfg : Bytes := recordOf 16 [(0x00, 4, 1000), (0x04, 4, 300)]
  /-- counts; R347; reset empty (L2). Rising and falling edges at the previous latch of an edges input, by VAR_ID. -/
  edgeBase : Tab (Nat × Nat) := []
  /-- 1 bit; R360; reset 0 (L2). OASIS_NO_PROGRAM has been recorded for the present RULES phase. -/
  oasisNoted : Bool := false
  /-- 1 bit; R358; reset 0 (L2). On a standby: RUN is the replicated requested mode. -/
  replRun : Bool := false
deriving DecidableEq, Repr

/-- A ramp under way: the motion from an instant on, as spans of constant acceleration where no jerk limit applies (R369). -/
structure Ramp where
  /-- Local instant at which it begins. -/
  t0 : Nat
  /-- Position, microsteps. -/
  p0 : Rat
  /-- Velocity, microsteps/s. -/
  v0 : Rat
  /-- Acceleration, microsteps/s². -/
  a0 : Rat
  /-- Where it leads, microsteps; a stop ramp leads nowhere. -/
  goal : Option Int
  /-- VMAX, ACCEL, DECEL and JERK in force. -/
  limits : Nat × Nat × Nat × Nat
  /-- Spans: duration in s and acceleration. -/
  spans : List (Rat × Rat)
deriving DecidableEq, Repr

/-- A stepper axis (R365 to R383). -/
structure Axis where
  /-- The record in force, 64 bytes. -/
  record : Bytes := recordOf 64 [(0x02, 1, 8), (0x04, 4, 51200), (0x08, 4, 51200), (0x0C, 4, 102400), (0x10, 4, 102400),
    (0x14, 4, 409600), (0x1C, 4, 25600), (0x20, 2, 500), (0x22, 2, 200), (0x24, 2, 500), (0x27, 1, 0xFF),
    (0x28, 1, 0xFF), (0x30, 2, 200), (0x32, 2, 3), (0x34, 4, 512), (0x38, 4, 12800), (0x3C, 4, 256)]
  /-- A record accepted for the next standstill. -/
  pend : Option Bytes := none
  /-- Requested mode: 1 MANUAL, 2 STOP, 9 AUTO. -/
  req : Nat := 9
  /-- HOMED. -/
  homed : Bool := false
  /-- RESTORED. -/
  restored : Bool := false
  /-- The ramp under way; none at rest. -/
  ramp : Option Ramp := none
  /-- QUIET or STRONG to be taken at the next full-step position. -/
  want : Nat := 0
  /-- Full-step position at the last check of the current mode. -/
  fullStep : Int := 0
  /-- FAULT. -/
  fault : Nat := 0
  /-- The axis is in FAULTED. -/
  faulted : Bool := false
  /-- A fault whose DECEL ramp is still running. -/
  faultPend : Nat := 0
  /-- Fault codes whose cause is present. -/
  causes : List Nat := []
  /-- The low limit switch is active. -/
  lowOn : Bool := false
  /-- The high limit switch is active. -/
  highOn : Bool := false
  /-- AT_LIMIT, low end. -/
  atLow : Bool := false
  /-- AT_LIMIT, high end. -/
  atHigh : Bool := false
  /-- TARGET_CLAMPED, until read. -/
  clamped : Bool := false
  /-- GUARD_UNMET. -/
  unmet : Bool := false
  /-- A stop request from the program's quiet NaN stands. -/
  stopped : Bool := false
  /-- POSITION at rest. -/
  pos : Int := 0
  /-- Encoder count. -/
  enc : Int := 0
  /-- TARGET in microsteps. -/
  target : Int := 0
  /-- DEVIATION_MAX. -/
  devMax : Nat := 0
  /-- STALLS. -/
  stalls : Nat := 0
  /-- Consecutive checks with excess deviation. -/
  stallRun : Nat := 0
  /-- CURRENT_MODE: 0 QUIET, 1 STRONG, 2 HOLD, 3 OFF. -/
  current : Nat := 3
  /-- Local instant of the last step. -/
  restAt : Nat := 0
  /-- Homing: the stage of the method (1 searching, 2 stopping, 3 moving off, 4 backing off). -/
  homing : Nat := 0
  /-- Position of the encoder index found while homing. -/
  indexPos : Int := 0
  /-- The replicated state was moving (R381). -/
  replMoving : Bool := false
  /-- The saved record in the Cellar: POSITION, homed, MOVING. -/
  saved : Option (Int × Bool × Bool) := none
  /-- The present standstill has been recorded. -/
  recorded : Bool := true
  /-- Replicated data has changed since the last send. -/
  dirty : Bool := false
deriving DecidableEq, Repr

/-- The motion unit (12). -/
structure Motion where
  /-- 8 axes; R365, R382; reset the default record, disabled, unhomed (R376). The axes. -/
  axes : Tab Axis := []
  /-- index; R373; reset 0 (L2). The last 100 µs check. -/
  lastCheck : Nat := 0
deriving DecidableEq, Repr

/-- One whole frame in an object's buffer (R390, R391). -/
structure CanFrame where
  /-- Identifier. -/
  id : Nat
  /-- IDE. -/
  ide : Bool
  /-- FD frame. -/
  fd : Bool
  /-- BRS. -/
  brs : Bool
  /-- Data bytes. -/
  data : Bytes
  /-- Zone time of the start-of-frame edge. -/
  stamp : Nat
deriving DecidableEq, Repr

/-- A message object (R389 to R393). -/
structure CanObj where
  /-- The object record, 16 bytes. -/
  record : Bytes := zeros 16
  /-- RX: the current buffer. -/
  cur : Option CanFrame := none
  /-- RX: the shadow buffer. -/
  shadow : Option CanFrame := none
  /-- NEW since the last Can-Read-Objects. -/
  isNew : Bool := false
  /-- OVERRUN. -/
  overrun : Bool := false
  /-- TX_FAILED. -/
  txFailed : Bool := false
  /-- TX: the data last written. -/
  data : Bytes := zeros 64
  /-- TX: data of the request that is pending. -/
  pending : Option Bytes := none
  /-- TX: data of the frame in transmission. -/
  sending : Option Bytes := none
  /-- PERIODIC: index of the last instant judged. -/
  lastPeriod : Nat := 0
deriving DecidableEq, Repr

/-- Rate detection in progress (R388). -/
structure Detect where
  /-- DWELL_MS. -/
  dwell : Nat
  /-- TIMEOUT_S. -/
  timeout : Nat
  /-- Local instant it began. -/
  from_ : Nat
  /-- Local instant the present candidate began. -/
  since : Nat
  /-- Index of the present candidate: nominal 0 to 4. -/
  cand : Nat
  /-- Consecutive frames received without error at the candidate. -/
  good : Nat
  /-- The nominal rate found, kbit/s. -/
  nominal : Nat
  /-- FD frames with BRS have been seen. -/
  brs : Bool
deriving DecidableEq, Repr

/-- A CAN FD controller (R385 to R395). -/
structure CanBus where
  /-- The configuration, 32 bytes. -/
  cfg : Bytes := recordOf 32 [(0x01, 1, 0x0B), (0x02, 2, 1), (0x04, 2, 127), (0x06, 2, 32), (0x08, 2, 32), (0x0A, 1, 1),
    (0x0B, 1, 29), (0x0C, 1, 10), (0x0D, 1, 10), (0x10, 2, 2000)]
  /-- STATE: 1 ERROR_ACTIVE, 2 ERROR_PASSIVE, 3 BUS_OFF. -/
  err : Nat := 1
  /-- TEC. -/
  tec : Nat := 0
  /-- REC. -/
  recCount : Nat := 0
  /-- FAULTS. -/
  faults : Nat := 0
  /-- The bus-off recovery sequence is running. -/
  recovering : Bool := false
  /-- Rate detection in progress. -/
  detect : Option Detect := none
  /-- DETECT_RESULT. -/
  detResult : Nat := 0
  /-- DETECT_NOMINAL_KBPS and DETECT_DATA_KBPS. -/
  detRates : Nat × Nat := (0, 0)
  /-- The configuration with the timing found, in LISTEN_ONLY until Can-Set-Config. -/
  found : Option Bytes := none
  /-- RX_FRAMES. -/
  rx : Nat := 0
  /-- TX_FRAMES. -/
  tx : Nat := 0
  /-- RX_UNMATCHED. -/
  unmatched : Nat := 0
  /-- OVERRUNS. -/
  overruns : Nat := 0
  /-- BUS_OFF_COUNT. -/
  busOffs : Nat := 0
  /-- The 256 objects. -/
  objs : Tab CanObj := []
deriving DecidableEq, Repr

/-- A decoded M-Bus record (R398). -/
structure MbusRec where
  /-- UNIT. -/
  unit : Nat
  /-- FUNCTION. -/
  function : Nat
  /-- FLAGS. -/
  flags : Nat
  /-- STORAGE. -/
  storage : Nat
  /-- TARIFF. -/
  tariff : Nat
  /-- SUBUNIT. -/
  subunit : Nat
  /-- VALUE, binary64. -/
  value : Nat
  /-- TIME. -/
  time : Nat
deriving DecidableEq, Repr

/-- An M-Bus slave (R397 to R399). -/
structure MbusSlave where
  /-- SILENT. -/
  silent : Bool := false
  /-- SND_NKE is due before the next REQ_UD2. -/
  nke : Bool := true
  /-- FCB of the next REQ_UD2. -/
  fcb : Bool := true
  /-- The telegram's status byte. -/
  status : Nat := 0
  /-- FORMAT_UNSUPPORTED. -/
  unsupported : Bool := false
  /-- TIME of the last good telegram. -/
  time : Nat := 0
  /-- The decoded records. -/
  records : List MbusRec := []
  /-- Telegrams of the running chain that ended with DIF 0x1F. -/
  chain : Nat := 0
deriving DecidableEq, Repr

/-- A Mbus-Transact that waits for its gap or for its reply (R402). -/
structure MbusTransact where
  /-- Its mailbox. -/
  mbox : Nat
  /-- The telegram. -/
  telegram : Bytes
  /-- Local instant of the taking. -/
  from_ : Nat
  /-- Local instant of the telegram's last stop bit, once sent. -/
  sent : Option Nat := none
deriving DecidableEq, Repr

/-- The exchange the M-Bus master is running (R397). -/
structure MbusExchange where
  /-- Position in the slave list. -/
  slot : Nat
  /-- Slave address. -/
  addr : Nat
  /-- Attempts made. -/
  tries : Nat
  /-- Telegrams taken in this exchange. -/
  telegrams : Nat
  /-- Local instant of the request's stop bit. -/
  sent : Nat
  /-- The request was SND_NKE. -/
  nke : Bool
deriving DecidableEq, Repr

/-- The M-Bus master (R396 to R403). -/
structure Mbus where
  /-- 1,016 bytes; R403; reset its defaults. The configuration in force, in the Cellar. -/
  cfg : Bytes := recordOf 16 [(0x01, 1, 3), (0x02, 1, 2), (0x04, 2, 60), (0x06, 1, 1)] ++
    (List.replicate 250 (recordOf 4 [(0x01, 1, 0xFF)])).flatten
  /-- 1,016 bytes; R403; reset none (L2). A configuration that waits for the next cycle instant. -/
  pend : Option Bytes := none
  /-- 2 bits; R403; reset OFF (0). LINE. -/
  line : Nat := 0
  /-- 2 bits; R403; reset 0 (L2). FAULTS. -/
  faults : Nat := 0
  /-- time; R396; reset 0 (L2). Local instant of the last switch-off or power retry. -/
  offAt : Nat := 0
  /-- 64 bits; R403; reset 0 (L2). CYCLE_START. -/
  cycleStart : Nat := 0
  /-- time; R403; reset 0 (L2). Local instant of the running cycle's start. -/
  cycleFrom : Nat := 0
  /-- 32 bits; R403; reset 0 (L2). CYCLE_MS. -/
  cycleMs : Nat := 0
  /-- index; R397; reset 0 (L2). The last cycle index judged. -/
  lastCycle : Nat := 0
  /-- 1 bit; R397; reset 0 (L2). A cycle is running. -/
  running : Bool := false
  /-- exchange; R397; reset none (L2). The exchange in progress. -/
  exch : Option MbusExchange := none
  /-- 250 slaves; R397; reset ONLINE without records (L2). The slaves by address. -/
  slaves : Tab MbusSlave := []
  /-- 32 bits; R403; reset 0 (L2). TELEGRAMS. -/
  telegrams : Nat := 0
  /-- 32 bits; R403; reset 0 (L2). ERRORS. -/
  errors : Nat := 0
  /-- index; R397; reset 0 (L2). Position in the slave list of the next exchange. -/
  next : Nat := 0
  /-- list; R402; reset empty (L2). Mbus-Transact commands that wait, oldest first. -/
  transacts : List MbusTransact := []
deriving DecidableEq, Repr

/-- The bus controllers (13). -/
structure Buses where
  /-- 4 controllers; R385, R402; reset MODE OFF, default timing, objects OFF. CAN0 to CAN3. -/
  can : Tab CanBus := []
  /-- The M-Bus master. -/
  mbus : Mbus := {}
deriving DecidableEq, Repr

/-- A digital input (R405 to R408). -/
structure Di where
  /-- The accepted state after the filter, INVERT applied. -/
  state : Bool := false
  /-- The level last accepted at the pad, before INVERT. -/
  level : Bool := false
  /-- COUNT: rising edges. -/
  rises : Nat := 0
  /-- Falling edges. -/
  falls : Nat := 0
  /-- Zone time of the last edge at the pad. -/
  lastEdge : Nat := 0
  /-- Local instants of rising edges in the latest 10 s, newest first. -/
  riseTimes : List Nat := []
  /-- Accepted edges kept for the chatter rule, newest first: local instant and the state before. -/
  edges : List (Nat × Bool) := []
  /-- Fault the accepted band gives: 0, OPEN, SHORT, REVERSED or OUT_OF_BAND. -/
  band : Nat := 0
  /-- Local instant from which the state has been 1. -/
  highFrom : Option Nat := none
  /-- STUCK. -/
  stuck : Bool := false
  /-- CHATTERING, with the state held. -/
  chatter : Option Bool := none
  /-- The input has produced a value since start-up. -/
  known : Bool := false
deriving DecidableEq, Repr

/-- An analogue input (R409, R410). -/
structure Ain where
  /-- Raw x of the last window, binary32. -/
  value : Nat := 0
  /-- Zone time of its window's end; none before the first. -/
  stamp : Option Nat := none
  /-- Fault code. -/
  fault : Nat := 0
  /-- Index of the last window judged. -/
  last : Nat := 0
deriving DecidableEq, Repr

/-- A digital output (R411, R412). -/
structure Dout where
  /-- Value as applied. -/
  on : Bool := false
  /-- SHORT or OVERTEMP that switched it off, else 0. -/
  trip : Nat := 0
  /-- REVERSED. -/
  reversed : Bool := false
  /-- OPEN or SHORT_TO_SUPPLY found by the test, else 0. -/
  test : Nat := 0
  /-- Retries made since it was switched off. -/
  retries : Nat := 0
  /-- Local instant of the switch-off, while a retry is due. -/
  offAt : Option Nat := none
  /-- LATCHED_OFF. -/
  latched : Bool := false
  /-- Index of the last 100 ms test. -/
  lastTest : Nat := 0
deriving DecidableEq, Repr

/-- An interlock (R415). -/
structure Ilock where
  /-- Engaged. -/
  on : Bool := false
deriving DecidableEq, Repr

/-- A terminal block (R417 to R419). -/
structure Block where
  /-- REMOVED. -/
  removed : Bool := false
  /-- Local instant at which a removal span opened. -/
  span : Option Nat := none
  /-- Local instant from which no member has shown open. -/
  clearFrom : Option Nat := none
  /-- Fault events withheld until the span ends. -/
  held : List Event := []
deriving DecidableEq, Repr

/-- A panel key (R422, R423). -/
structure Key where
  /-- Touched. -/
  touched : Bool := false
  /-- Local instant the touch began. -/
  since : Nat := 0
  /-- LONG has been given for the present touch. -/
  longDone : Bool := false
  /-- STUCK. -/
  stuck : Bool := false
  /-- PRESSES. -/
  presses : Nat := 0
  /-- LONGS. -/
  longs : Nat := 0
  /-- BRUSHES. -/
  brushes : Nat := 0
  /-- The baseline, in 2⁻¹⁶ % of the key's touch signal; none before the first measurement. -/
  base : Option Int := none
  /-- The delta of the last measurement, in 2⁻¹⁶ %. -/
  delta : Int := 0
  /-- Local instant from which the delta has been below −THRESHOLD_PCT. -/
  negFrom : Option Nat := none
  /-- The present touch has been discarded. -/
  discarded : Bool := false
  /-- PRESS since the owning task's latch. -/
  pressBit : Bool := false
  /-- LONG since the owning task's latch. -/
  longBit : Bool := false
deriving DecidableEq, Repr

/-- A host write to an output that waits for its tick (R428). -/
structure OutWrite where
  /-- 0 DO, 1 AOUT. -/
  kind : Nat
  /-- Output. -/
  index : Nat
  /-- Value, binary32. -/
  value : Nat
  /-- Local instant of its tick. -/
  due : Nat
deriving DecidableEq, Repr

/-- Field I/O (14). -/
structure Io where
  /-- 912 bytes; R429; reset its defaults. The configuration in force, in the Cellar. -/
  cfg : Bytes := recordOf 16 [(0x00, 2, 150), (0x02, 2, 1000)] ++
    (List.replicate 32 (recordOf 8 [(0x02, 2, 1000), (0x06, 1, 20), (0x07, 1, 10)])).flatten ++
    (List.replicate 16 (recordOf 8 [(0x02, 2, 10)])).flatten ++
    (List.replicate 24 (recordOf 4 [(0x01, 1, 3), (0x02, 2, 1000)])).flatten ++ zeros 32 ++
    (List.replicate 16 (recordOf 16 [(0x0E, 1, 0xFF)])).flatten ++ zeros 128
  /-- 912 bytes and tick; R429; reset none (L2). A configuration accepted for the next 100 µs tick. -/
  pend : Option (Bytes × Nat) := none
  /-- 32 inputs; R405; reset state 0, counts 0 (L2). The digital inputs. -/
  di : Tab Di := []
  /-- 16 inputs; R409; reset no value (L2). The analogue inputs. -/
  ain : Tab Ain := []
  /-- 24 outputs; R411; reset off (R420). The digital outputs. -/
  dout : Tab Dout := []
  /-- 8 outputs; R413; reset no fault. Fault code of each analogue output; its value stands in the loop engine's targets. -/
  aoutFault : Tab Nat := []
  /-- 8 × binary32; R430; reset 0 V. Each analogue output as applied. -/
  aout : Tab Nat := []
  /-- 8 interlocks; R415; reset not engaged (L2). The interlocks. -/
  ilocks : Tab Ilock := []
  /-- 16 blocks; R417; reset PRESENT (L2). The terminal blocks. -/
  blocks : Tab Block := []
  /-- 32 bits; R408; reset 0 (L2). SUPPRESSED_EDGES. -/
  suppressed : Nat := 0
  /-- writes; R428; reset empty (L2). Host writes that wait for their tick. -/
  writes : List OutWrite := []
deriving DecidableEq, Repr

/-- The operator panel and the USB service port (14). -/
structure Panel where
  /-- 64 bytes; R429; reset its defaults. The panel configuration, in the Cellar. -/
  cfg : Bytes := recordOf 16 [(0x00, 2, 60), (0x02, 2, 1500), (0x04, 2, 30), (0x06, 1, 2), (0x07, 1, 0xFF), (0x08, 1, 50),
    (0x09, 1, 1)] ++ (List.replicate 8 (recordOf 4 [(0x00, 1, 10)])).flatten ++ zeros 16
  /-- 8 keys; R422; reset untouched, counts 0 (L2). The keys. -/
  keys : Tab Key := []
  /-- 32 bits; R423; reset 0 (L2). COVERED_COUNT. -/
  covered : Nat := 0
  /-- 1 bit; R423; reset 0 (L2). Touches are discarded until every key is released. -/
  blanked : Bool := false
  /-- index; R422; reset 0 (L2). The last 5 ms measurement instant. -/
  lastMeas : Nat := 0
  /-- 8 × (mode, BRIGHT); R425; reset OFF (L2). LED settings of the host. -/
  leds : Tab (Nat × Nat) := []
  /-- 8 bits; R425; reset 0 (L2). LED_OPEN. -/
  ledOpen : Nat := 0
  /-- 8 bits; R425; reset 0 (L2). LED_SHORT. -/
  ledShort : Nat := 0
  /-- 1 bit; R426; reset 0 (L2). ATTACHED. -/
  attached : Bool := false
  /-- 1 bit; R426; reset 0 (L2). ORIENTATION: 1 CC2. -/
  orientation : Bool := false
  /-- 1 bit; R426; reset 0 (L2). UNSTABLE. -/
  unstable : Bool := false
  /-- times; R426; reset empty (L2). Local instants of the last detaches, newest first. -/
  detaches : List Nat := []
deriving DecidableEq, Repr

/-- Tamper state (R483). -/
inductive TamperState | none | tripped | latched | exhausted
deriving DecidableEq, Repr

/-- A slot of the key register (R464). -/
structure KeySlot where
  /-- STATE: 0 EMPTY, 1 LOADED, 2 FAULT. -/
  state : Nat := 0
  /-- TYPE. -/
  type : Nat := 0
  /-- OWNER. -/
  owner : Nat := 0
  /-- USAGE. -/
  usage : Nat := 0
  /-- Key material, 32, 48 or 96 bytes. -/
  material : Bytes := []
  /-- Integrity tag, 4 bytes. -/
  tag : Bytes := []
deriving DecidableEq, Repr

/-- A slot image of the key store (R466): the descriptor, the material under the KEK and the GCM tag. -/
structure SlotImage where
  /-- TYPE. -/
  type : Nat
  /-- OWNER. -/
  owner : Nat
  /-- USAGE. -/
  usage : Nat
  /-- The material wrapped under the KEK. -/
  wrapped : Bytes
  /-- The 16-byte GCM tag. -/
  tag : Bytes
  /-- The image's write count, part of its nonce. -/
  writes : Nat
deriving DecidableEq, Repr

/-- A key update in progress (R469, R470). -/
structure KeyUpdate where
  /-- Its progress entry. -/
  entry : Nat
  /-- COUNTER. -/
  counter : Nat
  /-- Slots written by its entries: bit s. -/
  written : Nat
  /-- What the bank not in force will hold. -/
  bank : Tab SlotImage
deriving DecidableEq, Repr

/-- A key epoch rollover (R473). -/
structure Rollover where
  /-- NEXT_KEY_EPOCH. -/
  next : Nat
  /-- SWITCH_TIME, zone ns. -/
  switch : Nat
  /-- OVERLAP_S. -/
  overlap : Nat
  /-- The epoch in use before the switch, once the switch has been made. -/
  old : Option Nat := none
deriving DecidableEq, Repr

/-- The Strongroom, the tamper logic and the debug gate (16). -/
structure Security where
  /-- 64 fuses; R456, R458; reset 0 at delivery. E_fuse: blown TAMPER_EPOCH fuses. -/
  eFuse : Nat := 0
  /-- 64 fuses; R456, R463; reset 0 (L4). MIN_VERSION: blown fuses. -/
  minVersion : Nat := 0
  /-- 32 bits; R458; reset 0 at delivery. E_vbat, in the VBAT domain. -/
  eVbat : Nat := 0
  /-- 1 bit; R458; reset 1 (L4). The validity marker of the VBAT domain. -/
  marker : Bool := true
  /-- 8 bytes; R490; reset all OFF (L4). The tamper configuration in the VBAT domain. -/
  tampCfg : Bytes := zeros 8
  /-- 8 bytes; R490; reset all OFF (L4). The tamper configuration in the Cellar. -/
  tampCellar : Bytes := zeros 8
  /-- 2 bits; R483; reset NONE (L4). The tamper state, in the VBAT domain. -/
  tamper : TamperState := .none
  /-- 8 bits; R491; reset 0 none. LAST_SOURCE. -/
  lastSource : Nat := 0
  /-- 16 bits; R491; reset 0 (L2). SOURCES_ACTIVE. -/
  active : Nat := 0
  /-- 64 bits; R491; reset 0 none. LAST_TAMPER_TIME. -/
  lastTime : Nat := 0
  /-- 1 bit; R481; reset 0 (L2). LAST_TAMPER_TIME is RTC time. -/
  lastRtc : Bool := false
  /-- source and lock; R480, R481; reset none (L2). A tamper whose fuses and SEC_TAMPER record wait for the next power-up, and
  whether TIME_STATE was LOCKED at its detection. -/
  fuseDue : Option (Nat × Bool) := none
  /-- 1 bit; R458; reset 0 (L2). The epochs are exhausted: E_vbat exceeds 64. -/
  exhausted : Bool := false
  /-- 64 slots; R464; reset all EMPTY (delivery). The key register. -/
  slots : Tab KeySlot := []
  /-- 64 × 128 bytes; R466; reset empty (delivery). Bank 0 of the key store, in the Cellar. -/
  bank0 : Tab SlotImage := []
  /-- 64 × 128 bytes; R466; reset empty (delivery). Bank 1 of the key store, in the Cellar. -/
  bank1 : Tab SlotImage := []
  /-- 1 bit; R466; reset 0 (L4). The bank in force, in the commit record. -/
  bank : Nat := 0
  /-- 64 bits; R470; reset 0 at delivery (L4). UPDATE_COUNTER, in the commit record. -/
  updateCounter : Nat := 0
  /-- 32 bits; R466; reset 0 (L4). The sequence number of the governing commit record copy. -/
  commitSeq : Nat := 0
  /-- operation; R469; reset none (L2). The key update in progress. -/
  update : Option KeyUpdate := none
  /-- 32 bits; R472; reset 1 at delivery. KEY_EPOCH, in the Cellar. -/
  keyEpoch : Nat := 1
  /-- record; R473; reset none (delivery). The pending rollover, in the Cellar. -/
  roll : Option Rollover := none
  /-- mailboxes and items; R473; reset empty (L2). Sec-Set-Key-Epoch commands that wait for the standby's acknowledgement. -/
  epochWait : List (Nat × Nat) := []
  /-- certificates; R476; reset none (L4). The chain stored by Sec-Put-Server-Chain: COUNT and DER bytes. -/
  chain : Option (Nat × Bytes) := none
  /-- challenge; R485; reset none (L2). The challenge issued and its EXPIRY. -/
  challenge : Option (Bytes × Nat) := none
  /-- 64 bits; R486; reset 0 (L2). NOT_AFTER of the FIELD token in force. -/
  notAfter : Nat := 0
  /-- 8 bits; R462; reset 0 (L4). SECURITY_VERSION of the running image. -/
  securityVersion : Nat := 0
  /-- 1 bit; R461; reset 0 (L2). TWIN_KEY_MISSING. -/
  twinKeyMissing : Bool := false
  /-- count; R485, R474; reset 0 (L8). Random values drawn: names the free value each draw takes. -/
  draws : Nat := 0
deriving DecidableEq, Repr

/-- A clock source (R496, R497). -/
structure ClockSource where
  /-- STATE: 0 DISABLED, 1 QUALIFYING, 2 QUALIFIED, 3 FAILED. -/
  state : Nat := 0
  /-- TRIP: the last trip code. -/
  trip : Nat := 0
  /-- OFFSET in 0.01 ppm. -/
  offset : Int := 0
  /-- Local instant at which its limit began: enabled, tripped or retried. -/
  since : Nat := 0
  /-- Local instant at which its running count began. -/
  countFrom : Nat := 0
  /-- Local instant at which it was last qualified. -/
  qualAt : Nat := 0
  /-- Local instant at which it failed. -/
  failedAt : Nat := 0
  /-- SyncE: the PHY reports link and SYNCE_VALID. -/
  valid : Bool := false
deriving DecidableEq, Repr

/-- A multiplexer: its source and the fallback it holds (R501 to R503). -/
structure Mux where
  /-- Source in use, 0 for none. -/
  source : Nat := 0
  /-- The awaited source of a held fallback and the instant the hold began. -/
  held : Option (Nat × Nat) := none
  /-- No source remained when its fallback ended. -/
  lost : Bool := false
  /-- The source whose STOPPED trip the next switch follows, 0 for none. -/
  stopped : Nat := 0
  /-- It has used a qualified source since start-up. -/
  used : Bool := false
deriving DecidableEq, Repr

/-- The clocks and the gate tree (17). -/
structure Clocks where
  /-- 32 bytes; R513; reset its defaults. The clock configuration, in the Cellar. -/
  cfg : Bytes := recordOf 32 [(0x00, 1, 3), (0x01, 1, 4), (0x02, 1, 1), (0x04, 1, 0x0D), (0x06, 2, 60)]
  /-- 7 sources; R497; reset DISABLED, RC8M usable (L2). The sources by code. -/
  sources : Tab ClockSource := [(5, { state := 2 })]
  /-- mux; R505; reset no source (L2). The reference multiplexer of SYS_PLL. -/
  ref : Mux := {}
  /-- mux; R502; reset RC8M. The CM multiplexer. -/
  cm : Mux := { source := 5 }
  /-- 2 bits; R505; reset FREE_RUN (0). PLL_STATE. -/
  pll : Nat := 0
  /-- time; R505, R514; reset 0 (L2). Local instant at which the present PLL_STATE began. -/
  pllFrom : Nat := 0
  /-- 1 bit; R514; reset 0 (L2). RC_BRIDGE. -/
  rcBridge : Bool := false
  /-- 1 bit; R514; reset 0 (L2). FORCED_SWITCH. -/
  forced : Bool := false
  /-- 1 bit; R514; reset 0 (L2). CLOCK_DEGRADED. -/
  degraded : Bool := false
  /-- 1 bit; R514; reset 0 (L2). COMPAT_START: the TCXO was last qualified by DELAY. -/
  compat : Bool := false
  /-- 32 bits; R514; reset 0 (L2). REF_SWITCHES. -/
  refSwitches : Nat := 0
  /-- 32 bits; R514; reset 0 (L2). FORCED_SWITCHES. -/
  forcedSwitches : Nat := 0
  /-- 32 bits; R514; reset 0 (L2). TCXO_QUAL_US. -/
  tcxoQualUs : Nat := 0
  /-- 18 bits; R508; reset all on (L2). GATES_ON. -/
  gates : Nat := 0x3FFFF
  /-- 18 bits; R509; reset 0 (L2). HOST_OFF marks. -/
  hostOff : Nat := 0
  /-- 18 bits; R507, R526; reset 0 (L2). The gates as they stood before entry to STANDBY. -/
  gatesBefore : Nat := 0
  /-- 8 bytes; R499; reset COUNT at delivery. The oscillator start record in the Cellar: MODE and OSC_DELAY. -/
  osc : Nat × Nat := (0, 0)
  /-- 1 bit; R499; reset 1 (L4). The record's CRC holds. -/
  oscValid : Bool := true
  /-- MODE and OSC_DELAY; R498, R499; reset COUNT (L4). The choice in effect since the last start-up that powered the TCXO. -/
  oscInUse : Nat × Nat := (0, 0)
deriving DecidableEq, Repr

/-- A step of the entry to STANDBY that is still to come, or the wake that waits for it (R524, R526). -/
structure Standby where
  /-- Local instant t0 of the taking. -/
  from_ : Nat
  /-- Wake sources latched since t0. -/
  wakes : Nat := 0
deriving DecidableEq, Repr

/-- Supplies, power states and hold-up (18). -/
structure Power where
  /-- 16 bytes; R538; reset its defaults. The power configuration, in the Cellar; its wake fields also in the VBAT domain. -/
  cfg : Bytes := recordOf 16 [(0x04, 1, 1), (0x06, 2, 24)]
  /-- 1 bit; R521; reset 0: VIN is present (L2). The module is OFF. -/
  off : Bool := false
  /-- 1 bit; R517; reset 1 (L2). VIN is present. -/
  vin : Bool := true
  /-- 1 bit; R517, R539; reset 0 (L2). VIN_OVER. -/
  vinOver : Bool := false
  /-- 1 bit; R518; reset 0 (L2). VDO_LOW. -/
  vdoLow : Bool := false
  /-- 1 bit; R415; reset 0 (L2). VDO lies below 6 V, where no DO can be held on. -/
  vdoUnder6 : Bool := false
  /-- 1 bit; R518; reset 0 (L2). VMOT_LOW. -/
  vmotLow : Bool := false
  /-- 1 bit; R530; reset 0 (L2). HOLD_READY. -/
  holdReady : Bool := false
  /-- 1 bit; R532; reset 0 (L2). HOLD_WEAK. -/
  holdWeak : Bool := false
  /-- 1 bit; R530; reset 1 (L2). The charger runs. -/
  charging : Bool := true
  /-- 1 bit; R532; reset 0 (L2). MEASURING. -/
  measuring : Bool := false
  /-- 1 bit; R532; reset 0 (L2). The start-up measurement has been made. -/
  measuredOnce : Bool := false
  /-- mailbox; R532, R539; reset none (L2). The Power-Measure-Holdup that waits for the measurement's end. -/
  measureWait : Option Nat := none
  /-- time; R532; reset 0 (L2). Local instant at which the measurement's discharge began, or was last made. -/
  measureFrom : Nat := 0
  /-- 16 bits; R539; reset 0 (L2). C_HOLD_UF. -/
  cHold : Nat := 0
  /-- 32 bits; R539; reset 0 (L2). E_AVAIL_MJ. -/
  eAvail : Nat := 0
  /-- 64 bits; R539; reset 0 (L2). HOLD_MEASURE_TIME. -/
  measureTime : Nat := 0
  /-- 3 bits; R528; reset 0. GOV_STEP. -/
  govStep : Nat := 0
  /-- 4 × 16 bits; R539; reset 0 (L2). GOV_ENTRIES. -/
  govEntries : List Nat := [0, 0, 0, 0]
  /-- time; R528; reset none (L2). Local instant of the last GOVERNOR record. -/
  govRecorded : Option Nat := none
  /-- 64 bits; R519, R539; reset 0 none. HOLDUP_ENTRY_TIME, in the VBAT domain. -/
  holdupEntry : Nat := 0
  /-- 2 × 16 bits; R540; reset 0 (L2). VIN_MV and HOLD_MV at the last entry to HOLDUP. -/
  holdupMv : Nat × Nat := (0, 0)
  /-- 1 bit; R539; reset 0 (L2). LAST_GASP_OK. -/
  gaspOk : Bool := false
  /-- 2 numbers; R536; reset 0 (L2). Duration in µs and bytes written of the last last-gasp commit. -/
  gasp : Nat × Nat := (0, 0)
  /-- 16 bits; R539; reset 0 (L2). TAIL_UNWRITTEN. -/
  tail : Nat := 0
  /-- 1 bit; R536; reset 0 (L2). A hold-up has ended whose events wait for the next start-up. -/
  holdupDue : Bool := false
  /-- 5 bits; R525, R539; reset 0 (L2). WAKE_CAUSE. -/
  wakeCause : Nat := 0
  /-- time; R522; reset none (L2). The epoch instant at which QUIET returns to ACTIVE. -/
  returnAt : Option Nat := none
  /-- entry; R524; reset none (L2). STANDBY has been entered: its t0 and the wakes latched. -/
  standby : Option Standby := none
  /-- 16 bits; R529; reset 0 (L2). The lowest VCORE_MV of the excursion, in the VBAT domain. -/
  uvLow : Nat := 0
  /-- time; R559; reset none (L2). RESET_TIME latched at a CORE_UV reset, in the VBAT domain, RTC ns. -/
  resetTime : Option Nat := none
deriving DecidableEq, Repr

/-- The kinds of reset (R543). -/
inductive ResetKind | powerOn | holdup | pin | coreUv | keeper
deriving DecidableEq, Repr

/-- Start-up, resets and straps (19). -/
structure Boot where
  /-- 3 bits; R541; reset 7: every strap open (L4). The sampled straps BOOT2:BOOT0. -/
  straps : Nat := 7
  /-- kind; R543; reset POWER_ON. The kind of the present start. -/
  kind : ResetKind := .powerOn
  /-- time; R545; reset 0. Local instant t0 of the present start. -/
  t0 : Nat := 0
  /-- 1 bit; R542; reset 0. The module is held in a PIN or CORE_UV reset. -/
  held : Bool := false
  /-- time; R558; reset none (L2). Local instant at which a PIN reset was requested whose last-gasp commit runs. -/
  pinAt : Option Nat := none
  /-- 8 bits; R546; reset 0 none. The boot failure cause. -/
  failure : Nat := 0
  /-- 1 bit; R545; reset 0 (L2). Step 7 of the start-up sequence has been made. -/
  restored : Bool := false
  /-- 1 bit; R550; reset 0 (L2). The plant has started. -/
  plant : Bool := false
  /-- time; R545; reset none (L2). Local instant at which the role was resolved. -/
  resolvedAt : Option Nat := none
  /-- 1 bit; R547; reset 0 (L4). PREFERRED of the boot record, in the Cellar. -/
  preferred : Nat := 0
  /-- 1 bit; R548; reset 0 (L4). TRIAL of the boot record, in the Cellar. -/
  trial : Bool := false
  /-- time; R548; reset none (L2). Local instant from which READY has held. -/
  readyAt : Option Nat := none
  /-- 1 bit; R548; reset 0 (L2). STATE has been READY in this start. -/
  reached : Bool := false
  /-- 1 bit; R209, R549; reset 0 (L2). The start found OSC_STOPPED: journalled instants count as passed. -/
  timeLost : Bool := false
  /-- 2 bits; R553; reset SINGLE (0) (L4). LAST_ROLE, in the Cellar. -/
  lastRole : Role := .single
  /-- record; R552; reset not in Oasis (L4). OASIS, OASIS_CAUSE, OASIS_ENTRY_TIME and BASIS_TIME kept in the Cellar. -/
  oasisKept : Option (Nat × Nat) := none
  /-- 64 bits; R552; reset none (L4). BASIS_TIME of the plan last in force, kept in the Cellar. -/
  basisKept : Option Nat := none
  /-- 1 bit; R542; reset 0. INT_N is held at high impedance until INT_ENABLE is set. -/
  intHiZ : Bool := true
deriving DecidableEq, Repr

/-- What the block sent or drove outward during the last command (log 6). -/
inductive Output
  /-- Data a host-port read returned. -/
  | read (word : BitVec 32)
  /-- The QSPI target's status byte (R47). -/
  | status (byte : BitVec 8)
  /-- A window access record sent on a path: kind, SEQ, address, result and data (R51). -/
  | record (path : Path) (kind seq address result : Nat) (data : Bytes)
  /-- A TLS alert that closes a handshake or a session (R50). -/
  | alert (name : String)
  /-- A session that the module closed. -/
  | closed (path : Path)
  /-- A Ferosh field protocol frame: type, destination node, flags, key epoch, SEQ and body (R235). -/
  | ffp (type dst flags epoch seq : Nat) (body : Bytes)
  /-- A twin link frame: type, item and payload (R250). -/
  | twin (type item : Nat) (data : Bytes)
  /-- A PTP message sent on a port: message type (R228). -/
  | ptp (port type : Nat)
  /-- A PRP supervision frame (R218). -/
  | prp
  /-- A Neighbor Advertisement for the active address (R34). -/
  | neighbour
  /-- The PPS_OUT pulse of a second (R226). -/
  | pps (second : Nat)
  /-- A CAN frame: controller, identifier and data (R392). -/
  | can (bus id : Nat) (data : Bytes)
  /-- An M-Bus telegram (R397). -/
  | mbus (telegram : Bytes)
deriving DecidableEq, Repr

/-- The state of the block. -/
structure State where
  /-- queue; the model's own (log 1); reset empty. The commands that are waiting, first in first out. -/
  pending : List Instr := []
  /-- The time base (07). -/
  tb : TimeBase := {}
  /-- The host window (02). -/
  win : Window := {}
  /-- System class, sessions, firmware, Attic (02). -/
  sys : System := {}
  /-- The real-time clock (15). -/
  rtc : Rtc := {}
  /-- The event recorder (15). -/
  recorder : Recorder := {}
  /-- The model store (03). -/
  model : ModelStore := {}
  /-- The solver (04). -/
  solver : Solver := {}
  /-- The optimiser (05). -/
  opt : Optimiser := {}
  /-- The caravan unit (06). -/
  car : CaravanUnit := {}
  /-- The field network (07). -/
  net : Net := {}
  /-- The twin link (07, 19). -/
  twin : Twin := {}
  /-- Electrical metering (08). -/
  elec : Elec := {}
  /-- Thermal metering (09). -/
  therm : Therm := {}
  /-- The loop engine (10). -/
  loops : LoopEngine := {}
  /-- The program engines (11). -/
  prog : Program := {}
  /-- The motion unit (12). -/
  motion : Motion := {}
  /-- CAN FD and M-Bus (13). -/
  buses : Buses := {}
  /-- Field I/O (14). -/
  io : Io := {}
  /-- The operator panel and the service port (14). -/
  panel : Panel := {}
  /-- The Strongroom (16). -/
  sec : Security := {}
  /-- Clocks (17). -/
  clocks : Clocks := {}
  /-- Power (18). -/
  power : Power := {}
  /-- Start-up (19). -/
  boot : Boot := {}
  /-- list; the model's own (log 6); reset empty. What the block sent during the last command, oldest first. -/
  out : List Output := []
deriving DecidableEq, Repr

/-- The block right after a POWER_ON reset at delivery: every part at its reset value (R15, R544, R545 step 1). -/
def State.reset : State := {}

/-- Why the block stops with a fault. -/
inductive Fault
  /-- Raised by a host-port write or read at an address outside the host window, which no host port carries (R45). Safe: the
  hardware has no such access. -/
  | outsideWindow
deriving DecidableEq, Repr

/-- Why a command has no meaning. -/
inductive Refusal
  /-- Raised by an arm of `exec` whose command is not modelled yet. Safe: nothing is said of the command. -/
  | notModelled (mnemonic : String)
deriving DecidableEq, Repr

end Sys2Proof.Machine
end

