-- ==== Sys2Proof/Machine/Flags.lean ====
section
/-! DEFINITION. The status words of the host window: MODULE_STATE, INT_STATUS and the interrupt line (R55, R56). -/

namespace Sys2Proof.Machine
open Sys2Proof

/-- The code MODULE_STATE.STATE shows (R55). -/
def ModState.code : ModState → Nat
  | .booting => 1 | .ready => 2 | .tampered => 3 | .fatal => 4

/-- The code MODULE_STATE.POWER_STATE shows (R55). -/
def PowerState.code : PowerState → Nat
  | .active => 0 | .quiet => 1 | .standby => 2 | .holdup => 3

/-- The code MODULE_STATE.ROLE shows (R55). -/
def Role.code : Role → Nat
  | .single => 0 | .active => 1 | .standby => 2

/-- The code MODULE_STATE.DEBUG_LEVEL shows (R55). -/
def DebugLevel.code : DebugLevel → Nat
  | .closed => 0 | .field => 1 | .vendor => 2

/-- The MODULE_STATE word (R55). -/
def Window.stateWord (w : Window) : Nat :=
  w.st.code + w.power.code * 2 ^ 4 + w.role.code * 2 ^ 8 + bitAt 10 w.oasis + (w.debug).code * 2 ^ 12 +
    bitAt 16 w.atticValid + bitAt 17 w.atticIncomplete + w.imageSlot % 2 * 2 ^ 18

/-- A completed mailbox asks for an interrupt (R56). -/
def Window.completePending (w : Window) : Bool := w.complete &&& w.completeEnable != 0

/-- A module event asks for an interrupt (R56). -/
def Window.eventPending (w : Window) : Bool := w.eventStatus &&& w.eventEnable != 0

/-- A finished operation asks for an interrupt (R56). -/
def Window.progressPending (w : Window) : Bool := w.progressDone &&& w.progressEnable != 0

/-- The interrupt line (R56). -/
def Window.line (w : Window) : Bool :=
  w.hostControl.getLsbD 0 && (w.completePending || w.eventPending || w.progressPending)

/-- The INT_STATUS word (R56). -/
def Window.intStatus (w : Window) : Nat :=
  bitAt 0 w.completePending + bitAt 1 w.eventPending + bitAt 2 w.progressPending + bitAt 3 w.line

/-- The status word of an error: the class's bits and the reason (R19, R61); a class above 0x12 gives 0x8001 (R62). -/
def errorStatus (code reason : Nat) : Nat :=
  let cls := code / 256 % 256
  if 0x12 < cls then 0x8001 else 0x8000 + cls / 16 % 2 * 0x1000 + cls % 16 * 0x100 + reason

/-- The code a path shows in ACCESS_FAULT and in a progress entry (R55, R64). -/
def pathCode : Path → Nat
  | .host => 0 | .usb => 1 | .tls _ => 2

end Sys2Proof.Machine
end

