-- ==== Sys2Proof/Machine/Ops.lean ====
section
/-! DEFINITION. The shared operations: passing time, byte memory, what the block sends, the interrupt block, events,
MODULE_STATE, the progress table and sessions. -/

namespace Sys2Proof.Machine
open Sys2Proof

/-! ### Byte memory: a sorted list of the bytes that are not 0 (log 7) -/

/-- The byte at an address; an address the list does not hold reads as 0. -/
def Memory.get : List Host.Cell → Nat → Byte
  | [], _ => 0
  | (k, v) :: t, a => if k = a then v else Memory.get t a

/-- The memory with one byte written, in canonical form. -/
def Memory.set : List Host.Cell → Nat → Byte → List Host.Cell
  | [], a, b => if b = 0 then [] else [(a, b)]
  | (k, v) :: t, a, b =>
    if a < k then (if b = 0 then (k, v) :: t else (a, b) :: (k, v) :: t)
    else if a = k then (if b = 0 then t else (a, b) :: t)
    else (k, v) :: Memory.set t a b

/-- `n` bytes from an address on. -/
def Memory.read (m : List Host.Cell) (a : Nat) : Nat → Bytes
  | 0 => []
  | n + 1 => Memory.get m a :: Memory.read m (a + 1) n

/-- A byte string written from an address on. -/
def Memory.write (m : List Host.Cell) (a : Nat) : Bytes → List Host.Cell
  | [] => m
  | b :: t => Memory.write (Memory.set m a b) (a + 1) t

/-- The canonical form: addresses strictly rising, no byte equal to what an unlisted address reads as. -/
def Memory.wf : List Host.Cell → Bool
  | [] => true
  | (k, v) :: t => v != 0 && (match t with | [] => true | (j, _) :: _ => decide (k < j)) && Memory.wf t

/-! ### Time (R22, R223, R432; log 3) -/

/-- Zone time in whole ns (R223). -/
def State.zone (s : State) : Nat := s.tb.zone32 / 2 ^ 32

/-- The RTC after `dt` ns of counting, trimmed by CAL (R433). -/
def Rtc.count (dt : Nat) (r : Rtc) : Rtc :=
  if r.halted then r
  else
    let p := r.part + dt * 32768 * (2 ^ 20 + r.cal).toNat
    { r with ticks := r.ticks + p / (10 ^ 9 * 2 ^ 20), part := p % (10 ^ 9 * 2 ^ 20) }

/-- The time base after `dt` ns: zone time gains INCR at every 8 ns tick (R223, R224). -/
def TimeBase.count (dt : Nat) (t : TimeBase) : TimeBase :=
  { t with now := t.now + dt, zone32 := t.zone32 + ((t.now + dt) / 8 - t.now / 8) * t.incr }

/-- `dt` ns pass before a command: the time base and the RTC count, and the list of what was sent starts afresh. -/
def advance (dt : Nat) (s : State) : State :=
  { s with tb := s.tb.count dt, rtc := s.rtc.count dt, out := [] }

/-- The RTC time in ns. -/
def Rtc.ns (r : Rtc) : Nat := r.ticks * 10 ^ 9 / 32768

/-! ### What the block sends -/

/-- Something sent outward. -/
def send (o : Output) (s : State) : State := { s with out := s.out ++ [o] }

/-! ### The interrupt block (R56) -/

/-- A change of the window by the module: in PCIe mode one MSI goes out if the line becomes asserted by it (R46, R56). -/
def irq (f : Window → Window) (s : State) : State :=
  let w := f s.win
  { s with win := { w with msiSent := w.msiSent + b2n (!s.win.line && w.line && !w.qspi) } }

/-- A host write to the interrupt block: one MSI goes out if it leaves the line asserted (R56). -/
def irqWrite (f : Window → Window) (s : State) : State :=
  let w := f s.win
  { s with win := { w with msiSent := w.msiSent + b2n (w.line && !w.qspi) } }

/-- An EVENT_STATUS bit is set (R56). -/
def raise (k : Nat) (s : State) : State :=
  irq (fun w => { w with eventStatus := w.eventStatus ||| BitVec.ofNat 32 (2 ^ k) }) s

/-- A refused access is held in ACCESS_FAULT (R45, R52, R55). -/
def accessFault (p : Path) (addr : Nat) (write : Bool) (s : State) : State :=
  let v := BitVec.ofNat 32 (addr % 2 ^ 20 + pathCode p * 2 ^ 20 + bitAt 22 write + 2 ^ 31)
  raise 7 (irq (fun w => { w with accessFault := v }) s)

/-! ### NOTIFY records (R51) -/

/-- The session of a path is there to be told something. -/
def pathLive (p : Path) (s : State) : Bool :=
  match p with
  | .host => false
  | .usb => s.panel.attached && s.win.hostControl.getLsbD 8
  | .tls n => (tabGet? s.sys.sessions n).isSome

/-- A NOTIFY on one path. -/
def notify (p : Path) (addr : Nat) (s : State) : State :=
  if pathLive p s then send (.record p 0x84 0 addr 0 []) s else s

/-- A NOTIFY on every USB and TLS session. -/
def notifyAll (addr : Nat) (s : State) : State :=
  s.sys.sessions.foldl (fun t e => notify (.tls e.1) addr t) (notify .usb addr s)

/-! ### Events (R39, R445) -/

/-- A data value as a 64-bit item (R445). -/
def item (v : Int) : BitVec 64 := BitVec.ofInt 64 v

/-- The module cannot record: it is in STANDBY, and the VBAT domain keeps the event (R450). -/
def inStandby (s : State) : Bool := s.power.standby.isSome

/-- An event arises with its data (R445). -/
def emitItems (code : Nat) (items : List (BitVec 64)) (s : State) : State :=
  let e : Event := { code := code, time := s.zone, items := items, locked := s.tb.state == 2 }
  if inStandby s then { s with recorder := { s.recorder with standbyEvents := s.recorder.standbyEvents ++ [e] } }
  else { s with recorder := { s.recorder with span := s.recorder.span ++ [e] } }

/-- An event arises with integer data (R445). -/
def emit (code : Nat) (items : List Int) (s : State) : State := emitItems code (items.map item) s

/-- A guarantee of one rung yields to another: at most one YIELD event of a row in any second, the others counted (R39). -/
def yieldRow (row kept yielded : Nat) (s : State) : State :=
  match tabGet? s.sys.yields row with
  | some (at_, n) =>
    if s.tb.now < at_ + 10 ^ 9 then { s with sys := { s.sys with yields := tabSet s.sys.yields row (at_, n + 1) } }
    else emit 0x0002 [row, kept, yielded, n + 1] { s with sys := { s.sys with yields := tabSet s.sys.yields row (s.tb.now, 0) } }
  | none => emit 0x0002 [row, kept, yielded, 1] { s with sys := { s.sys with yields := tabSet s.sys.yields row (s.tb.now, 0) } }

/-! ### The gate tree (R508, R510) -/

/-- PARENT of a gate node. -/
def gateParent (n : Nat) : Option Nat :=
  if n = 1 then some 0
  else if n = 2 ∨ n = 3 ∨ n = 4 ∨ n = 5 ∨ n = 7 ∨ n = 12 then some 1
  else if 8 ≤ n ∧ n ≤ 11 then some 7
  else if 13 ≤ n ∧ n ≤ 15 then some 12
  else none

/-- Some record of a configuration, accepted or in force, has a first byte that is not 0. -/
def anyRecordOn (off size count : Nat) (b : Bytes) : Bool := (List.range count).any (fun i => fld b (off + size * i) 1 != 0)

/-- A node's own block is in use (R508). -/
def blockInUse (n : Nat) (s : State) : Bool :=
  match n with
  | 0 | 1 | 2 | 3 | 17 => true
  | 4 => s.win.role != .single || s.twin.resolve == 1 || (s.twin.nonce.isSome && !s.twin.keyed)
  | 5 => s.panel.attached
  | 6 => !s.win.qspi
  | 8 | 9 | 10 | 11 => fld (tabGet {} s.buses.can (n - 8)).cfg 0 1 != 0
  | 13 => anyRecordOn 784 16 5 s.elec.cfg || (match s.elec.pend with | none => false | some p => anyRecordOn 784 16 5 p.1)
  | 14 =>
    let on := fun (b : Bytes) => anyRecordOn 16 16 16 b || anyRecordOn 528 32 8 b
    on s.therm.cfg || (match s.therm.pend with | none => false | some p => on p.1)
  | 15 => anyRecordOn 0x110 8 16 s.io.cfg || (match s.io.pend with | none => false | some p => anyRecordOn 0x110 8 16 p.1)
  | 16 => fld s.clocks.cfg 0x08 1 != 0
  | _ => false

/-- A node and every ancestor of it. -/
def gateChain (n : Nat) : List Nat :=
  match gateParent n with
  | none => [n]
  | some p => match gateParent p with
    | none => [n, p]
    | some q => [n, p, q] ++ (match gateParent q with | none => [] | some r => [r])

/-- A node and its ancestors are turned on, their HOST_OFF marks cleared. -/
def gateOn (n : Nat) (s : State) : State :=
  (gateChain n).foldl (fun t m => { t with clocks := { t.clocks with gates := setBit t.clocks.gates m, hostOff := t.clocks.hostOff - bitAt m (bit t.clocks.hostOff m) } }) s

/-- A block put in use has its node turned on with its ancestors (R510); in STANDBY the gates stay as R507 sets them. -/
def gateFollow (s : State) : State :=
  if inStandby s then s
  else (List.range 18).foldl (fun t n => if blockInUse n t && !bit t.clocks.gates n then gateOn n t else t) s

/-! ### MODULE_STATE (R55) -/

/-- STATE changes: STATE_CHANGE is set and every session is told (R51, R56). -/
def setModState (st : ModState) (s : State) : State :=
  if s.win.st = st then s
  else
    let up := st == .ready || st == .tampered
    notifyAll 0x008 (raise 0 { s with
      win := { s.win with st := st, heartbeatAt := if up then s.tb.now else s.win.heartbeatAt }
      boot := { s.boot with readyAt := if st == .ready then some s.tb.now else none, reached := s.boot.reached || st == .ready } })

/-- POWER_STATE changes: POWER_CHANGE is set (R56). -/
def setPower (p : PowerState) (s : State) : State :=
  if s.win.power = p then s else raise 1 { s with win := { s.win with power := p } }

/-- ROLE changes: ROLE_CHANGE is set, every session is told and LAST_ROLE is written (R51, R56, R553). -/
def setRole (r : Role) (s : State) : State :=
  let s := { s with boot := { s.boot with lastRole := r } }
  if s.win.role = r then s else gateFollow (notifyAll 0x008 (raise 2 { s with win := { s.win with role := r } }))

/-- OASIS changes: OASIS_CHANGE is set (R56). -/
def setOasis (o : Bool) (s : State) : State :=
  if s.win.oasis = o then s else raise 3 { s with win := { s.win with oasis := o } }

/-! ### The progress table (R64 to R69) -/

/-- The lowest-numbered FREE progress entry (R64). -/
def freeEntry (s : State) : Option Nat := (List.range 256).find? (fun i => (tabGet? s.sys.ops i).isNone)

/-- A long operation of a kind, named by its starting command, may not start: one of its kind runs, or a firmware update is
on either side (R67). -/
def opBlocked (code : Nat) (s : State) : Bool :=
  s.sys.ops.any (fun e => e.2.state == 1 && (e.2.code == code || code == 0x0006 || e.2.code == 0x0006))

/-- A long operation is RUNNING (R64). -/
def anyRunning (s : State) : Bool := s.sys.ops.any (fun e => e.2.state == 1)

/-- A progress entry is taken by a command (R64, R66). -/
def takeEntry (n : Nat) (p : Path) (code tag mbox total : Nat) (s : State) : State :=
  let e : Progress :=
    { seq := 2, path := p, code := code, tag := tag, itemsTotal := total, start := s.zone, update := s.zone, mailbox := mbox }
  { s with sys := { s.sys with ops := tabSet s.sys.ops n e } }

/-- PERMILLE of a RUNNING entry (R66). -/
def permilleOf (done total : Nat) : Nat := min 999 (1000 * done / total)

/-- The items of a RUNNING entry advance; neither ITEMS_DONE nor PERMILLE decreases (R65, R66). -/
def progressTo (n done : Nat) (s : State) : State :=
  match tabGet? s.sys.ops n with
  | none => s
  | some e =>
    if e.state = 1 then
      let d := max e.itemsDone (min done e.itemsTotal)
      { s with sys := { s.sys with ops := tabSet s.sys.ops n { e with seq := (e.seq + 2) % 2 ^ 32, itemsDone := d, permille := max e.permille (permilleOf d e.itemsTotal), update := s.zone } } }
    else s

/-- An entry leaves RUNNING: its state, FINAL_STATUS and RESULT, its PROGRESS_DONE bit and a NOTIFY; an entry whose session has
ended is released (R64, R66, R69). -/
def endEntry (n st reason : Nat) (result : Bytes) (s : State) : State :=
  match tabGet? s.sys.ops n with
  | none => s
  | some e =>
    if e.state = 1 then
      let e' := { e with seq := (e.seq + 2) % 2 ^ 32, state := st, permille := if st = 2 then 1000 else e.permille, finalStatus := if reason = 0 then 0 else errorStatus e.code reason, update := s.zone, result := fit 192 result }
      let ops := if e.orphan then tabErase s.sys.ops n else tabSet s.sys.ops n e'
      let t := irq (fun w => { w with progressDone := w.progressDone ||| BitVec.ofNat 256 (2 ^ n) }) { s with sys := { s.sys with ops := ops } }
      if e.orphan then t else notify e.path (0x10000 + 256 * n) t
    else s

/-- An operation ends DONE with its RESULT. -/
def opDone (n : Nat) (result : Bytes) (s : State) : State := endEntry n 2 0 result s

/-- An operation ends FAILED with a reason. -/
def opFail (n reason : Nat) (s : State) : State := endEntry n 3 reason [] s

/-- The unit that runs an operation lets go of it. -/
def dropOp (n : Nat) (s : State) : State :=
  { s with
    sys := { s.sys with
      fw := s.sys.fw.filter (fun f => f.entry != n)
      readout := s.sys.readout.filter (fun f => f.entry != n) }
    model := { s.model with load := s.model.load.filter (fun f => f.entry != n) }
    solver := { s.solver with warm := s.solver.warm.filter (fun f => f.entry != n) }
    opt := { s.opt with fit := s.opt.fit.filter (fun f => f.entry != n) } }

/-- An operation ends CANCELLED (R68, reason 0x0F of R62). -/
def opCancel (n : Nat) (s : State) : State := endEntry n 4 0x0F [] (dropOp n s)

/-- An operation has passed its cancellable point: a model load whose swap is committed (R66, R100). -/
def pastPoint (n : Nat) (s : State) : Bool :=
  match s.model.pending with
  | none => false
  | some p => p.entry == some n

/-! ### Sessions (R50, R69, R72) -/

/-- A session's end: the firmware update and the model load it started are cancelled, its finished entries are released, and
its other running operations go on without it (R69, R72, R102). -/
def sessionOps (p : Path) (s : State) : State :=
  let mine := s.sys.ops.filter (fun e => e.2.path == p)
  let s := mine.foldl (fun t e => if e.2.state == 1 && (e.2.code == 0x0006 || e.2.code == 0x0401) && !pastPoint e.1 t then opCancel e.1 t else t) s
  let kept := s.sys.ops.filter (fun e => !(e.2.path == p && e.2.state != 1))
  { s with sys := { s.sys with ops := kept.map (fun e => if e.2.path == p then (e.1, { e.2 with orphan := true }) else e) } }

/-- A TLS session ends and its mailbox is free for another session (R53, R69). -/
def endTls (n : Nat) (s : State) : State :=
  match tabGet? s.sys.sessions n with
  | none => s
  | some _ =>
    let s := { s with sys := { s.sys with sessions := tabErase s.sys.sessions n } }
    send (.closed (.tls n)) (sessionOps (.tls n) s)

/-- Every TLS session ends. -/
def endAllTls (s : State) : State := s.sys.sessions.foldl (fun t e => endTls e.1 t) s

/-! ### Mailbox assignment (R53) -/

/-- The path code a word of MBOX_ASSIGN gives a mailbox. -/
def assignOf (a : BitVec 64) (k : Nat) : Nat := a.toNat / 2 ^ (2 * k) % 4

/-- The assignment written for a mailbox takes effect; a TLS session that held it is closed (R53). -/
def applyAssign (k : Nat) (s : State) : State :=
  let new := assignOf s.win.assign k
  if assignOf s.win.effAssign k = new then s
  else
    let eff := BitVec.ofNat 64 (s.win.effAssign.toNat - assignOf s.win.effAssign k * 2 ^ (2 * k) + new * 2 ^ (2 * k))
    let s := { s with win := { s.win with effAssign := eff } }
    (s.sys.sessions.filter (fun e => e.2.mbox == k)).foldl (fun t e => endTls e.1 t) s

/-- The host window is served: the module is powered, not held in a reset, its start has reached the Keeper, and STANDBY has
not yet taken the host port's power (R521, R524, R545). -/
def windowUp (s : State) : Bool :=
  !s.power.off && !s.boot.held && s.boot.failure == 0 &&
    (match s.power.standby with | none => true | some e => decide (s.tb.now < e.from_ + 20000000))

/-- The Keeper takes doorbells: STATE is READY or TAMPERED (R59). -/
def serving (s : State) : Bool := windowUp s && (s.win.st == .ready || s.win.st == .tampered)

/-- SAFE_START straps (R541). -/
def safeStart (s : State) : Bool := s.boot.straps / 2 == 0

/-- The module drives the plant: it is SINGLE or ACTIVE and not about to be the standby, its plant has started, and it has not
resigned and let go (R33, R550, R555, R561). -/
def driving (s : State) : Bool :=
  s.win.role != .standby && s.boot.plant && !s.sys.released && !s.power.off && !s.boot.held && !(s.twin.keyed && !s.twin.wantActive)

/-! ### CAN message objects (R389) -/

/-- A CAN controller. -/
def canBus (b : Nat) (s : State) : CanBus := tabGet {} s.buses.can b

/-- A message object. -/
def canObj (b o : Nat) (s : State) : CanObj := tabGet {} (canBus b s).objs o

/-- A CAN object bound as an input is an RX object (R393). -/
def canInputFits (kind src : Nat) (s : State) : Bool :=
  kind != 0x05 || fld (canObj (src / 256 % 4) (src % 256) s).record 0 1 == 1

end Sys2Proof.Machine
end

