-- ==== Sys2Proof/Machine/Blocks.lean ====
section
/-! DEFINITION. Field I/O records, fault codes and terminal blocks (R414, R417 to R419, R429). -/

namespace Sys2Proof.Machine
open Sys2Proof

/-! ### Records of the I/O configuration (R429) -/

/-- A DI record. -/
def diRec (b : Bytes) (n : Nat) : Bytes := slice b (0x10 + 8 * n) 8

/-- An AIN record. -/
def ainRec (b : Bytes) (n : Nat) : Bytes := slice b (0x110 + 8 * n) 8

/-- A DO record. -/
def doRec (b : Bytes) (n : Nat) : Bytes := slice b (0x190 + 4 * n) 4

/-- An AOUT record. -/
def aoutRec (b : Bytes) (n : Nat) : Bytes := slice b (0x1F0 + 4 * n) 4

/-- A block record. -/
def blockRec (b : Bytes) (n : Nat) : Bytes := slice b (0x210 + 16 * n) 16

/-- An interlock record. -/
def ilockRec (b : Bytes) (n : Nat) : Bytes := slice b (0x310 + 16 * n) 16

/-! ### Channels -/

/-- A digital input. -/
def di (n : Nat) (s : State) : Di := tabGet {} s.io.di n

/-- A digital input changed. -/
def setDi (n : Nat) (d : Di) (s : State) : State := { s with io := { s.io with di := tabSet s.io.di n d } }

/-- The state used by interlocks, limits and readers: the held one while CHATTERING (R408). -/
def Di.value (d : Di) : Bool := d.chatter.getD d.state

/-- Fault code of a digital input (R414). -/
def Di.code (d : Di) : Nat := if d.band ≠ 0 then d.band else if d.chatter.isSome then 7 else if d.stuck then 6 else 0

/-- A digital input is marked bad at its source: any fault but STUCK and CHATTERING (R414). -/
def Di.bad (d : Di) : Bool := d.band != 0

/-- A digital output. -/
def dout (n : Nat) (s : State) : Dout := tabGet {} s.io.dout n

/-- A digital output changed. -/
def setDout (n : Nat) (d : Dout) (s : State) : State := { s with io := { s.io with dout := tabSet s.io.dout n d } }

/-- Fault code of a digital output (R411, R412). -/
def Dout.code (d : Dout) : Nat := if d.reversed then 4 else if d.latched then 10 else if d.trip ≠ 0 then d.trip else d.test

/-- Fault code of a channel: kinds 0 DI, 1 DO, 2 AIN, 3 AOUT. -/
def ioCode (kind n : Nat) (s : State) : Nat :=
  match kind with
  | 0 => (di n s).code
  | 1 => (dout n s).code
  | 2 => (tabGet {} s.io.ain n).fault
  | _ => tabGet 0 s.io.aoutFault n

/-! ### Terminal blocks (R417 to R419) -/

/-- The I/O members of a block: kind and index. -/
def blockMembers (b : Bytes) : List (Nat × Nat) :=
  let bitsOf := fun (kind off size n : Nat) => ((List.range n).filter (fun k => bit (fld b off size) k)).map (fun k => (kind, k))
  bitsOf 0 0 4 32 ++ bitsOf 1 4 4 24 ++ bitsOf 2 8 2 16 ++ bitsOf 3 0x0C 1 8

/-- The block a channel belongs to. -/
def blockOf (kind n : Nat) (s : State) : Option Nat :=
  (List.range 16).find? (fun b => (blockMembers (blockRec s.io.cfg b)).contains (kind, n))

/-- An I/O channel can show open (R417). -/
def ioDetects (kind n : Nat) (s : State) : Bool :=
  match kind with
  | 0 => fld (diRec s.io.cfg n) 0 1 == 1
  | 1 => bit (fld (doRec s.io.cfg n) 0 1) 0
  | 2 => fld (ainRec s.io.cfg n) 0 1 != 0
  | _ => bit (fld (aoutRec s.io.cfg n) 0 1) 0

/-- The open indications of a block's open-detectable members, in a fixed order (R417). -/
def blockOpens (b : Nat) (s : State) : List Bool :=
  let r := blockRec s.io.cfg b
  let io := ((blockMembers r).filter (fun m => ioDetects m.1 m.2 s)).map (fun m => ioCode m.1 m.2 s == 1)
  let rtd := ((List.range 16).filter (fun k => bit (fld r 0x0A 2) k && fld s.therm.cfg (16 + 16 * k) 1 != 0)).map (fun k =>
    let f := (tabGet {} s.therm.chans k).fault
    decide (1 ≤ f ∧ f ≤ 3))
  let flow := ((List.range 8).filter (fun k => bit (fld r 0x0D 1) k && fld s.therm.cfg (272 + 32 * k + 1) 1 == 2)).map (fun k => (tabGet {} s.therm.flows k).fault == 1)
  io ++ rtd ++ flow

/-- A block. -/
def block (b : Nat) (s : State) : Block := tabGet {} s.io.blocks b

/-- A block changed. -/
def setBlock (b : Nat) (x : Block) (s : State) : State := { s with io := { s.io with blocks := tabSet s.io.blocks b x } }

/-- An event that arose earlier is recorded with the time at which it arose. -/
def emitEvent (e : Event) (s : State) : State :=
  if inStandby s then { s with recorder := { s.recorder with standbyEvents := s.recorder.standbyEvents ++ [e] } }
  else { s with recorder := { s.recorder with span := s.recorder.span ++ [e] } }

/-- A member's fault event: withheld while its block judges a removal, and not recorded while it is REMOVED (R418). -/
def faultEvent (kind n code clear : Nat) (s : State) : State :=
  match blockOf kind n s with
  | none => emit 0x0F01 [kind, n, code, clear] s
  | some b =>
    let x := block b s
    if x.removed then s
    else if x.span.isSome then
      let e : Event := { code := 0x0F01, time := s.zone, items := [item kind, item n, item code, item clear], locked := s.tb.state == 2 }
      setBlock b { x with held := x.held ++ [e] } s
    else emit 0x0F01 [kind, n, code, clear] s

/-- A block becomes REMOVED (R418). -/
def removeBlock (b : Nat) (s : State) : State :=
  let n := ((blockOpens b s).filter (·)).length
  emit 0x0F02 [b, 0, n] (setBlock b { block b s with removed := true, span := none, clearFrom := none } s)

/-- A block is judged after its members changed: with a presence input at once, else a first open indication opens the span; a
REMOVED block counts the time without an open member (R418, R419). -/
def scanBlock (before s : State) (b : Nat) : State :=
  let r := blockRec s.io.cfg b
  let x := block b s
  let p := fld r 0x0E 1
  let opens := blockOpens b s
  let here := p == 0xFF || (di p s).value
  if x.removed then
    let ok := here && !opens.any (·)
    if ok && x.clearFrom.isNone then setBlock b { x with clearFrom := some s.tb.now } s
    else if !ok && x.clearFrom.isSome then setBlock b { x with clearFrom := none } s else s
  else if p ≠ 0xFF then (if here then s else removeBlock b s)
  else if x.span.isNone && ((opens.zip (blockOpens b before)).any (fun e => e.1 && !e.2)) then setBlock b { x with span := some s.tb.now } s
  else s

/-- Every block is judged after a change. -/
def scanBlocks (before s : State) : State := (List.range 16).foldl (scanBlock before) s

/-- A channel's change brings its fault events and the judgement of its block: the block opens its span before the event, so that
the event waits (R414, R418). -/
def ioChange (kind n : Nat) (f : State → State) (s : State) : State :=
  let old := ioCode kind n s
  let t := scanBlocks s (f s)
  let new := ioCode kind n t
  if old = new then t
  else
    let t := if old = 0 then t else faultEvent kind n old 1 t
    if new = 0 then t else faultEvent kind n new 0 t

/-- The fault code a reader sees: TERMINAL_REMOVED in place of OPEN in a REMOVED block (R418). -/
def shownCode (kind n : Nat) (s : State) : Nat :=
  let c := ioCode kind n s
  if c = 1 && (match blockOf kind n s with | none => false | some b => (block b s).removed) then 8 else c

/-- The span of a block ends: REMOVED where every open-detectable member shows open; otherwise the events withheld are recorded
(R418). -/
def endSpan (b : Nat) (s : State) : State :=
  let x := block b s
  match x.span with
  | none => s
  | some t =>
    if s.tb.now < t + fld s.io.cfg 0 2 * 1000000 then s
    else
      let opens := blockOpens b s
      let all := opens != [] && opens.all (·)
      let s := setBlock b { x with span := none, held := [] } s
      let s := if all then removeBlock b s else s
      let keep := x.held.filter (fun e => !(all && e.items.getD 2 0 == 1))
      keep.foldl (fun u e => emitEvent e u) s

/-- A REMOVED block returns after REINSERT_MS without an open member; members with other faults report them (R419). -/
def reinsert (b : Nat) (s : State) : State :=
  let x := block b s
  match x.clearFrom with
  | none => s
  | some t =>
    if !x.removed || decide (s.tb.now < t + fld s.io.cfg 2 2 * 1000000) then s
    else
      let s := emit 0x0F02 [b, 1, 0] (setBlock b { x with removed := false, clearFrom := none } s)
      (blockMembers (blockRec s.io.cfg b)).foldl (fun u m =>
        let c := ioCode m.1 m.2 u
        if c = 0 then u else emit 0x0F01 [m.1, m.2, c, 0] u) s

end Sys2Proof.Machine
end

