-- ==== Sys2Proof/Machine/Operands.lean ====
section
/-! DEFINITION. The Ferosh command set exchange: what a command's request must fit, the order of the checks, the response
(R57 to R62), and the mailbox areas it is written to. -/

namespace Sys2Proof.Machine
open Sys2Proof

/-- The request area of a mailbox (R45). -/
def reqAddr (k : Nat) : Nat := 0x80000 + k * 0x4000

/-- The response area of a mailbox (R45). -/
def rspAddr (k : Nat) : Nat := 0x82000 + k * 0x4000

/-- The fields of a request header (R57's table). -/
structure Header where
  /-- CODE. -/
  code : Nat
  /-- FLAGS. -/
  flags : Nat
  /-- TAG. -/
  tag : Nat
  /-- LENGTH. -/
  length : Nat
  /-- CHECK. -/
  check : Nat
  /-- Reserved bytes. -/
  reserved : Bytes
deriving DecidableEq, Repr

/-- The header with a CHECK, as its 32 bytes. -/
def Header.bytes (h : Header) (check : Nat) : Bytes :=
  le 2 h.code ++ le 2 h.flags ++ le 4 h.tag ++ le 4 h.length ++ le 4 check ++ fit 16 h.reserved

/-- The header that 32 bytes hold. -/
def Header.ofBytes (b : Bytes) : Header :=
  { code := fld b 0 2, flags := fld b 2 2, tag := fld b 4 4, length := fld b 8 4, check := fld b 12 4, reserved := slice b 16 16 }

/-- The request a command works on. -/
structure Ctx where
  /-- Its mailbox. -/
  mbox : Nat
  /-- Its path. -/
  path : Path
  /-- Its code. -/
  code : Nat
  /-- Its TAG. -/
  tag : Nat
  /-- Its payload. -/
  payload : Bytes
deriving DecidableEq, Repr

/-- What a command answers. -/
inductive Reply
  /-- OK with a payload. -/
  | ok (payload : Bytes)
  /-- An error: its reason, DETAIL and payload. -/
  | err (reason detail : Nat) (payload : Bytes)
  /-- ACCEPTED with a progress entry. -/
  | accepted (entry : Nat)
  /-- The answer comes later; the mailbox stays BUSY. -/
  | deferred
deriving DecidableEq, Repr

/-- An error that no single field caused. -/
def refuse (reason : Nat) : Reply := .err reason 0xFFFF []

/-- An error caused by the payload field at an offset. -/
def refuseAt (reason off : Nat) : Reply := .err reason (32 + off) []

/-- A command of the Ferosh command set, as its owning chapter states it. -/
structure Command where
  /-- CODE. -/
  code : Nat
  /-- A module in the STANDBY role accepts it (R78). -/
  standby : Bool := false
  /-- Only the host port may give it (R467). -/
  hostOnly : Bool := false
  /-- Payload and LENGTH that fit it. -/
  len : Bytes → Nat → Bool
  /-- Its reserved payload fields: offset and size. -/
  reserved : Bytes → List (Nat × Nat) := fun _ => []
  /-- The refusals that rest on the module's state alone: the reason (R58 step 4 (f)). -/
  state : Ctx → State → Option Nat := fun _ _ => none
  /-- The ranges of its fields in ascending offset: holds, reason, offset (R58 step 4 (g)). -/
  range : Ctx → State → List (Bool × Nat × Nat) := fun _ _ => []
  /-- Its remaining checks (h) and its effect. -/
  body : Ctx → State → State × Reply

/-- LENGTH is one number. -/
def lenIs (n : Nat) : Bytes → Nat → Bool := fun _ l => l == n

/-- LENGTH is a fixed head and the bytes a length field of the head counts (R63). -/
def lenCounted (head off size : Nat) : Bytes → Nat → Bool := fun b l => decide (head ≤ l) && l == head + fld b off size

/-- Fixed reserved fields. -/
def resv (l : List (Nat × Nat)) : Bytes → List (Nat × Nat) := fun _ => l

/-- A flag field of `bits` defined bits whose reserved bits are not all 0: the field is a reserved field (R16). -/
def flagResv (b : Bytes) (off size bits : Nat) : List (Nat × Nat) := if 2 ^ bits ≤ fld b off size then [(off, size)] else []

/-- A range check with BAD_VALUE. -/
def chk (ok : Bool) (off : Nat) : Bool × Nat × Nat := (ok, 0x09, off)

/-- A field within bounds, with BAD_VALUE. -/
def inRange (b : Bytes) (off size lo hi : Nat) : Bool × Nat × Nat :=
  chk (decide (lo ≤ fld b off size) && decide (fld b off size ≤ hi)) off

/-- The first check that fails: its reason and offset. -/
def firstFail : List (Bool × Nat × Nat) → Option (Nat × Nat)
  | [] => none
  | (ok, r, off) :: t => if ok then firstFail t else some (r, off)

/-- A path's class mask lets a command through (R54). -/
def pathPermits (p : Path) (code : Nat) (s : State) : Bool :=
  code == 0x0001 || code == 0x0002 ||
    (match p with
      | .host => true
      | .usb => s.win.usbMask.getLsbD (code / 256)
      | .tls _ => s.win.tlsMask.getLsbD (code / 256))

/-- The classes accepted while STATE is TAMPERED (R62). -/
def tamperedClass (code : Nat) : Bool := code / 256 == 0x00 || code / 256 == 0x03 || code / 256 == 0x12

/-- The checks of R58 step 4, (b) to (g), in their order: the reason and DETAIL of the first failure. -/
def refusal (cmd : Command) (c : Ctx) (h : Header) (s : State) : Option (Nat × Nat) :=
  if !pathPermits c.path c.code s || (cmd.hostOnly && c.path != .host) then some (0x05, 0xFFFF)
  else if decide (8160 < h.length) || !cmd.len c.payload h.length then some (0x03, 0x08)
  else if bit h.flags 15 && crc32c (h.bytes 0 ++ c.payload) != h.check then some (0x04, 0x0C)
  else if bits h.flags 14 1 != 0 then some (0x02, 0x02)
  else if !allZero h.reserved then some (0x02, 0x10)
  else match (cmd.reserved c.payload).find? (fun f => !allZero (slice c.payload f.1 f.2)) with
  | some f => some (0x02, 32 + f.1)
  | none =>
    if s.win.st == .tampered && !tamperedClass c.code then some (0x06, 0xFFFF)
    else if s.win.role == .standby && !cmd.standby then some (0x0E, 0xFFFF)
    else match cmd.state c s with
    | some r => some (r, 0xFFFF)
    | none => (firstFail (cmd.range c s)).map (fun f => (f.1, 32 + f.2))

/-- The bytes of a response (R57's response header, then the payload). -/
def responseBytes (code status tag op detail time : Nat) (payload : Bytes) : Bytes :=
  let h := fun (check : Nat) =>
    le 2 code ++ le 2 status ++ le 4 tag ++ le 4 payload.length ++ le 4 check ++ le 2 op ++ le 2 detail ++ le 8 time ++ zeros 4
  h (crc32c (h 0 ++ payload)) ++ payload

/-- Status, OP_INDEX, DETAIL and payload of a reply (R57, R61). -/
def replyFields (code : Nat) : Reply → Nat × Nat × Nat × Bytes
  | .ok p => (0x0000, 0xFFFF, 0xFFFF, p)
  | .err r d p => (errorStatus code r, 0xFFFF, d, p)
  | .accepted n => (0x0001, n, 0xFFFF, [])
  | .deferred => (0x0000, 0xFFFF, 0xFFFF, [])

/-- Step 6 of the exchange: the response is written, MBOX_COMPLETE set and MBOX_BUSY cleared, the trace entry is made, a waiting
assignment takes effect and a NOTIFY follows (R53, R58, R81). A mailbox that is not BUSY has nothing to complete. -/
def finish (k : Nat) (rep : Reply) (s : State) : State :=
  match tabGet? s.win.taken k with
  | none => s
  | some t =>
    let f := replyFields t.code rep
    let rsp := responseBytes t.code f.1 t.tag f.2.1 f.2.2.1 s.zone f.2.2.2
    let tr := le 2 t.code ++ le 2 t.flags ++ le 4 t.tag ++ le 4 t.length ++ le 8 s.zone ++ zeros 12
    let s := { s with sys := { s.sys with trace := (s.sys.trace ++ [tr]).drop (s.sys.trace.length - 1023) } }
    let s := irq (fun w => { w with mem := Memory.write w.mem (rspAddr k) rsp, complete := w.complete ||| BitVec.ofNat 32 (2 ^ k), busy := w.busy &&& ~~~ BitVec.ofNat 32 (2 ^ k), taken := tabErase w.taken k }) s
    notify t.path (0x80000 + k * 0x4000) (applyAssign k s)

/-- Step 3 of the exchange: the doorbell is taken, MBOX_COMPLETE cleared, MBOX_BUSY set and the request copied (R43, R58). -/
def takeRequest (k : Nat) (p : Path) (h : Header) (payload : Bytes) (s : State) : State :=
  let t : Taken := { code := h.code, flags := h.flags, tag := h.tag, path := p, length := h.length, payload := payload }
  let m := BitVec.ofNat 32 (2 ^ k)
  irq (fun w => { w with complete := w.complete &&& ~~~ m, busy := w.busy ||| m, rung := w.rung &&& ~~~ m, rungAt := tabErase w.rungAt k, rungBy := tabErase w.rungBy k, lastServed := k, taken := tabSet w.taken k t }) s

/-- Steps 4 to 6 of the exchange for a request that has been taken; a change that puts a block in use turns its gate on (R510). -/
def serve (cmd : Option Command) (k : Nat) (p : Path) (h : Header) (payload : Bytes) (s : State) : State :=
  let s := takeRequest k p h payload s
  match cmd with
  | none => finish k (.err 0x01 0xFFFF []) s
  | some cmd =>
    let c : Ctx := { mbox := k, path := p, code := h.code, tag := h.tag, payload := payload }
    match refusal cmd c h s with
    | some (r, d) =>
      finish k (.err r d []) { s with win := { s.win with checkFailedCount := (s.win.checkFailedCount + b2n (r == 0x04)) % 2 ^ 32 } }
    | none =>
      match cmd.body c s with
      | (t, .deferred) => gateFollow t
      | (t, rep) => finish k rep (gateFollow t)

/-- A BARRIER request must still wait: a command taken earlier on its path, or a long operation one started, is not complete (R77). -/
def barrierHeld (p : Path) (flags : Nat) (s : State) : Bool :=
  bit flags 0 && (s.win.taken.any (fun e => e.2.path == p) || s.sys.ops.any (fun e => e.2.state == 1 && e.2.path == p))

/-- A path reaches a mailbox: the host port reaches every one, USB and TLS those assigned to them (R52, R53). -/
def reaches (p : Path) (k : Nat) (s : State) : Bool :=
  windowUp s &&
    (match p with
      | .host => true
      | .usb => pathLive .usb s && assignOf s.win.effAssign k == 1
      | .tls n => (match tabGet? s.sys.sessions n with | none => false | some e => e.mbox == k))

/-- A TLS session has sent a record (R50). -/
def touchTls (p : Path) (s : State) : State :=
  match p with
  | .tls n =>
    (match tabGet? s.sys.sessions n with
      | none => s
      | some e => { s with sys := { s.sys with sessions := tabSet s.sys.sessions n { e with lastRecord := s.tb.now } } })
  | _ => s

/-- The mailbox is rung and waits to be taken (R58 step 2, R59). -/
def hold (k : Nat) (p : Path) (s : State) : State :=
  { s with win := { s.win with rung := s.win.rung ||| BitVec.ofNat 32 (2 ^ k), rungAt := tabSet s.win.rungAt k s.tb.now, rungBy := tabSet s.win.rungBy k p } }

/-- A doorbell for a BUSY mailbox is discarded and RING_WHILE_BUSY set (R59). -/
def ringBusy (s : State) : State :=
  raise 6 { s with win := { s.win with ringBusyCount := (s.win.ringBusyCount + 1) % 2 ^ 32 } }

/-- The payload a request area holds after a request is written over it: the bytes written, then what stood there before. -/
def payloadIn (k length : Nat) (written : Bytes) (s : State) : Bytes :=
  let n := min length 8160
  written.take n ++ Memory.read s.win.mem (reqAddr k + 32 + written.length) (n - written.length)

/-- A whole exchange of one command: the request is written to its mailbox and rung; it is discarded where the mailbox is BUSY or
out of the path's reach (R52, R59), held while STATE is BOOTING, discarded while it is FATAL, held behind a BARRIER (R77), and
else taken, checked, executed and answered. -/
def exchange (cmd : Command) (r : Request) (s : State) : State :=
  let k := r.mbox.val
  let h : Header := { code := cmd.code, flags := r.flags.toNat, tag := r.tag.toNat, length := r.length.toNat, check := r.check.toNat, reserved := r.reserved }
  if !windowUp s then s
  else if !reaches r.path k s then
    (match r.path with | .host => s | _ => accessFault r.path (reqAddr k) true s)
  else
    let s := touchTls r.path s
    if s.win.busy.getLsbD k then ringBusy (accessFault r.path (reqAddr k) true s)
    else
      let pay := payloadIn k h.length r.payload s
      let s := { s with win := { s.win with mem := Memory.write s.win.mem (reqAddr k) ((h.bytes h.check ++ r.payload).take 0x2000) } }
      let s := if r.path = .host then irqWrite id s else s
      if s.win.st = .fatal then s
      else if s.win.st = .booting || barrierHeld r.path h.flags s then hold k r.path s
      else serve (some cmd) k r.path h pay s

/-- The meaning of a row of the Ferosh command set: time passes, then the exchange (log 5). -/
def runCommand (cmd : Command) (dt : Nat) (r : Request) (s : State) : Host.Outcome State Fault Refusal :=
  .next (exchange cmd r (advance dt s))

end Sys2Proof.Machine
end

