-- ==== Sys2Proof/Machine/Link.lean ====
section
/-! DEFINITION. The Ferosh field protocol and the twin link as shared operations: sending, receiving and its checks, WRITEs,
items and their acknowledgement (R234 to R252). -/

namespace Sys2Proof.Machine
open Sys2Proof

/-! ### Grids of zone time (R25) -/

/-- The epoch length in ns (R145). -/
def epochNs (s : State) : Nat := fld s.solver.cfg 0 4 * 1000000

/-- The first multiple of a length after an instant. -/
def nextGrid (len t : Nat) : Nat := if len = 0 then t else (t / len + 1) * len

/-- The next epoch instant (R25). -/
def nextEpoch (s : State) : Nat := nextGrid (epochNs s) s.zone

/-! ### Who speaks (R33, R234, R472, R561) -/

/-- A slot of the key register. -/
def keySlot (n : Nat) (s : State) : KeySlot := tabGet {} s.sec.slots n

/-- A key slot is LOADED. -/
def keyLoaded (n : Nat) (s : State) : Bool := (keySlot n s).state == 1

/-- The switch and its PHYs run (R544, R545 step 7). -/
def switchUp (s : State) : Bool := windowUp s && s.boot.restored && (s.win.power == .active || s.win.power == .quiet)

/-- FFP is in service: ZONE_PREFIX is not 0 (R234). -/
def ffpOn (s : State) : Bool := switchUp s && !allZero (slice s.net.cfg 0 8)

/-- The module sends as node 0x0000: FFP is in service, the node keys can be derived, its role is resolved and not STANDBY, and it
has not let go of the address (R472, R484, R561). -/
def speaks (s : State) : Bool :=
  ffpOn s && keyLoaded 1 s && s.win.role != .standby && s.boot.resolvedAt.isSome && !s.sys.released

/-- A port of the switch. -/
def port (n : Nat) (s : State) : Port := tabGet {} s.net.ports n

/-- A port's link is up. -/
def portUp (n : Nat) (s : State) : Bool := (port n s).link == 1

/-- A port's record is changed. -/
def setPort (n : Nat) (f : Port → Port) (s : State) : State :=
  { s with net := { s.net with ports := tabSet s.net.ports n (f (port n s)) } }

/-- The uplinks a frame of the module's own leaves on (R218). -/
def uplinksOut (s : State) : List Nat :=
  if fld s.net.cfg 0x0A 1 = 1 then [1, 2].filter (fun p => portUp p s)
  else if portUp 1 s then [1] else if portUp 2 s then [2] else []

/-- The ports a frame to a node leaves on: the T1L port it was last heard on, else the uplinks; a broadcast on every port in
service (R217, R218, R246). -/
def portsTo (dst : Nat) (s : State) : List Nat :=
  if dst = 0xFFFF then uplinksOut s ++ ((List.range 8).map (· + 3)).filter (fun p => portUp p s)
  else match tabGet? s.net.nodes dst with
    | some n => if 3 ≤ n.port ∧ n.port ≤ 10 then [n.port].filter (fun p => portUp p s) else uplinksOut s
    | none => uplinksOut s

/-- The next SEQ is used: SEQ[31:0] counts, and SENDER_EPOCH advances when it wraps (R237). -/
def bumpSeq (n : Net) : Net :=
  if n.seqLow + 1 < 2 ^ 32 then { n with seqLow := n.seqLow + 1 } else { n with seqLow := 0, senderEpoch := (n.senderEpoch + 1) % 2 ^ 32 }

/-- An FFP frame is sent from node 0x0000 (R235 to R237). -/
def sendFfp (type dst : Nat) (body : Bytes) (s : State) : State :=
  if !speaks s then s
  else
    let seq := s.net.senderEpoch * 2 ^ 32 + s.net.seqLow
    let o := Output.ffp type dst (b2n (s.tb.state == 2)) s.sec.keyEpoch seq body
    let t := (portsTo dst s).foldl (fun t p => setPort p (fun q => { q with tx := (q.tx + 1) % 2 ^ 32 }) t) s
    send o { t with net := bumpSeq { t.net with txFrames := (t.net.txFrames + 1) % 2 ^ 32 } }

/-- A NAK answers an authenticated frame whose content cannot be taken (R239, R247). -/
def sendNak (f : FfpFrame) (code : Nat) (s : State) : State :=
  if !speaks s then s
  else sendFfp 0x07 f.src (le 8 f.seq ++ le 1 f.type ++ le 1 code ++ zeros 2) { s with net := { s.net with nakSent := (s.net.nakSent + 1) % 2 ^ 32 } }

/-! ### Receiving (R216, R218, R237, R238) -/

/-- A frame is discarded for a reason of R238. -/
def discard (code : Nat) (s : State) : State :=
  { s with net := { s.net with discards := tabSet s.net.discards code ((tabGet 0 s.net.discards code + 1) % 2 ^ 32) } }

/-- The UDP port a message type belongs to (R239). -/
def typePort (t : Nat) : Option Nat := if 1 ≤ t ∧ t ≤ 7 then some 49312 else if t = 0x10 then some 49313 else none

/-- The module holds the node keys of a key epoch: KEY_EPOCH, and during a rollover the next or the former one (R472, R473). -/
def holdsEpoch (e : Nat) (s : State) : Bool :=
  keyLoaded 1 s && (e == s.sec.keyEpoch || (match s.sec.roll with | none => false | some r => r.next == e || r.old == some e))

/-- A SEQ is fresh in a window: above the highest accepted, or within the 64 below it and not seen (R237). -/
def SeqWin.fresh (w : SeqWin) (q : Nat) : Bool :=
  decide (w.high < q) || (decide (q < w.high) && decide (w.high - q ≤ 64) && !w.seen.getLsbD (w.high - q - 1))

/-- The window after a SEQ has been accepted. -/
def SeqWin.take (w : SeqWin) (q : Nat) : SeqWin :=
  if w.high < q then { w with high := q, seen := (w.seen <<< (q - w.high)) ||| BitVec.ofNat 64 (2 ^ (q - w.high - 1) % 2 ^ 64) }
  else { w with seen := w.seen ||| BitVec.ofNat 64 (2 ^ (w.high - q - 1)) }

/-- The replay window of a sender's key. -/
def Node.window (n : Node) (key : Nat) : Option SeqWin := n.wins.find? (fun w => w.key == key)

/-- A SEQ is accepted into the replay window of its key; one window is kept per key epoch held. -/
def Node.takeSeq (n : Node) (key q : Nat) : Node :=
  match n.window key with
  | some w => { n with wins := n.wins.map (fun v => if v.key = key then w.take q else v) }
  | none => { n with wins := ({ key := key, high := q, seen := 0 } :: n.wins).take 8 }

/-- The key a frame is protected by, as the replay windows name it. -/
def frameKey (f : FfpFrame) : Nat := f.keyEpoch * 2 + b2n (f.dst == 0xFFFF)

/-- The first check of R238 that a frame fails. -/
def discardReason (f : FfpFrame) (s : State) : Option Nat :=
  let me := if s.win.role = .standby ∨ s.sys.released then 0xFFFE else 0x0000
  if f.udpLen < 40 ∨ f.length + 40 ≠ f.udpLen then some 1
  else if f.version ≠ 1 then some 2
  else if f.dst ≠ me ∧ f.dst ≠ 0xFFFF then some 3
  else if f.sender ≠ some f.src then some 4
  else if (typePort f.type).isSome ∧ typePort f.type ≠ some f.udpPort then some 5
  else if !holdsEpoch f.keyEpoch s then some 6
  else if !f.tagOk then some 7
  else if (match (tabGet {} s.net.nodes f.src).window (frameKey f) with | none => false | some w => !w.fresh f.seq) then some 8
  else if 4096 ≤ f.queued then some 10
  else none

/-- A frame whose duplicate the PRP window holds is a second copy (R218). -/
def prpDuplicate (f : FfpFrame) (s : State) : Bool :=
  match f.rct with
  | none => false
  | some (a, q) => (f.port == 1 || f.port == 2) && fld s.net.cfg 0x0A 1 == 1 &&
      s.net.prpSeen.any (fun e => e.1 == a && e.2.1 == q && decide (s.tb.now < e.2.2 + 400000000))

/-- A first copy enters the PRP window of 1,024 entries (R218). -/
def prpEnter (f : FfpFrame) (s : State) : State :=
  match f.rct with
  | none => s
  | some (a, q) => { s with net := { s.net with prpSeen := (s.net.prpSeen ++ [(a, q, s.tb.now)]).drop (s.net.prpSeen.length - 1023) } }

/-- An authenticated frame was heard: the node is ONLINE, its replay window and uplink validity advance (R220, R237, R248). A first
frame changes the node's state too (log 10). -/
def heard (f : FfpFrame) (s : State) : State :=
  let n := tabGet {} s.net.nodes f.src
  let n' := { n.takeSeq (frameKey f) f.seq with state := 1, port := f.port, flags := f.flags % 8, lastHeard := s.zone, heardAt := s.tb.now, returned := if n.state = 2 then 31 else n.returned }
  let up := if f.port = 1 ∨ f.port = 2 then s.tb.now else s.net.uplinkValid
  let s := { s with net := { s.net with nodes := tabSet s.net.nodes f.src n', uplinkValid := up } }
  if n.state ≠ 1 ∧ f.src ≠ 0 then emit 0x0801 [f.src, 1] s else s

/-- A frame comes in: the switch's rules, then the checks of R238. The flag says that the frame is authenticated and taken. -/
def receiveFfp (f : FfpFrame) (s : State) : State × Bool :=
  if !ffpOn s || !(decide (1 ≤ f.port ∧ f.port ≤ 10)) || !portUp f.port s then (s, false)
  else
    let s := setPort f.port (fun q => { q with rx := (q.rx + 1) % 2 ^ 32 }) s
    if f.vid.isSome ∧ f.vid ≠ some (fld s.net.cfg 8 2) then (setPort f.port (fun q => { q with disc := (q.disc + 1) % 2 ^ 32 }) s, false)
    else if prpDuplicate f s then (setPort f.port (fun q => { q with dup := (q.dup + 1) % 2 ^ 32 }) s, false)
    else
      let s := prpEnter f s
      let s := { s with net := { s.net with rxFrames := (s.net.rxFrames + 1) % 2 ^ 32 } }
      match discardReason f s with
      | some r =>
        let s := discard r s
        if r = 7 then
          let n := tabGet {} s.net.nodes f.src
          ({ s with net := { s.net with nodes := tabSet s.net.nodes f.src { n with authFails := min 0xFFFF (n.authFails + 1) } } }, false)
        else (s, false)
      | none => (heard f s, true)

/-- The header checks that NAK a frame of any type: an undefined type, a reserved field, a module that is starting (R247). -/
def nakHeader (f : FfpFrame) (s : State) : Option Nat :=
  if (typePort f.type).isNone then some 0x01
  else if 8 ≤ f.flags ∨ f.reserved ≠ 0 then some 0x03
  else if !s.boot.plant && s.win.role != .standby then some 0x04
  else none

/-- A frame of a type the row names is taken by its content; any other frame that is authenticated is NAKed or let pass. -/
def onFrame (type : Nat) (f : FfpFrame) (content : State → State) (s : State) : State :=
  match receiveFfp f s with
  | (s, false) => s
  | (s, true) =>
    if f.type = 0x07 then (if type = 0x07 then content s else s)
    else match nakHeader f s with
      | some c => sendNak f c s
      | none => if f.type = type then content s else s

/-! ### WRITEs to nodes (R244, R245, R249) -/

/-- The delivery status of channels is set: 0 PENDING, 1 APPLIED, 2 UNDELIVERED, 3 + outcome REFUSED (R249, R341). -/
def setDelivery (node : Nat) (l : List (Nat × Nat)) (s : State) : State :=
  { s with net := { s.net with delivery := l.foldl (fun t e => tabSet t (node * 256 + e.1) e.2) s.net.delivery } }

/-- The body of a WRITE (R244). -/
def writeBody (id : Nat) (entries : List (Nat × Nat)) : Bytes :=
  le 4 id ++ le 1 entries.length ++ zeros 3 ++ entries.flatMap (fun e => le 1 e.1 ++ zeros 3 ++ le 4 e.2)

/-- A WRITE has not been delivered: its entries are UNDELIVERED, counted and recorded (R245, R249). -/
def undelivered (node id : Nat) (entries : List (Nat × Nat)) (s : State) : State :=
  let s := setDelivery node (entries.map (fun e => (e.1, 2))) s
  emit 0x0802 [node, id] { s with net := { s.net with undelivered := (s.net.undelivered + 1) % 2 ^ 32 } }

/-- A WRITE is sent to a node, or is UNDELIVERED at once where the node is SILENT (R249). -/
def sendWrite (node : Nat) (entries : List (Nat × Nat)) (s : State) : State :=
  let id := s.net.nextWrite
  let s := { s with net := { s.net with nextWrite := (s.net.nextWrite + 1) % 2 ^ 32 } }
  if (tabGet {} s.net.nodes node).state = 2 then undelivered node id entries s
  else
    let w : Write := { node := node, entries := entries, sends := 1, last := s.tb.now }
    let s := setDelivery node (entries.map (fun e => (e.1, 0))) { s with net := { s.net with writes := tabSet s.net.writes id w } }
    sendFfp 0x03 node (writeBody id entries) s

/-! ### Announcements (R246) -/

/-- ANNOUNCE is broadcast. -/
def announce (s : State) : State :=
  if !speaks s then s
  else sendFfp 0x06 0xFFFF (le 4 s.net.senderEpoch ++ le 1 1 ++ zeros 3 ++ le 8 s.zone) { s with net := { s.net with announced := some s.tb.now } }

/-! ### The twin link (R250 to R252) -/

/-- The link keys are in force and this module is the active one of the pair, or is to be (R555, R557). -/
def feedsTwin (s : State) : Bool := s.twin.keyed && s.twin.wantActive && !s.sys.released

/-- A twin frame is sent: one SEQ for every fragment of at most 4,096 bytes (R250, R251). -/
def sendTwin (type item : Nat) (data : Bytes) (s : State) : State :=
  send (.twin type item data) { s with twin := { s.twin with txSeq := s.twin.txSeq + max 1 ((data.length + 4095) / 4096) } }

/-- An item is replicated to the standby; one that asks for an acknowledgement waits for it. The item's number is answered where
there is a standby (R32, R251, R252). -/
def replicate (type : Nat) (ack : Bool) (data : Bytes) (s : State) : State × Option Nat :=
  if !feedsTwin s then (s, none)
  else
    let id := s.twin.nextItem
    let it : TwinItem := { id := id, type := type, data := data, sent := s.tb.now }
    let s := { s with twin := { s.twin with nextItem := (id + 1) % 2 ^ 32, unacked := if ack then s.twin.unacked ++ [it] else s.twin.unacked } }
    (sendTwin type id data s, some id)

/-- A twin frame comes in: a tag that fails is counted, a valid frame keeps the partner live (R34, R251). -/
def receiveTwin (h : TwinHead) (s : State) : State × Bool :=
  if !s.twin.keyed then (s, false)
  else if !h.tagOk then ({ s with twin := { s.twin with badFrames := s.twin.badFrames + 1 } }, false)
  else ({ s with twin := { s.twin with lastValid := s.tb.now, rxSeq := h.seq } }, true)

/-- An item is acknowledged: RESULT 0 durable, 1 not stored (R251). -/
def ackItem (type item result : Nat) (s : State) : State :=
  sendTwin 0x03 item (le 4 item ++ le 1 type ++ le 1 result ++ zeros 2) s

/-- An item comes in on the standby: applied and acknowledged the first time, acknowledged again when it is repeated (R251). -/
def takeItem (type : Nat) (h : TwinHead) (apply : State → State) (s : State) : State :=
  match receiveTwin h s with
  | (s, false) => s
  | (s, true) =>
    if s.twin.wantActive then s
    else if s.twin.received.contains h.item then ackItem type h.item 0 s
    else
      let s := apply s
      ackItem type h.item 0 { s with twin := { s.twin with received := (h.item :: s.twin.received).take 4096 } }

end Sys2Proof.Machine
end

