-- ==== Sys2Proof/Machine/Float.lean ====
section
/-! DEFINITION. binary32 and binary64 as their bits, over exact rationals: decoding, rounding to nearest with ties to even,
and range checks against bounds rounded to the format (R86, R593). -/

namespace Sys2Proof.Machine
open Sys2Proof

/-- The quotient rounded to nearest, ties to even. -/
def roundDiv (n d : Nat) : Nat :=
  let q := n / d
  let r := n % d
  if 2 * r < d then q else if d < 2 * r then q + 1 else q + q % 2

/-- The bits of the float nearest to ± n / d, with `p` bits of significand and `eb` bits of exponent. -/
def packFloat (p eb : Nat) (neg : Bool) (n d : Nat) : Nat :=
  let sign := bitAt (p + eb - 1) neg
  if n = 0 ∨ d = 0 then sign
  else
    let bias : Int := 2 ^ (eb - 1) - 1
    let e0 : Int := (Nat.log2 n : Int) - Nat.log2 d
    let below : Bool := if 0 ≤ e0 then decide (n < d * 2 ^ e0.toNat) else decide (n * 2 ^ (-e0).toNat < d)
    let e := max (if below then e0 - 1 else e0) (1 - bias)
    let sh : Int := (p : Int) - 1 - e
    let m := if 0 ≤ sh then roundDiv (n * 2 ^ sh.toNat) d else roundDiv n (d * 2 ^ (-sh).toNat)
    let v := (e + bias - 1).toNat * 2 ^ (p - 1) + m
    let inf := (2 ^ eb - 1) * 2 ^ (p - 1)
    sign + min v inf

/-- The binary32 nearest to a rational. -/
def toF32 (q : Rat) : Nat := packFloat 24 8 (decide (q < 0)) q.num.natAbs q.den

/-- The binary64 nearest to a rational. -/
def toF64 (q : Rat) : Nat := packFloat 53 11 (decide (q < 0)) q.num.natAbs q.den

/-- The rational a finite float's bits stand for. -/
def floatRat (p eb v : Nat) : Rat :=
  let f := v % 2 ^ (p - 1)
  let e := v / 2 ^ (p - 1) % 2 ^ eb
  let neg := decide (v / 2 ^ (p + eb - 1) % 2 = 1)
  let m : Nat := if e = 0 then f else f + 2 ^ (p - 1)
  let x : Int := ((if e = 0 then 1 else e : Nat) : Int) - (2 ^ (eb - 1) - 1) - ((p : Int) - 1)
  let a : Rat := if 0 ≤ x then ((m * 2 ^ x.toNat : Nat) : Rat) else mkRat m (2 ^ (-x).toNat)
  if neg then -a else a

/-- The rational of a binary32. -/
def f32Rat (v : Nat) : Rat := floatRat 24 8 v

/-- The rational of a binary64. -/
def f64Rat (v : Nat) : Rat := floatRat 53 11 v

/-- A binary32 that is neither NaN nor infinite. -/
def f32Finite (v : Nat) : Bool := v / 2 ^ 23 % 2 ^ 8 != 255

/-- A binary64 that is neither NaN nor infinite. -/
def f64Finite (v : Nat) : Bool := v / 2 ^ 52 % 2 ^ 11 != 2047

/-- A binary32 NaN. -/
def f32NaN (v : Nat) : Bool := v / 2 ^ 23 % 2 ^ 8 == 255 && v % 2 ^ 23 != 0

/-- The binary64 that equals a binary32 (R445); an infinity or NaN keeps its kind. -/
def f32to64 (v : Nat) : Nat :=
  if f32Finite v then packFloat 53 11 (decide (v / 2 ^ 31 % 2 = 1)) (f32Rat v).num.natAbs (f32Rat v).den
  else v / 2 ^ 31 % 2 * 2 ^ 63 + 0x7FF * 2 ^ 52 + v % 2 ^ 23 * 2 ^ 29

/-- A binary32 is finite and lies within bounds rounded to its format (R593). -/
def f32In (v : Nat) (lo hi : Rat) : Bool :=
  f32Finite v && decide (f32Rat (toF32 lo) ≤ f32Rat v) && decide (f32Rat v ≤ f32Rat (toF32 hi))

/-- A binary32 is finite and at least a bound rounded to its format (R593). -/
def f32AtLeast (v : Nat) (lo : Rat) : Bool := f32Finite v && decide (f32Rat (toF32 lo) ≤ f32Rat v)

/-- A binary32 of a model row: normal or zero (R86). -/
def f32Model (v : Nat) : Bool := f32Finite v && (v / 2 ^ 23 % 2 ^ 8 != 0 || v % 2 ^ 31 == 0)

/-- A power of ten as a rational. -/
def dec (n : Int) (e : Nat) : Rat := mkRat n (10 ^ e)

/-- The integer nearest to a rational, ties to even. -/
def roundRat (q : Rat) : Int :=
  let m := roundDiv q.num.natAbs q.den
  if q < 0 then -(m : Int) else m

/-- The integer square root. -/
def isqrtLoop : Nat → Nat → Nat → Nat
  | 0, _, r => r
  | k + 1, n, r => let c := r + 2 ^ k; isqrtLoop k n (if c * c ≤ n then c else r)

/-- The greatest integer whose square is at most `n`. -/
def isqrt (n : Nat) : Nat := isqrtLoop (Nat.log2 n / 2 + 1) n 0

/-- The binary32 nearest to the square root of n / d: 40 bits below the result's last place decide the rounding. -/
def sqrtF32 (n d : Nat) : Nat :=
  if n = 0 ∨ d = 0 then 0
  else
    let k := 80 + 2 * Nat.log2 d
    let r := isqrt (n * 2 ^ (2 * k) / d)
    let sticky := if r * r * d = n * 2 ^ (2 * k) then 0 else 1
    packFloat 24 8 false (2 * r + sticky) (2 ^ (k + 1))

end Sys2Proof.Machine
end

