-- ==== Sys2Proof/Machine/Meter.lean ====
section
/-! DEFINITION. The metering engines as operations: registers, the sums of a feed's samples, latches, the thermal step, saves,
restoring and takeover (R257 to R274, R281 to R299). -/

namespace Sys2Proof.Machine
open Sys2Proof

/-! ### Registers (R267, R292) -/

/-- VALUE, WRAP and RESIDUE as one number in 2⁻³² of the LSB. -/
def Reg.total (r : Reg) : Nat := r.wrap.toNat * 2 ^ 96 + r.value.toNat * 2 ^ 32 + r.residue.toNat

/-- The register that holds a number in 2⁻³² of the LSB. -/
def Reg.ofTotal (t : Nat) : Reg :=
  { value := BitVec.ofNat 64 (t / 2 ^ 32), wrap := BitVec.ofNat 16 (t / 2 ^ 96), residue := BitVec.ofNat 32 t }

/-- A register advanced by a number of 2⁻³² LSB; every fraction is carried (R267). -/
def Reg.advance (r : Reg) (d : Nat) : Reg := Reg.ofTotal (r.total + d)

/-- The register of record: the replicated value plus what the own register has gained since its snapshot (R35, R274). -/
def Reg.ofRecord (repl own snap : Reg) : Reg := Reg.ofTotal ((repl.total + own.total + 2 ^ 112 - snap.total) % 2 ^ 112)

/-- A register's 16 bytes in a register reading: VALUE, WRAP, reserved (R279). -/
def Reg.bytes (r : Reg) : Bytes := le 8 r.value.toNat ++ le 2 r.wrap.toNat ++ zeros 6

/-- The largest whole number not above a rational, 0 for a negative one. -/
def floorNat (q : Rat) : Nat := (q.num / q.den).toNat

/-- The quiet NaN an undefined field reads as. -/
def qNaN : Nat := 0x7FC00000

/-! ### Feeds -/

/-- A feed. -/
def feed (f : Nat) (s : State) : Feed := tabGet {} s.elec.feeds f

/-- A feed changed. -/
def setFeed (f : Nat) (x : Feed) (s : State) : State := { s with elec := { s.elec with feeds := tabSet s.elec.feeds f x } }

/-- The record of a feed in an 864-byte configuration (R277). -/
def feedRec (b : Bytes) (f : Nat) : Bytes := slice b (784 + 16 * f) 16

/-- The record of a channel, 0 to 7 for MV and 8 to 23 for MI. -/
def chanRec (b : Bytes) (c : Nat) : Bytes := slice b (16 + 32 * c) 32

/-- WIRING. -/
def wiring (r : Bytes) : Nat := fld r 0 1

/-- Voltage channels of a feed's set. -/
def vChannels (r : Bytes) : List Nat := (List.range (if wiring r = 2 then 2 else 3)).map (fun k => fld r 1 1 + k)

/-- Current channels of a feed by their number 8 to 23, the neutral included. -/
def iChannels (r : Bytes) : List Nat :=
  (List.range 3).map (fun k => 8 + fld r 2 1 + k) ++ (if fld r 3 1 = 0xFF then [] else [8 + fld r 3 1])

/-- SAMPLE_COUNT (R260). -/
def sampleCount (s : State) : Nat := (s.elec.sampleBase + s.tb.now / 31250) % 2 ^ 64

/-- The zone time of the latest sample, where a save cuts every feed and pair (R271). -/
def cutZone (s : State) : Nat := (s.tb.zone32 - (s.tb.now / 8 - s.tb.now / 31250 * 31250 / 8) * s.tb.incr) / 2 ^ 32

/-- The present instant in 2⁻¹⁶ samples. -/
def samplePos (s : State) : Nat := s.elec.sampleBase * 65536 + s.tb.now * 65536 / 31250

/-- One sample added to sums (R263). -/
def addSample (w : Nat) (a : CycleAcc) (x : MeterSample) : CycleAcc :=
  let v := fun (k : Nat) => x.v.getD k 0
  let q := fun (k : Nat) => x.vq.getD k 0
  let i := fun (k : Nat) => x.i.getD k 0
  let sq := fun (y : Int) => y.natAbs * y.natAbs
  let p4 := [v 0 * i 0, v 1 * i 1, v 2 * i 2]
  let p3 := [v 0 * i 0, v 1 * i 2, 0]
  let q4 := [q 0 * i 0, q 1 * i 1, q 2 * i 2]
  let q3 := [q 0 * i 0, q 1 * i 2, 0]
  let d := if w = 2 then [v 0, v 1, v 0 - v 1] else [v 0 - v 1, v 1 - v 2, v 2 - v 0]
  { a with
    samples := a.samples + 1
    p := List.zipWith (· + ·) a.p (if w = 2 then p3 else p4)
    q := List.zipWith (· + ·) a.q (if w = 2 then q3 else q4)
    v2 := List.zipWith (· + ·) a.v2 (if w = 2 then [sq (v 0), sq (v 1), 0] else [sq (v 0), sq (v 1), sq (v 2)])
    vll2 := List.zipWith (· + ·) a.vll2 (d.map sq)
    i2 := List.zipWith (· + ·) a.i2 [sq (i 0), sq (i 1), sq (i 2)]
    n2 := a.n2 + sq x.n }

/-- Two sums joined. -/
def CycleAcc.add (a b : CycleAcc) : CycleAcc :=
  { samples := a.samples + b.samples, p := List.zipWith (· + ·) a.p b.p, q := List.zipWith (· + ·) a.q b.q,
    v2 := List.zipWith (· + ·) a.v2 b.v2, vll2 := List.zipWith (· + ·) a.vll2 b.vll2, i2 := List.zipWith (· + ·) a.i2 b.i2,
    n2 := a.n2 + b.n2, clip := a.clip ++ b.clip }

/-- Products summed over samples of 31.25 µs, in 2⁻³² of 1 µWh: 31.25 µs ÷ 3.6 mJ is 5 ÷ 576. -/
def energyOf (x : Nat) : Nat := x * 5 / 576

/-- Σ of the phase products, and of the reactive ones. -/
def CycleAcc.totals (a : CycleAcc) : Int × Int := (a.p.sum, a.q.sum)

/-- S_TOTAL × M in the unit of the products (R263). -/
def CycleAcc.apparent (w : Nat) (a : CycleAcc) : Nat :=
  if w = 2 then isqrt (a.totals.1.natAbs ^ 2 + a.totals.2.natAbs ^ 2) else (List.zipWith (fun x y => isqrt (x * y)) a.v2 a.i2).sum

/-- What a part of a cycle adds to the 16 registers, classified by its own net signs (R267). -/
def feedAdvance (w : Nat) (a : CycleAcc) : List Nat :=
  let pt := a.totals.1
  let qt := a.totals.2
  let ph := fun (k : Nat) (neg : Bool) =>
    let x := a.p.getD k 0
    if w = 2 ∨ decide (x < 0) ≠ neg then 0 else energyOf x.natAbs
  let quad := if 0 ≤ qt then (if 0 ≤ pt then 0 else 1) else (if pt < 0 then 2 else 3)
  [ph 0 false, ph 1 false, ph 2 false, ph 0 true, ph 1 true, ph 2 true,
    if 0 ≤ pt then energyOf pt.natAbs else 0, if pt < 0 then energyOf pt.natAbs else 0] ++
    (List.range 4).map (fun k => if k = quad then energyOf qt.natAbs else 0) ++
    [if 0 ≤ pt then energyOf (a.apparent w) else 0, if pt < 0 then energyOf (a.apparent w) else 0, 0, 0]

/-- Registers advanced, with a wrap event for each that passes through 0 (R270, R292). -/
def advanceRegs (ev idx : Nat) (regs : List Reg) (d : List Nat) (s : State) : List Reg × State :=
  let new := List.zipWith Reg.advance regs d
  (new, ((regs.zip new).zipIdx.filter (fun e => e.1.1.wrap != e.1.2.wrap)).foldl (fun t e => emit ev [idx, e.2, e.1.2.wrap.toNat] t) s)

/-- The samples of a feed are counted: registers, interval sums and the running cycle's sums (R263, R267). -/
def addFeed (f : Nat) (d : FeedData) (s : State) : State :=
  let r := feedRec s.elec.cfg f
  if wiring r = 0 || !s.elec.running then s
  else
    let a := { d.samples.foldl (addSample (wiring r)) {} with clip := d.clipped.filter (fun c => (vChannels r ++ iChannels r).contains c) }
    let x := feed f s
    let adv := advanceRegs 0x0D06 f x.regs (feedAdvance (wiring r) a) s
    setFeed f { x with regs := adv.1, acc := x.acc.add a, part := x.part.add a } adv.2

/-- Every voltage channel of a feed's set is ZC_LOST. -/
def allLost (f : Nat) (s : State) : Bool := (vChannels (feedRec s.elec.cfg f)).all (fun c => (tabGet {} s.elec.vchan c).lost)

/-- S_FS of a feed in VA (R269). -/
def fullScale (cfg : Bytes) (f : Nat) : Rat :=
  let r := feedRec cfg f
  let v := chanRec cfg (fld r 1 1)
  let i := chanRec cfg (8 + fld r 2 1)
  3 * f32Rat (fld v 4 4) * f32Rat (fld i 4 4) / (4 * 2 ^ fld i 1 1 : Nat)

/-- FLAGS of a feed (R279), CONFIG_BOUNDARY apart. -/
def feedFlags (f : Nat) (overrange : Bool) (s : State) : Nat :=
  let x := feed f s
  let r := feedRec s.elec.cfg f
  bitAt 0 (wiring r != 0 && (vChannels r).any (fun c => (tabGet {} s.elec.vchan c).lost)) + bitAt 1 x.timer + bitAt 2 x.seqRev +
    bitAt 3 x.noNeutral + bitAt 4 overrange + bitAt 6 x.lost

/-- A power factor: P ÷ S signed as P, quiet NaN below 0.1 % of S_FS (R263); `s` is S × M in 2⁻³² VA. -/
def powerFactor (p : Int) (sv m : Nat) (fs : Rat) : Nat :=
  if mkRat sv (m * 2 ^ 32) < fs / 1000 then qNaN else toF32 (mkRat p sv)

/-- The latched values, 160 bytes (R263, R279). -/
def latchedValues (f : Nat) (angles : List Nat) (boundary : Bool) (s : State) : Bytes :=
  let x := feed f s
  let r := feedRec s.elec.cfg f
  let w := wiring r
  let a := x.acc
  let m := a.samples
  let fs := fullScale s.elec.cfg f
  let rms := fun (y : Nat) => le 4 (sqrtF32 y (m * 2 ^ 32))
  let mean := fun (y : Int) => le 4 (toF32 (mkRat y (m * 2 ^ 32)))
  let nan := le 4 qNaN
  let ks := List.range 3
  let sk := fun (k : Nat) => isqrt (a.v2.getD k 0 * a.i2.getD k 0)
  let st := a.apparent w
  let freq := match x.first, x.last with
    | some b, some e => if 0 < x.timerCycles ∨ x.timer ∨ e ≤ b then qNaN else toF32 (mkRat (x.cycles * 32000 * 65536 : Nat) (e - b))
    | _, _ => qNaN
  le 1 f ++ le 1 w ++ le 2 (feedFlags f (a.clip != []) s + bitAt 5 boundary) ++ le 4 x.latchSeq ++ le 8 x.latchTime ++ le 4 m ++ le 4 freq ++
    ks.flatMap (fun k => if w = 2 ∧ k = 2 then nan else rms (a.v2.getD k 0)) ++ ks.flatMap (fun k => rms (a.vll2.getD k 0)) ++
    ks.flatMap (fun k => rms (a.i2.getD k 0)) ++ (if fld r 3 1 = 0xFF then nan else rms a.n2) ++
    ks.flatMap (fun k => if w = 2 then nan else mean (a.p.getD k 0)) ++ ks.flatMap (fun k => if w = 2 then nan else mean (a.q.getD k 0)) ++
    ks.flatMap (fun k => if w = 2 then nan else le 4 (sqrtF32 (a.v2.getD k 0 * a.i2.getD k 0) (m ^ 2 * 2 ^ 64))) ++
    ks.flatMap (fun k => if w = 2 then nan else le 4 (powerFactor (a.p.getD k 0) (sk k) m fs)) ++
    (List.range 6).flatMap (fun k => le 4 (angles.getD k 0)) ++
    mean a.totals.1 ++ mean a.totals.2 ++ mean st ++ le 4 (powerFactor a.totals.1 st m fs) ++ zeros 8

/-! ### Thermal pairs -/

/-- A pair. -/
def pair (p : Nat) (s : State) : Pair := tabGet {} s.therm.pairs p

/-- A pair changed. -/
def setPair (p : Nat) (x : Pair) (s : State) : State := { s with therm := { s.therm with pairs := tabSet s.therm.pairs p x } }

/-- The record of an RTD channel in a 784-byte configuration (R303). -/
def rtdRec (b : Bytes) (n : Nat) : Bytes := slice b (16 + 16 * n) 16

/-- The record of a flow input. -/
def flowRec (b : Bytes) (n : Nat) : Bytes := slice b (272 + 32 * n) 32

/-- The record of a pair. -/
def pairRec (b : Bytes) (n : Nat) : Bytes := slice b (528 + 32 * n) 32

/-- STEP_MS in ns. -/
def stepNs (s : State) : Nat := fld s.therm.cfg 8 2 * 1000000

/-- P_FS of a pair in W (R297). -/
def pFs (cfg : Bytes) (p : Nat) : Rat :=
  let r := pairRec cfg p
  1300 * f32Rat (fld (flowRec cfg (fld r 1 1)) 0x14 4) * f32Rat (fld r 0x0C 4)

/-- R0 of a sensor type in Ω (R281). -/
def sensorR0 (n : Nat) : Nat := if n = 1 then 100 else if n = 2 then 500 else 1000

/-- The Callendar–Van Dusen resistance in Ω at a temperature in µK above 0 °C, before OFFSET_K (R282). -/
def cvd (r : Bytes) (t : Int) : Rat :=
  let x : Rat := mkRat t 1000000
  let r0 : Rat := sensorR0 (fld r 0 1) * (1 + f32Rat (fld r 4 4))
  let a : Rat := dec 39083 7 * f32Rat (fld r 8 4)
  let b : Rat := dec (-5775) 10
  let c : Rat := if t < 0 then dec (-4183) 15 else 0
  r0 * (1 + a * x + b * x * x + c * (x - 100) * x * x * x)

/-- The temperature in µK whose resistance does not exceed a value: bisection over −50 °C to +200 °C (R282, to 1 µK). -/
def cvdSolve (r : Bytes) (ohm : Rat) : Nat → Int → Int → Int
  | 0, lo, _ => lo
  | n + 1, lo, hi =>
    if hi - lo ≤ 1 then lo
    else
      let mid := (lo + hi) / 2
      if cvd r mid ≤ ohm then cvdSolve r ohm n mid hi else cvdSolve r ohm n lo mid

/-- The fault an RTD step shows: the first matching row of R283. -/
def rtdFault (r : Bytes) (d : RtdSlot) : Nat :=
  let ohm : Rat := mkRat d.resistance 1000000
  if d.openAll then 1 else if d.compliance then 2 else if d.openSense then 3 else if d.reversed then 4
  else if ohm < dec 7 1 * sensorR0 (fld r 0 1) then 5
  else if ohm < cvd r (-50000000) ∨ cvd r 200000000 < ohm then 6
  else if 100 < d.lead then 7 else 0

/-- An RTD channel's step: its temperature, and its fault state with entry and exit (R282 to R284). -/
def rtdStep (n : Nat) (d : RtdSlot) (s : State) : State :=
  let r := rtdRec s.therm.cfg n
  if fld r 0 1 = 0 then { s with therm := { s.therm with chans := tabErase s.therm.chans n } }
  else
    let ch := tabGet {} s.therm.chans n
    let found := rtdFault r d
    let ohm : Rat := mkRat d.resistance 1000000
    let t := cvdSolve r ohm 30 (-50000000) 200000001 + roundRat (f32Rat (fld r 0x0C 4) * 1000000)
    let base : RtdChan := { resistance := toF32 ohm, temperature := toF32 (mkRat t 1000000), microK := t, lead := d.lead }
    let put := fun (c : RtdChan) (s : State) => { s with therm := { s.therm with chans := tabSet s.therm.chans n c } }
    if found ≠ 0 then
      let s := put { base with fault := found, clear := 0, faultStep := true } s
      if ch.fault = 0 then emit 0x0E01 [n, found, 0] s else s
    else if ch.fault ≠ 0 then
      if ch.clear = 0 then put { base with fault := ch.fault, clear := 1, faultStep := true } s
      else emit 0x0E01 [n, ch.fault, 1] (put { base with faultStep := true } s)
    else put base s

/-- A flow input's step: V_step in m³ where the input gives one, its step flow and its fault (R285 to R287). -/
def flowStep (n len : Nat) (cur : List Nat) (s : State) : State × Option Rat :=
  let r := flowRec s.therm.cfg n
  let x := tabGet {} s.therm.flows n
  let mode := fld r 0 1
  let k := f32Rat (fld r 4 4)
  let found := if mode = 2 then (if cur.any (· < 3600) then 1 else if cur.any (21000 < ·) then 2 else 0)
    else if mode = 3 ∨ mode = 4 then (if x.timedOut ∨ x.found = 4 then 4 else x.found) else x.found
  let secs : Rat := mkRat len 1000000000
  let one := fun (i : Nat) => let q := k * mkRat (i - 4000) 16000; if q < f32Rat (fld r 8 4) then 0 else q
  let v : Option Rat :=
    if mode = 0 then none
    else if mode = 1 then some (x.pulses * k)
    else if mode = 2 then (if found = 1 then none else some ((cur.map one).sum * secs / max 1 cur.length))
    else if found = 4 then none else some (mkRat x.credit (1000000 * 2 ^ 32))
  let bus := decide (3 ≤ mode)
  let q : Rat := match v with | none => 0 | some y => if bus then y / max 1 x.span else y / secs
  let offer := !bus || (x.credit != 0 || x.span != 0)
  let flow := if offer then (toF32 q, s.zone, found == 0) else x.flow
  let keep := bus && found == 4
  let x' := { x with pulses := 0, found := 0, fault := found, credit := if keep then x.credit else 0, span := if keep then x.span else 0, flow := flow }
  let s := { s with therm := { s.therm with flows := tabSet s.therm.flows n x' } }
  let s := if found ≠ x.fault then
      let s := if x.fault ≠ 0 then emit 0x0E02 [n, x.fault, 1] s else s
      if found ≠ 0 then emit 0x0E02 [n, found, 0] s else s
    else s
  (s, v)

/-- A polynomial's value. -/
def poly2 (a b c t : Rat) : Rat := a + b * t + c * t * t

/-- Density in kg/m³ and the enthalpy difference h(T_s) − h(T_r) in J/kg of a pair, or the temperature that is out of range
(R288, R289). -/
def medium (r : Bytes) (ts tr tf : Int) (s : State) : Int ⊕ (Rat × Rat) :=
  let p : Rat := f32Rat (fld r 4 4) + 101325
  if fld r 3 1 = 0 then
    let bad := fun (t : Int) => decide (t < 0) || decide (200000000 < t) || decide (p < Config.waterSaturation t)
    if bad ts then .inl ts else if bad tr then .inl tr
    else .inr (Config.waterDensity tf p, Config.waterEnthalpy ts p - Config.waterEnthalpy tr p)
  else
    let g := tabGet (zeros 64) s.therm.glycol (fld r 3 1)
    let c := fun (o : Nat) => f32Rat (fld g o 4)
    let x := fun (t : Int) => mkRat t 1000000
    let bad := fun (t : Int) => decide (x t < c 4) || decide (c 8 < x t)
    if bad ts then .inl ts else if bad tr then .inl tr
    else
      let a := x ts
      let b := x tr
      .inr (poly2 (c 0x0C) (c 0x10) (c 0x14) (x tf),
        c 0x18 * (a - b) + c 0x1C * (a * a - b * b) / 2 + c 0x20 * (a * a * a - b * b * b) / 3)

/-- A pair's step (R291 to R293): `v` is the V_step of its flow input. -/
def pairStep (p len : Nat) (v : Option Rat) (s : State) : State :=
  let r := pairRec s.therm.cfg p
  if fld r 0 1 = 0 then s
  else
    let x := pair p s
    let swap := bit (fld r 0x10 1) 0
    let sup := tabGet {} s.therm.chans (2 * p + b2n swap)
    let ret := tabGet {} s.therm.chans (2 * p + 1 - b2n swap)
    let fl := tabGet {} s.therm.flows (fld r 1 1)
    let tf := if fld r 2 1 = 0 then sup.microK else ret.microK
    let tFault := sup.faultStep || ret.faultStep
    let med := if tFault then none else some (medium r sup.microK ret.microK tf s)
    let range := match med with | some (.inl _) => true | _ => false
    let fault := tFault || fl.fault != 0 || range
    let vol := match v with | none => 0 | some y => floorNat (y * 1000000 * 2 ^ 32)
    let dt := sup.microK - ret.microK
    let bus := decide (3 ≤ fld (flowRec s.therm.cfg (fld r 1 1)) 0 1)
    let dh := match med with | some (.inr (_, h)) => h | _ => 0
    let dhAcc : Rat × Nat := match med with | some (.inr (_, h)) => (fl.dhSum.1 + h, fl.dhSum.2 + 1) | _ => fl.dhSum
    let dhUse : Rat := if bus && !fl.restored && dhAcc.2 != 0 then dhAcc.1 / (dhAcc.2 : Rat) else dh
    let rho := match med with | some (.inr (d, _)) => d | _ => 0
    let q : Rat := match v with | none => 0 | some y => if fault then 0 else rho * y * dhUse
    let th : Rat := f32Rat (fld r 8 4)
    let e := floorNat ((if q < 0 then -q else q) * 2 ^ 32 * 10 / 36)
    let heat := if !fault && decide (th ≤ mkRat dt 1000000) then e else 0
    let cold := if !fault && decide (mkRat dt 1000000 ≤ -th) then e else 0
    let adv := advanceRegs 0x0E04 p x.regs [heat, cold, vol, if fault then vol else 0, if fault then len * 2 ^ 32 / 10 ^ 9 else 0, 0, 0, 0] s
    let pw : Rat := q / mkRat len 1000000000
    let s := if range != x.propRange then
        emitItems 0x0E03 [item p, item (b2n (!range)), BitVec.ofNat 64 (toF64 (mkRat (match med with | some (.inl t) => t | _ => tf) 1000000))] adv.2
      else adv.2
    let add := fun (ok : Bool) (a : Int × Nat) (t : Int) => if ok then (a.1 + t, a.2 + 1) else a
    let addR := fun (ok : Bool) (a : Rat × Nat) (t : Rat) => if ok then (a.1 + t, a.2 + 1) else a
    let med? := match med with | some (.inr _) => true | _ => false
    let ts := x.tSums
    let ms := x.mSums
    let x' : Pair :=
      { x with
        regs := adv.1
        steps := x.steps + 1
        faultSteps := x.faultSteps + b2n fault
        tSums := [add (!sup.faultStep) (ts.getD 0 (0, 0)) sup.microK, add (!ret.faultStep) (ts.getD 1 (0, 0)) ret.microK, add (!tFault) (ts.getD 2 (0, 0)) dt]
        mSums := [addR med? (ms.getD 0 (0, 0)) rho, addR med? (ms.getD 1 (0, 0)) dh]
        vol := (x.vol.1 + vol, x.vol.2 + len)
        energy := x.energy + (if q < 0 then -(e : Int) else e)
        flags := x.flags ||| (bitAt 0 fault + bitAt 1 sup.faultStep + bitAt 2 ret.faultStep + bitAt 3 (fl.fault != 0) + bitAt 4 range)
        propRange := range
        fsExceeded := x.fsExceeded || decide (pFs s.therm.cfg p < (if pw < 0 then -pw else pw))
        power := (toF32 pw, !fault) }
    let credited := bus && v.isSome && (fl.flow.2.1 == s.zone)
    let fl' := { fl with dhSum := if credited then (0, 0) else dhAcc, restored := fl.restored && !credited }
    setPair p x' { s with therm := { s.therm with flows := tabSet s.therm.flows (fld r 1 1) fl' } }

/-- The flow input of each enabled pair of a configuration. -/
def flowOwner (cfg : Bytes) (n : Nat) : Option Nat :=
  (List.range 8).find? (fun p => fld (pairRec cfg p) 0 1 == 1 && fld (pairRec cfg p) 1 1 == n)

/-- An integration step, or the part of one a save cuts, is closed: channels, flow inputs, pairs (R291, R295). -/
def closeStep (d : ThermData) (s : State) : State :=
  let len := s.tb.now - s.therm.stepFrom
  let s := d.rtd.zipIdx.foldl (fun t e => rtdStep e.2 e.1 t) s
  let s := (List.range 8).foldl (fun t n =>
    let fs := flowStep n len (d.currents.getD n []) t
    match flowOwner fs.1.therm.cfg n with
    | none => fs.1
    | some p => pairStep p len fs.2 fs.1) s
  { s with therm := { s.therm with stepCount := s.therm.stepCount + 1, stepTime := s.zone, stepFrom := s.tb.now, sinceLatch := s.therm.sinceLatch + 1 } }

/-- FLAGS of a pair (R305), CONFIG_BOUNDARY apart. -/
def pairFlags (p : Nat) (s : State) : Nat :=
  let x := pair p s
  x.flags + bitAt 6 x.lost + bitAt 7 x.fsExceeded

/-- A mean in binary32, quiet NaN over no step. -/
def meanF32 (sum : Rat) (n : Nat) : Nat := if n = 0 then qNaN else toF32 (sum / (n : Rat))

/-- The thermal latched values, 64 bytes (R294, R305). -/
def thermLatched (p : Nat) (boundary : Bool) (s : State) : Bytes :=
  let x := pair p s
  let t := fun (k : Nat) => let e := x.tSums.getD k (0, 0); le 4 (meanF32 (mkRat e.1 1000000) e.2)
  let m := fun (k : Nat) => let e := x.mSums.getD k (0, 0); le 4 (meanF32 e.1 e.2)
  let secs : Rat := mkRat x.vol.2 1000000000
  let per := fun (q : Rat) => le 4 (if x.vol.2 = 0 then qNaN else toF32 (q / secs))
  le 1 p ++ zeros 1 ++ le 2 (pairFlags p s + bitAt 5 boundary) ++ le 4 x.latchSeq ++ le 8 x.latchTime ++ le 4 x.steps ++ t 0 ++ t 1 ++ t 2 ++
    per (mkRat x.vol.1 (1000000 * 2 ^ 32)) ++ per (mkRat (x.energy * 36) (10 * 2 ^ 32)) ++ m 0 ++ m 1 ++ le 4 x.faultSteps ++ zeros 12

/-! ### Saving (R271, R295) -/

/-- The newer of the buffers that hold a valid record. -/
def newest (ok : SaveRec → Bool) (e : Elec) : Option SaveRec :=
  match e.bufA.filter ok, e.bufB.filter ok with
  | some a, some b => if a.seq < b.seq then some b else some a
  | some a, none => some a
  | none, b => b

/-- The bytes of an ENERGY item: kind, index, LATCH_TIME, then VALUE, RESIDUE and WRAP of each register (log 14). -/
def energyBytes (therm : Bool) (idx time : Nat) (regs : List Reg) : Bytes :=
  le 1 (b2n therm) ++ le 1 idx ++ zeros 6 ++ le 8 time ++ regs.flatMap (fun r => le 8 r.value.toNat ++ le 4 r.residue.toNat ++ le 2 r.wrap.toNat ++ zeros 2)

/-- A save: every feed and pair is cut at one sample and the record goes into the buffer that does not hold the newest valid
one; FS_EXCEEDED is cleared (R271, R295, R297). -/
def saveMeters (kind : Nat) (cut : Cut) (s : State) : State :=
  if !s.elec.running then s
  else
    let s := cut.feeds.foldl (fun t e => addFeed e.1 e.2 t) s
    let s := match cut.therm with
      | none => s
      | some d => if kind = 1 then s else closeStep d s
    let fs := List.range 5
    let ps := List.range 8
    let r : SaveRec :=
      { kind := kind, seq := (s.elec.saveSeq + 1) % 2 ^ 32, cutTime := cutZone s, cutSample := sampleCount s, regs := fs.map (fun f => (feed f s).regs),
        latchSeq := fs.map (fun f => (feed f s).latchSeq), stepCount := s.therm.stepCount, tregs := ps.map (fun p => (pair p s).regs),
        tlatchSeq := ps.map (fun p => (pair p s).latchSeq),
        busBase := ps.map (fun n => ((tabGet {} s.therm.flows n).base).getD (0, 0)) }
    let intoB := match newest (·.ok) s.elec with | none => false | some n => s.elec.bufA == some n
    let e := { s.elec with saveSeq := r.seq }
    let s := { s with elec := if intoB then { e with bufB := some r } else { e with bufA := some r } }
    let s := ps.foldl (fun t p => setPair p { pair p t with fsExceeded := false } t) s
    fs.foldl (fun t f => (replicate 0x11 true (energyBytes false f t.zone (feed f t).regs) t).1) s

/-! ### Configurations (R278, R304) -/

/-- A feed's part of the pending configuration takes effect: its record and those of its channels. -/
def mergeFeed (cfg new : Bytes) (f : Nat) : Bytes :=
  let r := feedRec new f
  let cs := if wiring r = 0 then [] else vChannels r ++ iChannels r
  patch (cs.foldl (fun b c => patch b (16 + 32 * c) (chanRec new c)) cfg) (784 + 16 * f) r

/-- Zero-crossing supervision of the channels after a feed's change: a channel in use for the first time waits ZC_TIMEOUT_MS from now,
one no feed uses is not lost (R262; log 44). -/
def freshChannels (old new : Bytes) (s : State) : State :=
  let uses := fun (b : Bytes) (c : Nat) => (List.range 5).any (fun f => wiring (feedRec b f) != 0 && (vChannels (feedRec b f)).contains c)
  let one := fun (c : Nat) => if !uses new c then ({} : VChan) else if uses old c then tabGet {} s.elec.vchan c else { lost := false, lastCross := s.tb.now }
  { s with elec := { s.elec with vchan := (List.range 8).map (fun c => (c, one c)) } }

/-- Sampling begins anew: cycles open at the next crossing, and every channel waits ZC_TIMEOUT_MS from now (R261, R262). -/
def freshSampling (s : State) : State :=
  let one := fun (x : Feed) => { x with part := {}, last := none, first := none, timer := false, seqRun := 0, neutralRun := 0, sequence := none }
  { s with elec := { s.elec with vchan := (List.range 8).map (fun c => (c, { lost := false, lastCross := s.tb.now })), feeds := s.elec.feeds.map (fun e => (e.1, one e.2)) } }

/-- The pending configuration takes effect for a feed, with its event; once no feed waits it stands whole (R276, R278). -/
def applyFeed (f : Nat) (s : State) : State :=
  match s.elec.pend with
  | none => s
  | some (b, w) =>
    let rest := w.filter (· != f)
    let cfg := if rest = [] then b else mergeFeed s.elec.cfg b f
    let s := freshChannels s.elec.cfg cfg { s with elec := { s.elec with cfg := cfg, pend := if rest = [] then none else some (b, rest) } }
    let x := feed f s
    let x := if wiring (feedRec s.elec.cfg f) ≠ 0 ∧ !x.timer ∧ allLost f s then { x with timer := true, timerFrom := sampleCount s, timerCount := 0, last := none } else x
    let x := if wiring (feedRec b f) = 0 then { x with timer := false, part := {}, acc := {}, cycles := 0, first := none, last := none } else x
    emit 0x0D0A ([(f : Int), x.latchSeq] ++ x.regs.map (fun r => (r.value.toNat : Int))) (setFeed f x s)

/-- A feed's part of the pending configuration is due at a latch. -/
def feedDue (f : Nat) (s : State) : Bool :=
  match s.elec.pend with
  | none => false
  | some (b, w) => w.contains f && decide (fld b 0 8 ≤ s.zone)

/-- Feeds that are DISABLED make no latch: their part of the pending configuration takes effect once APPLY_TIME has come (log 15). -/
def applyIdleFeeds (s : State) : State :=
  (List.range 5).foldl (fun t f => if feedDue f t && wiring (feedRec t.elec.cfg f) == 0 then applyFeed f t else t) s

/-- A feed latches: registers and values are copied in one step, and a due configuration takes effect after them (R268, R278). -/
def latchFeed (f : Nat) (angles : List Nat) (cut : Cut) (s : State) : State :=
  let x := feed f s
  let x := { x with latchSeq := (x.latchSeq + 1) % 2 ^ 32, latchTime := s.zone, latchedRegs := x.regs, snaps := ((s.zone, x.regs) :: x.snaps).take 16 }
  let s := setFeed f x s
  let due := feedDue f s
  let b := latchedValues f angles due s
  let s := setFeed f { feed f s with latched := some b, acc := {}, cycles := 0, timerCycles := 0, first := x.last } s
  let s := (replicate 0x11 true (energyBytes false f s.zone x.regs) s).1
  if due then saveMeters 3 cut (applyIdleFeeds (applyFeed f s)) else s

/-- A pair's part of the pending configuration takes effect. -/
def mergePair (cfg new : Bytes) (p : Nat) : Bytes :=
  let b := patch cfg (528 + 32 * p) (pairRec new p)
  let b := patch (patch b (16 + 32 * p) (rtdRec new (2 * p))) (32 + 32 * p) (rtdRec new (2 * p + 1))
  if fld (pairRec new p) 0 1 = 0 then b else patch b (272 + 32 * fld (pairRec new p) 1 1) (flowRec new (fld (pairRec new p) 1 1))

/-- The pending thermal configuration takes effect for a pair, with its event (R302, R304). -/
def applyPair (p : Nat) (s : State) : State :=
  match s.therm.pend with
  | none => s
  | some (b, w) =>
    let rest := w.filter (· != p)
    let cfg := if rest = [] then b else mergePair s.therm.cfg b p
    let s := { s with therm := { s.therm with cfg := cfg, pend := if rest = [] then none else some (b, rest) } }
    let x := pair p s
    emit 0x0E08 ([(p : Int), x.latchSeq] ++ x.regs.map (fun r => (r.value.toNat : Int))) s

/-- A pair latches (R294). -/
def latchPair (p : Nat) (boundary : Bool) (s : State) : State :=
  let x := pair p s
  let x := { x with latchSeq := (x.latchSeq + 1) % 2 ^ 32, latchTime := s.zone, latchedRegs := x.regs, snaps := ((s.zone, x.regs) :: x.snaps).take 16 }
  let s := setPair p x s
  let b := thermLatched p boundary s
  let s := setPair p { x with latched := some b, steps := 0, faultSteps := 0, tSums := [(0, 0), (0, 0), (0, 0)], mSums := [(0, 0), (0, 0)], vol := (0, 0), energy := 0, flags := 0 } s
  (replicate 0x11 true (energyBytes true p s.zone x.regs) s).1

/-! ### Restoring at start-up (R272, R273, R296, R297) -/

/-- A span is recorded as the last gap of both engines. -/
def setGap (a b : Nat) (s : State) : State :=
  { s with elec := { s.elec with lastGap := (a, b) }, therm := { s.therm with lastGap := (a, b) } }

/-- METER_OFF of both engines. -/
def meterOff (a b : Nat) (s : State) : State :=
  let s := { s with elec := { s.elec with offs := (s.elec.offs + 1) % 2 ^ 32 }, therm := { s.therm with offs := (s.therm.offs + 1) % 2 ^ 32 } }
  setGap a b (emit 0x0E06 [a, b] (emit 0x0D08 [a, b] s))

/-- The least whole number not below a rational. -/
def ceilNat (q : Rat) : Nat := (-(-q.num / q.den)).toNat

/-- The electrical UNSAVED_INTERVAL with its bound per feed, S_FS × duration in µVAh (R272). -/
def unsavedElec (a b : Nat) (unknown : Bool) (s : State) : State :=
  let bound := fun (f : Nat) => if wiring (feedRec s.elec.cfg f) = 0 then 0 else (ceilNat (fullScale s.elec.cfg f * (b - a : Nat) / 3600000) : Int)
  let s := emit 0x0D07 ([(a : Int), b, b2n unknown] ++ (List.range 5).map bound) s
  { s with elec := { s.elec with unsaved := (s.elec.unsaved + 1) % 2 ^ 32, lastGap := (a, b) } }

/-- The thermal UNSAVED_INTERVAL with its bound in mWh and FS_EXCEEDED per pair (R297). -/
def unsavedTherm (a b : Nat) (unknown : Bool) (s : State) : State :=
  let bound := fun (p : Nat) => if fld (pairRec s.therm.cfg p) 0 1 = 0 then 0 else (ceilNat (pFs s.therm.cfg p * (b - a : Nat) / 3600000000) : Int)
  let s := emit 0x0E05 ([(a : Int), b, b2n unknown] ++ (List.range 8).flatMap (fun p => [bound p, (b2n (pair p s).fsExceeded : Int)])) s
  { s with therm := { s.therm with unsaved := (s.therm.unsaved + 1) % 2 ^ 32, lastGap := (a, b) } }

/-- The electrical registers restored: from the newest valid record, else 0 with REGISTERS_LOST (R272, R273). Buffers that were never
written hold the zero registers of delivery (R576; log 4). -/
def restoreElec (s : State) : State :=
  match newest (·.ok) s.elec with
  | some r =>
    let e := { s.elec with saveSeq := r.seq, feeds := [] }
    (List.range 5).foldl (fun t f =>
      let regs := r.regs.getD f (List.replicate 16 {})
      setFeed f { regs := regs, latchedRegs := regs, latchSeq := r.latchSeq.getD f 0, lost := (feed f s).lost } t) { s with elec := e }
  | none =>
    let s := { s with elec := { s.elec with feeds := [] } }
    if s.elec.bufA.isNone && s.elec.bufB.isNone then s
    else emit 0x0D09 [0, 0] ((List.range 5).foldl (fun t f => setFeed f { lost := true } t) s)

/-- The thermal registers are restored from a record (R296). -/
def restoreThermFrom (r : SaveRec) (s : State) : State :=
  let z := { s with therm := { s.therm with pairs := [], flows := [], chans := [], stepCount := r.stepCount } }
  let s := (List.range 8).foldl (fun t p =>
    let regs := r.tregs.getD p (List.replicate 8 {})
    setPair p { regs := regs, latchedRegs := regs, latchSeq := r.tlatchSeq.getD p 0, lost := (pair p s).lost, fsExceeded := (pair p s).fsExceeded } t) z
  (List.range 8).foldl (fun t n =>
    let b := r.busBase.getD n (0, 0)
    if b = (0, 0) then t else { t with therm := { t.therm with flows := tabSet t.therm.flows n { base := some b, restored := true, heard := t.tb.now } } }) s

/-- The thermal registers restored: from the record of the same save, else from the other buffer's valid thermal record, else 0
with REGISTERS_LOST (R296). The instant of the electrical interval's start bounds the extra interval. -/
def restoreTherm (start : Nat) (s : State) : State :=
  let good := newest (fun r => r.tok) { s.elec with bufA := s.elec.bufA.filter (fun r => r.seq == s.elec.saveSeq), bufB := s.elec.bufB.filter (fun r => r.seq == s.elec.saveSeq) }
  match good with
  | some r => restoreThermFrom r s
  | none =>
    match newest (·.tok) s.elec with
    | some r => unsavedTherm r.cutTime start false (restoreThermFrom r s)
    | none =>
      let s := { s with therm := { s.therm with pairs := [], flows := [], chans := [] } }
      if s.elec.bufA.isNone && s.elec.bufB.isNone then s
      else emit 0x0E07 [0, 0] ((List.range 8).foldl (fun t p => setPair p { lost := true } t) s)

/-- Both metering engines resume at start-up: registers restored, the spans not measured recorded, sampling from now on. `entry` is
the hold-up entry instant, or the instant R559 puts in its place (R272, R296, R559). -/
def restoreMeters (entry : Option Nat) (s : State) : State :=
  let rec_ := newest (·.ok) s.elec
  let s := restoreElec s
  let s := restoreTherm (match rec_ with | some r => r.cutTime | none => s.zone) s
  let s := match rec_ with
    | none => s
    | some r =>
      if r.kind = 2 then meterOff r.cutTime s.zone s
      else match entry with
        | some t => meterOff t s.zone (unsavedTherm r.cutTime t false (unsavedElec r.cutTime t false s))
        | none => unsavedTherm r.cutTime s.zone true (unsavedElec r.cutTime s.zone true s)
  let due := s.tb.now + (nextGrid (stepNs s) s.zone - s.zone)
  let s := freshSampling s
  { s with elec := { s.elec with running := true, lastSave := s.zone / 60000000000 }, therm := { s.therm with stepFrom := s.tb.now, stepDue := some due } }

/-! ### The pair (R35, R274, R299) -/

/-- The own snapshot that matches a replicated latch: within one sample period, or with the same LATCH_TIME. -/
def matchSnap (tol : Nat) (time : Nat) (snaps : List (Nat × List Reg)) : Option (List Reg) :=
  (snaps.find? (fun e => decide (e.1 ≤ time + tol) && decide (time ≤ e.1 + tol))).map (·.2)

/-- Registers of record, formed from the last replicated latch, the own registers and the own snapshot at that latch. -/
def ofRecord (tol : Nat) (own : List Reg) (snaps : List (Nat × List Reg)) : Option (Nat × List Reg) → List Reg
  | none => own
  | some (t, regs) =>
    match matchSnap tol t snaps with
    | none => regs
    | some sn => List.zipWith (fun a b => Reg.ofRecord a.1 b a.2) (regs.zip sn) own

/-- At takeover the registers of record are formed and a TAKEOVER save is written (R274, R299). -/
def takeoverMeters (cut : Cut) (s : State) : State :=
  let s := (List.range 5).foldl (fun t f => let x := feed f t; setFeed f { x with regs := ofRecord 31250 x.regs x.snaps x.repl, repl := none } t) s
  let s := (List.range 8).foldl (fun t p => let x := pair p t; setPair p { x with regs := ofRecord 0 x.regs x.snaps x.repl, repl := none } t) s
  saveMeters 4 cut s

end Sys2Proof.Machine
end

