-- ==== Sys2Proof/Machine/Ramp.lean ====
section
/-! DEFINITION. The ramp generator: trapezoidal profiles computed, jerk-limited ones a free function within their limits
(R369, R370; log 19). -/

namespace Sys2Proof.Machine
open Sys2Proof

/-- The square root of a rational to 2⁻²⁰, from below. -/
def sqrtRat (q : Rat) : Rat := mkRat (isqrt (q.num.natAbs * 2 ^ 40 / q.den)) (2 ^ 20)

/-- A rational cut to 2⁻²⁰. -/
def cut20 (q : Rat) : Rat := mkRat (q.num * 2 ^ 20 / q.den) (2 ^ 20)

/-- Spans of a trapezoidal move over a distance `d` ≥ 0 that starts towards it at a speed `v` from which it can still stop (R369). -/
def trapezoid (vmax acc de d v : Rat) : List (Rat × Rat) :=
  if d = 0 ∧ v = 0 then []
  else if vmax < v then
    let t1 := (v - vmax) / de
    let x1 := (v * v - vmax * vmax) / (2 * de)
    let x3 := vmax * vmax / (2 * de)
    [(t1, -de), (max 0 (d - x1 - x3) / vmax, 0), (vmax / de, -de)]
  else
    let vp := max v (min vmax (sqrtRat ((2 * acc * de * d + de * v * v) / (acc + de))))
    if vp = 0 then []
    else
      let x1 := (vp * vp - v * v) / (2 * acc)
      let x3 := vp * vp / (2 * de)
      [((vp - v) / acc, acc), (max 0 (d - x1 - x3) / vp, 0), (vp / de, -de)]

/-- Spans of a move from a position and velocity to a goal: one that cannot stop there comes to rest and returns (R367, R369). -/
def moveSpans (vmax acc de p v goal : Rat) : List (Rat × Rat) :=
  let dir : Rat → Rat → List (Rat × Rat) → List (Rat × Rat) := fun a b l => if b < a then l.map (fun x => (x.1, -x.2)) else l
  let rest := p + (if v < 0 then -(v * v) else v * v) / (2 * de)
  if (0 < v ∧ goal < rest) ∨ (v < 0 ∧ rest < goal) then
    ((if v < 0 then -v else v) / de, if v < 0 then de else -de) :: dir rest goal (trapezoid vmax acc de (if goal < rest then rest - goal else goal - rest) 0)
  else dir p goal (trapezoid vmax acc de (if goal < p then p - goal else goal - p) (if v < 0 then -v else v))

/-- A ramp to a goal, or to rest wherever it ends (R369, R370). -/
def mkRamp (limits : Nat × Nat × Nat × Nat) (t0 : Nat) (pva : Rat × Rat × Rat) (goal : Option Int) : Ramp :=
  let p := cut20 pva.1
  let v := cut20 pva.2.1
  let de : Rat := limits.2.2.1
  let spans := if limits.2.2.2 ≠ 0 then [] else match goal with
    | some g => moveSpans limits.1 limits.2.1 de p v g
    | none => [((if v < 0 then -v else v) / de, if v < 0 then de else -de)]
  { t0 := t0, p0 := p, v0 := v, a0 := cut20 pva.2.2, goal := goal, limits := limits, spans := spans }

/-- Position, velocity and acceleration after a time on spans of constant acceleration. -/
def spansAt : List (Rat × Rat) → Rat → Rat → Rat → Rat × Rat × Rat
  | [], p, v, _ => (p, v, 0)
  | (d, a) :: l, p, v, t =>
    if t < d then (p + v * t + a * t * t / 2, v + a * t, a)
    else spansAt l (p + v * d + a * d * d / 2) (v + a * d) (t - d)

/-- Position, velocity and acceleration of a ramp at a local instant. -/
def Ramp.at_ (r : Ramp) (now : Nat) : Rat × Rat × Rat :=
  if now ≤ r.t0 then (r.p0, r.v0, r.a0)
  else if r.limits.2.2.2 ≠ 0 then Config.jerkRamp r.limits (r.p0, r.v0, r.a0) r.goal (now - r.t0)
  else spansAt r.spans r.p0 r.v0 (mkRat (now - r.t0 : Nat) 1000000000)

/-- The local instant at which a ramp has come to rest. -/
def Ramp.end_ (r : Ramp) : Nat :=
  if r.limits.2.2.2 ≠ 0 then r.t0 + Config.jerkTime r.limits (r.p0, r.v0, r.a0) r.goal
  else
    let q : Rat := r.spans.foldl (fun a x => a + x.1) 0 * 1000000000
    r.t0 + (q.num.natAbs + q.den - 1) / q.den

end Sys2Proof.Machine
end

