-- ==== Sys2Proof/Machine/Plant.lean ====
section
/-! DEFINITION. What the plant functions share: the sources of R91 and R312, the active program's directory, loop records, the
modes of loops and axes, and the resolution of output targets (R309 to R322, R338, R345, R365 to R377, R415, R420). -/

namespace Sys2Proof.Machine
open Sys2Proof

/-! ### Numbers -/

/-- The number a binary32 stands for; one that is not finite gives a free value (log 17). -/
def f32Val (v : Nat) : Rat := if f32Finite v then f32Rat v else Config.nonFinite v

/-- The binary32 nearest to a binary64; an infinity or NaN keeps its kind. -/
def f64to32 (v : Nat) : Nat :=
  if f64Finite v then toF32 (f64Rat v) else v / 2 ^ 63 * 2 ^ 31 + (if v % 2 ^ 52 = 0 then 0x7F800000 else 0x7FC00000)

/-- Rounding to nearest with ties away from zero (R310). -/
def roundAway (q : Rat) : Int :=
  let m : Nat := (2 * q.num.natAbs + q.den) / (2 * q.den)
  if q < 0 then -(m : Int) else m

/-- Saturation to a signed 32-bit integer, and whether it acted (R310, R311). -/
def sat32 (v : Int) : Int × Bool :=
  if v < -2147483648 then (-2147483648, true) else if 2147483647 < v then (2147483647, true) else (v, false)

/-- A value kept between bounds. -/
def clampRat (lo hi v : Rat) : Rat := if v < lo then lo else if hi < v then hi else v

/-- An integer kept between bounds. -/
def clampInt (lo hi v : Int) : Int := if v < lo then lo else if hi < v then hi else v

/-- Zone time at a local instant that is still to come (R223). -/
def zoneAt (at_ : Nat) (s : State) : Nat := (s.tb.zone32 + (at_ / 8 - s.tb.now / 8) * s.tb.incr) / 2 ^ 32

/-! ### The active program image (R336 to R339) -/

/-- The next multiple of 16. -/
def up16 (n : Nat) : Nat := (n + 15) / 16 * 16

/-- Where an image's directory starts. -/
def dirOffset (img : Bytes) : Nat := up16 (144 + 16 * fld img 0x28 2) + fld img 0x14 4

/-- Where an image's instance table starts. -/
def instOffset (img : Bytes) : Nat := dirOffset img + 32 * fld img 0x18 4

/-- Where an image's initial data starts. -/
def dataOffset (img : Bytes) : Nat := instOffset img + 16 * fld img 0x1C 4

/-- Where an image's digest starts. -/
def digestOffset (img : Bytes) : Nat := up16 (dataOffset img + fld img 0x20 4)

/-- The directory entries of an image. -/
def directory (img : Bytes) : List Bytes := chunks 32 (fld img 0x18 4) (img.drop (dirOffset img))

/-- The directory of the active image. -/
def progDir (s : State) : List Bytes := match s.prog.image with | none => [] | some i => directory i

/-- VAR_ID of a directory entry. -/
def varId (e : Bytes) : Nat := fld e 0 8

/-- The OUTPUT entries bound to a target (R339). -/
def bindsTo (dir : List Bytes) (kind index : Nat) : List Bytes :=
  dir.filter (fun e => fld e 8 1 == 1 && fld e 0x12 1 == kind && fld e 0x14 4 == index)

/-- The BIND_KIND of an OUT_KIND (R314, R339). -/
def bindKind (k : Nat) : Nat := if k = 1 then 0x41 else if k = 2 then 0x40 else if k = 3 then 0x45 else 0x44

/-- An OUTPUT with GUARD (R338). -/
def entryGuard (e : Bytes) : Bool := bit (fld e 0x0B 1) 0

/-- A variable's bytes as a binary32 (R341). -/
def varF32 (type : Nat) (b : Bytes) : Nat :=
  if type = 0x01 then (if fld b 0 1 = 0 then 0 else 0x3F800000)
  else if type ≤ 0x05 then toF32 (sfld b 0 (2 ^ (type - 2)) : Rat)
  else if type ≤ 0x09 then toF32 (fld b 0 (2 ^ (type - 6)) : Rat)
  else if type = 0x0A then fld b 0 4
  else if type = 0x0B then f64to32 (fld b 0 8)
  else toF32 (sfld b 0 8 : Rat)

/-- PROG_STATE (R349). -/
def progState (s : State) : Nat :=
  if s.prog.image.isNone then 0
  else if s.win.role = .standby then 5
  else if s.win.power = .holdup ∨ s.win.power = .standby then 4
  else s.prog.req

/-! ### Sources (R91, R114, R312) -/

/-- A reading of a source: its raw value as a number and as binary32, its time stamp, and whether the source marks it bad. -/
structure Reading where
  /-- Raw value. -/
  x : Rat
  /-- Raw value as binary32. -/
  raw : Nat
  /-- Time stamp, zone ns. -/
  stamp : Nat
  /-- Marked bad at the source. -/
  bad : Bool
deriving DecidableEq, Repr

/-- A reading of a binary32. -/
def readF32 (v stamp : Nat) (bad : Bool) : Reading := { x := f32Val v, raw := v, stamp := stamp, bad := bad }

/-- A reading of an exact number. -/
def readRat (q : Rat) (stamp : Nat) (bad : Bool) : Reading := { x := q, raw := toF32 q, stamp := stamp, bad := bad }

/-- The frame a read of an object copies: a filled shadow has become current once the last read ended (R390). -/
def CanObj.frame (o : CanObj) : Option CanFrame := match o.shadow with | some f => some f | none => o.cur

/-- The raw value of a frame under an object's VALUE_TYPE, OFFSET and byte order; none where the frame is too short (R391). -/
def frameValue (r data : Bytes) : Option Nat :=
  let type := fld r 0x0D 1
  let n := [0, 1, 1, 2, 2, 4, 4, 4].getD type 0
  let off := fld r 0x0C 1
  let b := slice data off n
  if data.length < off + n then none
  else
    let b := if bit (fld r 1 1) 4 then b.reverse else b
    if type = 7 then some (leNat b)
    else if type % 2 = 0 then some (toF32 (toSigned (8 * n) (leNat b) : Rat)) else some (toF32 (leNat b : Rat))

/-- The reading of an RX object that carries a value (R391). -/
def canReading (o : CanObj) : Option Reading :=
  if fld o.record 0 1 ≠ 1 ∨ fld o.record 0x0D 1 = 0 then none
  else match o.frame with
    | none => none
    | some f => match frameValue o.record f.data with
      | some v => some (readF32 v f.stamp false)
      | none => some (readF32 0 f.stamp true)

/-- The reading of an M-Bus record (R399). -/
def mbusReading (addr index : Nat) (s : State) : Option Reading :=
  match (tabGet {} s.buses.mbus.slaves addr).records[index]? with
  | none => none
  | some r => some (readF32 (f64to32 r.value) r.time (bit r.flags 0))

/-- The frequency of a digital input (R406). -/
def diFrequency (d : Di) (now : Nat) : Rat :=
  let l := d.riseTimes.filter (fun t => decide (now ≤ t + 1000000000))
  let two := (d.riseTimes.filter (fun t => decide (now ≤ t + 10000000000))).take 2
  let rate := fun (m : List Nat) => match m.head?, m.getLast? with
    | some a, some b => mkRat ((m.length - 1) * 1000000000 : Nat) (a - b)
    | _, _ => 0
  if 2 ≤ l.length then rate l else if two.length = 2 then rate two else 0

/-- The loop exchange entry of an index (R339). -/
def exchangeEntry (i : Nat) (s : State) : Nat := tabGet 0 s.loops.exchange i

/-- PUSH_EPOCHS + 1 epochs: how old a node's sample may be and still be GOOD (R249). -/
def pushAge (s : State) : Nat := (fld s.net.cfg 0x0B 1 + 1) * epochNs s

/-- The latest value of a source of R91, by SOURCE_KIND 0x00 to 0x06. -/
def sensorReading (kind src : Nat) (s : State) : Option Reading :=
  match kind with
  | 0x00 =>
    (match (tabGet [] (tabGet {} s.net.nodes (src % 65536)).samples (src / 65536)).head? with
      | none => none
      | some x => some (readF32 x.value x.stamp (x.quality != 0)))
  | 0x01 =>
    (match tabGet? s.therm.chans src with
      | none => none
      | some c => if s.therm.stepTime = 0 then none else some (readF32 c.temperature s.therm.stepTime c.faultStep))
  | 0x02 =>
    (match tabGet? s.therm.flows src with
      | none => none
      | some f => if f.flow.2.1 = 0 then none else some (readF32 f.flow.1 f.flow.2.1 !f.flow.2.2))
  | 0x03 =>
    (match tabGet? s.therm.pairs src with
      | none => none
      | some p => if s.therm.stepTime = 0 then none else some (readF32 p.power.1 s.therm.stepTime !p.power.2))
  | 0x04 =>
    (match tabGet? s.io.ain src with
      | none => none
      | some a => a.stamp.map (fun t => readF32 a.value t (a.fault != 0)))
  | 0x05 => canReading (canObj (src / 256 % 4) (src % 256) s)
  | 0x06 => mbusReading (src % 256) (src / 256 % 256) s
  | _ => none

/-! ### Loop records (R307, R314, R327) -/

/-- A loop slot. -/
def loopSlot (n : Nat) (s : State) : Loop := tabGet {} s.loops.slots n

/-- A loop slot changed. -/
def setLoop (n : Nat) (l : Loop) (s : State) : State := { s with loops := { s.loops with slots := tabSet s.loops.slots n l } }

/-- KIND. -/
def lKind (r : Bytes) : Nat := fld r 0 1
/-- GUARD. -/
def lGuard (r : Bytes) : Bool := bit (fld r 1 1) 0
/-- The direction of R315: −1 with REVERSE. -/
def lDir (r : Bytes) : Int := if bit (fld r 1 1) 1 then -1 else 1
/-- SP_SOURCE. -/
def lSpSource (r : Bytes) : Nat := fld r 2 1
/-- OUT_KIND. -/
def lOutKind (r : Bytes) : Nat := fld r 0x0D 1
/-- OUT_INDEX. -/
def lOutIndex (r : Bytes) : Nat := fld r 0x14 2
/-- IN_LSB. -/
def lInLsb (r : Bytes) : Rat := f32Rat (fld r 0x20 4)
/-- OUT_LSB. -/
def lOutLsb (r : Bytes) : Rat := f32Rat (fld r 0x24 4)
/-- OUT_MIN. -/
def lOutMin (r : Bytes) : Int := sfld r 0x34 4
/-- OUT_MAX. -/
def lOutMax (r : Bytes) : Int := sfld r 0x38 4
/-- SAFE_OUTPUT. -/
def lSafe (r : Bytes) : Int := sfld r 0x3C 4

/-- Outputs a record writes: the STAGES outputs of a STAGED loop on DOUT, else one (R314). -/
def lSpan (r : Bytes) : Nat := if lKind r = 2 ∧ lOutKind r = 2 then fld r 0x16 1 else 1

/-- A configured record writes a target (R314). -/
def covers (r : Bytes) (k i : Nat) : Bool :=
  lKind r != 0 && lOutKind r == k && decide (lOutIndex r ≤ i) && decide (i < lOutIndex r + lSpan r)

/-- The targets of R319 a record writes: OUT_KIND and index. -/
def targetsOf (r : Bytes) : List (Nat × Nat) :=
  if lKind r = 0 ∨ lOutKind r = 0 ∨ lOutKind r = 4 then [] else (List.range (lSpan r)).map (fun j => (lOutKind r, lOutIndex r + j))

/-- The slots whose record satisfies a condition, ascending. -/
def slotsWhere (p : Bytes → Bool) (s : State) : List Nat := (s.loops.slots.filter (fun e => p e.2.record)).map (·.1)

/-- The loop that owns an output: its non-GUARD loop writer (R314). -/
def loopOwner (k i : Nat) (s : State) : Option Nat := (slotsWhere (fun r => covers r k i && !lGuard r) s).head?

/-- An output is bound by the program (R340). -/
def progBound (k i : Nat) (s : State) : Bool := bindsTo (progDir s) (bindKind k) i != []

/-- A caravan that is not final holds a member on a target (R328, R383). -/
def caravanHolds (target : Nat) (s : State) : Bool := s.car.slots.any (fun e => e.2.members.any (fun m => m.target == target))

/-- A target's writers and value. -/
def target (k i : Nat) (s : State) : Target := tabGet {} s.loops.targets (k * 1024 + i)

/-- A target changed. -/
def setTarget (k i : Nat) (t : Target) (s : State) : State :=
  { s with loops := { s.loops with targets := tabSet s.loops.targets (k * 1024 + i) t } }

/-! ### Loop modes (R319, R320, R322) -/

/-- A GUARD writer or an interlock holds a target of the loop or of a loop beneath it (R319). -/
def guardedAt (s : State) : Nat → Nat → Bool
  | 0, _ => false
  | fuel + 1, n =>
    let r := (loopSlot n s).record
    (targetsOf r).any (fun t => (target t.1 t.2 s).guard || (target t.1 t.2 s).interlock) ||
      (lKind r != 0 && lOutKind r == 4 && guardedAt s fuel (lOutIndex r))

/-- The mode of a loop: the first row of R322 that applies. -/
def loopModeAt (s : State) : Nat → Nat → Nat
  | 0, _ => 2
  | fuel + 1, n =>
    let l := loopSlot n s
    let r := l.record
    let guard := lGuard r
    let action := fld r 0x0F 1
    if lKind r = 0 then 0
    else if s.power.off || s.win.power == .standby || (s.win.power == .holdup && !guard) then 8
    else if s.win.role = .standby then 9
    else if !guard && guardedAt s 4 n then 7
    else if !guard && l.req == 1 then 1
    else if lKind r = 3 then 2
    else if s.win.power == .holdup || (l.inFault && (guard || fld r 3 1 == 1)) || (l.fe && action == 2) then 6
    else if l.inFault || (l.fe && action == 1) then 5
    else if l.stopped then 4
    else if lOutKind r = 4 ∧ loopModeAt s fuel (lOutIndex r) ≠ 2 then 3
    else 2

/-- The mode of a loop. -/
def loopMode (n : Nat) (s : State) : Nat := loopModeAt s 5 n

/-- The latest value of a loop input: R91's sources and those of R312. -/
def loopReading (kind src : Nat) (s : State) : Option Reading :=
  match kind with
  | 0x10 =>
    let l := loopSlot (src % 512) s
    let m := loopMode (src % 512) s
    some (readRat (l.y * lOutLsb l.record) s.zone (m == 0 || m == 8))
  | 0x11 =>
    let d := tabGet {} s.io.di src
    some (readRat (diFrequency d s.tb.now) s.zone d.bad)
  | 0x12 => some (readRat (tabGet {} s.motion.axes src).enc s.zone false)
  | 0x13 => (feed src s).power.map (fun p => readF32 p.1 p.2 false)
  | 0x14 => some (readF32 (exchangeEntry src s) s.zone false)
  | k => sensorReading k src s

/-! ### Axes (R365 to R377) -/

/-- An axis. -/
def axis (n : Nat) (s : State) : Axis := tabGet {} s.motion.axes n

/-- An axis changed. -/
def setAxis (n : Nat) (a : Axis) (s : State) : State := { s with motion := { s.motion with axes := tabSet s.motion.axes n a } }

/-- STROKE_USTEPS. -/
def stroke (a : Axis) : Nat := fld a.record 4 4

/-- A GUARD writer holds an axis (R367). -/
def axisGuarded (n : Nat) (s : State) : Bool := (target 3 n s).guard

/-- The mode of an axis: the first row of R377 that applies. -/
def axisMode (n : Nat) (s : State) : Nat :=
  let a := axis n s
  if fld a.record 0 1 = 0 then 0
  else if s.win.role = .standby then 8
  else if s.power.off || s.win.power == .standby || (s.win.power == .holdup && !axisGuarded n s) then 7
  else if a.faulted then 6
  else if axisGuarded n s then 5
  else if a.homing ≠ 0 then 4
  else if !a.homed then 3
  else if a.stopped || a.req == 2 then 2
  else if a.req = 1 then 1
  else 9

/-- An axis is moving. -/
def Axis.moving (a : Axis) : Bool := a.ramp.isSome

/-- An axis runs out on a DECEL_STOP ramp (R370). -/
def Axis.stopping (a : Axis) : Bool := match a.ramp with | none => false | some r => r.goal.isNone

/-- Position, velocity and acceleration at a local instant. -/
def Axis.point (a : Axis) (now : Nat) : Rat × Rat × Rat := match a.ramp with | none => ((a.pos : Rat), 0, 0) | some r => r.at_ now

/-- POSITION at a local instant. -/
def Axis.posAt (a : Axis) (now : Nat) : Int := roundAway (a.point now).1

/-- VELOCITY at a local instant. -/
def Axis.velAt (a : Axis) (now : Nat) : Int := roundAway (a.point now).2.1

/-- ENC_POSITION (R373). -/
def Axis.encPos (a : Axis) : Int :=
  if fld a.record 0x26 1 = 0 ∨ fld a.record 0x2C 4 = 0 then 0
  else roundAway (mkRat (a.enc * (fld a.record 0x30 2 * 256 : Nat)) (fld a.record 0x2C 4))

/-- The encoder count that agrees with a position (R380). -/
def encCount (r : Bytes) (pos : Int) : Int :=
  if fld r 0x26 1 = 0 ∨ fld r 0x30 2 = 0 then 0 else roundAway (mkRat (pos * (fld r 0x2C 4 : Nat)) (fld r 0x30 2 * 256))

/-- The limits of a record's ramps: at VMAX, or at a homing speed. -/
def rampLimits (r : Bytes) (speed : Nat) : Nat × Nat × Nat × Nat := (speed, fld r 0x0C 4, fld r 0x10 4, fld r 0x18 4)

/-- A limit switch bars the way from a position to a goal (R375). -/
def barred (a : Axis) (p t : Int) : Bool := (a.atLow && decide (t < p)) || (a.atHigh && decide (p < t))

/-- A ramp to a goal begins from the present motion; from the hold current the first step is delayed by 1 ms (R367, R369, R372). -/
def rampTo (now speed : Nat) (t : Int) (a : Axis) : Axis :=
  let held := a.ramp.isNone && (a.current == 2 || (a.current == 3 && fld a.record 0x22 2 == 0))
  let mode := if a.current = 1 ∨ fld a.record 0x1C 4 = 0 then 1 else 0
  { a with ramp := some (mkRamp (rampLimits a.record speed) (if held then now + 1000000 else now) (a.point now) (some t)), current := mode, want := mode, recorded := false, dirty := true }

/-- The ramp generator takes a target: motion begins unless the axis stands there or a limit switch bars the way (R367, R375). -/
def startMove (now : Nat) (t : Int) (a : Axis) : Axis :=
  let a := { a with target := t }
  let p := a.posAt now
  if barred a p t || (a.ramp.isNone && p == t) then a else rampTo now (fld a.record 8 4) t a

/-- A stop request: the motion runs out on the DECEL_STOP ramp (R370). -/
def stopAxis (now : Nat) (a : Axis) : Axis :=
  if a.moving && !a.stopping then
    { a with ramp := some (mkRamp (fld a.record 8 4, fld a.record 0x0C 4, fld a.record 0x14 4, fld a.record 0x18 4) now (a.point now) none) }
  else a

/-- The resolved target of an axis is followed in AUTO and GUARDED, clamped to the stroke, and re-planned when it changes; a held
axis that cannot move records GUARD_UNMET (R366, R367, R377). -/
def retarget (n : Nat) (v : Rat) (s : State) : State :=
  let now := s.tb.now
  let a := axis n s
  let a := if axisGuarded n s && a.homing != 0 then stopAxis now { a with homing := 0, homed := false } else a
  let s := setAxis n a s
  let m := axisMode n s
  let c := clampRat 0 1 v
  let a := { a with clamped := a.clamped || (c != v && (m == 9 || m == 5)) }
  if axisGuarded n s && (m == 6 || (m == 5 && !a.homed)) then
    if a.unmet then setAxis n a s else emit 0x0B02 [n] (setAxis n { a with unmet := true } s)
  else
    let a := { a with unmet := false }
    if (m == 9 || m == 5) && a.homed && a.faultPend == 0 then
      let t := roundAway (c * (stroke a : Rat))
      if t = a.target ∧ a.moving ∧ !a.stopping then setAxis n a s else setAxis n (startMove now t a) s
    else setAxis n a s

/-- The current mode of a moving axis follows its speed; a change waits for the next full-step position (R371). -/
def followCurrent (now : Nat) (a : Axis) : Axis :=
  match a.ramp with
  | none => a
  | some r =>
    let q := fld a.record 0x1C 4
    let speed := (a.velAt now).natAbs
    let want := if q = 0 ∨ q < speed then 1 else if 8 * speed ≤ 7 * q then 0 else a.want
    let step := a.posAt now / 256
    if now < r.t0 then a
    else if want != a.current && want == a.want && step != a.fullStep then { a with current := want, fullStep := step }
    else { a with want := want, fullStep := step }

/-- Current modes at a tick. -/
def followCurrents (s : State) : State :=
  { s with motion := { s.motion with axes := s.motion.axes.map (fun e => (e.1, followCurrent s.tb.now e.2)) } }

/-! ### Field outputs (R411, R415, R420) -/

/-- An interlock is engaged. -/
def ilockOn (n : Nat) (s : State) : Bool := (tabGet {} s.io.ilocks n).on

/-- The value engaged interlocks give an output (R415). -/
def ilockValue (k i : Nat) (s : State) : Option Rat :=
  let on := (List.range 8).filter (fun n => ilockOn n s)
  let r := fun n => ilockRec s.io.cfg n
  if k = 2 then
    if on.any (fun n => bit (fld (r n) 4 4) i) then some 0
    else if on.any (fun n => bit (fld (r n) 8 4) i) then some 1 else none
  else if k = 1 then (on.find? (fun n => bit (fld (r n) 0x0C 1) i)).map (fun n => mkRat (fld (r n) 0x0E 2) 1000)
  else none

/-- A digital output takes its resolved value where its switch may be on (R411, R415). -/
def driveDout (i : Nat) (on : Bool) (s : State) : State :=
  let d := tabGet {} s.io.dout i
  let now := on && !d.latched && d.offAt.isNone && !s.power.vdoUnder6
  { s with io := { s.io with dout := tabSet s.io.dout i { d with on := now, retries := if on then d.retries else 0 } } }

/-- An analogue output takes its resolved value. -/
def driveAout (i : Nat) (v : Rat) (s : State) : State :=
  { s with io := { s.io with aout := tabSet s.io.aout i (toF32 (clampRat 0 10 v)) } }

/-- A resolved target reaches its output (R319). -/
def drive (k i : Nat) (v : Rat) (s : State) : State :=
  match k with
  | 1 => driveAout i v s
  | 2 => driveDout i (decide (v ≠ 0)) s
  | 3 => retarget i v s
  | _ => { s with loops := { s.loops with exchange := tabSet s.loops.exchange i (roundAway v % 4294967296).toNat } }

/-- What a target takes when no writer gives a value (R420). -/
def powerLoss (k i : Nat) (present : Rat) (s : State) : Rat :=
  if s.win.power ≠ .holdup then (if k = 3 then present else 0)
  else if k = 2 then (if bit (fld (doRec s.io.cfg i) 0 1) 1 then present else 0)
  else if k = 1 then (if bit (fld (aoutRec s.io.cfg i) 0 1) 1 then present else mkRat (fld (aoutRec s.io.cfg i) 2 2) 1000)
  else present

/-! ### Target resolution (R319, R345) -/

/-- The value a loop writes at a target (R314). -/
def loopValue (l : Loop) (k i : Nat) : Rat :=
  let r := l.record
  let y : Int := if lKind r = 3 then sfld r 0x4C 4 else l.y
  if k = 2 then (if lKind r = 2 then (if i < lOutIndex r + l.stage then 1 else 0) else if y = 0 then 0 else 1)
  else if k = 5 then y
  else if k = 1 then clampRat 0 10 (y * lOutLsb r) else y * lOutLsb r

/-- Step 1 of R319: the non-GUARD writer's value, else the present value; nothing in HOLDUP. -/
def baseValue (k i : Nat) (s : State) : Option Rat :=
  let t := target k i s
  if s.win.power = .holdup then none
  else match loopOwner k i s with
    | some n => some (loopValue (loopSlot n s) k i)
    | none =>
      if (bindsTo (progDir s) (bindKind k) i).any (fun e => !entryGuard e) then
        match t.prog with
        | some v => if k = 3 ∧ !f32Finite v then some t.value else some (f32Val v)
        | none => some t.value
      else match t.local_ with
        | some v => some (f32Val v)
        | none => some t.value

/-- The program's GUARD outputs that are engaged on a target: all of them outside RUN and in HOLDUP (R345). -/
def progGuards (k i : Nat) (s : State) : List Rat :=
  let on := fun e => progState s != 2 || fld (tabGet [] s.prog.outputs (varId e)) 0 1 != 0
  ((bindsTo (progDir s) (bindKind k) i).filter (fun e => entryGuard e && on e)).map (fun e => f32Val (fld e 0x18 4))

/-- Step 2 of R319: MODULATING GUARD writers in ascending slot order take the smaller or, with SELECT_MAX, the larger value. -/
def modGuards (k i : Nat) (s : State) (base : Option Rat) : Option Rat :=
  (slotsWhere (fun r => covers r k i && lGuard r && lKind r == 1) s).foldl (fun v n =>
    let l := loopSlot n s
    let w := loopValue l k i
    match v with
    | none => some w
    | some a => some (if bit (fld l.record 1 1) 2 then max a w else min a w)) base

/-- Step 3 of R319: the GUARD_VALUE of an engaged LIMIT writer. -/
def limitValue (k i : Nat) (s : State) : Option Rat :=
  match (slotsWhere (fun r => covers r k i && lKind r == 3) s).find? (fun n => (loopSlot n s).engaged) with
  | some n => some (loopValue (loopSlot n s) k i)
  | none => (progGuards k i s).head?

/-- The non-GUARD loop of a held target follows the value written (R319). -/
def followHeld (k i : Nat) (v : Rat) (s : State) : State :=
  match loopOwner k i s with
  | none => s
  | some n =>
    let l := loopSlot n s
    if lKind l.record = 1 then
      let y := sat32 (if k = 5 then roundAway v else roundAway (v / lOutLsb l.record))
      setLoop n { l with y := y.1, saturated := l.saturated || y.2 } s
    else s

/-- A target is resolved and driven (R319). -/
def resolve (k i : Nat) (s : State) : State :=
  let t := target k i s
  let base := baseValue k i s
  let v2 := modGuards k i s base
  let lim := limitValue k i s
  let ilk := ilockValue k i s
  let v := match ilk, lim, v2 with
    | some a, _, _ => a
    | none, some a, _ => a
    | none, none, some a => a
    | none, none, none => powerLoss k i t.value s
  let held := lim.isSome || v2 != base
  let s := setTarget k i { t with value := v, guard := held, interlock := ilk.isSome } s
  let s := if held || ilk.isSome then followHeld k i v s else s
  drive k i v s

/-- The targets there are: analogue outputs, digital outputs, axes, and exchange entries a loop writes. -/
def allTargets (s : State) : List (Nat × Nat) :=
  (List.range 8).map (fun i => (1, i)) ++ (List.range 24).map (fun i => (2, i)) ++ (List.range 8).map (fun i => (3, i)) ++
    (slotsWhere (fun r => lKind r != 0 && lOutKind r == 5) s).map (fun n => (5, lOutIndex (loopSlot n s).record))

/-- A STAGED loop whose outputs are held follows them: its stage is the number that are on (R317, R319). -/
def followStage (n : Nat) (s : State) : State :=
  let l := loopSlot n s
  let r := l.record
  if lKind r = 2 ∧ guardedAt s 4 n then
    let stage := if lOutKind r = 2 then ((targetsOf r).filter (fun t => (target t.1 t.2 s).value != 0)).length
      else (clampInt 0 (fld r 0x16 1) (roundAway (target (lOutKind r) (lOutIndex r) s).value)).toNat
    if stage = l.stage then s
    else setLoop n { l with stage := stage, y := stage, stageAt := s.tb.now, staged := true } s
  else s

/-- APPLIED of a loop: the value written at its target, in output units (R329). -/
def appliedOf (n : Nat) (s : State) : Int :=
  let r := (loopSlot n s).record
  if lOutKind r = 4 then (loopSlot n s).y
  else if targetsOf r = [] then 0
  else if lOutKind r = 2 then (((targetsOf r).filter (fun t => (target t.1 t.2 s).value != 0)).length : Int)
  else
    let v := (target (lOutKind r) (lOutIndex r) s).value
    (sat32 (if lOutKind r = 5 then roundAway v else roundAway (v / lOutLsb r))).1

/-- APPLIED of a slot is taken over; a change is due for replication (R326). -/
def noteApplied (n : Nat) (s : State) : State :=
  let l := loopSlot n s
  let a := appliedOf n s
  if a = l.applied then s else setLoop n { l with applied := a, dirty := true } s

/-- Every target is resolved after the evaluations of a tick (R319); a module that drives nothing resolves nothing (R33). -/
def resolveAll (s : State) : State :=
  if !driving s || s.win.power == .standby then s
  else
    let s := (allTargets s).foldl (fun t k => resolve k.1 k.2 t) s
    let slots := slotsWhere (fun r => lKind r != 0) s
    slots.foldl (fun t n => noteApplied n (followStage n t)) s

/-- Every output is off and every bridge high-impedance: OFF, STANDBY, a reset, or a module that has let go (R33, R420, R544). -/
def outputsOff (s : State) : State :=
  let off : Tab Dout := s.io.dout.map (fun e => (e.1, { e.2 with on := false }))
  let axes := s.motion.axes.map (fun e => (e.1, { e.2 with homed := e.2.homed && !e.2.moving, pos := e.2.posAt s.tb.now, ramp := none, current := 3, homing := 0 }))
  let t := s.loops.targets.map (fun e => (e.1, if e.1 / 1024 = 1 ∨ e.1 / 1024 = 2 then { e.2 with value := 0, guard := false, interlock := false } else e.2))
  { s with
    io := { s.io with dout := off, aout := [] }
    motion := { s.motion with axes := axes }
    loops := { s.loops with targets := t } }

end Sys2Proof.Machine
end

