-- ==== Sys2Proof/Machine/Buses.lean ====
section
/-! DEFINITION. The CAN FD controllers: modes, message objects, transmission, error confinement, rate detection and the commands
of chapter 13 that concern them (R385 to R395, R400 to R402). -/

namespace Sys2Proof.Machine
open Sys2Proof

/-! ### Modes and timing (R386, R387, R401) -/

/-- A controller changed. -/
def setCan (b : Nat) (c : CanBus) (s : State) : State := { s with buses := { s.buses with can := tabSet s.buses.can b c } }

/-- An object of a controller changed. -/
def CanBus.setObj (c : CanBus) (o : Nat) (x : CanObj) : CanBus := { c with objs := tabSet c.objs o x }

/-- The objects of a controller, ascending. -/
def CanBus.objects (c : CanBus) : List (Nat × CanObj) := (List.range 256).map (fun o => (o, tabGet {} c.objs o))

/-- The bus units are up: their configuration has been restored since the last reset that stopped them; a Keeper restart leaves
them running (R401, R545). -/
def busesUp (s : State) : Bool :=
  !s.power.off && !s.boot.held && s.boot.failure == 0 && s.win.power != .standby && (s.boot.restored || s.boot.kind == .keeper)

/-- The effective mode of a controller (R386): 0 OFF, 1 NORMAL, 2 LISTEN_ONLY, 3 LOOPBACK. -/
def canMode (b : Nat) (s : State) : Nat :=
  let c := canBus b s
  if !busesUp s then 0
  else if c.detect.isSome || c.found.isSome || s.win.role == .standby || s.win.power == .holdup then 2
  else fld c.cfg 0 1

/-- The STATE code of a controller's status (R402). -/
def canState (b : Nat) (s : State) : Nat :=
  let c := canBus b s
  if c.detect.isSome then 4 else if canMode b s = 0 then 0 else c.err

/-- TEC and REC as bytes. -/
def canCounts (c : CanBus) : Nat × Nat := (min 255 c.tec, min 255 c.recCount)

/-- The error state changes: an event at each change (R394). -/
def setCanErr (b e : Nat) (s : State) : State :=
  let c := canBus b s
  if c.err = e then s else emit 0x0901 [b, e, (canCounts c).1, (canCounts c).2] (setCan b { c with err := e } s)

/-- The error state follows the counters (R394): ERROR_PASSIVE above 127, ERROR_ACTIVE once both are at most 127. -/
def judgeCan (b : Nat) (s : State) : State :=
  let c := canBus b s
  if c.err = 3 then s else setCanErr b (if 127 < c.tec ∨ 127 < c.recCount then 2 else 1) s

/-- A controller starts afresh in its configured MODE, with both counters 0 and no frame received (R400, R401). -/
def canStart (b : Nat) (s : State) : State :=
  let c := canBus b s
  let objs := c.objs.map (fun e => (e.1, { e.2 with cur := none, shadow := none, isNew := false, overrun := false, sending := none }))
  setCan b { c with err := 1, tec := 0, recCount := 0, faults := 0, recovering := false, detect := none, found := none, objs := objs } s

/-- Takeover sets each controller to its configured MODE, with TEC and REC at 0 (R400). -/
def takeoverCan (s : State) : State :=
  (List.range 4).foldl (fun t b => setCan b { canBus b t with err := 1, tec := 0, recCount := 0, recovering := false } t) s

/-! ### Reception (R389 to R391) -/

/-- An RX object takes a frame: IDE, the masked identifier and the frame type agree (R389). -/
def rxMatches (r : Bytes) (f : CanRx) : Bool :=
  let flags := fld r 1 1
  let m := fld r 8 4
  fld r 0 1 == 1 && bit flags 0 == f.ide && f.id &&& m == fld r 4 4 &&& m && bit flags 1 == f.fd

/-- A frame goes into an object's buffers (R390). -/
def intoBuffers (f : CanFrame) (reading : CanReading) (o : CanObj) : CanObj × Bool :=
  match reading with
  | .idle => ({ o with cur := some f, shadow := none, isNew := true }, false)
  | .begun => ({ o with cur := o.frame, shadow := some f, isNew := true }, false)
  | .since => ({ o with shadow := some f, isNew := true, overrun := o.overrun || o.shadow.isSome }, o.shadow.isSome)

/-- A frame is offered to the RX objects in ascending order; one that no object takes is counted unmatched (R385, R389). -/
def offer (b : Nat) (f : CanRx) (stamp : Nat) (reading : CanReading) (s : State) : State :=
  let c := canBus b s
  let c := { c with rx := (c.rx + 1) % 2 ^ 32 }
  match if f.remote then none else c.objects.find? (fun e => rxMatches e.2.record f) with
  | none => setCan b { c with unmatched := (c.unmatched + 1) % 2 ^ 32 } s
  | some (o, x) =>
    let g : CanFrame := { id := f.id, ide := f.ide, fd := f.fd, brs := f.brs, data := f.data.take (if f.fd then 64 else 8), stamp := stamp }
    let y := intoBuffers g reading x
    setCan b { c with overruns := (c.overruns + b2n y.2) % 2 ^ 32, objs := tabSet c.objs o y.1 } s

/-- REC after a frame received without error (R394). -/
def recAfterGood (r : Nat) : Nat := if 127 < r then 119 + Config.canRecReturn r % 9 else r - 1

/-! ### Rate detection (R388) -/

/-- NBRP, NTSEG1, NTSEG2 and kbit/s of the nominal candidates, each at 80 %. -/
def nominalRates : List (Nat × Nat × Nat × Nat) :=
  [(1, 63, 16, 1000), (1, 79, 20, 800), (1, 127, 32, 500), (1, 255, 64, 250), (2, 255, 64, 125)]

/-- DBRP, DTSEG1, DTSEG2 and kbit/s of the data candidates, each at 75 % as nearly as its quanta allow. -/
def dataRates : List (Nat × Nat × Nat × Nat) :=
  [(1, 7, 2, 8000), (1, 11, 4, 5000), (1, 14, 5, 4000), (1, 29, 10, 2000), (2, 29, 10, 1000)]

/-- A configuration with the timing found. -/
def withTiming (cfg : Bytes) (n d : Option (Nat × Nat × Nat × Nat)) : Bytes :=
  let cfg := match n with
    | none => cfg
    | some (p, a, c, _) => patch cfg 2 (le 2 p ++ le 2 a ++ le 2 c ++ le 2 c)
  match d with
  | none => cfg
  | some (p, a, c, _) => patch cfg 0x0A (le 1 p ++ le 1 a ++ le 1 c ++ le 1 c)

/-- Detection ends FOUND: LISTEN_ONLY at the timing found. -/
def detectFound (b : Nat) (nominal : Nat) (data : Option (Nat × Nat × Nat × Nat)) (s : State) : State :=
  let c := canBus b s
  let n := nominalRates.find? (fun e => e.2.2.2 == nominal)
  let dk : Nat := match data with | none => 0 | some e => e.2.2.2
  emit 0x0903 [b, 1, nominal, dk]
    (setCan b { c with detect := none, found := some (withTiming c.cfg n data), detResult := 1, detRates := (nominal, dk) } s)

/-- A frame without error while rates are detected: the third in a row finds the candidate. -/
def detectGood (b : Nat) (brs : Bool) (s : State) : State :=
  let c := canBus b s
  match c.detect with
  | none => s
  | some d =>
    if d.cand < 5 then
      let d := { d with good := d.good + 1, brs := d.brs || brs }
      let rate := ((nominalRates.getD d.cand (1, 63, 16, 1000)).2.2.2)
      if d.good < 3 then setCan b { c with detect := some d } s
      else if d.brs then setCan b { c with detect := some { d with nominal := rate, cand := 5, good := 0, since := s.tb.now } } s
      else detectFound b rate none s
    else if !brs then s
    else if d.good + 1 < 3 then setCan b { c with detect := some { d with good := d.good + 1 } } s
    else detectFound b d.nominal dataRates[d.cand - 5]? s

/-- An error while rates are detected: the frames in a row start afresh; one in a data phase shows that frames with BRS are there. -/
def detectBad (b : Nat) (data : Bool) (s : State) : State :=
  let c := canBus b s
  match c.detect with
  | none => s
  | some d => setCan b { c with detect := some { d with good := 0, brs := d.brs || data } } s

/-- CAN_FRAME_RECEIVED (R389): due when a frame from the bus is valid; its start-of-frame edge lies `sof` ns back. -/
def execCanFrameReceived (dt : Nat) (bus : Fin 4) (frame : CanRx) (sof : Nat) (reading : CanReading) (s : State) :
    Host.Outcome State Fault Refusal :=
  let s := advance dt s
  let b := bus.val
  let c := canBus b s
  let m := canMode b s
  .next (if m = 0 ∨ m = 3 ∨ (frame.fd ∧ !bit (fld c.cfg 1 1) 0 ∧ c.detect.isNone ∧ c.found.isNone) then s
    else
      let s := offer b frame (s.zone - sof) reading s
      let s := detectGood b (frame.fd && frame.brs) s
      if m = 1 then let c := canBus b s; judgeCan b (setCan b { c with recCount := recAfterGood c.recCount } s) else s)

/-! ### Transmission (R392) -/

/-- The arbitration field of a TX object, lowest first: the base identifier, IDE, the extension. -/
def arbitration (r : Bytes) : Nat :=
  let id := fld r 4 4
  if bit (fld r 1 1) 0 then id / 2 ^ 18 * 2 ^ 19 + 2 ^ 18 + id % 2 ^ 18 else id * 2 ^ 19

/-- The pending object that goes first: arbitration, then the lower number. -/
def winner (c : CanBus) : Option Nat :=
  (c.objs.filter (fun e => e.2.pending.isSome)).foldl (fun w e =>
    match w with
    | none => some e.1
    | some o => if arbitration e.2.record < arbitration (tabGet {} c.objs o).record then some e.1 else some o) none

/-- The object whose frame is in transmission. -/
def sendingObj (c : CanBus) : Option (Nat × CanObj) := c.objs.find? (fun e => e.2.sending.isSome)

/-- A request to send with the data last written (R392). -/
def requestSend (b o : Nat) (s : State) : State :=
  let x := canObj b o s
  setCan b ((canBus b s).setObj o { x with pending := some x.data, txFailed := false }) s

/-- A program write of a TX object: the value stands at VALUE_OFFSET; ON_WRITE requests a send (R392). -/
def canWrite (b o : Nat) (value : Bytes) (s : State) : State :=
  let x := canObj b o s
  let s := setCan b ((canBus b s).setObj o { x with data := patch x.data (fld x.record 0x0C 1) value }) s
  if fld x.record 3 1 = 1 then requestSend b o s else s

/-- A transmission begins: nothing is sent in BUS_OFF, without a sending mode, or while the bus is held dominant (R386, R394, R395). -/
def beginSend (b : Nat) (s : State) : State :=
  let c := canBus b s
  let m := canMode b s
  if (sendingObj c).isSome || !(m == 1 || m == 3) || c.err == 3 || decide (255 < c.tec) || (m == 1 && bit c.faults 1) then s
  else match winner c with
    | none => s
    | some o => let x := canObj b o s; setCan b (c.setObj o { x with sending := x.pending, pending := none }) s

/-- A frame has been sent: it is counted, and in LOOPBACK received by the controller's own objects (R386, R392). -/
def sendDone (b : Nat) (s : State) : State :=
  let c := canBus b s
  match sendingObj c with
  | none => s
  | some (o, x) =>
    let r := x.record
    let data := (x.sending.getD []).take (fld r 2 1)
    let m := canMode b s
    if m ≠ 3 ∧ (bit c.faults 0 ∨ bit c.faults 2 ∨ bit c.faults 3) then s
    else
      let s := setCan b { c.setObj o { x with sending := none } with tx := (c.tx + 1) % 2 ^ 32, tec := c.tec - 1 } s
      let f : CanRx := { id := fld r 4 4, ide := bit (fld r 1 1) 0, fd := bit (fld r 1 1) 1, brs := bit (fld r 1 1) 2, remote := false, data := data }
      judgeCan b (if m = 3 then offer b f s.zone .idle s else send (.can b f.id data) s)

/-- A transmission did not succeed: it is retried, or under ONE_SHOT fails (R392). -/
def sendFailed (b : Nat) (s : State) : State :=
  let c := canBus b s
  match sendingObj c with
  | none => s
  | some (o, x) =>
    if bit (fld x.record 1 1) 3 then setCan b (c.setObj o { x with sending := none, txFailed := true }) s
    else setCan b (c.setObj o { x with sending := none, pending := x.pending.or x.sending }) s

/-- CAN_FRAME_TRANSMITTED (R392): a transmission begins, completes, loses arbitration or fails. -/
def execCanFrameTransmitted (dt : Nat) (bus : Fin 4) (ev : CanTxEvent) (s : State) : Host.Outcome State Fault Refusal :=
  let s := advance dt s
  let b := bus.val
  .next (if canMode b s = 0 then s
    else match ev with
      | .started => beginSend b s
      | .completed => sendDone b (beginSend b s)
      | .lost => sendFailed b (beginSend b s)
      | .failed => sendFailed b (beginSend b s))

/-- The PERIODIC objects of a controller that have reached an instant (R392). -/
def periodicDue (now : Nat) (c : CanBus) : List Nat :=
  (c.objs.filter (fun e => fld e.2.record 0 1 == 2 && fld e.2.record 3 1 == 2 && decide (e.2.lastPeriod < now / (max 1 (fld e.2.record 0x0E 2) * 1000000)))).map (·.1)

/-- A PERIODIC object's instant is taken. -/
def takePeriod (b o : Nat) (s : State) : State :=
  let x := canObj b o s
  requestSend b o (setCan b ((canBus b s).setObj o { x with lastPeriod := s.tb.now / (max 1 (fld x.record 0x0E 2) * 1000000) }) s)

/-- CAN_PERIODIC_SEND (R392): due at each tick-count instant that is a multiple of an object's PERIOD_MS. -/
def execCanPeriodicSend (dt : Nat) (s : State) : Host.Outcome State Fault Refusal :=
  let s := advance dt s
  .next ((List.range 4).foldl (fun t b =>
    if canMode b t = 0 then t else (periodicDue t.tb.now (canBus b t)).foldl (fun u o => takePeriod b o u) t) s)

/-! ### Error confinement and bus faults (R394, R395) -/

/-- CAN_BUS_ERROR (R394): the counters move as ISO 11898-1 prescribes; a controller that only listens counts nothing. -/
def execCanBusError (dt : Nat) (bus : Fin 4) (err : CanError) (s : State) : Host.Outcome State Fault Refusal :=
  let s := advance dt s
  let b := bus.val
  .next (if canMode b s = 0 ∨ (canBus b s).err = 3 then s
    else
      let s := detectBad b (decide (err = .dataPhase)) s
      let c := canBus b s
      if canMode b s = 2 then s
      else judgeCan b (setCan b (match err with
        | .transmit => { c with tec := c.tec + 8 }
        | .passiveAck => c
        | .receive => { c with recCount := c.recCount + 1 }
        | .dominant => { c with recCount := c.recCount + 8 }
        | .dataPhase => { c with recCount := c.recCount + 1 }) s))

/-- BUS_OFF (R394): due once TEC exceeds 255; with AUTO_RECOVER the recovery sequence starts at once. -/
def execBusOff (dt : Nat) (bus : Fin 4) (s : State) : Host.Outcome State Fault Refusal :=
  let s := advance dt s
  let b := bus.val
  let c := canBus b s
  .next (if canMode b s = 0 ∨ c.err = 3 ∨ c.tec ≤ 255 then s
    else
      let s := setCanErr b 3 (sendFailed b s)
      let c := canBus b s
      setCan b { c with busOffs := (c.busOffs + 1) % 2 ^ 32, recovering := bit (fld c.cfg 1 1) 1 } s)

/-- BUS_OFF_RECOVERY (R394): due after 128 occurrences of 11 recessive bits of a running recovery sequence. -/
def execBusOffRecovery (dt : Nat) (bus : Fin 4) (s : State) : Host.Outcome State Fault Refusal :=
  let s := advance dt s
  let b := bus.val
  let c := canBus b s
  .next (if canMode b s = 0 ∨ c.err ≠ 3 ∨ !c.recovering then s
    else setCanErr b 1 (setCan b { c with tec := 0, recCount := 0, recovering := false } s))

/-- CAN_TRANSCEIVER_FAULT (R395): a fault's condition arises or clears. -/
def execCanTransceiverFault (dt : Nat) (bus fault : Fin 4) (present : Bool) (s : State) : Host.Outcome State Fault Refusal :=
  let s := advance dt s
  let b := bus.val
  let k := fault.val
  let c := canBus b s
  .next (if canMode b s = 0 ∨ bit c.faults k = present then s
    else emit 0x0902 [b, k, if present then 0 else 1] (setCan b { c with faults := if present then setBit c.faults k else c.faults - 2 ^ k } s))

/-- DETECT_DWELL (R388): due DWELL_MS after the present candidate began. -/
def execDetectDwell (dt : Nat) (bus : Fin 4) (s : State) : Host.Outcome State Fault Refusal :=
  let s := advance dt s
  let b := bus.val
  let c := canBus b s
  .next (match c.detect with
    | none => s
    | some d =>
      if s.tb.now < d.since + d.dwell * 1000000 then s
      else setCan b { c with detect := some { d with cand := if d.cand < 5 then (d.cand + 1) % 5 else 5 + (d.cand - 4) % 5, good := 0, since := s.tb.now } } s)

/-- DETECT_TIMEOUT (R388): due TIMEOUT_S after detection began; a data rate not found reads as 0. -/
def execDetectTimeout (dt : Nat) (bus : Fin 4) (s : State) : Host.Outcome State Fault Refusal :=
  let s := advance dt s
  let b := bus.val
  let c := canBus b s
  .next (match c.detect with
    | none => s
    | some d =>
      if s.tb.now < d.from_ + d.timeout * 1000000000 then s
      else if 5 ≤ d.cand then detectFound b d.nominal none s
      else emit 0x0903 [b, 2, 0, 0] (setCan b { c with detect := none, detResult := 2, detRates := (0, 0) } s))

/-! ### Commands (R402) -/

/-- BUS. -/
def busField (b : Bytes) : Bool × Nat × Nat := inRange b 0 1 0 3

/-- Can-Get-Config. -/
def cmdCanGetConfig : Command :=
  { code := 0x0901, standby := true, len := lenIs 4, reserved := resv [(1, 3)], range := fun c _ => [busField c.payload]
    body := fun c s => let x := canBus (fld c.payload 0 1) s; (s, .ok (x.found.getD x.cfg)) }

/-- A timing is refused (R387). -/
def badTiming (b : Bytes) : Bool :=
  let n := 1 + fld b 4 2 + fld b 6 2
  let d := 1 + fld b 0x0B 1 + fld b 0x0C 1
  let np := fld b 2 2 * n
  let dp := fld b 0x0A 1 * d
  let fl := fld b 1 1
  decide (np < 80) || decide (640 < np) || (bit fl 0 && (decide (dp < 10) || decide (np < dp))) || decide (n < 8) || decide (d < 5) ||
    decide (fld b 6 2 < fld b 8 2) || decide (fld b 0x0C 1 < fld b 0x0D 1) || (decide (dp < 80) && !bit fl 3)

/-- Can-Set-Config (R387): the configuration is in force at once, and a detection or the timing it found ends. -/
def cmdCanSetConfig : Command :=
  { code := 0x0902, len := lenIs 36
    reserved := fun b => [(1, 3)] ++ (if 16 ≤ fld b 5 1 then [(5, 1)] else []) ++ [(0x13, 1), (0x16, 14)]
    range := fun c _ =>
      let b := c.payload
      [busField b, inRange b 4 1 0 3, inRange b 6 2 1 32, inRange b 8 2 2 256, inRange b 0x0A 2 2 128, inRange b 0x0C 2 1 128, inRange b 0x0E 1 1 32,
        inRange b 0x0F 1 1 32, inRange b 0x10 1 1 16, inRange b 0x11 1 1 16, inRange b 0x12 1 0 127, inRange b 0x14 2 200 65535]
    body := fun c s =>
      let b := fld c.payload 0 1
      let cfg := c.payload.drop 4
      let x := canBus b s
      if badTiming cfg then (s, refuse 0x20)
      else
        let x := { x with cfg := cfg, detect := none, found := none, recovering := x.recovering || (x.err == 3 && bit (fld cfg 1 1) 1) }
        (setCan b (if fld cfg 0 1 = 0 then { x with err := 1, tec := 0, recCount := 0, recovering := false } else x) s, .ok []) }

/-- FIRST and COUNT of an object command. -/
def objSpan (b : Bytes) (most : Nat) : List (Bool × Nat × Nat) :=
  [busField b, inRange b 3 1 1 most, chk (decide (fld b 2 1 + fld b 3 1 ≤ 256)) 2]

/-- The ranges of an object record (R402). -/
def objRange (r : Bytes) (at_ : Nat) : List (Bool × Nat × Nat) :=
  let kind := fld r 0 1
  let fl := fld r 1 1
  let n := fld r 2 1
  let top := if bit fl 0 then 2 ^ 29 else 2 ^ 11
  [chk (decide (kind ≤ 2)) at_,
    chk (if kind = 2 then decide (n ≤ 8) || (bit fl 1 && [12, 16, 20, 24, 32, 48, 64].contains n) else n == 0) (at_ + 2),
    chk (decide (fld r 3 1 ≤ (if kind = 2 then 2 else 0))) (at_ + 3), chk (decide (fld r 4 4 < top)) (at_ + 4),
    chk (if kind = 2 then fld r 8 4 == 0 else decide (fld r 8 4 < top)) (at_ + 8), chk (decide (fld r 0x0C 1 ≤ 63)) (at_ + 0x0C),
    chk (decide (fld r 0x0D 1 ≤ 7)) (at_ + 0x0D),
    chk (if kind = 2 ∧ fld r 3 1 = 2 then decide (1 ≤ fld r 0x0E 2 ∧ fld r 0x0E 2 ≤ 60000) else fld r 0x0E 2 == 0) (at_ + 0x0E)]

/-- The program binds an object as an output. -/
def progSends (b o : Nat) (s : State) : Bool := bindsTo (progDir s) 0x46 (b * 256 + o) != []

/-- An object is bound (R393). -/
def canBound (b o : Nat) (s : State) : Bool :=
  let src := b * 256 + o
  let loop := fun (r : Bytes) => lKind r != 0 && fld r 0x0C 1 == 5 && fld r 0x10 4 == src
  let flow := fun (g : Bytes) => (List.range 8).any (fun n => fld (flowRec g n) 0 1 == 4 && fld (flowRec g n) 12 4 == src)
  (match s.model.active with | none => false | some m => m.sensors.any (fun r => fld r 2 1 == 5 && fld r 8 4 == src)) ||
    s.loops.slots.any (fun e => loop e.2.record || (match e.2.pend with | some p => loop p.1 | none => false)) ||
    (progDir s).any (fun e => fld e 8 1 == 0 && fld e 0x12 1 == 5 && fld e 0x14 4 == src) || progSends b o s ||
    flow s.therm.cfg || (match s.therm.pend with | some p => flow p.1 | none => false)

/-- A record changes a field that a binding rests on (R393). -/
def bindingFields (a b : Bytes) : Bool :=
  fld a 0 1 != fld b 0 1 || fld a 4 8 != fld b 4 8 || fld a 1 1 % 4 != fld b 1 1 % 4 || fld a 0x0C 2 != fld b 0x0C 2

/-- A record is written: an object configured anew has received no frame and requests nothing (R391). -/
def setObject (b o : Nat) (r : Bytes) (s : State) : State :=
  let x := canObj b o s
  let y : CanObj := if bindingFields x.record r then { record := r, sending := x.sending } else { x with record := r }
  setCan b ((canBus b s).setObj o { y with lastPeriod := s.tb.now / (max 1 (fld r 0x0E 2) * 1000000) }) s

/-- Can-Set-Objects (R393). -/
def cmdCanSetObjects : Command :=
  { code := 0x0903, len := fun b l => l == 4 + 16 * fld b 3 1
    reserved := fun b => (1, 1) :: (List.range (fld b 3 1)).flatMap (fun i => if 32 ≤ fld b (5 + 16 * i) 1 then [(5 + 16 * i, 1)] else [])
    range := fun c _ =>
      let b := c.payload
      objSpan b 255 ++ (List.range (fld b 3 1)).flatMap (fun i => objRange (slice b (4 + 16 * i) 16) (4 + 16 * i))
    body := fun c s =>
      let b := fld c.payload 0 1
      let first := fld c.payload 2 1
      let new := (chunks 16 (fld c.payload 3 1) (c.payload.drop 4)).zipIdx
      match new.find? (fun e => bindingFields (canObj b (first + e.2) s).record e.1 && canBound b (first + e.2) s) with
      | some e => (s, refuseAt 0x21 (4 + 16 * e.2))
      | none => (new.foldl (fun t e => setObject b (first + e.2) e.1 t) s, .ok []) }

/-- Can-Get-Objects. -/
def cmdCanGetObjects : Command :=
  { code := 0x0904, standby := true, len := lenIs 4, reserved := resv [(1, 1)], range := fun c _ => objSpan c.payload 255
    body := fun c s =>
      let b := c.payload
      (s, .ok (b ++ (List.range (fld b 3 1)).flatMap (fun i => (canObj (fld b 0 1) (fld b 2 1 + i) s).record))) }

/-- A frame record (R402): a TX object shows its identifier and the data last written. -/
def frameRecord (n : Nat) (o : CanObj) : Bytes :=
  let r := o.record
  let tx := fld r 0 1 == 2
  let f : CanFrame := if tx then { id := fld r 4 4, ide := bit (fld r 1 1) 0, fd := bit (fld r 1 1) 1, brs := bit (fld r 1 1) 2, data := o.data.take (fld r 2 1), stamp := 0 }
    else o.frame.getD { id := 0, ide := false, fd := false, brs := false, data := [], stamp := 0 }
  le 1 n ++ le 1 (bitAt 0 o.isNew + bitAt 1 o.overrun + bitAt 2 o.txFailed + bitAt 3 f.ide + bitAt 4 f.fd + bitAt 5 f.brs) ++
    le 1 f.data.length ++ zeros 1 ++ le 4 f.id ++ le 8 f.stamp ++ fit 64 f.data

/-- Can-Read-Objects (R390): each object is read whole, and its NEW ends. -/
def cmdCanReadObjects : Command :=
  { code := 0x0905, standby := true, len := lenIs 4, reserved := resv [(1, 1)], range := fun c _ => objSpan c.payload 101
    body := fun c s =>
      let b := c.payload
      let bus := fld b 0 1
      let ids := (List.range (fld b 3 1)).map (fun i => fld b 2 1 + i)
      let read := fun (t : State) (o : Nat) =>
        let x := canObj bus o t
        if x.isNew || x.shadow.isSome then setCan bus ((canBus bus t).setObj o { x with isNew := false, cur := x.frame, shadow := none }) t else t
      (ids.foldl read s, .ok (b ++ ids.flatMap (fun o => frameRecord o (canObj bus o s)))) }

/-- Can-Send (R392): the data is written to a TX object, and a HOST object requests a send. -/
def cmdCanSend : Command :=
  { code := 0x0906, len := lenIs 68, reserved := resv [(3, 1)], range := fun c _ => [busField c.payload, inRange c.payload 2 1 0 64]
    body := fun c s =>
      let p := c.payload
      let b := fld p 0 1
      let o := fld p 1 1
      let x := canObj b o s
      if fld x.record 0 1 ≠ 2 then (s, refuseAt 0x22 1)
      else if progSends b o s then (s, refuseAt 0x21 1)
      else
        let s := setCan b ((canBus b s).setObj o { x with data := patch x.data 0 (slice p 4 (fld p 2 1)) }) s
        (if fld x.record 3 1 = 0 then requestSend b o s else s, .ok []) }

/-- Can-Detect-Rate (R388). -/
def cmdCanDetectRate : Command :=
  { code := 0x0907, len := lenIs 8, reserved := resv [(1, 1), (6, 2)]
    range := fun c _ => [busField c.payload, inRange c.payload 2 2 10 10000, inRange c.payload 4 2 1 3600]
    body := fun c s =>
      let p := c.payload
      let b := fld p 0 1
      let x := canBus b s
      if x.detect.isSome then (s, refuse 0x24)
      else
        let d : Detect := { dwell := fld p 2 2, timeout := fld p 4 2, from_ := s.tb.now, since := s.tb.now, cand := 0, good := 0, nominal := 0, brs := false }
        (setCan b { x with detect := some d, found := none, detResult := 0, detRates := (0, 0) } s, .ok []) }

/-- Can-Recover (R394). -/
def cmdCanRecover : Command :=
  { code := 0x0908, len := lenIs 4, reserved := resv [(1, 3)], range := fun c _ => [busField c.payload]
    body := fun c s =>
      let b := fld c.payload 0 1
      let x := canBus b s
      if x.err ≠ 3 then (s, refuse 0x23) else (setCan b { x with recovering := true } s, .ok []) }

/-- Can-Get-Status. -/
def cmdCanGetStatus : Command :=
  { code := 0x0909, standby := true, len := lenIs 4, reserved := resv [(1, 3)], range := fun c _ => [busField c.payload]
    body := fun c s =>
      let b := fld c.payload 0 1
      let x := canBus b s
      (s, .ok (le 1 b ++ le 1 (canState b s) ++ le 1 (canMode b s) ++ le 1 x.faults ++ le 1 (canCounts x).1 ++ le 1 (canCounts x).2 ++ le 1 x.detResult ++
        zeros 1 ++ le 2 x.detRates.1 ++ le 2 x.detRates.2 ++ le 4 x.rx ++ le 4 x.tx ++ le 4 x.unmatched ++ le 4 x.overruns ++ le 4 x.busOffs)) }

/-! ### The rows of the Ferosh command set: one exchange each -/

/-- CAN_GET_CONFIG (R402). -/
def execCanGetConfig (dt : Nat) (r : Request) (s : State) : Host.Outcome State Fault Refusal :=
  runCommand cmdCanGetConfig dt r s

/-- CAN_SET_CONFIG (R387). -/
def execCanSetConfig (dt : Nat) (r : Request) (s : State) : Host.Outcome State Fault Refusal :=
  runCommand cmdCanSetConfig dt r s

/-- CAN_SET_OBJECTS (R393). -/
def execCanSetObjects (dt : Nat) (r : Request) (s : State) : Host.Outcome State Fault Refusal :=
  runCommand cmdCanSetObjects dt r s

/-- CAN_GET_OBJECTS (R402). -/
def execCanGetObjects (dt : Nat) (r : Request) (s : State) : Host.Outcome State Fault Refusal :=
  runCommand cmdCanGetObjects dt r s

/-- CAN_READ_OBJECTS (R390). -/
def execCanReadObjects (dt : Nat) (r : Request) (s : State) : Host.Outcome State Fault Refusal :=
  runCommand cmdCanReadObjects dt r s

/-- CAN_SEND (R392). -/
def execCanSend (dt : Nat) (r : Request) (s : State) : Host.Outcome State Fault Refusal :=
  runCommand cmdCanSend dt r s

/-- CAN_DETECT_RATE (R388). -/
def execCanDetectRate (dt : Nat) (r : Request) (s : State) : Host.Outcome State Fault Refusal :=
  runCommand cmdCanDetectRate dt r s

/-- CAN_RECOVER (R394). -/
def execCanRecover (dt : Nat) (r : Request) (s : State) : Host.Outcome State Fault Refusal :=
  runCommand cmdCanRecover dt r s

/-- CAN_GET_STATUS (R402). -/
def execCanGetStatus (dt : Nat) (r : Request) (s : State) : Host.Outcome State Fault Refusal :=
  runCommand cmdCanGetStatus dt r s

end Sys2Proof.Machine
end

