-- ==== Sys2Proof/Machine/Field.lean ====
section
/-! DEFINITION. Digital inputs after their filter, interlocks, and the I/O configuration in force (R405 to R408, R415, R416, R429). -/

namespace Sys2Proof.Machine
open Sys2Proof

/-! ### Digital inputs (R405 to R408) -/

/-- What the pad of a digital input shows. -/
inductive Band
  /-- A level. -/
  | level (v : Bool)
  /-- A fault code: OPEN, SHORT or REVERSED. -/
  | fault (code : Nat)
  /-- Between the levels in PLAIN, or outside every band in WIRE_CHECK. -/
  | between
deriving DecidableEq, Repr

/-- The judgement of a pad voltage in mV, with VDO in mV (R405). -/
def judgePad (r : Bytes) (mv vdo : Int) : Band :=
  if mv < -3000 then .fault 4
  else if fld r 0 1 = 0 then (if 11000 < mv then .level true else if mv < 5000 then .level false else .between)
  else if vdo ≤ 0 ∨ 100 * mv < 10 * vdo then .fault 1
  else if 18 * vdo ≤ 100 * mv ∧ 100 * mv ≤ 45 * vdo then .level false
  else if 70 * vdo ≤ 100 * mv ∧ 100 * mv ≤ 92 * vdo then .level true
  else if 95 * vdo < 100 * mv then .fault 2
  else .between

/-- CHATTER_WINDOW in ns. -/
def chatterNs (r : Bytes) : Nat := fld r 7 1 * 100000000

/-- A state after INVERT is accepted: an edge is counted and enters the chatter rule; the first state of all is no edge
(R347, R406 to R408). -/
def acceptState (r : Bytes) (v : Bool) (now pad : Nat) (d : Di) : Di :=
  if !d.known then { d with known := true, state := v, highFrom := if v then some now else none, stuck := false, lastEdge := pad }
  else if v = d.state then d
  else
    let win := fun (t : Nat) => decide (now < t + chatterNs r)
    let edges := (now, d.state) :: d.edges.filter (fun e => win e.1)
    let limit := fld r 6 1
    let chatter := match d.chatter with
      | some h => some h
      | none => if limit ≠ 0 ∧ limit < edges.length then edges.getLast?.map (·.2) else none
    { d with
      state := v, lastEdge := pad, edges := if limit = 0 then [] else edges, chatter := chatter
      rises := if v then (d.rises + 1) % 2 ^ 32 else d.rises, falls := if v then d.falls else (d.falls + 1) % 2 ^ 32
      riseTimes := if v then now :: d.riseTimes.filter (fun t => decide (now ≤ t + 10000000000)) else d.riseTimes
      highFrom := if v then some now else none, stuck := d.stuck && v }

/-! ### Interlocks (R415) -/

/-- The input of an interlock is active, or with ON_FAULT in any fault but STUCK. -/
def ilockActive (r : Bytes) (s : State) : Bool :=
  let d := di (fld r 1 1) s
  (if bit (fld r 2 1) 0 then !d.value else d.value) || (bit (fld r 2 1) 2 && d.code != 0 && d.code != 6)

/-- An interlock is judged: engaged while its input is active, with LATCH until it is reset. -/
def judgeIlock (s : State) (n : Nat) : State :=
  let r := ilockRec s.io.cfg n
  let x := tabGet {} s.io.ilocks n
  let on := fld r 0 1 == 1 && (ilockActive r s || (x.on && bit (fld r 2 1) 1))
  if on = x.on then s else emit 0x0F03 [n, b2n (!on)] { s with io := { s.io with ilocks := tabSet s.io.ilocks n { x with on := on } } }

/-- The interlocks act on a module that drives its outputs, in ACTIVE, QUIET and HOLDUP; a change of theirs is resolved at once
(R415, R421). -/
def judgeIlocks (s : State) : State :=
  if !driving s || s.win.power == .standby then s
  else
    let t := (List.range 8).foldl judgeIlock s
    if t.io.ilocks = s.io.ilocks then s else resolveAll t

/-- The band of an input is accepted (R405, R406): a level becomes the state after INVERT, a fault band keeps the last state; an edge
of a CHATTERING input is counted as suppressed; interlocks follow. -/
def acceptBand (n : Nat) (b : Band) (pad : Nat) (s : State) : State :=
  let r := diRec s.io.cfg n
  let inv := bit (fld r 1 1) 0
  let f := fun (t : State) =>
    let d := di n t
    match b with
    | .level v =>
      let d' := acceptState r (v != inv) t.tb.now pad { d with band := 0, level := v }
      let edge := d'.rises != d.rises || d'.falls != d.falls
      let t := setDi n d' t
      if edge && d'.chatter.isSome then { t with io := { t.io with suppressed := (t.io.suppressed + 1) % 2 ^ 32 } } else t
    | .fault c => setDi n { d with band := c } t
    | .between => setDi n { d with band := 9 } t
  judgeIlocks (ioChange 0 n f s)

/-! ### The configuration in force (R429) -/

/-- A digital input under a new record: INVERT acts on the level last accepted; a rule that is disabled ends (R407, R408). -/
def reDi (now : Nat) (r old : Bytes) (d : Di) : Di :=
  let d := if r = old then d
    else { d with stuck := d.stuck && fld r 4 2 != 0, chatter := if fld r 6 1 = 0 then none else d.chatter, edges := if fld r 6 1 = 0 then [] else d.edges }
  let d := if fld r 0 1 = 0 ∧ fld old 0 1 = 1 ∧ d.band ≠ 4 then { d with band := 0 } else d
  if d.known ∧ d.band = 0 then acceptState r (d.level != bit (fld r 1 1) 0) now d.lastEdge d else d

/-- An I/O configuration takes effect. -/
def applyIoConfig (s : State) : State :=
  match s.io.pend with
  | none => s
  | some (b, t) =>
    if s.tb.now < t then s
    else
      let old := s.io.cfg
      let s := { s with io := { s.io with cfg := b, pend := none } }
      let s := (List.range 32).foldl (fun u n =>
        if n ∈ u.io.di.map (·.1) then ioChange 0 n (fun w => setDi n (reDi w.tb.now (diRec b n) (diRec old n) (di n w)) w) u else u) s
      let s := (List.range 16).foldl (fun u n =>
        if ainRec b n = ainRec old n then u
        else ioChange 2 n (fun w => { w with io := { w.io with ain := tabSet w.io.ain n { last := w.tb.now / (fld (ainRec b n) 2 2 * 1000000) } } }) u) s
      let s := (List.range 24).foldl (fun u n =>
        if bit (fld (doRec b n) 0 1) 0 then u else ioChange 1 n (fun w => setDout n { dout n w with test := 0 } w) u) s
      judgeIlocks (scanBlocks s s)

end Sys2Proof.Machine
end

