-- ==== Sys2Proof/Machine/Crypto.lean ====
section
/-! DEFINITION. Key derivation and the identity key, over the primitives of external standards (R457 to R460, R472, R475). -/

namespace Sys2Proof.Machine
open Sys2Proof

/-- ASCII text as bytes. -/
def ascii (t : String) : Bytes := t.toList.map (fun c => BitVec.ofNat 8 c.toNat)

/-- HMAC with SHA-384, whose block is 128 bytes. -/
def hmac (key msg : Bytes) : Bytes :=
  let k := fit 128 (if 128 < key.length then Config.sha384 key else key)
  let pad := fun (c : Byte) => k.map (fun b => b ^^^ c)
  Config.sha384 (pad 0x5C ++ Config.sha384 (pad 0x36 ++ msg))

/-- KDF(KI, Label, Context, L) with L in bits (R457). -/
def kdf (ki : Bytes) (label : String) (ctx : Bytes) (bitsL : Nat) : Bytes :=
  let block := fun (i : Nat) => fit 48 (hmac ki (be 4 (i + 1) ++ ascii label ++ [0] ++ ctx ++ be 4 bitsL))
  ((List.range ((bitsL / 8 + 47) / 48)).flatMap block).take (bitsL / 8)

/-- The KEK of a tamper epoch (R459). -/
def kek (e : Nat) : Bytes := kdf Config.rootSecret "FRS6-KEK" (le 4 e) 256

/-- The tag key of a tamper epoch (R459). -/
def tagKey (e : Nat) : Bytes := kdf (kek e) "FRS6-TAG" [] 256

/-- The identity private key d, 48 bytes (R460). -/
def identityPrivate : Bytes :=
  be 48 (leNat (kdf Config.rootSecret "FRS6-ID" [] 512).reverse % (Config.groupOrder - 1) + 1)

/-- The identity public key x ‖ y, 96 bytes (R460). -/
def identityKey : Bytes := fit 96 (Config.ecPublic identityPrivate)

/-- IDENTITY_KEY_ID: the first 16 bytes of the SHA-384 digest of the identity public key (R63, R460). -/
def identityKeyId : Bytes := fit 16 (Config.sha384 identityKey)

/-- The key of a node at a key epoch, under the material of slot 1 (R472). -/
def nodeKey (master : Bytes) (node epoch : Nat) : Bytes := kdf master "FFP-NODE" (le 2 node ++ le 4 epoch) 256

/-- The link key of a direction, 1 from the active and 2 from the standby, under the material of slot 2 (R475). -/
def linkKey (secret nonceA nonceS : Bytes) (dir : Nat) : Bytes := kdf secret "FRS6-TWIN" (le 1 dir ++ nonceA ++ nonceS) 256

end Sys2Proof.Machine
end

