-- ==== Sys2Proof/Machine/System.lean ====
section
/-! DEFINITION. The System class and the Diagnostics and Attic class: identity, operations, firmware update, free area, Attic
(R63 to R82). -/

namespace Sys2Proof.Machine
open Sys2Proof

/-- Bytes 0x00 to 0x07 of System-Identify (R63). -/
def identBytes (s : State) : Bytes :=
  le 1 s.sys.steppingLetter ++ le 1 s.sys.steppingDigit ++ le 1 s.sys.fwMajor ++ le 1 s.sys.fwMinor ++ le 2 s.sys.fwPatch ++
    le 1 s.sys.grade ++ le 1 (b2n s.win.qspi)

/-- System-Identify (R63). -/
def cmdSystemIdentify : Command :=
  { code := 0x0001, standby := true, len := lenIs 0
    body := fun _ s => (s, .ok (identBytes s ++ le 8 s.sys.serial ++ le 4 1 ++ le 1 s.win.imageSlot ++ le 1 s.win.role.code ++ zeros 2 ++ identityKeyId ++ le 8 s.zone)) }

/-- System-Get-State (R63). -/
def cmdSystemGetState : Command :=
  { code := 0x0002, standby := true, len := lenIs 0
    body := fun _ s => (s, .ok (le 4 s.win.stateWord ++ le 4 s.win.heartbeat.toNat ++ le 4 s.win.lateTakes ++ le 4 s.win.ringBusyCount ++ le 4 s.win.checkFailedCount)) }

/-- System-Echo (R63). -/
def cmdSystemEcho : Command :=
  { code := 0x0003, standby := true, len := fun _ _ => true, body := fun c s => (s, .ok c.payload) }

/-- The progress entry a request names, where its path sees it (R68, R69). -/
def namedOp (c : Ctx) (s : State) : Option Progress :=
  (tabGet? s.sys.ops (fld c.payload 0 2)).filter (fun e => c.path == .host || e.path == c.path)

/-- System-Release-Operation (R69). -/
def cmdSystemReleaseOperation : Command :=
  { code := 0x0004, standby := true, len := lenIs 4, reserved := resv [(2, 2)]
    body := fun c s =>
      match namedOp c s with
      | none => (s, refuseAt 0x0B 0)
      | some e =>
        if e.state = 1 then (s, refuseAt 0x06 0)
        else ({ s with sys := { s.sys with ops := tabErase s.sys.ops (fld c.payload 0 2) } }, .ok []) }

/-- System-Cancel-Operation (R68): OUTCOME 0 cancelled, 1 had already finished. A key update cannot be cancelled (R66). -/
def cmdSystemCancelOperation : Command :=
  { code := 0x0005, standby := true, len := lenIs 4, reserved := resv [(2, 2)]
    body := fun c s =>
      match namedOp c s with
      | none => (s, refuseAt 0x0B 0)
      | some e =>
        if e.code = 0x0306 then (s, refuseAt 0x06 0)
        else if e.state != 1 then (s, .ok (le 2 1 ++ zeros 2))
        else if pastPoint (fld c.payload 0 2) s then (s, refuseAt 0x06 0)
        else (opCancel (fld c.payload 0 2) s, .ok (le 2 0 ++ zeros 2)) }

/-- The refusals every long operation shares: a conflicting operation runs, or no progress entry is FREE (R64, R67). -/
def startRefusal (code : Nat) (s : State) : Option Nat :=
  if opBlocked code s then some 0x07 else if (freeEntry s).isNone then some 0x08 else none

/-- A command takes its progress entry and answers ACCEPTED (R64); the unit is told the entry. -/
def startOp (c : Ctx) (total : Nat) (s : State) (f : Nat → State → State) : State × Reply :=
  match freeEntry s with
  | none => (s, refuse 0x08)
  | some n => (f n (takeEntry n c.path c.code c.tag c.mbox total s), .accepted n)

/-! ### Firmware update (R70 to R73) -/

/-- The flash firmware slot of a number. -/
def fwSlot (n : Nat) (s : State) : FwSlot := if n = 0 then s.sys.slot0 else s.sys.slot1

/-- A flash firmware slot written. -/
def setFwSlot (n : Nat) (f : FwSlot) (s : State) : State :=
  if n = 0 then { s with sys := { s.sys with slot0 := f } } else { s with sys := { s.sys with slot1 := f } }

/-- The header of a firmware image is signed by the vendor's key (R71 step 1). -/
def headerSigned (h : Bytes) : Bool := Config.ecdsaVerify (slice h 0x40 96) (slice h 0 0xA0) (slice h 0xA0 96)

/-- System-Firmware-Begin (R71 steps 1 and 2). -/
def cmdSystemFirmwareBegin : Command :=
  { code := 0x0006, standby := true, len := lenIs 256
    state := fun _ s => startRefusal 0x0006 s
    range := fun c s =>
      let h := c.payload
      [(fld h 0 4 == 0x57465246, 0x20, 0), (fld h 4 2 == 1, 0x20, 4), (decide (1 ≤ fld h 0x0C 4 ∧ fld h 0x0C 4 ≤ 33554176), 0x20, 0x0C),
        (Config.sha384 (slice h 0x40 96) == Config.vendorImageKeyDigest, 0x21, 0x40), (headerSigned h, 0x21, 0xA0),
        (fld h 6 1 == s.sys.steppingLetter, 0x22, 6), (decide (s.sec.minVersion ≤ fld h 7 1), 0x23, 7), inRange h 7 1 0 64]
    body := fun c s =>
      let slot := 1 - s.win.imageSlot
      let total := 2 * (256 + fld c.payload 0x0C 4)
      startOp c total s (fun n s =>
        let f : FwUpdate := { entry := n, slot := slot, bodyLength := fld c.payload 0x0C 4, last := s.tb.now }
        progressTo n 256 (setFwSlot slot { header := c.payload, body := [] } { s with sys := { s.sys with fw := some f } })) }

/-- The firmware update a request names, or the refusal (R71): its entry is another's or FREE, or the update is over or committed. -/
def namedFw (c : Ctx) (s : State) : Nat ⊕ FwUpdate :=
  match s.sys.fw with
  | some f => if f.entry = fld c.payload 0 2 then (if f.commit.isSome then .inl 0x06 else .inr f) else .inl 0x0B
  | none => (match tabGet? s.sys.ops (fld c.payload 0 2) with
    | some e => if e.code = 0x0006 then .inl 0x06 else .inl 0x0B
    | none => .inl 0x0B)

/-- System-Firmware-Put (R71 step 3). -/
def cmdSystemFirmwarePut : Command :=
  { code := 0x0007, standby := true, len := lenCounted 12 8 2, reserved := resv [(2, 2), (10, 2)]
    range := fun c _ => [inRange c.payload 8 2 1 8148]
    body := fun c s =>
      match namedFw c s with
      | .inl r => (s, refuseAt r 0)
      | .inr f =>
        let fs := fwSlot f.slot s
        let off := fld c.payload 4 4
        let n := fld c.payload 8 2
        if off != fs.body.length then (s, refuseAt 0x24 4)
        else if f.bodyLength < off + n then (s, refuseAt 0x09 8)
        else
          let s := setFwSlot f.slot { fs with body := fs.body ++ slice c.payload 12 n } { s with sys := { s.sys with fw := some { f with last := s.tb.now } } }
          (progressTo f.entry (256 + off + n) s, .ok (le 4 (off + n))) }

/-- System-Firmware-Commit (R71 step 4). -/
def cmdSystemFirmwareCommit : Command :=
  { code := 0x0008, standby := true, len := lenIs 4
    range := fun c _ => [inRange c.payload 2 2 0 1]
    body := fun c s =>
      match namedFw c s with
      | .inl r => (s, refuseAt r 0)
      | .inr f =>
        if (fwSlot f.slot s).body.length != f.bodyLength then (s, refuse 0x0A)
        else ({ s with sys := { s.sys with fw := some { f with last := s.tb.now, commit := some (fld c.payload 2 2) } } }, .ok []) }

/-- FW_TIMEOUT (R72): 60 s without a Put or Commit. -/
def execFwTimeout (dt : Nat) (s : State) : Host.Outcome State Fault Refusal :=
  let s := advance dt s
  .next (match s.sys.fw with
    | none => s
    | some f => if f.commit.isNone ∧ f.last + 60 * 10 ^ 9 ≤ s.tb.now then opFail f.entry 0x26 (dropOp f.entry s) else s)

/-! ### The integrator free area (R74, R75) -/

/-- The range checks of the free area commands. -/
def freeRange (c : Ctx) : List (Bool × Nat × Nat) :=
  [inRange c.payload 0 4 0 4194303, inRange c.payload 4 2 1 8152, chk (decide (fld c.payload 0 4 + fld c.payload 4 2 ≤ 4194304)) 0]

/-- System-Free-Read (R74). -/
def cmdSystemFreeRead : Command :=
  { code := 0x0009, standby := true, len := lenIs 8, reserved := resv [(6, 2)], range := fun c _ => freeRange c
    body := fun c s => (s, .ok (slice c.payload 0 8 ++ Memory.read s.sys.free (fld c.payload 0 4) (fld c.payload 4 2))) }

/-- System-Free-Write (R75). -/
def cmdSystemFreeWrite : Command :=
  { code := 0x000A, standby := true, len := lenCounted 8 4 2, reserved := resv [(6, 2)], range := fun c _ => freeRange c
    body := fun c s =>
      let m := Memory.write s.sys.free (fld c.payload 0 4) (slice c.payload 8 (fld c.payload 4 2))
      ({ s with sys := { s.sys with free := m } }, .ok []) }

/-! ### The Attic (R81, R82) -/

/-- The 256 bytes of an Attic header (R81). -/
def atticHeaderBytes (dram incomplete : Bool) (code first count time : Nat) (ident : Bytes) : Bytes :=
  let b := le 4 0x43545441 ++ le 2 1 ++ le 2 (bitAt 0 dram + bitAt 1 incomplete) ++ le 4 code ++ le 4 first ++ le 4 count ++ le 8 time ++ ident ++ zeros 216
  b ++ le 4 (crc32c b)

/-- A dump has been written: the stored header carries MAGIC and a valid CRC (R82). -/
def atticWritten (s : State) : Bool :=
  let h := s.sys.atticHeader
  h.length == 256 && fld h 0 4 == 0x43545441 && fld h 252 4 == crc32c (h.take 252)

/-- One byte of the Attic: the header, the stored trace, and the contents the spec leaves to the firmware (R81). -/
def atticByte (s : State) (a : Nat) : Byte :=
  if a < 256 then s.sys.atticHeader.getD a 0
  else if 0x1000 ≤ a ∧ a < 0x9000 then (s.sys.atticTrace.getD ((a - 0x1000) / 32) []).getD (a % 32) 0
  else Config.atticByte s.sys.dumps a

/-- A 4 KiB block of the Attic (R82). -/
def atticBlock (n : Nat) (s : State) : Bytes := (List.range 4096).map (fun i => atticByte s (n * 4096 + i))

/-- Attic-Get-Header (R82). -/
def cmdAtticGetHeader : Command :=
  { code := 0x1201, standby := true, len := lenIs 0, body := fun _ s => (s, .ok (fit 256 s.sys.atticHeader)) }

/-- Attic-Read (R82). -/
def cmdAtticRead : Command :=
  { code := 0x1202, standby := true, len := lenIs 0
    state := fun _ s => if atticWritten s then startRefusal 0x1202 s else some 0x0B
    body := fun c s =>
      let total := if bit (fld s.sys.atticHeader 6 2) 0 then 1088 else 64
      startOp c total s (fun n s => { s with sys := { s.sys with readout := some { entry := n, total := total } } }) }

/-- ATTIC_READOUT_COMPLETE (R82): the readout ends DONE with BLOCKS and BAD_BLOCKS. -/
def execAtticReadoutComplete (dt : Nat) (bad : List Nat) (s : State) : Host.Outcome State Fault Refusal :=
  let s := advance dt s
  .next (match s.sys.readout with
    | none => s
    | some r =>
      let bad := (List.range r.total).filter (fun n => bad.contains n)
      let s := { s with sys := { s.sys with readout := none, readoutDone := some (r.total, bad) } }
      opDone r.entry (le 4 r.total ++ le 4 bad.length) (progressTo r.entry r.total s))

/-- Attic-Get-Block (R82). -/
def cmdAtticGetBlock : Command :=
  { code := 0x1203, standby := true, len := lenIs 4
    state := fun _ s => if s.sys.readoutDone.isSome then none else some 0x06
    range := fun c s => [chk (decide (fld c.payload 0 4 < (s.sys.readoutDone.getD (0, [])).1)) 0]
    body := fun c s =>
      let n := fld c.payload 0 4
      let bad := (s.sys.readoutDone.getD (0, [])).2.contains n
      let b := atticBlock n s
      (s, .ok (le 4 n ++ le 4 (if bad then Config.atticCrc s.sys.dumps n else crc32c b) ++ le 4 (b2n bad) ++ b)) }

/-- Attic-Clear (R82). -/
def cmdAtticClear : Command :=
  { code := 0x1204, standby := true, len := lenIs 0
    state := fun _ s => if s.sys.ops.any (fun e => e.2.state == 1 && e.2.code == 0x1202) then some 0x07 else none
    body := fun _ s => ({ s with win := { s.win with atticValid := false, atticIncomplete := false } }, .ok []) }

/-! ### The rows of the Ferosh command set: one exchange each -/

/-- SYSTEM_IDENTIFY (R63). -/
def execSystemIdentify (dt : Nat) (r : Request) (s : State) : Host.Outcome State Fault Refusal :=
  runCommand cmdSystemIdentify dt r s

/-- SYSTEM_GET_STATE (R63). -/
def execSystemGetState (dt : Nat) (r : Request) (s : State) : Host.Outcome State Fault Refusal :=
  runCommand cmdSystemGetState dt r s

/-- SYSTEM_ECHO (R63). -/
def execSystemEcho (dt : Nat) (r : Request) (s : State) : Host.Outcome State Fault Refusal :=
  runCommand cmdSystemEcho dt r s

/-- SYSTEM_RELEASE_OPERATION (R69). -/
def execSystemReleaseOperation (dt : Nat) (r : Request) (s : State) : Host.Outcome State Fault Refusal :=
  runCommand cmdSystemReleaseOperation dt r s

/-- SYSTEM_CANCEL_OPERATION (R68). -/
def execSystemCancelOperation (dt : Nat) (r : Request) (s : State) : Host.Outcome State Fault Refusal :=
  runCommand cmdSystemCancelOperation dt r s

/-- SYSTEM_FIRMWARE_BEGIN (R71). -/
def execSystemFirmwareBegin (dt : Nat) (r : Request) (s : State) : Host.Outcome State Fault Refusal :=
  runCommand cmdSystemFirmwareBegin dt r s

/-- SYSTEM_FIRMWARE_PUT (R71). -/
def execSystemFirmwarePut (dt : Nat) (r : Request) (s : State) : Host.Outcome State Fault Refusal :=
  runCommand cmdSystemFirmwarePut dt r s

/-- SYSTEM_FIRMWARE_COMMIT (R71). -/
def execSystemFirmwareCommit (dt : Nat) (r : Request) (s : State) : Host.Outcome State Fault Refusal :=
  runCommand cmdSystemFirmwareCommit dt r s

/-- SYSTEM_FREE_READ (R74). -/
def execSystemFreeRead (dt : Nat) (r : Request) (s : State) : Host.Outcome State Fault Refusal :=
  runCommand cmdSystemFreeRead dt r s

/-- SYSTEM_FREE_WRITE (R75). -/
def execSystemFreeWrite (dt : Nat) (r : Request) (s : State) : Host.Outcome State Fault Refusal :=
  runCommand cmdSystemFreeWrite dt r s

/-- ATTIC_GET_HEADER (R82). -/
def execAtticGetHeader (dt : Nat) (r : Request) (s : State) : Host.Outcome State Fault Refusal :=
  runCommand cmdAtticGetHeader dt r s

/-- ATTIC_READ (R82). -/
def execAtticRead (dt : Nat) (r : Request) (s : State) : Host.Outcome State Fault Refusal :=
  runCommand cmdAtticRead dt r s

/-- ATTIC_GET_BLOCK (R82). -/
def execAtticGetBlock (dt : Nat) (r : Request) (s : State) : Host.Outcome State Fault Refusal :=
  runCommand cmdAtticGetBlock dt r s

/-- ATTIC_CLEAR (R82). -/
def execAtticClear (dt : Nat) (r : Request) (s : State) : Host.Outcome State Fault Refusal :=
  runCommand cmdAtticClear dt r s

end Sys2Proof.Machine
end

