-- ==== Sys2Proof/Machine/Model.lean ====
section
/-! DEFINITION. The zone model: its header and rows, the row checks and the whole-model validation, loading, committing and
swapping (R83 to R104). -/

namespace Sys2Proof.Machine
open Sys2Proof

/-! ### Tables (R87 to R92) -/

/-- Row size of a table. -/
def rowSize (t : Nat) : Nat := [0, 16, 32, 48, 28, 16, 16].getD t 0

/-- Rows one Model-Put-Rows may carry. -/
def rowLimit (t : Nat) : Nat := if rowSize t = 0 then 0 else 8148 / rowSize t

/-- The row count the header gives a table. -/
def rowsOf (h : Bytes) (t : Nat) : Nat :=
  match t with
  | 1 => fld h 0x10 4 | 2 => fld h 0x14 4 | 3 => fld h 0x18 4 | 4 => fld h 0x1C 4 | 5 => fld h 0x20 2 | 6 => fld h 0x22 2 | _ => 0

/-- The rows of a table. -/
def ModelImage.table (m : ModelImage) (t : Nat) : List Bytes :=
  match t with
  | 1 => m.nodes | 2 => m.pipes | 3 => m.elements | 4 => m.sensors | 5 => m.units | 6 => m.groups | _ => []

/-- Rows added to a table. -/
def ModelImage.add (m : ModelImage) (t : Nat) (rows : List Bytes) : ModelImage :=
  match t with
  | 1 => { m with nodes := m.nodes ++ rows }
  | 2 => { m with pipes := m.pipes ++ rows }
  | 3 => { m with elements := m.elements ++ rows }
  | 4 => { m with sensors := m.sensors ++ rows }
  | 5 => { m with units := m.units ++ rows }
  | 6 => { m with groups := m.groups ++ rows }
  | _ => m

/-- Rows accepted so far. -/
def ModelImage.count (m : ModelImage) : Nat :=
  m.nodes.length + m.pipes.length + m.elements.length + m.sensors.length + m.units.length + m.groups.length

/-- The whole image in the order it is sent (R98). -/
def ModelImage.bytes (m : ModelImage) : Bytes :=
  m.header ++ m.nodes.flatten ++ m.pipes.flatten ++ m.elements.flatten ++ m.sensors.flatten ++ m.units.flatten ++ m.groups.flatten

/-- DIGEST (R96). -/
def ModelImage.digest (m : ModelImage) : Bytes := fit 48 (Config.sha384 m.bytes)

/-- GENERATION (R87); 0 where there is no model (R99). -/
def generation : Option ModelImage → Nat
  | none => 0
  | some m => fld m.header 0x0C 4

/-- The next table and row a load expects (R98). -/
def nextRow (m : ModelImage) : Option (Nat × Nat) :=
  ([1, 2, 3, 4, 5, 6].find? (fun t => decide ((m.table t).length < rowsOf m.header t))).map (fun t => (t, (m.table t).length))

/-! ### Header checks -/

/-- The checks of the header in the order of R95. -/
def headerChecks (h : Bytes) (s : State) : List (Bool × Nat × Nat) :=
  let fl := fld h 6 2
  [(fld h 0 4 == 0x4C444F4D, 0x20, 0), (fld h 4 2 == 1, 0x20, 4), (decide (fl < 4), 0x20, 6), (fld h 0x26 2 == 0, 0x20, 0x26),
    (fld h 0x38 4 == ([1, 2, 3, 4, 5, 6].map (rowsOf h)).sum, 0x20, 0x38), (fld h 0x3C 4 == 0, 0x20, 0x3C),
    (decide (fld h 0x10 4 ≤ 131072), 0x21, 0x10), (decide (fld h 0x14 4 ≤ 196608), 0x21, 0x14), (decide (fld h 0x18 4 ≤ 70925), 0x21, 0x18),
    (decide (fld h 0x1C 4 ≤ 262144), 0x21, 0x1C), (decide (fld h 0x20 2 ≤ 256), 0x21, 0x20), (decide (fld h 0x22 2 ≤ 256), 0x21, 0x22),
    (decide (1 ≤ fld h 0x0C 4), 0x27, 0x0C), (if bit fl 1 then decide (fld h 0x24 2 ≤ 15) else fld h 0x24 2 == 0, if bit fl 1 then 0x23 else 0x27, 0x24),
    (f32Model (fld h 0x28 4) && f32In (fld h 0x28 4) (-30) 40, 0x27, 0x28), (f32Model (fld h 0x2C 4) && f32In (fld h 0x2C 4) 2 140, 0x27, 0x2C),
    (f32Model (fld h 0x30 4) && f32In (fld h 0x30 4) 2 140 && f32Rat (fld h 0x30 4) != f32Rat (fld h 0x2C 4), 0x27, 0x30),
    (f32Model (fld h 0x34 4) && f32In (fld h 0x34 4) 0 2500000, 0x27, 0x34),
    (decide (generation s.model.active < fld h 0x0C 4), 0x28, 0x0C)]

/-! ### Row checks (R94) -/

/-- Reserved fields of a row: offset and size; a flag byte stands here only where a reserved bit of it is set. -/
def rowReserved (t : Nat) (r : Bytes) : List (Nat × Nat) :=
  match t with
  | 1 => (if 4 ≤ fld r 1 1 then [(1, 1)] else []) ++ [(2, 2)]
  | 2 => if 2 ≤ fld r 0x1E 2 then [(0x1E, 2)] else []
  | 3 => (if 32 ≤ fld r 1 1 then [(1, 1)] else []) ++ [(0x0D, 1), (0x10, 4)]
  | 4 => if 2 ≤ fld r 3 1 then [(3, 1)] else []
  | 5 => (if 2 ≤ fld r 1 1 then [(1, 1)] else []) ++ [(8, 8)]
  | 6 => [(8, 8)]
  | _ => []

/-- A model number within bounds, with BAD_PARAMETER. -/
def num (r : Bytes) (off : Nat) (lo hi : Rat) : Bool × Nat × Nat :=
  (f32Model (fld r off 4) && f32In (fld r off 4) lo hi, 0x27, off)

/-- A model number of any size, with BAD_PARAMETER. -/
def anyNum (r : Bytes) (off : Nat) : Bool × Nat × Nat := (f32Model (fld r off 4), 0x27, off)

/-- A least value that does not exceed its greatest. -/
def ordered (r : Bytes) (lo hi off : Nat) : Bool × Nat × Nat :=
  (decide (f32Rat (fld r lo 4) ≤ f32Rat (fld r hi 4)), 0x27, off)

/-- An index within a count, with BAD_REFERENCE. -/
def idx (r : Bytes) (off size n : Nat) : Bool × Nat × Nat := (decide (fld r off size < n), 0x23, off)

/-- A code or value check with BAD_PARAMETER. -/
def par (ok : Bool) (off : Nat) : Bool × Nat × Nat := (ok, 0x27, off)

/-- Parameter n of an element row. -/
def elemP (r : Bytes) (n : Nat) : Nat := fld r (0x14 + 4 * n) 4

/-- The parameter checks of an element row by its TYPE (R90). -/
def elementParams (r : Bytes) : List (Bool × Nat × Nat) :=
  let zero := fun (n : Nat) => par (f32Model (elemP r n) && f32Rat (elemP r n) == 0) (0x14 + 4 * n)
  let any := fun (n : Nat) => anyNum r (0x14 + 4 * n)
  let unit := fun (n : Nat) => num r (0x14 + 4 * n) 0 1
  let ord := fun (lo hi at_ : Nat) => ordered r (0x14 + 4 * lo) (0x14 + 4 * hi) (0x14 + 4 * at_)
  match fld r 0 1 with
  | 2 => (List.range 7).map any
  | 3 => [any 0, any 1, ord 0 1 0, any 2, any 3, ord 2 3 2, any 4, any 5, zero 6]
  | 4 => [any 0, any 1, any 2, any 3, any 4, ord 4 3 4, any 5, any 6]
  | 5 => [any 0, any 1, any 2, any 3, any 4, ord 3 4 3, any 5, any 6, ord 5 6 5]
  | 6 => [any 0, any 1, unit 2, unit 3, unit 4, ord 3 4 3, any 5, zero 6]
  | _ => []

/-- SOURCE fits its SOURCE_KIND (R91). -/
def sourceFits (kind src : Nat) : Bool :=
  match kind with
  | 0 => decide (1 ≤ src % 65536 ∧ src % 65536 ≤ 0xFFFD ∧ src < 2 ^ 24)
  | 1 => decide (src ≤ 15)
  | 2 => decide (src ≤ 7)
  | 3 => decide (src ≤ 7)
  | 4 => decide (src ≤ 15)
  | 5 => decide (src < 2 ^ 10)
  | 6 => decide (1 ≤ src % 256 ∧ src % 256 ≤ 250 ∧ src < 2 ^ 16)
  | _ => false

/-- The checks of a row in ascending offset, reserved fields apart (R88 to R92). -/
def rowChecks (h : Bytes) (t : Nat) (r : Bytes) : List (Bool × Nat × Nat) :=
  let nodes := rowsOf h 1
  match t with
  | 1 => [par (decide (fld r 0 1 ≤ 1)) 0, num r 4 (-500) 9000, num r 8 0 4000000, num r 0x0C 0 4000000,
      par (decide (f32Rat (fld r 8 4) < f32Rat (fld r 0x0C 4))) 8]
  | 2 => [idx r 0 4 nodes, idx r 4 4 nodes, (fld r 0 4 != fld r 4 4, 0x27, 4), num r 8 (dec 1 1) 10000, num r 0x0C (dec 1 2) 2,
      num r 0x10 0 (dec 1 2), num r 0x14 0 1000, num r 0x18 0 10, (fld r 0x1C 2 == 0xFFFF || decide (fld r 0x1C 2 < rowsOf h 4), 0x23, 0x1C)]
  | 3 =>
    let ty := fld r 0 1
    let fl := fld r 1 1
    let k := fld r 0x0C 1
    let d := fld r 0x0E 2
    [par (decide (2 ≤ ty ∧ ty ≤ 6)) 0, par ((!bit fl 1 || ty == 5) && (decide (fl / 4 = 0) || ty == 6) && bits fl 4 3 != 3) 1,
      (if ty = 2 then (fld r 2 2 == 0xFFFF || decide (fld r 2 2 < rowsOf h 6), 0x23, 2) else (fld r 2 2 == 0xFFFF, 0x27, 2)),
      idx r 4 4 nodes, idx r 8 4 nodes, (fld r 4 4 != fld r 8 4, 0x27, 8), par (decide (k ≤ 2) && (k == 0 || ty != 6)) 0x0C,
      par (if k = 0 then d == 0 else if k = 1 then decide (1 ≤ d ∧ d ≤ 0xFFFD) else decide (d ≤ 511)) 0x0E] ++ elementParams r
  | 4 =>
    let q := fld r 0 1
    let tk := fld r 1 1
    [par (decide (1 ≤ q ∧ q ≤ 7)) 0, par (decide (tk ≤ 2)) 1, par (decide (fld r 2 1 ≤ 6)) 2, idx r 4 4 (rowsOf h (tk + 1)),
      par (sourceFits (fld r 2 1) (fld r 8 4)) 8, par (f32Model (fld r 0x0C 4) && decide (0 < f32Rat (fld r 0x0C 4))) 0x0C,
      par (f32Model (fld r 0x10 4) && f32Rat (fld r 0x10 4) != 0) 0x10, anyNum r 0x14,
      (if tk = 1 ∨ (tk = 2 ∧ q = 3) then num r 0x18 0 1 else num r 0x18 0 0)]
  | 5 =>
    let k := fld r 0 1
    [par (decide (1 ≤ k ∧ k ≤ 6)) 0, idx r 2 2 256, idx r 4 4 (if k = 6 then rowsOf h 6 else rowsOf h 3)]
  | 6 => [par (decide (fld r 0 4 ≤ 65533)) 0, num r 4 0 20]
  | _ => []

/-- The first failing row check of a command: its reason and payload offset. -/
def rowsFail (h : Bytes) (t : Nat) : Nat → List Bytes → Option (Nat × Nat)
  | _, [] => none
  | at_, r :: l =>
    match firstFail (rowChecks h t r) with
    | some (reason, off) => some (reason, at_ + off)
    | none => rowsFail h t (at_ + rowSize t) l

/-! ### Whole-model validation (R95) -/

/-- Where a validation failed: reason, TABLE, ROW, FIELD_OFFSET, RELATED_ROW. -/
abbrev ModelFail := Nat × Nat × Nat × Nat × Nat

/-- No row (R96). -/
def noRow : Nat := 0xFFFFFFFF

/-- Rows of a list with their indices that satisfy a test. -/
def rowsWhere (p : Bytes → Bool) (l : List Bytes) : List Nat :=
  (l.zipIdx.filter (fun e => p e.1)).map (·.2)

/-- A limit of R85 on the rows of a kind: the first row beyond it fails. -/
def limitFail (t off lim : Nat) (rows : List Nat) : Option ModelFail :=
  (rows.drop lim).head?.map (fun i => (0x21, t, i, off, noRow))

/-- The elements converted at a step boundary (R93). -/
def converted (m : ModelImage) : List Nat :=
  let named := fun (i : Nat) => m.units.any (fun u => fld u 0 1 != 6 && fld u 4 4 == i)
  let grp := fun (g : Nat) => m.units.any (fun u => fld u 0 1 == 6 && fld u 4 4 == g)
  (m.elements.zipIdx.filter (fun e => fld e.1 0x0C 1 != 0 &&
    (match fld e.1 0 1 with
      | 2 => fld e.1 2 2 != 0xFFFF && grp (fld e.1 2 2)
      | 3 => named e.2
      | 4 => named e.2
      | 5 => true
      | _ => false))).map (·.2)

/-- TYPE of an element row of a model. -/
def elemType (m : ModelImage) (i : Nat) : Nat := fld (m.elements.getD i []) 0 1

/-- A sensor's quantity is allowed on its target (R91). -/
def targetAllowed (m : ModelImage) (r : Bytes) : Bool :=
  let tk := fld r 1 1
  let ty := elemType m (fld r 4 4)
  match fld r 0 1 with
  | 1 => tk == 0
  | 2 => tk == 2
  | 3 => tk == 0 || tk == 1 || (tk == 2 && ty == 4)
  | 4 => tk == 1 || tk == 2
  | 5 => tk == 2 && (ty == 2 || ty == 3 || ty == 4)
  | 6 => tk == 2 && ty == 6
  | 7 => tk == 2 && ty == 5
  | _ => false

/-- Curve fields that apply to a KIND of unit: FUEL, MIN_UP_STEPS, MIN_DOWN_STEPS and the real fields by offset (R163). -/
def curveApplies (kind off : Nat) : Bool :=
  let fuel := kind == 1 || kind == 2
  let cop := kind == 3 || kind == 4
  if off = 2 ∨ off = 4 ∨ off = 0x28 then decide (1 ≤ kind ∧ kind ≤ 4)
  else if off = 0 ∨ off = 8 ∨ off = 0x0C ∨ off = 0x10 ∨ off = 0x24 then fuel
  else if off = 0x14 then kind == 1
  else if off = 0x18 ∨ off = 0x1C ∨ off = 0x20 then cop
  else kind == 6

/-- The checks of a curve entry against a UNIT row's KIND, or as one that none names: holds and offset, ascending (R163). -/
def curveChecks (kind : Option Nat) (e : Bytes) : List (Bool × Nat) :=
  let v := fun (o : Nat) => fld e o 4
  let f2 := (f32AtLeast (v 0x10) 0, 0x10)
  match kind with
  | none => [(decide (fld e 0 1 ≤ 3) || fld e 0 1 == 0xFF, 0), (decide (fld e 2 2 ≤ 384), 2), (decide (fld e 4 2 ≤ 384), 4), f2]
  | some k =>
    let steps := fun (o : Nat) => (if curveApplies k o then decide (1 ≤ fld e o 2 ∧ fld e o 2 ≤ 384) else fld e o 2 == 0, o)
    let real := fun (o : Nat) => (curveApplies k o || v o == 0, o)
    [(if curveApplies k 0 then decide (fld e 0 1 ≤ 3) else fld e 0 1 == 0xFF, 0), steps 2, steps 4, real 8,
      (if curveApplies k 0x0C then f32Finite (v 0x0C) && decide (0 < f32Rat (v 0x0C)) else v 0x0C == 0, 0x0C), f2, real 0x10, real 0x14,
      (if curveApplies k 0x18 then f32AtLeast (v 0x18) 1 else v 0x18 == 0, 0x18)] ++ [0x1C, 0x20, 0x24, 0x28, 0x2C, 0x30, 0x34].map real

/-- The offset of the first failing field of a curve entry. -/
def curveFail (kind : Option Nat) (e : Bytes) : Option Nat := ((curveChecks kind e).find? (fun c => !c.1)).map (·.2)

/-- A UNIT row's curve entry is all zero or fails its checks (R163). -/
def unitCurveBad (u : Bytes) (s : State) : Bool :=
  let e := tabGet (zeros 64) s.opt.curves (fld u 2 2)
  allZero e || (curveFail (some (fld u 0 1)) e).isSome

/-- References that name a row of a kind not allowed there, or a CAN object that is not RX (R95, R393). -/
def referenceFail (m : ModelImage) (s : State) : Option ModelFail :=
  let pipe := (rowsWhere (fun r => fld r 0x1C 2 != 0xFFFF && fld (m.sensors.getD (fld r 0x1C 2) []) 0 1 != 3) m.pipes).head?.map (fun i => (0x23, 2, i, 0x1C, noRow))
  let sens := (rowsWhere (fun r => !targetAllowed m r) m.sensors).head?.map (fun i => (0x23, 4, i, 4, noRow))
  let unit := (rowsWhere (fun r => let k := fld r 0 1; k != 6 && elemType m (fld r 4 4) != (if k = 5 then 4 else 3)) m.units).head?.map (fun i => (0x23, 5, i, 4, noRow))
  let can := (rowsWhere (fun r => !canInputFits (fld r 2 1) (fld r 8 4) s) m.sensors).head?.map (fun i => (0x23, 4, i, 8, noRow))
  let curve := (rowsWhere (fun r => unitCurveBad r s) m.units).head?.map (fun i => (0x23, 5, i, 2, noRow))
  pipe.or (sens.or (unit.or (can.or curve)))

/-- The net of a node. -/
def netOf (m : ModelImage) (i : Nat) : Nat := fld (m.nodes.getD i []) 0 1

/-- Edges whose nets break R83 and R84. -/
def netFail (m : ModelImage) : Option ModelFail :=
  let pipe := (rowsWhere (fun r => netOf m (fld r 0 4) != netOf m (fld r 4 4)) m.pipes).head?.map (fun i => (0x24, 2, i, 4, noRow))
  let elem := (rowsWhere (fun r =>
    let a := netOf m (fld r 4 4)
    let b := netOf m (fld r 8 4)
    match fld r 0 1 with
    | 2 => !(a == 0 && b == 1)
    | 3 => !(a == 1 && b == 0)
    | 4 => !(a == 0 && b == 1)
    | _ => a != b) m.elements).head?.map (fun i => (0x24, 3, i, 8, noRow))
  pipe.or elem

/-- The edges of the zone: pipes and elements. -/
def zoneEdges (m : ModelImage) : List (Nat × Nat) :=
  m.pipes.map (fun r => (fld r 0 4, fld r 4 4)) ++ m.elements.map (fun r => (fld r 4 4, fld r 8 4))

/-- One pass of labelling: both ends of each edge take the lesser label. -/
def relabel (edges : List (Nat × Nat)) (l : List Nat) : List Nat :=
  edges.foldl (fun l e => let v := min (l.getD e.1 0) (l.getD e.2 0); (l.set e.1 v).set e.2 v) l

/-- `n` passes of labelling. -/
def relabels (edges : List (Nat × Nat)) : Nat → List Nat → List Nat
  | 0, l => l
  | n + 1, l => relabels edges n (relabel edges l)

/-- The connected part of each node, named by its lowest node. -/
def parts (m : ModelImage) : List Nat := relabels (zoneEdges m) m.nodes.length (List.range m.nodes.length)

/-- A connected part without exactly one PRESSURE_REFERENCE node. -/
def referenceNodeFail (m : ModelImage) (part : List Nat) : Option ModelFail :=
  let refs := rowsWhere (fun r => bit (fld r 1 1) 0) m.nodes
  ((List.range m.nodes.length).filter (fun i => part.getD i 0 == i)).findSome? (fun p =>
    match refs.filter (fun i => part.getD i 0 == p) with
    | [] => some (0x25, 1, p, 1, noRow)
    | [_] => none
    | a :: b :: _ => some (0x25, 1, a, 1, b))

/-- A connected part without a PLANT or STORE in service. -/
def sourceFail (m : ModelImage) (part : List Nat) : Option ModelFail :=
  let src := m.elements.filter (fun r => (fld r 0 1 == 3 || fld r 0 1 == 4) && !bit (fld r 1 1) 0)
  ((List.range m.nodes.length).filter (fun i => part.getD i 0 == i)).findSome? (fun p =>
    if src.any (fun r => part.getD (fld r 4 4) 0 == p) then none else some (0x26, 1, p, 0xFFFF, noRow))

/-- The first row whose key has stood in an earlier row. -/
def duplicateFail (t off : Nat) : List (Nat × Option (Nat × Nat × Nat)) → List (Nat × (Nat × Nat × Nat)) → Option ModelFail
  | [], _ => none
  | (_, none) :: l, seen => duplicateFail t off l seen
  | (i, some k) :: l, seen =>
    match seen.find? (fun e => e.2 == k) with
    | some e => some (0x29, t, i, off, e.1)
    | none => duplicateFail t off l ((i, k) :: seen)

/-- A drive target, a bound source with its QUANTITY, or a UNIT target that appears twice. -/
def duplicates (m : ModelImage) : Option ModelFail :=
  let drives := m.elements.zipIdx.map (fun e => (e.2, if fld e.1 0x0C 1 = 0 then none else some (fld e.1 0x0C 1, fld e.1 0x0E 2, 0)))
  let sources := m.sensors.zipIdx.map (fun e => (e.2, some (fld e.1 2 1, fld e.1 8 4, fld e.1 0 1)))
  let units := m.units.zipIdx.map (fun e => (e.2, some ((if fld e.1 0 1 = 6 then 1 else 0), fld e.1 4 4, 0)))
  (duplicateFail 3 0x0E drives []).or ((duplicateFail 4 8 sources []).or (duplicateFail 5 4 units []))

/-- A group whose MEMBERS is wrong. -/
def groupFail (m : ModelImage) : Option ModelFail :=
  (m.groups.zipIdx.find? (fun e =>
    (m.elements.filter (fun r => fld r 0 1 == 2 && fld r 2 2 == e.2)).length != fld e.1 0 4)).map (fun e => (0x2A, 6, e.2, 0, noRow))

/-- The whole-model validation: the checks of R95 in their order, to the first failure. -/
def validate (m : ModelImage) (gen : Nat) (s : State) : Option ModelFail :=
  let ofType := fun (n : Nat) => rowsWhere (fun r => fld r 0 1 == n) m.elements
  let part := parts m
  (limitFail 3 0 65533 (ofType 2)).or <| (limitFail 3 0 256 (ofType 3)).or <| (limitFail 3 0 16 (ofType 4)).or <|
    (limitFail 3 0 1024 (ofType 5)).or <| (limitFail 3 0 4096 (ofType 6)).or <|
    (limitFail 1 1 1024 (rowsWhere (fun r => bit (fld r 1 1) 1) m.nodes)).or <| (limitFail 3 0x0C 4096 (converted m)).or <|
    (referenceFail m s).or <| (netFail m).or <| (referenceNodeFail m part).or <| (sourceFail m part).or <|
    (if gen < fld m.header 0x0C 4 then none else some (0x28, 0, noRow, 0x0C, noRow)).or <| (duplicates m).or (groupFail m)

/-! ### The load operation -/

/-- RESULT of a load that failed (R96). -/
def loadResult (f : ModelFail) : Bytes :=
  le 2 (errorStatus 0x0401 f.1) ++ le 1 f.2.1 ++ zeros 1 ++ le 4 f.2.2.1 ++ le 2 f.2.2.2.1 ++ zeros 2 ++ le 4 f.2.2.2.2

/-- A load ends FAILED. -/
def loadFail (n : Nat) (f : ModelFail) (s : State) : State := endEntry n 3 f.1 (loadResult f) (dropOp n s)

/-- Model-Begin-Load (R97). -/
def cmdModelBeginLoad : Command :=
  { code := 0x0401, len := lenIs 64, state := fun _ s => startRefusal 0x0401 s, range := fun c s => headerChecks c.payload s
    body := fun c s => startOp c (fld c.payload 0x38 4) s (fun n s =>
      let s := { s with model := { s.model with load := some { entry := n, image := { header := c.payload }, last := s.tb.now } } }
      (replicate 0x15 true c.payload s).1) }

/-- The load a request names, or the refusal. -/
def namedLoad (c : Ctx) (s : State) : Nat ⊕ ModelLoad :=
  match s.model.load with
  | some l => if l.entry = fld c.payload 0 2 then (if l.commit.isSome then .inl 0x06 else .inr l) else .inl 0x0B
  | none => (match tabGet? s.sys.ops (fld c.payload 0 2) with
    | some e => if e.code = 0x0401 then .inl 0x06 else .inl 0x0B
    | none => .inl 0x0B)

/-- The rows a Model-Put-Rows carries. -/
def putRows (b : Bytes) : List Bytes := chunks (rowSize (fld b 2 1)) (fld b 8 2) (b.drop 12)

/-- Reserved fields of every row carried. -/
def rowsReserved (t : Nat) : Nat → List Bytes → List (Nat × Nat)
  | _, [] => []
  | at_, r :: l => (rowReserved t r).map (fun e => (at_ + e.1, e.2)) ++ rowsReserved t (at_ + rowSize t) l

/-- Model-Put-Rows (R94, R98). -/
def cmdModelPutRows : Command :=
  { code := 0x0402
    len := fun b l => decide (12 ≤ l) && (rowSize (fld b 2 1) == 0 || l == 12 + fld b 8 2 * rowSize (fld b 2 1))
    reserved := fun b => [(3, 1), (10, 2)] ++ rowsReserved (fld b 2 1) 12 (putRows b)
    range := fun c _ => [inRange c.payload 2 1 1 6, inRange c.payload 8 2 1 (rowLimit (fld c.payload 2 1))]
    body := fun c s =>
      let b := c.payload
      let t := fld b 2 1
      match namedLoad c s with
      | .inl r => (s, refuseAt r 0)
      | .inr l =>
        if (nextRow l.image).map (·.1) != some t then (s, refuseAt 0x22 2)
        else if nextRow l.image != some (t, fld b 4 4) then (s, refuseAt 0x22 4)
        else if rowsOf l.image.header t < fld b 4 4 + fld b 8 2 then (s, refuseAt 0x09 8)
        else match rowsFail l.image.header t 12 (putRows b) with
        | some (r, off) => (s, refuseAt r off)
        | none =>
          let img := l.image.add t (putRows b)
          let s := progressTo l.entry img.count { s with model := { s.model with load := some { l with image := img, last := s.tb.now } } }
          ((replicate 0x15 true b s).1, .ok (le 4 img.count)) }

/-- Model-Commit-Load (R98, R101). -/
def cmdModelCommitLoad : Command :=
  { code := 0x0403, len := lenIs 12
    range := fun c s =>
      let b := c.payload
      let m := fld b 2 2
      [inRange b 2 2 0 1, chk (if m = 0 then fld b 4 8 == 0 else epochNs s != 0 && fld b 4 8 % epochNs s == 0) 4]
    body := fun c s =>
      match namedLoad c s with
      | .inl r => (s, refuseAt r 0)
      | .inr l =>
        if l.image.count != fld l.image.header 0x38 4 then (s, refuse 0x0A)
        else ({ s with model := { s.model with load := some { l with commit := some (fld c.payload 2 2, fld c.payload 4 8), last := s.tb.now } } }, .ok []) }

/-- LOAD_TIMEOUT (R95). -/
def execLoadTimeout (dt : Nat) (s : State) : Host.Outcome State Fault Refusal :=
  let s := advance dt s
  .next (match s.model.load with
    | none => s
    | some l => if l.commit.isNone ∧ l.last + 60 * 10 ^ 9 ≤ s.tb.now then loadFail l.entry (0x2C, 0, noRow, 0xFFFF, noRow) s else s)

/-- Step 4 of the swap: the Cellar record is committed, after which the load cannot be cancelled (R100). -/
def commitModel (l : ModelLoad) (tA : Nat) (s : State) : State :=
  let slot := 1 - s.model.slot
  let m := { s.model with load := none, pending := some { image := l.image, slot := slot, tA := tA, entry := some l.entry } }
  { s with model := if slot = 0 then { m with slot0 := some l.image } else { m with slot1 := some l.image } }

/-- A validated load goes on: once the standby has acknowledged the model T_A is chosen, sent and committed; without a standby it is
committed at once (R100, R101, R102). -/
def modelProceed (s : State) : State :=
  match s.model.load with
  | none => s
  | some l =>
    if !l.validated || (feedsTwin s && s.twin.unacked.any (fun i => i.type == 0x15)) then s
    else
      let late := s.zone + 10000000
      let next := nextGrid (epochNs s) (late - 1)
      match l.commit with
      | none => s
      | some (mode, at_) =>
        if mode = 1 ∧ at_ < late then loadFail l.entry (0x2B, 0, noRow, 0xFFFF, noRow) s
        else
          let tA := if mode = 1 then at_ else match l.chosen with | some t => if late ≤ t then t else next | none => next
          if feedsTwin s && l.chosen != some tA then
            let s := { s with model := { s.model with load := some { l with chosen := some tA } } }
            (replicate 0x15 true (le 8 tA) s).1
          else commitModel l tA s

/-- MODEL_VALIDATION_COMPLETE (R100): the whole-model validation and the read-back of a committed load end. -/
def execModelValidationComplete (dt : Nat) (s : State) : Host.Outcome State Fault Refusal :=
  let s := advance dt s
  .next (match s.model.load with
    | none => s
    | some l =>
      if l.commit.isNone || l.validated then s
      else match validate l.image (generation s.model.active) s with
        | some f => loadFail l.entry f s
        | none => modelProceed { s with model := { s.model with load := some { l with validated := true } } })

/-- MODEL_ACTIVATION_PASSED (R101): due 10 ms before a mode 1 ACTIVATION_TIME whose step 4 is not complete. -/
def execModelActivationPassed (dt : Nat) (s : State) : Host.Outcome State Fault Refusal :=
  let s := advance dt s
  .next (match s.model.load with
    | none => s
    | some l => (match l.commit with
      | some (1, at_) => if at_ ≤ s.zone + 10000000 then loadFail l.entry (0x2B, 0, noRow, 0xFFFF, noRow) s else s
      | _ => s))

/-- A model is plan-compatible with the one before it (R104). -/
def planCompatible (old new : ModelImage) : Bool :=
  old.units == new.units && old.groups == new.groups &&
    (((List.range new.elements.length).filter (fun i =>
        new.units.any (fun u => fld u 0 1 != 6 && fld u 4 4 == i) ||
          (elemType new i == 2 && new.units.any (fun u => fld u 0 1 == 6 && fld u 4 4 == fld (new.elements.getD i []) 2 2)))).all (fun i =>
      slice (old.elements.getD i []) 0 1 == slice (new.elements.getD i []) 0 1 &&
        slice (old.elements.getD i []) 0x0C 4 == slice (new.elements.getD i []) 0x0C 4))

/-- The swap at T_A: the committed model becomes the active one, its load ends DONE and MODEL_SWAP is recorded (R100 step 5). -/
def swapModel (p : ModelPending) (s : State) : State :=
  let s := { s with model := { s.model with active := some p.image, slot := p.slot, activation := s.zone, pending := none } }
  let s := emit 0x0401 [generation (some p.image), p.slot] s
  match p.entry with
  | none => s
  | some n => opDone n (le 2 0 ++ le 1 0 ++ zeros 1 ++ le 4 noRow ++ le 2 0xFFFF ++ zeros 2 ++ le 4 noRow ++ p.image.digest ++ le 8 s.zone ++ le 1 p.slot) s

/-- Model-Get-Info (R97, R99). -/
def cmdModelGetInfo : Command :=
  { code := 0x0404, standby := true, len := lenIs 0
    body := fun _ s =>
      let hd := match s.model.active with | none => zeros 112 | some m => m.header ++ m.digest
      (s, .ok (hd ++ le 8 s.model.activation ++ le 1 s.model.slot ++ le 1 (b2n s.model.pending.isSome) ++ zeros 2)) }

/-- Model-Read-Rows (R97). -/
def cmdModelReadRows : Command :=
  { code := 0x0405, standby := true, len := lenIs 8, reserved := resv [(1, 1)]
    range := fun c _ => [inRange c.payload 0 1 1 6, inRange c.payload 2 2 1 (rowLimit (fld c.payload 0 1))]
    body := fun c s =>
      let b := c.payload
      let rows := match s.model.active with | none => [] | some m => m.table (fld b 0 1)
      if rows.length < fld b 4 4 + fld b 2 2 then (s, refuseAt 0x0B 4)
      else (s, .ok (slice b 0 8 ++ ((rows.drop (fld b 4 4)).take (fld b 2 2)).flatten)) }

/-! ### The rows of the Ferosh command set: one exchange each -/

/-- MODEL_BEGIN_LOAD (R97). -/
def execModelBeginLoad (dt : Nat) (r : Request) (s : State) : Host.Outcome State Fault Refusal :=
  runCommand cmdModelBeginLoad dt r s

/-- MODEL_PUT_ROWS (R94). -/
def execModelPutRows (dt : Nat) (r : Request) (s : State) : Host.Outcome State Fault Refusal :=
  runCommand cmdModelPutRows dt r s

/-- MODEL_COMMIT_LOAD (R100). -/
def execModelCommitLoad (dt : Nat) (r : Request) (s : State) : Host.Outcome State Fault Refusal :=
  runCommand cmdModelCommitLoad dt r s

/-- MODEL_GET_INFO (R97). -/
def execModelGetInfo (dt : Nat) (r : Request) (s : State) : Host.Outcome State Fault Refusal :=
  runCommand cmdModelGetInfo dt r s

/-- MODEL_READ_ROWS (R97). -/
def execModelReadRows (dt : Nat) (r : Request) (s : State) : Host.Outcome State Fault Refusal :=
  runCommand cmdModelReadRows dt r s

end Sys2Proof.Machine
end

