-- ==== Sys2Proof/Machine/Loops.lean ====
section
/-! DEFINITION. The loop engine: schedules, inputs, laws, supervision, configuration and the class's commands (R307 to R330). -/

namespace Sys2Proof.Machine
open Sys2Proof

/-! ### Schedules (R308, R320) -/

/-- Period and phase in 100 µs of a record's evaluations: an outer loop runs every CASCADE_RATIO-th sample of its inner loop with the
same phase. Records are taken from a view of the slots. -/
def scheduleAt (view : Nat → Bytes) : Nat → Bytes → Option (Nat × Nat)
  | 0, _ => none
  | fuel + 1, r =>
    if lKind r = 0 then none
    else if lOutKind r ≠ 4 then some (max 1 (fld r 4 4), fld r 8 4)
    else (scheduleAt view fuel (view (lOutIndex r))).map (fun p => (p.1 * fld r 0x0E 1, p.2))

/-- The schedule of a slot as its records stand. -/
def schedule (n : Nat) (s : State) : Option (Nat × Nat) := scheduleAt (fun k => (loopSlot k s).record) 4 (loopSlot n s).record

/-- Levels beneath a loop in its cascade (R309). -/
def heightAt (view : Nat → Bytes) : Nat → Bytes → Nat
  | 0, _ => 0
  | fuel + 1, r => if lKind r != 0 && lOutKind r == 4 then 1 + heightAt view fuel (view (lOutIndex r)) else 0

/-- A tick after `last` and up to `n` is congruent to the phase modulo the period. -/
def tickIn (p : Nat × Nat) (last n : Nat) : Bool :=
  let k := fun (t : Nat) => (t + p.1 - p.2 % p.1) / p.1
  p.1 != 0 && decide (k last < k n)

/-- The local instant of the first sample of a schedule at least 1 ms after now (R324, R328). -/
def firstSample (p : Nat × Nat) (s : State) : Nat :=
  let t := (s.tb.now + 1000000 + 99999) / 100000
  (t + (p.2 % p.1 + p.1 - t % p.1) % p.1) * 100000

/-! ### Inputs (R310, R312, R313) -/

/-- The engineering value as loop units, and whether it saturated (R310). -/
def toUnits (v lsb : Rat) : Int × Bool := sat32 (roundAway (v / lsb))

/-- The input is in fault at this sample (R313). -/
def inputBad (r : Bytes) (x : Reading) (s : State) : Bool :=
  let node := fld r 0x0C 1 == 0 && ((tabGet {} s.net.nodes (fld r 0x10 4 % 65536)).state == 2 || decide (x.stamp + pushAge s < s.zone))
  x.bad || node || decide (x.stamp + fld r 0x28 4 * 1000000 < s.zone)

/-- A faulted sample: INPUT_FAULT is set and recorded. -/
def faultSample (n : Nat) (s : State) : State :=
  let l := loopSlot n s
  let s := setLoop n { l with inFault := true, goodRun := 0 } s
  if l.inFault then s else emit 0x0A02 [n, 0] s

/-- A good sample: PV is formed, and the third in a row ends the input-fault condition. -/
def goodSample (n : Nat) (x : Rat) (s : State) : State :=
  let l := loopSlot n s
  let r := l.record
  let pv := toUnits (f32Rat (fld r 0x18 4) * x + f32Rat (fld r 0x1C 4)) (lInLsb r)
  let l := { l with pv := pv.1, saturated := l.saturated || pv.2 }
  if !l.inFault then setLoop n l s
  else if l.goodRun + 1 < 3 then setLoop n { l with goodRun := l.goodRun + 1 } s
  else emit 0x0A02 [n, 1] (setLoop n { l with inFault := false, goodRun := 0 } s)

/-- The input of a loop is taken (R310, R313). -/
def takeInput (n : Nat) (s : State) : State :=
  let r := (loopSlot n s).record
  match loopReading (fld r 0x0C 1) (fld r 0x10 4) s with
  | none => faultSample n (setLoop n { loopSlot n s with age := 2 ^ 62 } s)
  | some x =>
    let s := setLoop n { loopSlot n s with age := s.zone - x.stamp } s
    if inputBad r x s then faultSample n s else goodSample n x.x s

/-! ### Set-points (R316, R324) -/

/-- A set-point value in force: loop units, or a stop request. -/
def takeSetpoint (v : Nat) (l : Loop) : Loop :=
  if v = qNaN then { l with stopped := true }
  else
    let u := toUnits (f32Val v) (lInLsb l.record)
    { l with sp := u.1, saturated := l.saturated || u.2, stopped := false }

/-- The set-point is taken from its source, clamped, and SP_R moves towards it; a first sample and a resumption start it at PV. -/
def rampSetpoint (l : Loop) : Loop :=
  let r := l.record
  let was := l.stopped
  let l := match lSpSource r with
    | 0 => takeSetpoint l.local_ l
    | 1 => takeSetpoint l.progSp l
    | _ => { l with stopped := false }
  let sp := clampInt (sfld r 0x2C 4) (sfld r 0x30 4) l.sp
  let l := { l with sp := sp, spClamped := if lSpSource r = 2 then l.spClamped || l.sp != sp else l.sp != sp }
  let ramp := sfld r 0x58 4
  if lKind r ≠ 1 ∨ l.stopped then l
  else if l.fresh || was then { l with spr := l.pv }
  else if ramp = 0 then { l with spr := sp }
  else { l with spr := l.spr + clampInt (-ramp) ramp (sp - l.spr) }

/-! ### Laws (R311, R315, R317, R318, R321) -/

/-- A coefficient times an operand: the exact product shifted right, rounded to nearest with ties away from zero (R311). -/
def coefMul (m : Int) (sh : Nat) (x : Int) : Int × Bool := sat32 (roundAway (mkRat (m * x) (2 ^ sh)))

/-- The error of R315, saturated. -/
def loopError (l : Loop) : Int × Bool := sat32 (lDir l.record * (l.spr - l.pv))

/-- e_prev follows the error in every mode (R315). -/
def trackError (l : Loop) : Loop :=
  let e := loopError l
  { l with ePrev := e.1, saturated := l.saturated || e.2, outLimited := false }

/-- The law of a MODULATING loop (R315). -/
def lawModulating (l : Loop) : Loop :=
  let r := l.record
  let e := loopError l
  let inBand := if l.inBand then !decide (sfld r 0x50 4 < (e.1.natAbs : Int)) else decide ((e.1.natAbs : Int) ≤ sfld r 0x4C 4)
  let de := sat32 (e.1 - l.ePrev)
  let a := coefMul (sfld r 0x40 4) (fld r 0x48 1) de.1
  let b := coefMul (sfld r 0x44 4) (fld r 0x49 1) e.1
  let dy := sat32 (a.1 + b.1)
  let rate := sfld r 0x54 4
  let dyc := if 0 < rate then clampInt (-rate) rate dy.1 else dy.1
  let y := sat32 (l.y + dyc)
  let yc := clampInt (lOutMin r) (lOutMax r) y.1
  if inBand then { l with inBand := true, ePrev := e.1, outLimited := false, saturated := l.saturated || e.2 }
  else { l with inBand := false, ePrev := e.1, y := yc, outLimited := dyc != dy.1 || yc != y.1, saturated := l.saturated || e.2 || de.2 || a.2 || b.2 || dy.2 || y.2 }

/-- A timer of R317: 0 at the first sample of its condition, advanced by the period at each later one. -/
def runTimer (cond : Bool) (period : Nat) (t : Option Nat) : Option Nat :=
  if cond then some (match t with | none => 0 | some v => v + period) else none

/-- A timer has reached a time in ms. -/
def timerDue (t : Option Nat) (ms : Nat) : Bool := match t with | none => false | some v => decide (ms * 10 ≤ v)

/-- The law of a STAGED loop in AUTO (R317). -/
def lawStaged (period now : Nat) (l : Loop) : Loop :=
  let r := l.record
  let c := if lDir r = -1 then -l.pv else l.pv
  let up := runTimer (decide (sfld r 0x40 4 ≤ c) && decide ((l.stage : Int) < lOutMax r)) period l.upTimer
  let down := runTimer (decide (c ≤ sfld r 0x44 4) && decide (lOutMin r < (l.stage : Int))) period l.downTimer
  let spaced := decide (l.stageAt + fld r 0x50 4 * 1000000 ≤ now)
  let stage := if timerDue up (fld r 0x48 4) then l.stage + 1 else if timerDue down (fld r 0x4C 4) then l.stage - 1 else l.stage
  if stage ≠ l.stage ∧ spaced then { l with stage := stage, y := stage, stageAt := now, staged := true, upTimer := none, downTimer := none }
  else { l with upTimer := up, downTimer := down, y := l.stage }

/-- The law of a LIMIT loop (R318). -/
def lawLimit (period : Nat) (l : Loop) : Loop :=
  let r := l.record
  let beyond := fun (off : Nat) => decide (0 ≤ lDir r * (l.pv - sfld r off 4))
  if !l.engaged then (if l.inFault || beyond 0x40 then { l with engaged := true, upTimer := none } else l)
  else
    let t := runTimer (!l.inFault && !beyond 0x44) period l.upTimer
    if timerDue t (fld r 0x48 4) then { l with engaged := false, upTimer := none } else { l with upTimer := t }

/-- Following-error supervision of a loop in AUTO; the flag says that FE_TIME_MS has been reached (R321). -/
def followError (period : Nat) (l : Loop) : Loop × Bool :=
  let r := l.record
  let lim := sfld r 0x5C 4
  let err : Int := (l.spr - l.pv).natAbs
  if lim = 0 then (l, false)
  else match l.feTimer with
    | none => if lim < err then ({ l with feTimer := some 0 }, false) else (l, false)
    | some v =>
      if err ≤ lim - sfld r 0x60 4 then ({ l with feTimer := none, fe := if fld r 0x0F 1 = 0 then false else l.fe }, false)
      else
        let v := v + period
        if fld r 0x64 4 * 10 ≤ v ∧ !l.fe then ({ l with feTimer := some v, fe := true }, true) else ({ l with feTimer := some v }, false)

/-- A change of mode returns the timers to 0; a reported following error clears with its timer (R317, R321). -/
def enterMode (m : Nat) (l : Loop) : Loop :=
  if m = l.mode then l
  else { l with mode := m, feTimer := none, fe := if fld l.record 0x0F 1 = 0 then false else l.fe, upTimer := if lKind l.record = 2 then none else l.upTimer, downTimer := none }

/-- The output of a STAGED loop outside AUTO (R317, R322). -/
def stagedOther (m : Nat) (l : Loop) : Loop :=
  let r := l.record
  let y := fun (v : Int) => { l with stage := v.toNat, y := v }
  match m with
  | 1 => y (clampInt (lOutMin r) (lOutMax r) (l.man.getD l.y))
  | 6 => y (lSafe r)
  | 4 => y 0
  | _ => l

/-- The output of a MODULATING loop outside AUTO (R322). -/
def modulatingOther (m : Nat) (l : Loop) : Loop :=
  let r := l.record
  let l := trackError l
  match m with
  | 1 => { l with y := clampInt (lOutMin r) (lOutMax r) (l.man.getD l.y) }
  | 6 => { l with y := lSafe r }
  | 4 => { l with y := sfld r 0x68 4 }
  | _ => l

/-- One evaluation of a loop (R315 to R322): in REPLICA only its input is followed (R326). -/
def sampleLoop (n : Nat) (s : State) : State :=
  let s := takeInput n s
  let s := setLoop n { rampSetpoint (loopSlot n s) with fresh := false } s
  let m := loopMode n s
  let l := enterMode m (loopSlot n s)
  let r := l.record
  let period := ((schedule n s).getD (1, 0)).1
  if m = 9 then setLoop n (trackError l) s
  else
    let s := match lKind r with
      | 3 => setLoop n (lawLimit period l) s
      | 2 => setLoop n (if m = 2 then lawStaged period s.tb.now l else stagedOther m l) s
      | _ =>
        if m = 2 then
          let f := followError period (lawModulating l)
          let t := setLoop n f.1 s
          if f.2 then
            let t := emit 0x0A01 [n, fld r 0x0F 1] t
            let m' := loopMode n t
            let k := if m' = 2 then f.1 else { f.1 with mode := m', feTimer := none }
            setLoop n (if m' = 6 then { k with y := lSafe r } else k) t
          else t
        else if m = 3 then setLoop n { lawModulating l with y := (loopSlot (lOutIndex r) s).sp } s
        else setLoop n (modulatingOther m l) s
    if lOutKind r = 4 then
      let i := loopSlot (lOutIndex r) s
      let lo := sfld i.record 0x2C 4
      let hi := sfld i.record 0x30 4
      let y := (loopSlot n s).y
      setLoop (lOutIndex r) { i with sp := clampInt lo hi y, spClamped := clampInt lo hi y != y } s
    else s

/-! ### Records, modes and host values take effect (R324, R328) -/

/-- A record takes effect in a slot (R328). -/
def applyLoop (n : Nat) (b : Bytes) (s : State) : State :=
  let l := loopSlot n s
  let same := lOutKind l.record == lOutKind b && lOutIndex l.record == lOutIndex b && lKind l.record != 0
  let y := if same then clampInt (lOutMin b) (lOutMax b) l.y else lSafe b
  let base : Loop := if lKind b = lKind l.record then { l with fe := if sfld b 0x5C 4 = 0 then false else l.fe }
    else { l with inFault := false, goodRun := 0, fe := false, inBand := false, engaged := false, outLimited := false, spClamped := false }
  setLoop n { base with record := b, pend := none, req := if lGuard b then 2 else base.req, y := y, stage := if lKind b = 2 then y.toNat else 0, feTimer := none, upTimer := none, downTimer := none, stageAt := if l.staged && lKind b == lKind l.record then l.stageAt else s.tb.now, fresh := l.fresh || lKind l.record == 0, dirty := true } s

/-- What waits for a slot's sample and is due: its record, requested mode, set-point and output. -/
def applyWaiting (n : Nat) (s : State) : State :=
  let due := fun (t : Nat) => decide (t ≤ s.tb.now)
  let s := match (loopSlot n s).pend with
    | some (b, t) => if due t then applyLoop n b s else s
    | none => s
  let l := loopSlot n s
  let l := match l.reqPend with
    | some (m, t) => if due t then { l with req := m, reqPend := none, fe := if m = 2 then false else l.fe, feTimer := none, man := none, dirty := true } else l
    | none => l
  let l := match l.localPend with
    | some (v, t) => if due t then { l with local_ := v, localPend := none, dirty := true } else l
    | none => l
  let l := match l.outPend with
    | some (v, t) => if due t then { l with man := some v, outPend := none } else l
    | none => l
  setLoop n l s

/-- Slots in which something waits. -/
def waitingSlots (s : State) : List Nat :=
  (s.loops.slots.filter (fun e => e.2.pend.isSome || e.2.reqPend.isSome || e.2.localPend.isSome || e.2.outPend.isSome)).map (·.1)

/-- Every waiting change that is due takes effect. -/
def applyWaitingAll (s : State) : State := (waitingSlots s).foldl (fun t n => applyWaiting n t) s

/-- Host writes to outputs that are due become the LOCAL value of their target (R428). -/
def applyOutWrites (s : State) : State :=
  let due := s.io.writes.filter (fun w => decide (w.due ≤ s.tb.now))
  let s := { s with io := { s.io with writes := s.io.writes.filter (fun w => !decide (w.due ≤ s.tb.now)) } }
  due.foldl (fun t w => let k := 2 - w.kind; setTarget k w.index { target k w.index t with local_ := some w.value } t) s

/-- The loop engine runs: the plant has started and its supply is there (R322, R550). -/
def engineRuns (s : State) : Bool :=
  s.boot.plant && !s.power.off && !s.boot.held && !s.sys.released && (s.win.power == .active || s.win.power == .quiet)

/-- The tick of the loop engine: waiting changes, the loops due, outer loops first, then target resolution (R309, R319, R332). -/
def loopTick (s : State) : State :=
  let n := s.tb.now / 100000
  let last := s.loops.lastTick
  if n ≤ last then s
  else
    let s := applyIoConfig { s with loops := { s.loops with lastTick := n } }
    if !engineRuns s then s
    else
      let s := applyOutWrites (applyWaitingAll s)
      let due := (slotsWhere (fun r => lKind r != 0) s).filter (fun k => match schedule k s with | none => false | some p => tickIn p last n)
      let view := fun k => (loopSlot k s).record
      let at_ := fun (h : Nat) => due.filter (fun k => heightAt view 4 (view k) == h)
      let s := [3, 2, 1, 0].foldl (fun t h => (at_ h).foldl (fun u k => sampleLoop k u) t) s
      followCurrents (resolveAll s)

/-- LOOP_SAMPLE (R308): due at each 100 µs tick. -/
def execLoopSample (dt : Nat) (s : State) : Host.Outcome State Fault Refusal := .next (loopTick (advance dt s))

/-! ### Replication (R326, R381) -/

/-- The bytes of a slot's replicated data: number, record, requested mode, LOCAL set-point and applied output (log 18). -/
def loopItem (n : Nat) (l : Loop) : Bytes := le 2 n ++ l.record ++ le 1 l.req ++ le 4 l.local_ ++ leInt 4 l.applied

/-- The bytes of an axis's replicated data (log 18). -/
def axisItem (n : Nat) (a : Axis) (s : State) : Bytes :=
  le 1 n ++ a.record ++ leInt 4 (a.posAt s.tb.now) ++ le 1 (bitAt 0 a.homed + bitAt 1 a.moving) ++ le 4 ((target 3 n s).local_.getD qNaN)

/-- Loops and axes that changed are sent to the standby (R326, R381). -/
def replicatePlant (s : State) : State :=
  let ls := s.loops.slots.filter (fun e => e.2.dirty)
  let as := s.motion.axes.filter (fun e => e.2.dirty || e.2.moving)
  if ls = [] ∧ as = [] then s
  else
    let data := le 2 ls.length ++ ls.flatMap (fun e => loopItem e.1 e.2) ++ le 1 as.length ++ as.flatMap (fun e => axisItem e.1 e.2 s)
    let s := { s with
      loops := { s.loops with slots := s.loops.slots.map (fun e => (e.1, { e.2 with dirty := false })) }
      motion := { s.motion with axes := s.motion.axes.map (fun e => (e.1, { e.2 with dirty := false })) } }
    (replicate 0x12 true (6 :: data) s).1

/-- T0 cycles run: an image is active, the program is in RUN and T0 is enabled. -/
def t0Runs (s : State) : Bool :=
  progState s == 2 && (match s.prog.image with | none => false | some i => bit (fld i 64 1) 0)

/-- LOOP_REPLICATION_TIMER (R326): due at each 10 ms instant while no T0 cycle runs. -/
def execLoopReplicationTimer (dt : Nat) (s : State) : Host.Outcome State Fault Refusal :=
  let s := advance dt s
  let n := s.tb.now / 10000000
  .next (if n ≤ s.loops.lastRepl then s
    else
      let s := { s with loops := { s.loops with lastRepl := n } }
      if t0Runs s || !feedsTwin s then s else replicatePlant s)

/-! ### Configuration (R314, R318 to R320, R327, R328) -/

/-- The record a slot holds or has accepted. -/
def latestRecord (n : Nat) (s : State) : Bytes := match (loopSlot n s).pend with | some (b, _) => b | none => (loopSlot n s).record

/-- The SOURCE of a loop lies within its layout (R91, R312). -/
def loopSourceFits (kind src : Nat) : Bool :=
  match kind with
  | 0x10 => decide (src < 512)
  | 0x11 => decide (src < 32)
  | 0x12 => decide (src < 8)
  | 0x13 => decide (src < 5)
  | 0x14 => decide (src < 1024)
  | k => sourceFits k src

/-- OUT_INDEX lies within its OUT_KIND's range (R314). -/
def outIndexFits (r : Bytes) : Bool :=
  let i := lOutIndex r
  match lOutKind r with
  | 0 => i == 0
  | 1 => decide (i < 8)
  | 2 => decide (i + lSpan r ≤ 24)
  | 3 => decide (i < 8)
  | 4 => decide (i < 512)
  | 5 => decide (i < 1024)
  | _ => true

/-- The ranges of the common part of a loop record, by offset (R314, R327). -/
def loopCommon (r : Bytes) (s : State) : List (Bool × Nat × Nat) :=
  let k := lKind r
  let g := lGuard r
  let cascade := lOutKind r == 4
  let srcKind := fld r 0x0C 1
  let lsbOk := fun off => f32In (fld r off 4) (dec 1 9) 1000000
  [inRange r 0 1 0 3, chk (!(k == 2 && g) && !(k == 3 && !g) && (!bit (fld r 1 1) 2 || (k == 1 && g))) 1, inRange r 2 1 0 2, inRange r 3 1 0 1,
    chk (if cascade then decide (fld r 4 4 ≤ 600000) else decide (1 ≤ fld r 4 4 ∧ fld r 4 4 ≤ 600000)) 4,
    chk (if cascade then fld r 8 4 == 0 else decide (fld r 8 4 < fld r 4 4)) 8,
    chk (decide (srcKind ≤ 6) || (decide (0x10 ≤ srcKind) && decide (srcKind ≤ 0x14))) 0x0C,
    chk (decide (lOutKind r ≤ 5) && !(k == 2 && lOutKind r != 2 && lOutKind r != 5) && !(k == 1 && lOutKind r == 2)) 0x0D,
    chk (if cascade then decide (1 ≤ fld r 0x0E 1) else fld r 0x0E 1 == 0) 0x0E, inRange r 0x0F 1 0 2,
    chk (loopSourceFits srcKind (fld r 0x10 4) && canInputFits srcKind (fld r 0x10 4) s) 0x10,
    chk (outIndexFits r) 0x14, chk (if k = 2 then decide (1 ≤ fld r 0x16 1 ∧ fld r 0x16 1 ≤ 8) else fld r 0x16 1 == 0) 0x16,
    chk (f32Finite (fld r 0x18 4) && f32Rat (fld r 0x18 4) != 0) 0x18, chk (f32Finite (fld r 0x1C 4)) 0x1C, chk (lsbOk 0x20) 0x20, chk (lsbOk 0x24) 0x24,
    inRange r 0x28 4 1 3600000, chk (decide (sfld r 0x2C 4 ≤ sfld r 0x30 4)) 0x2C,
    chk (decide (lOutMin r ≤ lOutMax r) && (k != 2 || decide (0 ≤ lOutMin r))) 0x34,
    chk (k != 2 || decide (lOutMax r ≤ (fld r 0x16 1 : Int))) 0x38, chk (decide (lOutMin r ≤ lSafe r ∧ lSafe r ≤ lOutMax r)) 0x3C]

/-- The ranges of the law area, by offset (R318, R327). -/
def loopLaw (r : Bytes) : List (Bool × Nat × Nat) :=
  let i := fun off => sfld r off 4
  match lKind r with
  | 1 => [inRange r 0x48 1 0 31, inRange r 0x49 1 0 31, chk (decide (0 ≤ i 0x4C) && decide (i 0x4C ≤ i 0x50)) 0x4C,
      chk (decide (0 ≤ i 0x54)) 0x54, chk (decide (0 ≤ i 0x58)) 0x58, chk (decide (0 ≤ i 0x5C)) 0x5C,
      chk (if i 0x5C = 0 then i 0x60 == 0 else decide (0 ≤ i 0x60 ∧ i 0x60 < i 0x5C)) 0x60, inRange r 0x64 4 1 3600000,
      chk (decide (lOutMin r ≤ i 0x68 ∧ i 0x68 ≤ lOutMax r)) 0x68]
  | 2 => [chk (decide (i 0x44 < i 0x40)) 0x44, inRange r 0x48 4 0 3600000, inRange r 0x4C 4 0 3600000, inRange r 0x50 4 0 3600000]
  | 3 => [chk (if lDir r = 1 then decide (i 0x44 < i 0x40) else decide (i 0x40 < i 0x44)) 0x44, inRange r 0x48 4 0 3600000,
      chk (lOutKind r != 2 || i 0x4C == 0 || i 0x4C == 1) 0x4C]
  | _ => []

/-- Reserved bytes of a loop record, by kind (R327). -/
def loopReserved (r : Bytes) : List (Nat × Nat) :=
  flagResv r 1 1 3 ++ [(0x17, 1)] ++ (match lKind r with
    | 0 => [(0x40, 64)]
    | 1 => [(0x4A, 2), (0x6C, 20)]
    | 2 => [(0x54, 44)]
    | 3 => [(0x50, 48)]
    | _ => [])

/-- Cascade faults of the slots as a view holds them (R320). -/
def cascadeFault (view : Nat → Bytes) (slots : List Nat) : Bool :=
  slots.any (fun n =>
    let r := view n
    lKind r != 0 && lOutKind r == 4 &&
      (let i := view (lOutIndex r)
       fld r 4 4 != 0 || lGuard r || lKind i == 0 || lSpSource i != 2 || fld i 0x20 4 != fld r 0x24 4 ||
        (match scheduleAt view 4 r with | none => true | some p => decide (600000 < p.1))))

/-- CASCADE_INVALID, with DETAIL at the outer's own PERIOD_100US or FLAGS where one of them breaks R320. -/
def cascadeReply (r : Bytes) : Reply :=
  let outer := lKind r != 0 && lOutKind r == 4
  if outer && fld r 4 4 != 0 then refuseAt 0x21 8 else if outer && lGuard r then refuseAt 0x21 5 else refuse 0x21

/-- A target of a view has a second non-GUARD writer, an inner slot a second outer loop, or the program writes it (R314, R340). -/
def ownedFault (view : Nat → Bytes) (slots : List Nat) (n : Nat) (s : State) : Bool :=
  let r := view n
  let others := slots.filter (fun k => k != n && lKind (view k) != 0)
  let shares := fun k => (targetsOf r).any (fun t => covers (view k) t.1 t.2)
  (lKind r != 0 && lOutKind r == 4 && others.any (fun k => lOutKind (view k) == 4 && lOutIndex (view k) == lOutIndex r)) ||
    (!lGuard r && others.any (fun k => !lGuard (view k) && shares k)) ||
    (targetsOf r).any (fun t => (bindsTo (progDir s) (bindKind t.1) t.2).any (fun _ => !(lGuard r && t.1 != 5)))

/-- A target of a view has a fifth GUARD writer, program GUARD outputs included, or LIMIT writers with different values (R314, R319). -/
def guardFault (view : Nat → Bytes) (slots : List Nat) (n : Nat) (s : State) : Bool :=
  (targetsOf (view n)).any (fun t =>
    let gs := slots.filter (fun k => covers (view k) t.1 t.2 && lGuard (view k))
    let pg := (bindsTo (progDir s) (bindKind t.1) t.2).filter entryGuard
    let lims := (gs.filter (fun k => lKind (view k) == 3)).map (fun k => loopValue { record := view k } t.1 t.2) ++ pg.map (fun e => f32Val (fld e 0x18 4))
    decide (4 < gs.length + pg.length) || lims.any (fun v => v != lims.headD 0))

/-- The largest number of schedules that share one tick stays within 128 (R308): judged over their whole repeating schedule. -/
def loadFits (items : List (Nat × Nat)) : Bool :=
  decide (items.length ≤ 128) ||
    (List.range (items.foldl (fun m p => Nat.lcm m p.1) 1)).all (fun t => decide ((items.filter (fun p => t % p.1 == p.2 % p.1)).length ≤ 128))

/-- Schedules counted for the load: a slot with a pending record, or whose schedule the change moves, counts with both (R308). -/
def loadItems (old new : Nat → Bytes) (slots : List Nat) (pending : Nat → Bool) : List (Nat × Nat) :=
  slots.flatMap (fun n =>
    let a := scheduleAt old 4 (old n)
    let b := scheduleAt new 4 (new n)
    if pending n || a != b then a.toList ++ b.toList else b.toList)

/-- Loop-Get-Config (R329). -/
def cmdLoopGetConfig : Command :=
  { code := 0x0A01, standby := true, len := lenIs 4, reserved := resv [(2, 2)], range := fun c _ => [inRange c.payload 0 2 0 511]
    body := fun c s => (s, .ok (loopSlot (fld c.payload 0 2) s).record) }

/-- Loop-Set-Config (R308, R314, R319, R320, R327, R328). -/
def cmdLoopSetConfig : Command :=
  { code := 0x0A02, len := lenIs 132
    reserved := fun b => (2, 2) :: (loopReserved (b.drop 4)).map (fun f => (f.1 + 4, f.2))
    range := fun c s =>
      let r := c.payload.drop 4
      inRange c.payload 0 2 0 511 :: ((loopCommon r s ++ loopLaw r).map (fun f => (f.1, f.2.1, f.2.2 + 4)))
    body := fun c s =>
      let n := fld c.payload 0 2
      let r := c.payload.drop 4
      let slots := (s.loops.slots.map (·.1)).filter (fun k => k != n) ++ [n]
      let view := fun k => if k = n then r else latestRecord k s
      let now := fun k => (loopSlot k s).record
      let pending := fun k => k == n || (loopSlot k s).pend.isSome
      if caravanHolds (0x20000000 + n) s then (s, refuse 0x24)
      else if ownedFault view slots n s then (s, refuse 0x22)
      else if cascadeFault view slots then (s, cascadeReply r)
      else if guardFault view slots n s then (s, refuse 0x23)
      else if !loadFits (loadItems now view slots pending) then (s, refuse 0x20)
      else
        let p := (schedule n s).getD ((scheduleAt view 4 r).getD (1, 0))
        let t := firstSample p s
        (setLoop n { loopSlot n s with pend := some (r, t) } s, .ok (le 8 (zoneAt t s))) }

/-- The first sample instant of a slot at which a host value applies. -/
def hostInstant (n : Nat) (s : State) : Nat := firstSample ((schedule n s).getD (1, 0)) s

/-- Loop-Set-Mode (R322, R329). -/
def cmdLoopSetMode : Command :=
  { code := 0x0A03, len := lenIs 4, reserved := resv [(3, 1)]
    range := fun c _ => [inRange c.payload 0 2 0 511, inRange c.payload 2 1 1 2]
    body := fun c s =>
      let n := fld c.payload 0 2
      if fld c.payload 2 1 = 1 ∧ lGuard (latestRecord n s) then (s, refuseAt 0x0A 2)
      else
        let t := hostInstant n s
        (setLoop n { loopSlot n s with reqPend := some (fld c.payload 2 1, t) } s, .ok (le 8 (zoneAt t s))) }

/-- Loop-Set-Setpoint (R316, R324, R329). -/
def cmdLoopSetSetpoint : Command :=
  { code := 0x0A04, len := lenIs 8, reserved := resv [(2, 2)]
    range := fun c _ => [inRange c.payload 0 2 0 511, chk (f32Finite (fld c.payload 4 4) || fld c.payload 4 4 == qNaN) 4]
    body := fun c s =>
      let n := fld c.payload 0 2
      let r := latestRecord n s
      if lSpSource r ≠ 0 ∨ lGuard r then (s, refuse 0x26)
      else
        let t := hostInstant n s
        (setLoop n { loopSlot n s with localPend := some (fld c.payload 4 4, t) } s, .ok (le 8 (zoneAt t s))) }

/-- Loop-Set-Output (R322, R329). -/
def cmdLoopSetOutput : Command :=
  { code := 0x0A05, len := lenIs 8, reserved := resv [(2, 2)], range := fun c _ => [inRange c.payload 0 2 0 511]
    body := fun c s =>
      let n := fld c.payload 0 2
      if loopMode n s ≠ 1 then (s, refuse 0x25)
      else
        let t := hostInstant n s
        let r := (loopSlot n s).record
        let v := clampInt (lOutMin r) (lOutMax r) (sfld c.payload 4 4)
        (setLoop n { loopSlot n s with outPend := some (v, t) } s, .ok (le 8 (zoneAt t s))) }

/-- FLAGS of a loop status record (R329). -/
def loopFlags (n : Nat) (s : State) : Nat :=
  let l := loopSlot n s
  bitAt 0 l.inFault + bitAt 1 l.feTimer.isSome + bitAt 2 l.fe + bitAt 3 l.inBand + bitAt 4 l.outLimited + bitAt 5 l.spClamped +
    bitAt 6 l.saturated + bitAt 7 l.engaged + bitAt 8 ((targetsOf l.record).any (fun t => (target t.1 t.2 s).interlock))

/-- A loop status record (R329). -/
def loopStatus (n : Nat) (s : State) : Bytes :=
  let l := loopSlot n s
  let timer := match l.feTimer, l.upTimer, l.downTimer with
    | some v, _, _ => v
    | none, some v, _ => v
    | none, none, some v => v
    | none, none, none => 0
  le 2 n ++ le 1 (loopMode n s) ++ le 1 l.req ++ le 2 (loopFlags n s) ++ le 1 (if lKind l.record = 2 then l.stage else 0) ++ zeros 1 ++
    leInt 4 l.pv ++ leInt 4 l.sp ++ leInt 4 l.spr ++ leInt 4 l.y ++ leInt 4 (appliedOf n s) ++ le 4 (min 0xFFFFFFFF (l.age / 1000000)) ++
    le 4 (timer / 10) ++ zeros 4

/-- Loop-Read-Status (R311, R329): SATURATED is cleared by the read. -/
def cmdLoopReadStatus : Command :=
  { code := 0x0A06, standby := true, len := lenIs 4
    range := fun c _ => [inRange c.payload 0 2 0 511, inRange c.payload 2 2 1 203, chk (decide (fld c.payload 0 2 + fld c.payload 2 2 ≤ 512)) 0]
    body := fun c s =>
      let l := (List.range (fld c.payload 2 2)).map (fun i => fld c.payload 0 2 + i)
      let b := l.flatMap (fun n => loopStatus n s)
      (l.foldl (fun t n => if (loopSlot n t).saturated then setLoop n { loopSlot n t with saturated := false } t else t) s, .ok (c.payload ++ b)) }

/-! ### The rows of the Ferosh command set: one exchange each -/

/-- LOOP_GET_CONFIG (R329). -/
def execLoopGetConfig (dt : Nat) (r : Request) (s : State) : Host.Outcome State Fault Refusal :=
  runCommand cmdLoopGetConfig dt r s

/-- LOOP_SET_CONFIG (R328). -/
def execLoopSetConfig (dt : Nat) (r : Request) (s : State) : Host.Outcome State Fault Refusal :=
  runCommand cmdLoopSetConfig dt r s

/-- LOOP_SET_MODE (R329). -/
def execLoopSetMode (dt : Nat) (r : Request) (s : State) : Host.Outcome State Fault Refusal :=
  runCommand cmdLoopSetMode dt r s

/-- LOOP_SET_SETPOINT (R324). -/
def execLoopSetSetpoint (dt : Nat) (r : Request) (s : State) : Host.Outcome State Fault Refusal :=
  runCommand cmdLoopSetSetpoint dt r s

/-- LOOP_SET_OUTPUT (R329). -/
def execLoopSetOutput (dt : Nat) (r : Request) (s : State) : Host.Outcome State Fault Refusal :=
  runCommand cmdLoopSetOutput dt r s

/-- LOOP_READ_STATUS (R329). -/
def execLoopReadStatus (dt : Nat) (r : Request) (s : State) : Host.Outcome State Fault Refusal :=
  runCommand cmdLoopReadStatus dt r s

end Sys2Proof.Machine
end

