-- ==== Sys2Proof/Machine/Caravan.lean ====
section
/-! DEFINITION. The caravan unit: members, staging, the single decision, activation, repair, journal and the class's commands
(R188 to R214). -/

namespace Sys2Proof.Machine
open Sys2Proof

/-! ### Members and caravans (R188 to R191) -/

/-- KIND of a TARGET. -/
def tgtKind (t : Nat) : Nat := t / 2 ^ 28

/-- Node of a FIELD_NODE target. -/
def tgtNode (t : Nat) : Nat := t % 65536

/-- Channel of a FIELD_NODE target. -/
def tgtChannel (t : Nat) : Nat := t / 65536 % 256

/-- The low bits of a TARGET. -/
def tgtLow (t : Nat) : Nat := t % 2 ^ 28

/-- A member is a channel of a field node. -/
def Member.remote (m : Member) : Bool := tgtKind m.target == 1

/-- A member is resolved (R191). -/
def Member.resolved (m : Member) : Bool := m.status == 2 || m.status == 3 || m.status == 4

/-- Nodes of a caravan. -/
def Caravan.nodes (c : Caravan) : List Nat := ((c.members.filter (·.remote)).map (fun m => tgtNode m.target)).eraseDups

/-- Members of a caravan on a node. -/
def Caravan.onNode (c : Caravan) (n : Nat) : List Member := c.members.filter (fun m => m.remote && tgtNode m.target == n)

/-- The decision that stands: 3 commit, 4 abort, as DECISION_ACK codes them; 0 none (R195). -/
def Caravan.standing (c : Caravan) : Nat :=
  match c.deciding with
  | some none => 3
  | some (some _) => 4
  | none => if c.state = 5 then 4 else if 2 ≤ c.state then 3 else 0

/-- The journal slot of an open caravan. -/
def carSlot (id : Nat) (s : State) : Option (Nat × Caravan) := s.car.slots.find? (fun e => e.2.id == id)

/-- A caravan that is open or among the last 64 ended. -/
def findCar (id : Nat) (s : State) : Option Caravan :=
  match carSlot id s with
  | some e => some e.2
  | none => s.car.ended.find? (fun c => c.id == id)

/-! ### Journal (R206, R207) -/

/-- The header of a journal slot, 256 bytes. -/
def journalHeader (c : Caravan) : Bytes :=
  let b := le 4 0x4E565243 ++ le 4 c.id ++ le 1 c.state ++ le 1 c.origin ++ le 1 c.abortReason ++
    le 1 (bitAt 0 c.isSealed + bitAt 1 c.autoCommit + bitAt 2 c.requireLock) ++ le 2 c.members.length ++
    le 2 (c.members.filter (!·.remote)).length ++ le 8 c.tAct ++ le 8 c.tStage ++ le 8 c.tDecision ++ le 4 c.lateMs ++ le 4 c.confirmMs ++ le 4 c.retryMs
  fit 252 b ++ le 4 (crc32c (fit 252 b))

/-- A member byte. -/
def memberByte (m : Member) : Nat := m.status + bitAt 3 m.late + bitAt 4 m.unlocked

/-- The on-module values of a slot: MEMBER, reserved, VALUE. -/
def journalValues (ms : List Member) : Bytes :=
  (ms.zipIdx.filter (fun e => !e.1.remote)).flatMap (fun e => le 2 e.2 ++ zeros 2 ++ le 4 e.1.value)

/-- A JOURNAL item: slot, header, TARGETs, member bytes and on-module values (R206, R251; log 20). -/
def journalItem (slot : Nat) (c : Caravan) : Bytes :=
  le 1 slot ++ zeros 3 ++ journalHeader c ++ c.members.flatMap (fun m => le 4 m.target) ++ c.members.flatMap (fun m => le 1 (memberByte m)) ++
    journalValues c.members

/-- The caravan a JOURNAL item spells: what the journal does not hold is unknown, and a sealed one has staged its nodes (R192, R206, R212). -/
def ofJournal (b : Bytes) : Nat × Caravan :=
  let h := b.drop 4
  let n := fld h 0x10 2
  let targets := h.drop 256
  let bytes := targets.drop (4 * n)
  let vals := chunks 8 (fld h 0x12 2) (bytes.drop n)
  let one := fun (k : Nat) =>
    let t := fld targets (4 * k) 4
    let y := fld bytes k 1
    let v := vals.find? (fun e => fld e 0 2 == k)
    ({ target := t, value := match v with | some e => fld e 4 4 | none => 0, known := v.isSome, status := y % 8, late := bit y 3, unlocked := bit y 4 } : Member)
  let f := fld h 0x0B 1
  let c : Caravan :=
    { id := fld h 4 4, state := fld h 8 1, origin := fld h 9 1, abortReason := fld h 0x0A 1, isSealed := bit f 0, autoCommit := bit f 1, requireLock := bit f 2
      tAct := fld h 0x14 8, tStage := fld h 0x1C 8, tDecision := fld h 0x24 8, lateMs := fld h 0x2C 4, confirmMs := fld h 0x30 4, retryMs := fld h 0x34 4
      members := (List.range n).map one }
  (fld b 0 1, if c.isSealed then { c with staged := c.nodes } else c)

/-- A caravan's journal record is written, and replicated to a standby (R32, R207). -/
def putCar (slot : Nat) (c : Caravan) (s : State) : State :=
  (replicate 0x10 true (journalItem slot c) { s with car := { s.car with slots := tabSet s.car.slots slot c } }).1

/-- A caravan's running data changes without a journal record. -/
def keepCar (slot : Nat) (c : Caravan) (s : State) : State := { s with car := { s.car with slots := tabSet s.car.slots slot c } }

/-! ### Messages (R204) -/

/-- A caravan message. -/
def carMsg (type code id time late flags retry : Nat) (entries : List (Nat × Nat)) : Bytes :=
  le 1 type ++ le 1 1 ++ le 1 entries.length ++ le 1 code ++ le 4 id ++ le 8 time ++ le 4 late ++ le 2 flags ++ le 2 retry ++
    entries.flatMap (fun e => le 1 e.1 ++ zeros 3 ++ le 4 e.2)

/-- STAGE to a node. -/
def sendStage (c : Caravan) (n : Nat) (s : State) : State :=
  let es := (c.onNode n).map (fun m => (tgtChannel m.target, m.value))
  sendFfp 0x10 n (carMsg 1 0 c.id c.tAct c.lateMs (b2n c.requireLock) c.retryMs es) s

/-- COMMIT to a node. -/
def sendCommit (c : Caravan) (n : Nat) (s : State) : State := sendFfp 0x10 n (carMsg 3 0 c.id c.tAct 0 0 0 []) s

/-- ABORT to a node. -/
def sendAbort (id reason n : Nat) (s : State) : State := sendFfp 0x10 n (carMsg 4 reason id 0 0 0 0 []) s

/-! ### What the plan learns (R180, R181) -/

/-- The plan yields: row of R181's table; the next replan starts from measured values. -/
def planYield (row : Nat) (s : State) : State := emit 0x0603 [row] { s with opt := { s.opt with anchor := true } }

/-- Oasis mode is left (R38, R180). -/
def leaveOasis (s : State) : State :=
  emit 0x0005 [1, s.opt.oasisCause]
    (setOasis false { s with opt := { s.opt with oasisPhase := 0, reconcileRun := false, reconcileDue := false, reconcileId := none } })

/-- A plan caravan has ended (R37, R180, R181). -/
def planFinal (c : Caravan) (s : State) : State :=
  let mine := s.opt.reconcileId == some c.id
  if c.origin ≠ 0 then s
  else if c.state = 4 then
    let s := { s with opt := { s.opt with heldStep := c.members.map (fun m => (m.target, m.value)) } }
    if mine then leaveOasis s else s
  else
    let s := planYield 3 s
    if mine then emit 0x0604 [c.id] { s with opt := { s.opt with oasisPhase := 2, reconcileRun := false, reconcileDue := false, reconcileId := none } } else s

/-! ### Final states -/

/-- A caravan ends: its slot is free, and it stays readable among the last 64 (R206). -/
def endCar (slot : Nat) (c : Caravan) (s : State) : State :=
  let c := { c with tFinal := s.zone }
  let s := (replicate 0x10 true (journalItem slot c) s).1
  planFinal c { s with car := { s.car with slots := tabErase s.car.slots slot, ended := (c :: s.car.ended).take 64 } }

/-- A caravan whose members are all resolved is DONE (R190, R202). -/
def tryDone (id : Nat) (s : State) : State :=
  match carSlot id s with
  | none => s
  | some (k, c) => if (c.state == 2 || c.state == 3) && c.members.all (·.resolved) then endCar k { c with state := 4 } s else s

/-- A caravan becomes IN_DOUBT (R190, R199). -/
def goInDoubt (id : Nat) (s : State) : State :=
  match carSlot id s with
  | none => s
  | some (k, c) =>
    if c.state ≠ 2 then s
    else
      let s := putCar k { c with state := 3 } { s with car := { s.car with inDoubtTotal := (s.car.inDoubtTotal + 1) % 2 ^ 32 } }
      emit 0x0702 [id, (c.members.filter (!·.resolved)).length] s

/-- The event of a member that did not take effect, and what the plan learns of it (R181, R199). -/
def memberEvent (c : Caravan) (m : Member) (s : State) : State :=
  if m.status = 3 then
    let s := emit 0x0703 [c.id, m.target, m.reason] s
    if c.origin = 0 ∧ m.reason = 0x20 then planYield 1 s else s
  else if m.status = 4 then
    let s := emit 0x0704 [c.id, m.target, m.reason, m.report] { s with car := { s.car with orphanedTotal := (s.car.orphanedTotal + 1) % 2 ^ 32 } }
    if c.origin = 0 then planYield 3 s else s
  else s

/-- A member takes its final status; an applied one supersedes earlier caravans' members on its target, which its caller sees to. -/
def settleMember (id target : Nat) (f : Member → Member) (s : State) : State :=
  match carSlot id s with
  | none => s
  | some (k, c) =>
    match c.members.find? (fun m => m.target == target) with
    | none => s
    | some m =>
      if m.resolved then s
      else
        let m' := f m
        let s := putCar k { c with members := c.members.map (fun x => if x.target = target then m' else x) } s
        tryDone id (memberEvent c m' s)

/-- Members of earlier committed caravans on a target that a later one has applied are ORPHANED with SUPERSEDED (R189). -/
def supersede (id tAct target : Nat) (s : State) : State :=
  let earlier := s.car.slots.filter (fun e => e.2.id != id && decide (e.2.tAct < tAct) && (e.2.state == 2 || e.2.state == 3))
  earlier.foldl (fun t e => settleMember e.2.id target (fun m => { m with status := 4, reason := 0x14 }) t) s

/-- A member is APPLIED. -/
def memberApplied (id target : Nat) (f : Member → Member) (s : State) : State :=
  let tAct := match carSlot id s with | some e => e.2.tAct | none => 0
  supersede id tAct target (settleMember id target (fun m => f { m with status := 2, reason := 0 }) s)

/-! ### The decision (R194 to R197) -/

/-- A decision is taken: its journal record goes to the Cellar and to the standby (R195). -/
def decide_ (slot : Nat) (c : Caravan) (d : Option Nat) (waiter : Option Nat) (s : State) : State :=
  let rec_ := { c with state := match d with | none => 2 | some _ => 5, abortReason := d.getD 0 }
  let r := replicate 0x10 true (journalItem slot rec_) s
  keepCar slot { c with deciding := some d, twinItem := r.2, written := false, waiter := waiter, abortReason := d.getD c.abortReason } r.1

/-- A durable commit (R190, R198). -/
def committed (slot : Nat) (c : Caravan) (s : State) : State :=
  let c' := { c with state := 2, deciding := none, tDecision := s.zone, waiter := none, lastSend := s.tb.now }
  let s := keepCar slot c' { s with car := { s.car with committedTotal := (s.car.committedTotal + 1) % 2 ^ 32 } }
  let s := c.nodes.foldl (fun t n => sendCommit c' n t) s
  match c.waiter with
  | none => s
  | some k => finish k (.ok (le 8 c'.tDecision)) s

/-- A durable abort (R191, R196, R197): staged nodes are told. -/
def aborted (slot : Nat) (c : Caravan) (s : State) : State :=
  let late := fun (m : Member) => if m.status = 0 then { m with status := 5, reason := if c.abortReason = 2 then 0x10 else m.reason } else m
  let c' := { c with state := 5, deciding := none, tDecision := s.zone, waiter := none, lastSend := s.tb.now, members := c.members.map late }
  let s := emit 0x0701 [c.id, c.abortReason] { s with car := { s.car with abortedTotal := (s.car.abortedTotal + 1) % 2 ^ 32 } }
  let s := endCar slot c' s
  let s := c.staged.foldl (fun t n => sendAbort c.id c.abortReason n t) s
  match c.waiter with
  | none => s
  | some k => finish k (.ok []) s

/-- A decision that is durable in the Cellar and on the standby takes effect (R195). -/
def settleDecision (slot : Nat) (s : State) : State :=
  match tabGet? s.car.slots slot with
  | none => s
  | some c =>
    match c.deciding with
    | none => s
    | some d => if c.written && c.twinItem.isNone then (match d with | none => committed slot c s | some _ => aborted slot c s) else s

/-- The standby has acknowledged an item: a decision that waited for it goes on (R32, R195). -/
def carAcked (item : Nat) (s : State) : State :=
  s.car.slots.foldl (fun t e => if e.2.twinItem = some item then settleDecision e.1 (keepCar e.1 { e.2 with twinItem := none } t) else t) s

/-- The standby is lost: no decision waits for it any longer (R34). -/
def carReleased (s : State) : State :=
  s.car.slots.foldl (fun t e => if e.2.twinItem.isSome then settleDecision e.1 (keepCar e.1 { e.2 with twinItem := none } t) else t) s

/-- Every OPEN and STAGED caravan without a decision aborts (R196). -/
def abortAll (reason : Nat) (s : State) : State :=
  s.car.slots.foldl (fun t e => if e.2.standing = 0 then decide_ e.1 e.2 (some reason) none t else t) s

/-- The last-gasp commit has written the journal: decisions are durable (R209). -/
def carLastGasp (s : State) : State :=
  s.car.slots.foldl (fun t e => if e.2.deciding.isSome then settleDecision e.1 (keepCar e.1 { e.2 with written := true, twinItem := none } t) else t) s

/-- DECISION_DURABLE (R195): a decision's journal record has been written. -/
def execDecisionDurable (dt caravan : Nat) (s : State) : Host.Outcome State Fault Refusal :=
  let s := advance dt s
  .next (match carSlot caravan s with
    | none => s
    | some (k, c) => if c.deciding.isSome then settleDecision k (keepCar k { c with written := true } s) else s)

/-! ### Staging (R188, R189, R192 to R194, R200, R212) -/

/-- A caravan all of whose members are ACKED after sealing is STAGED, and commits under AUTO_COMMIT (R190, R194). -/
def tryStaged (slot : Nat) (s : State) : State :=
  match tabGet? s.car.slots slot with
  | none => s
  | some c =>
    if c.state = 0 ∧ c.isSealed ∧ c.deciding.isNone ∧ c.members.all (·.status == 1) then
      let c := { c with state := 1 }
      let s := putCar slot c s
      if c.autoCommit then decide_ slot c none none s else s
    else s

/-- A caravan is sealed: STAGE goes to its nodes (R192, R193). -/
def sealCar (slot : Nat) (s : State) : State :=
  match tabGet? s.car.slots slot with
  | none => s
  | some c =>
    let c := { c with isSealed := true, staged := c.nodes, lastSend := s.tb.now }
    tryStaged slot (c.nodes.foldl (fun t n => sendStage c n t) (putCar slot c s))

/-- A slot is opened for a caravan; none is free while 16 are open (R190, R207, R212, R213). -/
def openCar (tAct origin : Nat) (auto lock : Bool) (s : State) : Option (Nat × State) :=
  match (List.range 16).find? (fun k => (tabGet? s.car.slots k).isNone) with
  | none => none
  | some k =>
    let f := fun off => fld s.car.cfg off 4
    let c : Caravan := { id := s.car.nextId, origin := origin, autoCommit := auto || origin != 1, requireLock := lock, tAct := tAct, tStage := tAct - f 0 * 1000000, lateMs := f 0x0C, confirmMs := f 8, retryMs := f 4 }
    some (k, putCar k c { s with car := { s.car with nextId := s.car.nextId + 1 } })

/-- A DO or AOUT or axis is written by a loop or bound by the program (R314, R340). -/
def outOwned (k i : Nat) (s : State) : Bool :=
  (slotsWhere (fun r => covers r k i && !lGuard r) s).length != 0 ||
    s.loops.slots.any (fun e => match e.2.pend with | some (r, _) => covers r k i && !lGuard r | none => false) || progBound k i s

/-- A TARGET is well formed, configured, and its VALUE lies in its range (R188, R192, R314, R316, R325, R366). -/
def targetOk (t v : Nat) (s : State) : Bool :=
  let low := tgtLow t
  match tgtKind t with
  | 1 => decide (1 ≤ tgtNode t ∧ tgtNode t ≤ 0xFFFD) && decide (low < 2 ^ 24)
  | 2 => decide (low < 512) && lKind (latestRecord low s) != 0 && !lGuard (latestRecord low s) && (f32Finite v || v == qNaN)
  | 3 => decide (low < 8) && fld (axis low s).record 0 1 == 1 && f32In v 0 1 && !outOwned 3 low s
  | 4 => decide (low < 8) && f32In v 0 10 && !outOwned 1 low s
  | 5 => decide (low < 24) && (v % 2 ^ 31 == 0 || v == 0x3F800000) && !outOwned 2 low s
  | _ => false

/-- A TARGET is held by a caravan that bars a new one from it (R189). -/
def targetBusy (own : Option Nat) (tAct t : Nat) (s : State) : Bool :=
  s.car.slots.any (fun e =>
    some e.2.id != own && e.2.members.any (fun m => m.target == t) && e.2.standing != 4 && (e.2.standing == 0 || decide (tAct ≤ e.2.tAct)))

/-- The first entry whose TARGET is busy, or named twice in the caravan (R188, R189). -/
def busyEntry (own : Option Nat) (tAct : Nat) (held : List Nat) (s : State) : List (Nat × Nat) → Nat → Option Nat
  | [], _ => none
  | (t, _) :: l, k => if held.contains t || targetBusy own tAct t s then some k else busyEntry own tAct (t :: held) s l (k + 1)

/-- A caravan would exceed 4,096 members, or 64 on a node (R188, R212). -/
def tooMany (held : List Nat) (entries : List (Nat × Nat)) : Bool :=
  let all := held ++ entries.map (·.1)
  let nodes := (all.filter (fun t => tgtKind t == 1)).map tgtNode
  decide (4096 < all.length) || nodes.any (fun n => decide (64 < nodes.count n))

/-- Members join a caravan; an on-module one that passed is ACKED at once (R192). -/
def addMembers (slot : Nat) (entries : List (Nat × Nat)) (s : State) : State :=
  match tabGet? s.car.slots slot with
  | none => s
  | some c =>
    let ms := entries.map (fun e => ({ target := e.1, value := e.2, status := if tgtKind e.1 = 1 then 0 else 1 } : Member))
    putCar slot { c with members := c.members ++ ms } s

/-- A sealed caravan of the plan or the program is opened with its members; the reason where it is refused (R177, R192, R359). -/
def openSealed (tAct origin : Nat) (lock : Bool) (entries : List (Nat × Nat)) (s : State) : State × (Nat ⊕ Nat) :=
  if entries.any (fun e => !targetOk e.1 e.2 s) then (s, .inr 0x27)
  else if (busyEntry none tAct [] s entries 0).isSome then (s, .inr 0x22)
  else if tooMany [] entries then (s, .inr 0x21)
  else match openCar tAct origin true lock s with
    | none => (s, .inr 0x20)
    | some (k, t) => (sealCar k (addMembers k entries t), .inl s.car.nextId)

/-- The entries of a Caravan-Stage. -/
def stageEntries (b : Bytes) : List (Nat × Nat) := (chunks 8 (fld b 6 2) (b.drop 16)).map (fun e => (fld e 0 4, fld e 4 4))

/-- Caravan-Stage (R189, R192, R200, R211, R212). -/
def cmdCaravanStage : Command :=
  { code := 0x0701, len := fun b l => decide (16 ≤ l) && l == 16 + 8 * fld b 6 2, reserved := fun b => flagResv b 4 2 3
    range := fun c s =>
      let b := c.payload
      let opens := fld b 0 4 == 0
      let t := fld b 8 8
      [inRange b 6 2 0 1018, (!opens || decide (s.zone + (fld s.car.cfg 0 4 + 100) * 1000000 ≤ t), 0x23, 8),
        chk (if opens then decide (t ≤ s.zone + 86400000000000) else t == 0) 8] ++
        (stageEntries b).zipIdx.map (fun e => (targetOk e.1.1 e.1.2 s, 0x27, 16 + 8 * e.2))
    body := fun c s =>
      let b := c.payload
      let es := stageEntries b
      let id := fld b 0 4
      let isSeal := bit (fld b 4 2) 0
      let answer := fun (slot : Nat) (t : State) =>
        let m := match tabGet? t.car.slots slot with | some c => (c.id, c.members.length) | none => (0, 0)
        (if isSeal then sealCar slot t else t, Reply.ok (le 4 m.1 ++ le 2 m.2 ++ zeros 2))
      let car := findCar id s
      let held := match car with | some x => x.members.map (·.target) | none => []
      let tAct := match car with | some x => x.tAct | none => fld b 8 8
      if id ≠ 0 ∧ car.isNone then (s, refuseAt 0x0B 0)
      else match es.zipIdx.find? (fun e => s.win.oasis && tgtKind e.1.1 == 1) with
      | some e => (s, refuseAt 0x06 (16 + 8 * e.2))
      | none =>
        match busyEntry (car.map (·.id)) tAct held s es 0 with
        | some k => (s, refuseAt 0x22 (16 + 8 * k))
        | none =>
          if tooMany held es then (s, refuse 0x21)
          else if id ≠ 0 then
            (match carSlot id s with
              | none => (s, refuseAt 0x24 0)
              | some (k, x) => if x.isSealed ∨ x.state ≠ 0 ∨ x.deciding.isSome then (s, refuseAt 0x24 0) else answer k (addMembers k es s))
          else match openCar tAct 1 (bit (fld b 4 2) 1) (bit (fld b 4 2) 2) s with
            | none => (s, refuse 0x20)
            | some (k, t) => answer k (addMembers k es t) }

/-- ALREADY_DECIDED names the standing decision: DECISION_TIME, then 0x03 COMMIT or 0x04 ABORT (R195, R214; log 21). -/
def alreadyDecided (c : Caravan) : Reply := .err 0x26 0xFFFF (le 8 c.tDecision ++ le 1 c.standing ++ zeros 3)

/-- Caravan-Commit (R194, R195, R212): answered once the decision is durable. -/
def cmdCaravanCommit : Command :=
  { code := 0x0702, len := lenIs 4
    body := fun c s =>
      match findCar (fld c.payload 0 4) s with
      | none => (s, refuseAt 0x0B 0)
      | some x =>
        if x.origin ≠ 1 then (s, refuseAt 0x0A 0)
        else if x.standing ≠ 0 then (s, alreadyDecided x)
        else match carSlot x.id s with
          | some (k, x) => if x.state ≠ 1 then (s, refuse 0x25) else (decide_ k x none (some c.mbox) s, .deferred)
          | none => (s, refuse 0x25) }

/-- Caravan-Abort (R195, R196, R212): answered once the decision is durable. -/
def cmdCaravanAbort : Command :=
  { code := 0x0703, len := lenIs 4
    body := fun c s =>
      match findCar (fld c.payload 0 4) s with
      | none => (s, refuseAt 0x0B 0)
      | some x =>
        if x.origin ≠ 1 then (s, refuseAt 0x0A 0)
        else if x.standing ≠ 0 then (s, alreadyDecided x)
        else match carSlot x.id s with
          | some (k, x) => (decide_ k x (some 1) (some c.mbox) s, .deferred)
          | none => (s, alreadyDecided x) }

/-! ### Reading (R211, R212) -/

/-- A caravan status, 64 bytes. -/
def carStatus (c : Caravan) : Bytes :=
  let n := fun (k : Nat) => le 2 (c.members.filter (fun m => m.status == k)).length
  le 4 c.id ++ le 1 c.state ++ le 1 c.origin ++ le 1 (if c.state = 5 then c.abortReason else 0) ++
    le 1 (bitAt 0 c.isSealed + bitAt 1 c.autoCommit + bitAt 2 c.requireLock) ++ le 8 c.tAct ++ le 8 c.tStage ++ le 8 c.tDecision ++ le 8 c.tFinal ++
    le 2 c.members.length ++ le 2 (c.members.filter (!·.remote)).length ++ n 0 ++ n 1 ++ n 2 ++ n 3 ++ n 4 ++ n 5 ++ le 4 c.resends ++ zeros 4

/-- A member record, 16 bytes. -/
def memberRecord (m : Member) : Bytes :=
  le 4 m.target ++ le 4 (if m.known then m.value else 0) ++ le 1 m.status ++ le 1 m.reason ++
    le 1 (bitAt 0 m.late + bitAt 1 m.unlocked + bitAt 2 m.known) ++ zeros 1 ++ le 4 m.delay

/-- Caravan-Get-Status. -/
def cmdCaravanGetStatus : Command :=
  { code := 0x0704, standby := true, len := lenIs 4
    body := fun c s => match findCar (fld c.payload 0 4) s with | none => (s, refuseAt 0x0B 0) | some x => (s, .ok (carStatus x)) }

/-- Caravan-Read-Members. -/
def cmdCaravanReadMembers : Command :=
  { code := 0x0705, standby := true, len := lenIs 8, range := fun c _ => [inRange c.payload 6 2 1 509]
    body := fun c s =>
      let first := fld c.payload 4 2
      let n := fld c.payload 6 2
      match findCar (fld c.payload 0 4) s with
      | none => (s, refuseAt 0x0B 0)
      | some x =>
        if x.members.length < first + n then (s, refuseAt 0x09 4)
        else (s, .ok (c.payload.take 8 ++ ((x.members.drop first).take n).flatMap memberRecord)) }

/-- Caravan-List: its entries in journal slot order. -/
def cmdCaravanList : Command :=
  { code := 0x0706, standby := true, len := lenIs 0
    body := fun _ s =>
      let one := fun (k : Nat) => match tabGet? s.car.slots k with
        | none => zeros 16
        | some c => le 4 c.id ++ le 1 c.state ++ le 1 c.origin ++ le 2 c.members.length ++ le 8 c.tAct
      (s, .ok (le 2 s.car.slots.length ++ zeros 2 ++ (List.range 16).flatMap one ++ le 4 s.car.committedTotal ++ le 4 s.car.abortedTotal ++
        le 4 s.car.inDoubtTotal ++ le 4 s.car.orphanedTotal)) }

/-- Caravan-Get-Config. -/
def cmdCaravanGetConfig : Command :=
  { code := 0x0707, standby := true, len := lenIs 0, body := fun _ s => (s, .ok s.car.cfg) }

/-- CARAVAN_LEAD_MS leaves COMMIT_MARGIN_MS + 250 ms, in force and as pending (R200). -/
def leadFits (margin : Nat) (s : State) : Bool :=
  let lead := fun (b : Bytes) => fld b 0x0E 2
  decide (margin + 250 ≤ lead s.opt.cfg) && (match s.opt.pend with | none => true | some (b, _) => decide (margin + 250 ≤ lead b))

/-- Caravan-Set-Config (R200, R213). -/
def cmdCaravanSetConfig : Command :=
  { code := 0x0708, len := lenIs 32, reserved := resv [(0x11, 15)]
    range := fun c _ => [inRange c.payload 0 4 50 10000, inRange c.payload 4 4 20 5000, inRange c.payload 8 4 100 60000,
      inRange c.payload 0x0C 4 0 600000, inRange c.payload 0x10 1 0 1]
    body := fun c s =>
      if leadFits (fld c.payload 0 4) s then ({ s with car := { s.car with cfg := c.payload } }, .ok []) else (s, refuseAt 0x0A 0) }

/-! ### Messages from nodes (R193 to R205) -/

/-- A CARAVAN frame of a message type is taken: a length that does not fit is NAKed, another version discarded (R204, R247). -/
def onCaravan (type : Nat) (f : FfpFrame) (content : State → State) (s : State) : State :=
  onFrame 0x10 f (fun s =>
    let b := f.body
    if b.length < 24 ∨ b.length ≠ 24 + 8 * fld b 2 1 ∨ 64 < fld b 2 1 then sendNak f 0x02 s
    else if 16 ≤ fld b 0x14 2 ∨ (chunks 8 (fld b 2 1) (b.drop 24)).any (fun e => fld e 2 2 != 0) then sendNak f 0x03 s
    else if fld b 1 1 = 1 ∧ fld b 0 1 = type then content s else s) s

/-- A node's ACK (R193, R194). -/
def takeAck (f : FfpFrame) (s : State) : State :=
  let b := f.body
  match carSlot (fld b 4 4) s with
  | none => s
  | some (k, c) =>
    if c.state ≠ 0 ∨ c.deciding.isSome ∨ !c.isSealed ∨ c.acked.contains f.src ∨ c.onNode f.src = [] ∨ c.tStage < s.zone then s
    else
      let mine := fun (m : Member) => m.remote && tgtNode m.target == f.src && m.status == 0
      if fld b 3 1 ≠ 0 then
        let c := { c with members := c.members.map (fun m => if mine m then { m with reason := fld b 3 1 } else m) }
        decide_ k c (some 3) none s
      else
        let c := { c with acked := f.src :: c.acked, members := c.members.map (fun m => if mine m then { m with status := 1 } else m) }
        tryStaged k (putCar k c s)

/-- CARAVAN_ACK (R194). -/
def execCaravanAck (dt : Nat) (frame : FfpFrame) (s : State) : Host.Outcome State Fault Refusal :=
  .next (onCaravan 2 frame (takeAck frame) (advance dt s))

/-- A node's DECISION_ACK: resends stop; UNKNOWN orphans its members with NODE_RESTARTED (R197, R198, R202). -/
def takeDecisionAck (f : FfpFrame) (s : State) : State :=
  let b := f.body
  let id := fld b 4 4
  match carSlot id s with
  | some (k, c) =>
    if c.onNode f.src = [] ∨ (c.state ≠ 2 ∧ c.state ≠ 3) then s
    else
      let s := keepCar k { c with decisionAcked := f.src :: c.decisionAcked } s
      if bit (fld b 0x14 2) 3 then
        (c.onNode f.src).foldl (fun t m => settleMember id m.target (fun x => { x with status := 4, reason := 0x11 }) t) s
      else s
  | none =>
    { s with car := { s.car with ended := s.car.ended.map (fun c => if c.id = id then { c with decisionAcked := f.src :: c.decisionAcked } else c) } }

/-- DECISION_ACK (R202). -/
def execDecisionAck (dt : Nat) (frame : FfpFrame) (s : State) : Host.Outcome State Fault Refusal :=
  .next (onCaravan 5 frame (takeDecisionAck frame) (advance dt s))

/-- A later REPORT of an ORPHANED member is recorded in the event, once (R203). -/
def lateReport (id target outcome : Nat) (s : State) : State :=
  match findCar id s with
  | none => s
  | some c =>
    match c.members.find? (fun m => m.target == target) with
    | none => s
    | some m =>
      if m.status ≠ 4 ∨ m.report ≠ 0xFF then s
      else
        let upd := fun (x : Caravan) => if x.id = id then { x with members := x.members.map (fun y => if y.target = target then { y with report := outcome } else y) } else x
        emit 0x0704 [id, target, m.reason, outcome] { s with car := { s.car with slots := s.car.slots.map (fun e => (e.1, upd e.2)), ended := s.car.ended.map upd } }

/-- One entry of a REPORT (R191, R199, R202). -/
def reportEntry (c : Caravan) (node flags time : Nat) (s : State) (e : Bytes) : State :=
  match (c.onNode node).find? (fun m => tgtChannel m.target == fld e 0 1) with
  | none => s
  | some m =>
    let late := bit flags 2 || decide (c.tAct + 1000000 < time)
    let delay := min 0xFFFFFFFF ((time - c.tAct) / 1000000)
    let out := fld e 1 1
    if m.resolved then lateReport c.id m.target out s
    else match out with
      | 1 => memberApplied c.id m.target (fun x => { x with value := fld e 4 4, known := true, late := late, unlocked := !bit flags 1, delay := if late then delay else 0 }) s
      | 2 => settleMember c.id m.target (fun x => { x with status := 3, reason := 0x22, late := late, delay := if late then delay else 0 }) s
      | 3 => settleMember c.id m.target (fun x => { x with status := 4, reason := 0x12, report := 3, delay := delay }) s
      | _ => s

/-- The set-points a node reports APPLIED are what the solver knows of its channels (R119). -/
def noteApplied_ (node : Nat) (entries : List Bytes) (s : State) : State :=
  let n := tabGet {} s.net.nodes node
  let n := { n with applied := entries.foldl (fun t e => if fld e 1 1 = 1 then tabSet t (fld e 0 1) (fld e 4 4) else t) n.applied }
  { s with net := { s.net with nodes := tabSet s.net.nodes node n } }

/-- A node's REPORT: it is acknowledged, and its entries resolve their members (R202, R203). -/
def takeReport (f : FfpFrame) (s : State) : State :=
  let b := f.body
  let es := chunks 8 (fld b 2 1) (b.drop 24)
  let s := noteApplied_ f.src es (sendFfp 0x10 f.src (carMsg 7 0 (fld b 4 4) 0 0 0 0 []) s)
  match findCar (fld b 4 4) s with
  | none => s
  | some c => if 2 ≤ c.state ∧ c.state ≤ 4 then es.foldl (reportEntry c f.src (fld b 0x14 2) (fld b 8 8)) s else s

/-- REPORT (R202). -/
def execReport (dt : Nat) (frame : FfpFrame) (s : State) : Host.Outcome State Fault Refusal :=
  .next (onCaravan 6 frame (takeReport frame) (advance dt s))

/-- A node's QUERY is answered with COMMIT for a committed caravan, else with ABORT; one still undecided waits (R205). -/
def takeQuery (f : FfpFrame) (s : State) : State :=
  let id := fld f.body 4 4
  match findCar id s with
  | none => sendAbort id 0 f.src s
  | some c =>
    if 2 ≤ c.state ∧ c.state ≤ 4 then sendCommit c f.src s
    else if c.state = 5 then sendAbort id c.abortReason f.src s else s

/-- QUERY (R205). -/
def execQuery (dt : Nat) (frame : FfpFrame) (s : State) : Host.Outcome State Fault Refusal :=
  .next (onCaravan 8 frame (takeQuery frame) (advance dt s))

/-! ### Timers (R193, R194, R197, R198, R202) -/

/-- What is resent to a node that has not answered: 1 STAGE, 3 COMMIT, 4 ABORT, 0 nothing. -/
def resendKind (c : Caravan) (n : Nat) (s : State) : Nat :=
  if c.state = 0 then (if c.isSealed ∧ c.deciding.isNone ∧ !c.acked.contains n ∧ s.zone < c.tStage then 1 else 0)
  else if c.state = 2 ∨ c.state = 3 then (if !c.decisionAcked.contains n && !(c.onNode n).all (·.resolved) then 3 else 0)
  else if c.state = 5 then (if c.staged.contains n ∧ !c.decisionAcked.contains n ∧ s.zone < c.tAct + c.lateMs * 1000000 then 4 else 0)
  else 0

/-- A caravan's messages go again to the nodes that have not answered; a resend is counted where the module speaks. -/
def resendAll (c : Caravan) (s : State) : Caravan × State :=
  c.nodes.foldl (fun (p : Caravan × State) n =>
    let k := resendKind c n p.2
    let t := match k with | 1 => sendStage c n p.2 | 3 => sendCommit c n p.2 | 4 => sendAbort c.id c.abortReason n p.2 | _ => p.2
    ({ p.1 with resends := p.1.resends + b2n (k != 0 && speaks p.2) }, t)) ({ c with lastSend := s.tb.now }, s)

/-- CARAVAN_RETRY (R198): due RETRY_INTERVAL_MS after the last send. -/
def execCaravanRetry (dt caravan : Nat) (s : State) : Host.Outcome State Fault Refusal :=
  let s := advance dt s
  .next (match findCar caravan s with
    | none => s
    | some c =>
      if s.tb.now < c.lastSend + c.retryMs * 1000000 then s
      else
        let r := resendAll c s
        match carSlot caravan s with
        | some (k, _) => keepCar k r.1 r.2
        | none => { r.2 with car := { r.2.car with ended := r.2.car.ended.map (fun x => if x.id = caravan then r.1 else x) } })

/-- STAGE_DEADLINE (R194): due at STAGE_DEADLINE. -/
def execStageDeadline (dt caravan : Nat) (s : State) : Host.Outcome State Fault Refusal :=
  let s := advance dt s
  .next (match carSlot caravan s with
    | none => s
    | some (k, c) => if c.standing = 0 ∧ c.tStage ≤ s.zone then decide_ k c (some 2) none s else s)

/-- CONFIRM_WINDOW_END (R202): due at ACTIVATION_TIME + CONFIRM_WINDOW_MS. -/
def execConfirmWindowEnd (dt caravan : Nat) (s : State) : Host.Outcome State Fault Refusal :=
  let s := advance dt s
  .next (match carSlot caravan s with
    | none => s
    | some (_, c) =>
      if c.state ≠ 2 ∨ s.zone < c.tAct + c.confirmMs * 1000000 then s
      else if c.members.all (·.resolved) then tryDone caravan s else goInDoubt caravan s)

/-- The orphan instant: every unresolved member is ORPHANED with NO_CONFIRM (R202). -/
def orphanAll (id : Nat) (s : State) : State :=
  match carSlot id s with
  | none => s
  | some (_, c) =>
    if (c.state ≠ 2 ∧ c.state ≠ 3) ∨ s.zone < c.tAct + (c.lateMs + c.confirmMs) * 1000000 then s
    else c.members.foldl (fun t m => settleMember id m.target (fun x => { x with status := 4, reason := 0x15 }) t) s

/-- ORPHAN_INSTANT (R202). -/
def execOrphanInstant (dt caravan : Nat) (s : State) : Host.Outcome State Fault Refusal :=
  .next (orphanAll caravan (advance dt s))

/-! ### Activation (R198, R309, R319, R325, R332, R368, R416) -/

/-- The OUT_KIND and index of an output target. -/
def tgtOut (t : Nat) : Nat × Nat := (if tgtKind t = 3 then 3 else if tgtKind t = 4 then 1 else 2, tgtLow t)

/-- A member's value is written at its target. -/
def writeMember (t v : Nat) (s : State) : State :=
  if tgtKind t = 2 then
    let l := loopSlot (tgtLow t) s
    if lSpSource l.record = 0 then setLoop (tgtLow t) { l with local_ := v, dirty := true } s else s
  else
    let o := tgtOut t
    setTarget o.1 o.2 { target o.1 o.2 s with local_ := some v } s

/-- The outcome of a member at the end of its tick: 0 applied, else the reason it is OVERRIDDEN (R198, R325, R368, R416). -/
def memberOutcome (t : Nat) (s : State) : Nat :=
  if tgtKind t = 2 then
    let m := loopMode (tgtLow t) s
    if m = 7 then 0x20 else if m = 1 ∨ lSpSource (loopSlot (tgtLow t) s).record ≠ 0 ∨ m = 0 then 0x21 else 0
  else
    let o := tgtOut t
    let g := target o.1 o.2 s
    if g.guard || g.interlock then 0x20
    else if (loopOwner o.1 o.2 s).isSome || progBound o.1 o.2 s then 0x21
    else if o.1 = 3 ∧ axisMode o.2 s ≠ 9 then 0x21 else 0

/-- An OVERRIDDEN member's target has again the value held before (R198, R325, R368). -/
def restoreMember (t : Nat) (before after : State) : State :=
  if tgtKind t = 2 then
    let n := tgtLow t
    let b := loopSlot n before
    let l := { loopSlot n after with local_ := b.local_, sp := b.sp, spr := b.spr, stopped := b.stopped, fresh := b.fresh }
    let sampled := before.loops.lastTick != after.loops.lastTick &&
      (match schedule n after with | none => false | some p => tickIn p before.loops.lastTick after.loops.lastTick)
    setLoop n (if sampled then trackError { rampSetpoint l with fresh := false } else l) after
  else
    let o := tgtOut t
    setTarget o.1 o.2 { target o.1 o.2 after with local_ := (target o.1 o.2 before).local_ } after

/-- Committed caravans whose instant has come and whose on-module members are still to be judged, earliest first. -/
def dueCaravans (s : State) : List Caravan :=
  let l := (s.car.slots.filter (fun e => (e.2.state == 2 || e.2.state == 3) && !e.2.activated && decide (e.2.tAct ≤ s.zone))).map (·.2)
  l.mergeSort (fun a b => decide (a.tAct ≤ b.tAct))

/-- The members of due caravans that act on the module: caravan and member. -/
def dueMembers (l : List Caravan) : List (Caravan × Member) :=
  l.flatMap (fun c => (c.members.filter (fun m => !m.remote && m.status == 1)).map (fun m => (c, m)))

/-- A later caravan has applied a member's target: the earlier decision is not applied (R189). -/
def laterApplied (e : Caravan × Member) (s : State) : Bool :=
  (s.car.slots.map (·.2) ++ s.car.ended).any (fun c => decide (e.1.tAct < c.tAct) && c.members.any (fun m => m.target == e.2.target && m.status == 2))

/-- One member is judged after the tick. -/
def judgeMember (before s : State) (e : Caravan × Member) : State :=
  let t := e.2.target
  let late := decide (e.1.tAct + 1000000 < s.zone)
  let out := memberOutcome t s
  if out = 0 then memberApplied e.1.id t (fun m => { m with late := late, delay := if late then min 0xFFFFFFFF ((s.zone - e.1.tAct) / 1000000) else 0 }) s
  else settleMember e.1.id t (fun m => { m with status := 3, reason := out }) (restoreMember t before s)

/-- The activation tick: host values that are due first, then the members' values, then the tick of the loop engine and target
resolution, then the outcomes (R198, R309, R324, R332). A module in HOLDUP, or not driving, applies nothing (R209). -/
def activate (s : State) : State :=
  let cs := dueCaravans s
  if cs = [] ∨ !engineRuns s ∨ !driving s then s
  else
    let s := applyOutWrites (applyWaitingAll s)
    let all := dueMembers cs
    let s := (all.filter (fun e => laterApplied e s)).foldl (fun t e => settleMember e.1.id e.2.target (fun m => { m with status := 4, reason := 0x14 }) t) s
    let ms := all.filter (fun e => !laterApplied e s)
    let before := s
    let s := ms.foldl (fun t e => writeMember e.2.target e.2.value t) s
    let s := if s.tb.now % 100000 = 0 then loopTick s else s
    let s := resolveAll s
    let isFull := ms.any (fun e => memberOutcome e.2.target s == 0x20)
    let s := ms.foldl (judgeMember before) s
    let s := if isFull then yieldRow 1 2 32 s else s
    let mark := fun (e : Nat × Caravan) => if cs.any (fun c => c.id == e.2.id) then (e.1, { e.2 with activated := true }) else e
    { s with car := { s.car with slots := s.car.slots.map mark } }

/-- ACTIVATION_INSTANT (R198): due at the ACTIVATION_TIME of a committed caravan. -/
def execActivationInstant (dt : Nat) (s : State) : Host.Outcome State Fault Refusal := .next (activate (advance dt s))

/-! ### Starts, takeover and tamper (R208 to R210, R549) -/

/-- The journal is taken up at a start (R206, R209): what it does not hold is unknown. -/
def restoreCaravans (s : State) : State :=
  let mem := fun (m : Member) => { m with known := !m.remote, value := if m.remote then 0 else m.value, reason := 0, delay := 0xFFFFFFFF }
  let one := fun (c : Caravan) => { c with deciding := none, twinItem := none, written := false, waiter := none, members := c.members.map mem, acked := [], decisionAcked := [], lastSend := 0, activated := false }
  { s with car := { s.car with slots := s.car.slots.map (fun e => (e.1, one e.2)) } }

/-- At plant start OPEN and STAGED caravans abort with POWER; committed ones resume repair, with on-module members whose instant
has passed ORPHANED with ACTIVATION_MISSED, all of them where zone time was lost (R209, R549). -/
def resumeCaravans (lost : Bool) (s : State) : State :=
  let s := abortAll 6 s
  s.car.slots.foldl (fun t e =>
    let c := e.2
    if c.state ≠ 2 ∧ c.state ≠ 3 then t
    else
      let missed := c.members.filter (fun m => !m.remote && m.status == 1 && (lost || decide (c.tAct < t.zone)))
      let t := missed.foldl (fun u m => settleMember c.id m.target (fun x => { x with status := 4, reason := 0x13 }) u) t
      let t := orphanAll c.id t
      match carSlot c.id t with
      | none => t
      | some (k, x) => (x.nodes.filter (fun n => !(x.onNode n).all (·.resolved))).foldl (fun u n => sendCommit x n u) (keepCar k { x with lastSend := t.tb.now } t)) s

/-- Step 3 of a takeover: undecided caravans abort, committed ones are completed from the journal (R208). -/
def takeoverCaravans (s : State) : State :=
  let s := abortAll 4 s
  s.car.slots.foldl (fun t e =>
    let c := e.2
    if c.state ≠ 2 ∧ c.state ≠ 3 then t
    else
      let passed := decide (c.tAct ≤ t.zone)
      let t := keepCar e.1 { c with activated := passed, lastSend := t.tb.now } t
      (c.nodes.filter (fun n => !(c.onNode n).all (·.resolved))).foldl (fun u n => sendCommit c n u) t) s

/-- A tamper response: undecided caravans abort, committed ones with remote members unconfirmed are IN_DOUBT (R39, R210). -/
def tamperCaravans (s : State) : State :=
  let s := abortAll 5 s
  s.car.slots.foldl (fun t e => if e.2.state == 2 && e.2.members.any (fun m => m.remote && !m.resolved) then goInDoubt e.2.id t else t) s

/-- A caravan is COMMITTED, still under repair, or its commit is on its way (R210, R523). -/
def anyCommitted (s : State) : Bool := s.car.slots.any (fun e => e.2.standing == 3)

/-! ### The rows of the Ferosh command set: one exchange each -/

/-- CARAVAN_STAGE (R212). -/
def execCaravanStage (dt : Nat) (r : Request) (s : State) : Host.Outcome State Fault Refusal :=
  runCommand cmdCaravanStage dt r s

/-- CARAVAN_COMMIT (R195). -/
def execCaravanCommit (dt : Nat) (r : Request) (s : State) : Host.Outcome State Fault Refusal :=
  runCommand cmdCaravanCommit dt r s

/-- CARAVAN_ABORT (R196). -/
def execCaravanAbort (dt : Nat) (r : Request) (s : State) : Host.Outcome State Fault Refusal :=
  runCommand cmdCaravanAbort dt r s

/-- CARAVAN_GET_STATUS (R211). -/
def execCaravanGetStatus (dt : Nat) (r : Request) (s : State) : Host.Outcome State Fault Refusal :=
  runCommand cmdCaravanGetStatus dt r s

/-- CARAVAN_READ_MEMBERS (R211). -/
def execCaravanReadMembers (dt : Nat) (r : Request) (s : State) : Host.Outcome State Fault Refusal :=
  runCommand cmdCaravanReadMembers dt r s

/-- CARAVAN_LIST (R211). -/
def execCaravanList (dt : Nat) (r : Request) (s : State) : Host.Outcome State Fault Refusal :=
  runCommand cmdCaravanList dt r s

/-- CARAVAN_GET_CONFIG (R211). -/
def execCaravanGetConfig (dt : Nat) (r : Request) (s : State) : Host.Outcome State Fault Refusal :=
  runCommand cmdCaravanGetConfig dt r s

/-- CARAVAN_SET_CONFIG (R213). -/
def execCaravanSetConfig (dt : Nat) (r : Request) (s : State) : Host.Outcome State Fault Refusal :=
  runCommand cmdCaravanSetConfig dt r s

end Sys2Proof.Machine
end

