-- ==== Sys2Proof/Machine/Net.lean ====
section
/-! DEFINITION. The field network: telemetry, WRITE acknowledgement and retry, silence, announcements, port and node status,
the network configuration (R215 to R222, R239 to R256). -/

namespace Sys2Proof.Machine
open Sys2Proof

/-! ### Telemetry (R240 to R243) -/

/-- W of R241: PUSH_WINDOW_MS, at most the epoch length less 50 ms. -/
def pushWindow (s : State) : Nat := min (fld s.net.cfg 0x10 2) (fld s.solver.cfg 0 4 - 50)

/-- A sample enters a channel's list, newest stamp first. -/
def insertSample (x : Sample) : List Sample → List Sample
  | [] => [x]
  | y :: t => if y.stamp ≤ x.stamp then x :: y :: t else y :: insertSample x t

/-- One entry of a TELEMETRY body is stored (R240). -/
def storeEntry (node rx base : Nat) (e : Bytes) (s : State) : State :=
  let x : Sample := { value := fld e 4 4, quality := if fld e 1 1 = 0 then 0 else 1, stamp := ((base : Int) + 1000 * sfld e 2 2).toNat, rx := rx }
  let n := tabGet {} s.net.nodes node
  let l := (insertSample x (tabGet [] n.samples (fld e 0 1))).take 8
  { s with net := { s.net with nodes := tabSet s.net.nodes node { n with samples := tabSet n.samples (fld e 0 1) l } } }

/-- A time of a TELEMETRY body lies more than 100 µs after reception (R247). -/
def telemetryAhead (b : Bytes) (zone : Nat) : Bool :=
  let base : Int := fld b 0 8
  decide ((zone : Int) + 100000 < base) ||
    (chunks 8 (fld b 8 1) (b.drop 12)).any (fun e => decide ((zone : Int) + 100000 < base + 1000 * sfld e 2 2))

/-- A TELEMETRY body is taken: NAKed, or stored and answered with TELEMETRY_ACK (R240, R242). -/
def takeTelemetry (f : FfpFrame) (s : State) : State :=
  let n := fld f.body 8 1
  if 128 < n ∨ f.body.length ≠ 12 + 8 * n then sendNak f 0x02 s
  else if !allZero (slice f.body 9 3) then sendNak f 0x03 s
  else if telemetryAhead f.body s.zone then sendNak f 0x05 s
  else
    let s := (chunks 8 n (f.body.drop 12)).foldl (fun t e => storeEntry f.src t.zone (fld f.body 0 8) e t) s
    sendFfp 0x02 f.src (le 4 (fld s.solver.cfg 0 4) ++ le 2 (pushWindow s) ++ slice s.net.cfg 0x0B 2 ++ le 1 n ++ zeros 7) s

/-- TELEMETRY (R242). -/
def execTelemetry (dt : Nat) (frame : FfpFrame) (s : State) : Host.Outcome State Fault Refusal :=
  .next (onFrame 0x01 frame (takeTelemetry frame) (advance dt s))

/-! ### WRITEs (R244, R245) -/

/-- A WRITE_ACK body is taken: the delivery status of its channels follows its outcomes (R244, R249). -/
def takeWriteAck (f : FfpFrame) (s : State) : State :=
  let n := fld f.body 4 1
  if n < 1 ∨ 64 < n ∨ f.body.length ≠ 8 + 4 * n then sendNak f 0x02 s
  else
    let es := chunks 4 n (f.body.drop 8)
    if !allZero (slice f.body 5 3) || es.any (fun e => !allZero (slice e 2 2)) then sendNak f 0x03 s
    else
      match tabGet? s.net.writes (fld f.body 0 4) with
      | none => s
      | some w =>
        if w.node ≠ f.src then s
        else
          let s := { s with net := { s.net with writes := tabErase s.net.writes (fld f.body 0 4) } }
          setDelivery f.src (es.map (fun e => (fld e 0 1, if fld e 1 1 = 0 then 1 else 3 + fld e 1 1))) s

/-- WRITE_ACK (R245). -/
def execWriteAck (dt : Nat) (frame : FfpFrame) (s : State) : Host.Outcome State Fault Refusal :=
  .next (onFrame 0x04 frame (takeWriteAck frame) (advance dt s))

/-- WRITE_RETRY (R245): due WRITE_RETRY_MS after the last send of a WRITE. -/
def execWriteRetry (dt writeId : Nat) (s : State) : Host.Outcome State Fault Refusal :=
  let s := advance dt s
  .next (match tabGet? s.net.writes writeId with
    | none => s
    | some w =>
      if s.tb.now < w.last + fld s.net.cfg 0x0E 2 * 1000000 then s
      else if w.sends ≤ fld s.net.cfg 0x0D 1 then
        let w' := { w with sends := w.sends + 1, last := s.tb.now }
        sendFfp 0x03 w.node (writeBody writeId w.entries) { s with net := { s.net with writes := tabSet s.net.writes writeId w' } }
      else undelivered w.node writeId w.entries { s with net := { s.net with writes := tabErase s.net.writes writeId } })

/-- NAK (R247): counted and never answered. -/
def execNak (dt : Nat) (frame : FfpFrame) (s : State) : Host.Outcome State Fault Refusal :=
  .next (onFrame 0x07 frame (fun t => { t with net := { t.net with nakReceived := (t.net.nakReceived + 1) % 2 ^ 32 } }) (advance dt s))

/-! ### Timers -/

/-- ANNOUNCE_TIMER (R246): due 25 ms after the last ANNOUNCE. -/
def execAnnounceTimer (dt : Nat) (s : State) : Host.Outcome State Fault Refusal :=
  let s := advance dt s
  .next (if (match s.net.announced with | none => true | some t => decide (t + 25000000 ≤ s.tb.now)) then announce s else s)

/-- NODE_SILENCE (R248): due SILENCE_EPOCHS epochs after a node's last authenticated frame. -/
def execNodeSilence (dt node : Nat) (s : State) : Host.Outcome State Fault Refusal :=
  let s := advance dt s
  let n := tabGet {} s.net.nodes node
  .next (if 1 ≤ node ∧ node ≤ 0xFFFD ∧ n.state = 1 ∧ n.heardAt + fld s.net.cfg 0x0C 1 * epochNs s ≤ s.tb.now then
      emit 0x0801 [node, 0] { s with net := { s.net with nodes := tabSet s.net.nodes node { n with state := 2, returned := 0 } } }
    else s)

/-- PRP_SUPERVISION (R218): due 2 s after the last supervision frame, while PRP_MODE is 1. -/
def execPrpSupervision (dt : Nat) (s : State) : Host.Outcome State Fault Refusal :=
  let s := advance dt s
  let due := match s.net.supervised with | none => true | some t => decide (t + 2000000000 ≤ s.tb.now)
  .next (if due && switchUp s && fld s.net.cfg 0x0A 1 == 1 && uplinksOut s != [] then
      send .prp { s with net := { s.net with supervised := some s.tb.now } }
    else s)

/-! ### Ports -/

/-- A T1L port's PHY is powered (R221). -/
def t1lEnabled (p : Nat) (s : State) : Bool := bit (fld s.net.cfg 0x14 1) (p - 3)

/-- The T1L ports take the enables of the configuration in force (R228, R254). -/
def followT1l (s : State) : State :=
  (List.range 8).foldl (fun t i =>
    if !t1lEnabled (i + 3) t then setPort (i + 3) (fun q => { q with link := 2, reason := 0, polarity := false }) t
    else if (port (i + 3) t).link = 2 then setPort (i + 3) (fun q => { q with link := 0, reason := 1 }) t else t) s

/-- The network configuration takes effect; T1L ports follow T1L_ENABLE (R221, R254). -/
def applyNetConfig (s : State) : State :=
  match s.net.pend with
  | none => s
  | some (b, at_) => if s.zone < at_ then s else followT1l { s with net := { s.net with cfg := b, pend := none } }

/-- KIND of a port (R255). -/
def portKind (p : Nat) : Nat := if p = 0 then 0 else if p ≤ 2 then 1 else 2

/-- The portState of IEEE 1588-2019 a port shows: MASTER on a T1L port that transmits, SLAVE, UNCALIBRATED or LISTENING on an
uplink, DISABLED without a link (R228, R255; log 11). -/
def ptpState (p : Nat) (s : State) : Nat :=
  if p = 0 then 0
  else if !portUp p s then 3
  else if 3 ≤ p then (if s.win.role = .standby then 7 else 6)
  else if s.tb.source = p then (if s.tb.state = 2 then 9 else 8) else 4

/-- Port status, 32 bytes (R255). -/
def portStatus (p : Nat) (s : State) : Bytes :=
  let q : Port := if p = 0 then { port 0 s with link := 1, reason := 0 } else port p s
  let synce := (p == 1 || p == 2) && (tabGet {} s.clocks.sources (p + 2)).valid
  le 1 p ++ le 1 (portKind p) ++ le 1 q.link ++ le 1 q.reason ++
    le 1 (bitAt 0 q.polarity + bitAt 1 (p != 0 && s.tb.source == p) + bitAt 2 synce) ++ le 1 (ptpState p s) ++ zeros 2 ++
    le 4 q.rx ++ le 4 q.tx ++ le 4 q.rxErr ++ le 4 q.disc ++ le 4 q.dup ++ le 4 q.meanPath

/-! ### Commands (R253, R254) -/

/-- Net-Get-Config. -/
def cmdNetGetConfig : Command :=
  { code := 0x0801, standby := true, len := lenIs 0, body := fun _ s => (s, .ok s.net.cfg) }

/-- Net-Set-Config (R254). -/
def cmdNetSetConfig : Command :=
  { code := 0x0802, len := lenIs 32, reserved := resv [(0x16, 10)]
    range := fun c _ =>
      let b := c.payload
      [(fld b 0 1 != 0xFF, 0x24, 0), inRange b 8 2 1 4094, inRange b 0x0A 1 0 1, inRange b 0x0B 1 1 16, inRange b 0x0C 1 3 255,
        inRange b 0x0D 1 0 10, inRange b 0x0E 2 10 1000, inRange b 0x10 2 100 5000, inRange b 0x12 2 1000 60000]
    body := fun c s =>
      let b := c.payload
      if fld b 0x0C 1 < 3 * fld b 0x0B 1 then (s, refuseAt 0x0A 0x0C)
      else if (slice b 0 8 != slice s.net.cfg 0 8 || slice b 8 2 != slice s.net.cfg 8 2) && s.car.slots != [] then (s, refuse 0x0A)
      else
        let t := nextEpoch s
        ({ s with net := { s.net with pend := some (b, t) } }, .ok (le 8 t)) }

/-- Port-Get-Status. -/
def cmdPortGetStatus : Command :=
  { code := 0x0803, standby := true, len := lenIs 4, reserved := resv [(1, 3)]
    range := fun c _ => [inRange c.payload 0 1 0 10]
    body := fun c s => (s, .ok (portStatus (fld c.payload 0 1) s)) }

/-- A caravan that is OPEN, STAGED or COMMITTED has a member on a node last heard on a port (R222). -/
def portInUse (p : Nat) (s : State) : Bool :=
  s.car.slots.any (fun e => decide (e.2.state ≤ 2) &&
    e.2.members.any (fun m => m.target / 2 ^ 28 == 1 && (tabGet {} s.net.nodes (m.target % 2 ^ 16)).port == p &&
      (tabGet? s.net.nodes (m.target % 2 ^ 16)).isSome))

/-- Port-Cable-Test (R222): the measured RESULT and DISTANCE_M are free values (log 8). -/
def cmdPortCableTest : Command :=
  { code := 0x0804, standby := true, len := lenIs 4, reserved := resv [(2, 2)]
    range := fun c _ => [inRange c.payload 0 1 0 10, inRange c.payload 1 1 0 1]
    body := fun c s =>
      let p := fld c.payload 0 1
      if p < 3 then (s, refuseAt 0x20 0)
      else if portInUse p s && fld c.payload 1 1 == 0 then (s, refuseAt 0x21 0)
      else
        let m := Config.cableTest p s.tb.now
        let r := m.1 % 5
        (s, .ok (le 1 r ++ le 1 0 ++ le 2 (if r = 1 ∨ r = 2 then min 1000 m.2 else 0xFFFF))) }

/-- FFP-Get-Counters. -/
def cmdFfpGetCounters : Command :=
  { code := 0x0805, standby := true, len := lenIs 0
    body := fun _ s =>
      let silent := (s.net.nodes.filter (fun e => e.1 != 0 && e.2.state == 2)).length
      (s, .ok (le 4 s.net.rxFrames ++ le 4 s.net.txFrames ++ (List.range 10).flatMap (fun i => le 4 (tabGet 0 s.net.discards (i + 1))) ++
        le 4 s.net.nakSent ++ le 4 s.net.nakReceived ++ le 4 s.net.undelivered ++ le 4 silent)) }

/-- A node record, 16 bytes (R255). -/
def nodeRecord (i : Nat) (s : State) : Bytes :=
  let n := tabGet {} s.net.nodes i
  le 2 i ++ le 1 n.state ++ le 1 n.port ++ le 1 n.flags ++ le 1 0 ++ le 2 n.authFails ++ le 8 n.lastHeard

/-- Node-Get-Status: a node ID never heard reads as a record of STATE 0 (log 12). -/
def cmdNodeGetStatus : Command :=
  { code := 0x0806, standby := true, len := lenIs 4
    range := fun c _ => [inRange c.payload 2 2 1 509, chk (decide (fld c.payload 0 2 + fld c.payload 2 2 ≤ 65536)) 0]
    body := fun c s =>
      let a := fld c.payload 0 2
      let n := fld c.payload 2 2
      (s, .ok (slice c.payload 0 4 ++ (List.range n).flatMap (fun i => nodeRecord (a + i) s))) }

/-! ### The rows of the Ferosh command set: one exchange each -/

/-- NET_GET_CONFIG (R253). -/
def execNetGetConfig (dt : Nat) (r : Request) (s : State) : Host.Outcome State Fault Refusal :=
  runCommand cmdNetGetConfig dt r s

/-- NET_SET_CONFIG (R254). -/
def execNetSetConfig (dt : Nat) (r : Request) (s : State) : Host.Outcome State Fault Refusal :=
  runCommand cmdNetSetConfig dt r s

/-- PORT_GET_STATUS (R253). -/
def execPortGetStatus (dt : Nat) (r : Request) (s : State) : Host.Outcome State Fault Refusal :=
  runCommand cmdPortGetStatus dt r s

/-- PORT_CABLE_TEST (R222). -/
def execPortCableTest (dt : Nat) (r : Request) (s : State) : Host.Outcome State Fault Refusal :=
  runCommand cmdPortCableTest dt r s

/-- FFP_GET_COUNTERS (R253). -/
def execFfpGetCounters (dt : Nat) (r : Request) (s : State) : Host.Outcome State Fault Refusal :=
  runCommand cmdFfpGetCounters dt r s

/-- NODE_GET_STATUS (R253). -/
def execNodeGetStatus (dt : Nat) (r : Request) (s : State) : Host.Outcome State Fault Refusal :=
  runCommand cmdNodeGetStatus dt r s

end Sys2Proof.Machine
end

