-- ==== Sys2Proof/Machine/Image.lean ====
section
/-! DEFINITION. The Ferosh Program Image: its layout, its checks, its types and conversions, and the matching of kept data
(R336 to R341, R356). -/

namespace Sys2Proof.Machine
open Sys2Proof

/-! ### Layout (R336 to R338) -/

/-- A task record: T0 to T3, then TE. -/
def taskRec (img : Bytes) (t : Nat) : Bytes := slice img (64 + 16 * t) 16

/-- ENABLED. -/
def taskOn (img : Bytes) (t : Nat) : Bool := bit (fld (taskRec img t) 0 1) 0

/-- PERIOD and PHASE of a cyclic task in ticks of 100 µs. -/
def taskGrid (img : Bytes) (t : Nat) : Nat × Nat := (fld (taskRec img t) 4 4 / 100, fld (taskRec img t) 8 4 / 100)

/-- DEADLINE in ns. -/
def taskDeadline (img : Bytes) (t : Nat) : Nat := fld (taskRec img t) 12 4 * 1000

/-- EVENT_COUNT. -/
def eventCount (img : Bytes) : Nat := fld img 0x28 2

/-- An event record. -/
def eventRec (img : Bytes) (i : Nat) : Bytes := slice img (144 + 16 * i) 16

/-- The instance table. -/
def instances (img : Bytes) : List Bytes := chunks 16 (fld img 0x1C 4) (img.drop (instOffset img))

/-- The initial data. -/
def initialData (img : Bytes) : Bytes := slice img (dataOffset img) (fld img 0x20 4)

/-- CLASS: 0 INPUT, 1 OUTPUT, 2 MEMORY, 3 RETAINED. -/
def eClass (e : Bytes) : Nat := fld e 8 1
/-- TYPE. -/
def eType (e : Bytes) : Nat := fld e 9 1
/-- TASK. -/
def eTask (e : Bytes) : Nat := fld e 10 1
/-- OFFSET. -/
def eOff (e : Bytes) : Nat := fld e 12 4
/-- SIZE. -/
def eSize (e : Bytes) : Nat := fld e 16 2
/-- BIND_KIND. -/
def eKind (e : Bytes) : Nat := fld e 18 1
/-- BIND. -/
def eBind (e : Bytes) : Nat := fld e 20 4

/-- The entry of a variable. -/
def entryOf (dir : List Bytes) (v : Nat) : Option Bytes := dir.find? (fun e => varId e == v)

/-! ### Types (R341) -/

/-- Bytes of a type; 0 for STRUCT. -/
def typeSize (t : Nat) : Nat := [0, 1, 1, 2, 4, 8, 1, 2, 4, 8, 4, 8, 8].getD t 0

/-- A type that is a signed integer. -/
def typeSigned (t : Nat) : Bool := decide (2 ≤ t ∧ t ≤ 5) || t == 0x0C

/-- The range of an integer type. -/
def typeRange (t : Nat) : Int × Int :=
  let w := 8 * typeSize t
  if typeSigned t then (-(2 : Int) ^ (w - 1), (2 : Int) ^ (w - 1) - 1) else (0, (2 : Int) ^ w - 1)

/-- A binary32 truncated into a range: nearest with ties away from zero, saturating; NaN gives 0 (R341). -/
def f32ToInt (lo hi : Int) (v : Nat) : Int :=
  if f32NaN v then 0 else if f32Finite v then clampInt lo hi (roundAway (f32Rat v)) else if 2 ^ 31 ≤ v then lo else hi

/-- A bound binary32 converted to a type (R341). -/
def ofF32 (t v : Nat) : Bytes :=
  if t = 0x01 then le 1 (b2n (v % 2 ^ 31 != 0))
  else if t = 0x0A then le 4 v
  else if t = 0x0B then le 8 (f32to64 v)
  else leInt (typeSize t) (f32ToInt (typeRange t).1 (typeRange t).2 v)

/-- A bound integer converted to a type. -/
def ofInt (t : Nat) (x : Int) : Bytes :=
  if t = 0x01 then le 1 (b2n (x != 0))
  else if t = 0x0A then le 4 (toF32 (x : Rat))
  else if t = 0x0B then le 8 (toF64 (x : Rat))
  else leInt (typeSize t) (clampInt (typeRange t).1 (typeRange t).2 x)

/-- The bytes a variable puts into a CAN object of a VALUE_TYPE (R392). -/
def toCan (r : Bytes) (t : Nat) (b : Bytes) : Bytes :=
  let vt := fld r 0x0D 1
  let n := [0, 1, 1, 2, 2, 4, 4, 4].getD vt 0
  let lo : Int := if vt % 2 = 0 then -(2 : Int) ^ (8 * n - 1) else 0
  let hi : Int := if vt % 2 = 0 then (2 : Int) ^ (8 * n - 1) - 1 else (2 : Int) ^ (8 * n) - 1
  let v : Int := if t = 0x01 ∨ t = 0x0A ∨ t = 0x0B then f32ToInt lo hi (varF32 t b)
    else clampInt lo hi (if typeSigned t then sfld b 0 (typeSize t) else fld b 0 (typeSize t))
  let w := if vt = 7 then le 4 (varF32 t b) else leInt n v
  if t = 0x0D then b else if bit (fld r 1 1) 4 then w.reverse else w

/-! ### Checks of the image (R336 to R340) -/

/-- A check of an image: it holds, and the first byte that fails where it does not. -/
abbrev ImageCheck := Bool × Nat

/-- The first failing byte. -/
def firstBad (l : List ImageCheck) : Option Nat := (l.find? (fun c => !c.1)).map (·.2)

/-- The header and the part bounds. -/
def headerBad (img : Bytes) : Option Nat :=
  let f := fun off n => fld img off n
  firstBad [(decide (64 ≤ img.length), img.length), (f 0 4 == 0x31495046, 0), (f 4 2 == 1, 4), (f 6 2 == 0, 6),
    (decide (img.length ≤ 6291456) && f 0x10 4 == img.length && img.length == digestOffset img + 48, 0x10), (f 0x14 4 % 16 == 0, 0x14),
    (decide (1 ≤ f 0x18 4 ∧ f 0x18 4 ≤ 65536), 0x18), (decide (1 ≤ f 0x1C 4 ∧ f 0x1C 4 ≤ 16384), 0x1C), (decide (f 0x20 4 ≤ 4194304), 0x20),
    (decide (f 0x24 4 ≤ 491520), 0x24), (decide (f 0x28 2 ≤ 64), 0x28), (allZero (slice img 0x2A 22), 0x2A)]

/-- The ranges of a task record. -/
def taskBad (img : Bytes) (t : Nat) : Option Nat :=
  let r := taskRec img t
  let o := 64 + 16 * t
  let te := t == 4
  let p := fld r 4 4
  let d := fld r 12 4
  firstBad [(decide (fld r 0 1 ≤ 1), o), (decide (fld r 1 1 ≤ 1), o + 1), (if te then fld r 2 1 == 0 else decide (2 ≤ fld r 2 1 ∧ fld r 2 1 ≤ 16), o + 2),
    (fld r 3 1 == 0, o + 3), (if te then p == 0 else decide (1000 ≤ p ∧ p ≤ 10000000) && p % 100 == 0, o + 4),
    (if te then fld r 8 4 == 0 else decide (fld r 8 4 < p) && fld r 8 4 % 100 == 0, o + 8),
    (d % 100 == 0 && decide (100 ≤ d ∧ d ≤ (if te then 1000000 else p)), o + 12)]

/-- The ranges of an event record. -/
def eventBad (img : Bytes) (i : Nat) : Option Nat :=
  let r := eventRec img i
  let o := 144 + 16 * i
  let k := fld r 0 1
  let x := fld r 2 2
  firstBad [(decide (1 ≤ k ∧ k ≤ 6), o), (fld r 1 1 == 0, o + 1),
    (if k ≤ 3 then decide (x < 32) else if k = 4 then decide (x < 64) else if k = 5 then x == 0 else decide (1 ≤ x ∧ x ≤ 0xFFFD), o + 2),
    (k == 3 || fld r 4 4 == 0, o + 4), (allZero (slice r 8 8), o + 8)]

/-- A CAN object fits a binding: its KIND, and the room of a STRUCT (R391, R393). -/
def canFits (kind bind size : Nat) (struct : Bool) (s : State) : Bool :=
  let r := (canObj (bind / 256 % 4) (bind % 256) s).record
  decide (bind < 2 ^ 10) && fld r 0 1 == kind && (!struct || decide (size ≤ 64 - fld r 0x0C 1))

/-- A binding fits its class, layout and type (R339). -/
def bindFits (e : Bytes) (s : State) : Bool :=
  let b := eBind e
  let st := eType e == 0x0D
  match eKind e with
  | 0x05 => eClass e == 0 && canFits 1 b (eSize e) st s
  | 0x20 => eClass e == 0 && decide (b < 32) && !st
  | 0x21 => eClass e == 0 && decide (b < 32) && st
  | 0x22 => eClass e == 0 && decide (b < 512) && st
  | 0x23 => eClass e == 0 && decide (b < 1024) && !st
  | 0x24 => eClass e == 0 && decide (b ≤ 8) && !st
  | 0x40 => eClass e == 1 && decide (b < 24) && !st
  | 0x41 => eClass e == 1 && decide (b < 8) && !st
  | 0x42 => eClass e == 1 && sourceFits 0 b && !st
  | 0x43 => eClass e == 1 && decide (b < 512) && !st
  | 0x44 => eClass e == 1 && decide (b < 1024) && !st
  | 0x45 => eClass e == 1 && decide (b < 8) && !st
  | 0x46 => eClass e == 1 && canFits 2 b (eSize e) st s
  | k => eClass e == 0 && decide (k ≤ 0x06 ∨ (0x10 ≤ k ∧ k ≤ 0x13)) && loopSourceFits k b && !st

/-- The checks of a directory entry, after the VAR_ID before it. -/
def entryBad (img : Bytes) (s : State) (last o : Nat) (e : Bytes) : Option Nat :=
  let c := eClass e
  let t := eType e
  let n := typeSize t
  let bound := decide (c ≤ 1)
  let guard := c == 1 && t == 1 && (eKind e == 0x40 || eKind e == 0x41)
  firstBad [(decide (last < varId e), o), (decide (c ≤ 3), o + 8), (decide (1 ≤ t ∧ t ≤ 0x0D), o + 9),
    (if bound then decide (eTask e ≤ 4) else eTask e == 0xFF, o + 10), (decide (fld e 11 1 < 4) && (!bit (fld e 11 1) 0 || guard), o + 11),
    (eOff e % max 1 n == 0 && decide (eOff e + eSize e ≤ fld img 0x20 4), o + 12),
    (if t = 0x0D then decide (1 ≤ eSize e ∧ eSize e ≤ 4096) else eSize e == n, o + 16),
    (if bound then bindFits e s else eKind e == 0xFF, o + 18), (fld e 19 1 == 0, o + 19), (c == 1 || fld e 24 4 == 0, o + 24), (allZero (slice e 28 4), o + 28)]

/-- The directory. -/
def directoryBad (img : Bytes) (s : State) : Nat → Nat → List Bytes → Option Nat
  | _, _, [] => none
  | last, o, e :: l => (entryBad img s last o e).or (directoryBad img s (varId e) (o + 32) l)

/-- The instance table: ascending INSTANCE_ID, inside the instance memory. -/
def instancesBad (img : Bytes) : Option Nat → Nat → List Bytes → Option Nat
  | _, _, [] => none
  | last, o, e :: l =>
    let id := fld e 0 4
    (firstBad [((match last with | none => true | some k => decide (k < id)), o), (decide (fld e 8 4 + fld e 12 4 ≤ fld img 0x20 4), o + 8)]).or
      (instancesBad img (some id) (o + 16) l)

/-- The first failing byte of an image (R340). -/
def imageBad (img : Bytes) (s : State) : Option Nat :=
  (headerBad img).or <| ((List.range 5).findSome? (taskBad img)).or <| ((List.range (eventCount img)).findSome? (eventBad img)).or <|
    ((Config.bytecodeFault img).map (· + (dirOffset img - fld img 0x14 4))).or <| (directoryBad img s 0 (dirOffset img) (directory img)).or <|
    (instancesBad img none (instOffset img) (instances img)).or <|
    (if Config.sha384 (img.take (digestOffset img)) = img.drop (digestOffset img) then none else some (digestOffset img))

/-- The OUT_KIND of a local output binding. -/
def outKind (bindKind : Nat) : Nat := if bindKind = 0x40 then 2 else if bindKind = 0x41 then 1 else if bindKind = 0x45 then 3 else 0

/-- A binding breaks the ownership of its target (R314, R340). -/
def ownershipBad (dir : List Bytes) (s : State) (e : Bytes) : Bool :=
  let b := eBind e
  let k := outKind (eKind e)
  let same := dir.filter (fun x => eClass x == 1 && eKind x == eKind e && eBind x == b)
  let loops := (List.range 512).map (fun n => latestRecord n s)
  if eClass e ≠ 1 then false
  else if k ≠ 0 then
    let own := (same.filter (fun x => !entryGuard x)).length + (loops.filter (fun r => covers r k b && !lGuard r)).length
    let guards := (same.filter entryGuard).length + (loops.filter (fun r => covers r k b && lGuard r)).length
    decide (1 < own) || decide (4 < guards)
  else if eKind e = 0x44 then loops.any (fun r => covers r 5 b) || decide (1 < same.length)
  else if eKind e = 0x43 then lSpSource (latestRecord b s) != 1 || decide (1 < same.length)
  else false

/-! ### Kept data (R356) -/

/-- A variable is kept: the new directory holds its VAR_ID with the same CLASS, TYPE and SIZE. -/
def keptIn (dir : List Bytes) (e : Bytes) : Option Bytes :=
  match entryOf dir (varId e) with
  | none => none
  | some x => if eClass x = eClass e ∧ eType x = eType e ∧ eSize x = eSize e then some x else none

/-- Instance memory with the bytes of a variable. -/
def putVar (m : List Host.Cell) (e b : Bytes) : List Host.Cell := Memory.write m (eOff e) (b.take (eSize e))

/-- The bytes of a variable. -/
def getVar (m : List Host.Cell) (e : Bytes) : Bytes := Memory.read m (eOff e) (eSize e)

/-- The initial instance memory of an image. -/
def initialMem (img : Bytes) : List Host.Cell := Memory.write [] 0 (initialData img)

/-- The memory of a new image with the data kept from the old one: instances with the same INSTANCE_ID and TYPE_ID, then
variables (R356). -/
def keepData (old new : Bytes) (m : List Host.Cell) : List Host.Cell :=
  let inst := (instances old).foldl (fun t e =>
    match (instances new).find? (fun x => fld x 0 8 == fld e 0 8) with
    | none => t
    | some x => Memory.write t (fld x 8 4) (Memory.read m (fld e 8 4) (min (fld e 12 4) (fld x 12 4)))) (initialMem new)
  (directory old).foldl (fun t e => match keptIn (directory new) e with | none => t | some x => putVar t x (getVar m e)) inst

/-- The RETAINED entries of a directory. -/
def retainedVars (dir : List Bytes) : List Bytes := dir.filter (fun e => eClass e == 3)

/-- The retained part of an instance memory. -/
def retainedOf (dir : List Bytes) (m : List Host.Cell) : List Host.Cell := (retainedVars dir).foldl (fun t e => putVar t e (getVar m e)) []

/-- KEPT, NEW and REMOVED of a change of image. -/
def changeCounts (old : List Bytes) (new : List Bytes) : Nat × Nat × Nat :=
  let k := (old.filter (fun e => (keptIn new e).isSome)).length
  (k, new.length - k, old.length - k)

end Sys2Proof.Machine
end

