-- ==== Sys2Proof/Machine/Program.lean ====
section
/-! DEFINITION. The program engines: input latches, cycles, output images, states of the program, on-line change and retained data
(R331 to R360). What the bytecode of a cycle does is an operand (log 24). -/

namespace Sys2Proof.Machine
open Sys2Proof

/-- The program engines changed. -/
def setProg (f : Program → Program) (s : State) : State := { s with prog := f s.prog }

/-- A task. -/
def task (t : Nat) (s : State) : Task := tabGet {} s.prog.tasks t

/-- A task changed. -/
def setTask (t : Nat) (x : Task) (s : State) : State := setProg (fun p => { p with tasks := tabSet p.tasks t x }) s

/-- The active image. -/
def progImage (s : State) : Bytes := s.prog.image.getD []

/-- The engines can run: an image is active, the plant has started and its supply is there. -/
def progRuns (s : State) : Bool := s.prog.image.isSome && engineRuns s && s.win.role != .standby

/-- The entries of a class that a task owns. -/
def taskVars (cls t : Nat) (s : State) : List Bytes := (progDir s).filter (fun e => eClass e == cls && eTask e == t)

/-! ### Inputs (R343, R347, R348) -/

/-- The production period of a source in ns, where the spec gives one (log 24). -/
def sourcePeriod (kind bind : Nat) (s : State) : Option Nat :=
  match kind with
  | 0x01 => some (stepNs s)
  | 0x02 => some (stepNs s)
  | 0x03 => some (stepNs s)
  | 0x04 => some (fld (ainRec s.io.cfg bind) 2 2 * 1000000)
  | 0x06 => some (fld s.buses.mbus.cfg 4 2 * 1000000000)
  | _ => none

/-- A system input (R348). -/
def systemInput (t i : Nat) (s : State) : Int :=
  match i with
  | 0 => s.zone
  | 1 => b2n (task t s).first
  | 2 => (task t s).skipped
  | 3 => (task t s).overruns
  | 4 => b2n s.win.oasis
  | 5 => s.opt.oasisPhase
  | 6 => s.win.role.code
  | 7 => s.tb.state
  | _ => s.win.power.code

/-- The quality of a sampled source: the node's state, the mark of the source, the first latch after a return, then its age (R343). -/
def sampleQuality (t kind bind : Nat) (x : Reading) (age : Nat) (s : State) : Nat :=
  let n := tabGet {} s.net.nodes (bind % 65536)
  let old := if kind = 0 then decide (pushAge s < age) else match sourcePeriod kind bind s with | some p => decide (3 * p < age) | none => false
  if kind = 0 ∧ n.state = 2 then 3
  else if x.bad then 2
  else if kind = 0 ∧ bit n.returned t then 4
  else if old then 1 else 0

/-- The quality of a digital input (R343, R407, R408). -/
def diQuality (d : Di) : Nat := if !d.known then 8 else if d.bad then 2 else if d.stuck then 5 else if d.chatter.isSome then 6 else 0

/-- The STRUCT of the edges binding (R347). -/
def edgesBytes (e : Bytes) (s : State) : Bytes :=
  let d := di (eBind e) s
  let b := tabGet (d.rises, d.falls) s.prog.edgeBase (varId e)
  le 4 d.rises ++ le 2 (min 65535 ((d.rises + 2 ^ 32 - b.1) % 2 ^ 32)) ++ le 2 (min 65535 ((d.falls + 2 ^ 32 - b.2) % 2 ^ 32)) ++ le 8 d.lastEdge

/-- The STRUCT of the loop status binding (R329, R339; log 24). -/
def loopStruct (n : Nat) (s : State) : Bytes :=
  let l := loopSlot n s
  le 1 (loopMode n s) ++ zeros 1 ++ le 2 (loopFlags n s) ++ leInt 4 l.pv ++ leInt 4 l.sp ++ leInt 4 l.y ++ leInt 4 (appliedOf n s)

/-- The value, quality and age an input takes at its latch (R343). -/
def latchValue (t : Nat) (e : Bytes) (s : State) : InLatch :=
  let k := eKind e
  let b := eBind e
  let ty := eType e
  match k with
  | 0x20 => let d := di b s; { value := ofInt ty (b2n d.value), quality := diQuality d, age := 0 }
  | 0x21 => { value := fit (eSize e) (edgesBytes e s), quality := diQuality (di b s), age := 0 }
  | 0x22 => { value := fit (eSize e) (loopStruct b s), quality := 0, age := 0 }
  | 0x23 =>
    let v := exchangeEntry b s
    { value := if slotsWhere (fun r => covers r 5 b) s = [] then ofF32 ty v else ofInt ty (toSigned 32 v), quality := 0, age := 0 }
  | 0x24 => { value := ofInt ty (systemInput t b s), quality := 0, age := 0 }
  | _ =>
    let none_ : InLatch := { value := zeros (eSize e), quality := 8, age := 0 }
    if k = 0x05 ∧ ty = 0x0D then
      let o := canObj (b / 256 % 4) (b % 256) s
      (match o.frame with
        | none => none_
        | some f =>
          let off := fld o.record 0x0C 1
          { value := fit (eSize e) (f.data.drop off), quality := if f.data.length < off + eSize e then 2 else 0, age := s.zone - f.stamp })
    else match loopReading k b s with
      | none => none_
      | some x =>
        let age := s.zone - x.stamp
        let q := if k = 0x11 then diQuality (di b s) else sampleQuality t k b x age s
        { value := ofF32 ty x.raw, quality := q, age := age }

/-- One input is latched; a forced one takes its forced value (R343, R354). -/
def latchInput (t : Nat) (s : State) (e : Bytes) : State :=
  let v : InLatch := match tabGet? s.prog.forces (varId e) with
    | some f => { value := fit (eSize e) f, quality := 7, age := 0 }
    | none => latchValue t e s
  let d := di (eBind e) s
  let edges := if eKind e = 0x21 then tabSet s.prog.edgeBase (varId e) (d.rises, d.falls) else s.prog.edgeBase
  setProg (fun p => { p with inputs := tabSet p.inputs (varId e) v, mem := putVar p.mem e v.value, edgeBase := edges }) s

/-- A task's latch has shown a returned node's inputs RETURNED (R249, R343). -/
def clearReturned (t : Nat) (s : State) (e : Bytes) : State :=
  let id := eBind e % 65536
  let n := tabGet {} s.net.nodes id
  if eKind e = 0 ∧ bit n.returned t then { s with net := { s.net with nodes := tabSet s.net.nodes id { n with returned := n.returned - 2 ^ t } } } else s

/-- The forced variables of a cycle are set before it executes: its outputs, and every MEMORY and RETAINED variable (R354). -/
def setForced (t : Nat) (s : State) : State :=
  s.prog.forces.foldl (fun u f =>
    match entryOf (progDir u) f.1 with
    | none => u
    | some e => if 2 ≤ eClass e ∨ (eClass e = 1 ∧ eTask e = t) then setProg (fun p => { p with mem := putVar p.mem e (fit (eSize e) f.2) }) u else u) s

/-- A cycle begins at an instant: its inputs are latched and it executes (R333). -/
def beginCycle (t tin : Nat) (s : State) : State :=
  let ins := taskVars 0 t s
  let s := ins.foldl (latchInput t) s
  let s := setForced t (ins.foldl (clearReturned t) s)
  let x := task t s
  setTask t { x with tin := some tin, executing := true, overrun := false, tout := tin + taskDeadline (progImage s) t, image := none, opens := [], aborts := [], results := [], given := x.results, first := false, step := false } s

/-! ### Outputs (R333, R334, R344, R359) -/

/-- A value goes to a program output's target; node channels are sent apart (R339, R344). -/
def writeTarget (e b : Bytes) (s : State) : State :=
  let v := varF32 (eType e) b
  let i := eBind e
  if entryGuard e then s
  else match eKind e with
  | 0x40 => setTarget 2 i { target 2 i s with prog := some v } s
  | 0x41 => setTarget 1 i { target 1 i s with prog := some v } s
  | 0x43 => setLoop i { loopSlot i s with progSp := v } s
  | 0x44 => { s with loops := { s.loops with exchange := tabSet s.loops.exchange i v } }
  | 0x45 =>
    let s := setTarget 3 i { target 3 i s with prog := some v } s
    let a := axis i s
    if f32NaN v then setAxis i { stopAxis s.tb.now a with stopped := true } s else setAxis i { a with stopped := false } s
  | 0x46 => canWrite (i / 256 % 4) (i % 256) (toCan (canObj (i / 256 % 4) (i % 256) s).record (eType e) b) s
  | _ => s

/-- The outputs of a list that go to one node's channels: channel, value, and whether it changed. -/
def nodeEntries (l : List (Bytes × Bytes)) (s : State) (node : Nat) : List (Nat × Nat × Bool) :=
  (l.filter (fun e => eKind e.1 == 0x42 && eBind e.1 % 65536 == node)).map (fun e =>
    (eBind e.1 / 65536, varF32 (eType e.1) e.2, tabGet? s.prog.outputs (varId e.1) != some e.2))

/-- The WRITEs of an output image: per node the changed channels and those whose last delivery status is not APPLIED (R344). -/
def writeNodes (always : Bool) (l : List (Bytes × Bytes)) (s : State) : State :=
  let nodes := ((l.filter (fun e => eKind e.1 == 0x42)).map (fun e => eBind e.1 % 65536)).eraseDups
  nodes.foldl (fun t n =>
    let due := (nodeEntries l s n).filter (fun c => always || c.2.2 || tabGet? t.net.delivery (n * 256 + c.1) != some 1)
    (chunked 64 due.length (due.map (fun c => (c.1, c.2.1)))).foldl (fun u w => sendWrite n w u) t) s
where
  /-- Pieces of at most `n` elements. -/
  chunked {α : Type} (n : Nat) : Nat → List α → List (List α)
    | 0, _ => []
    | k + 1, l => if l.isEmpty then [] else l.take n :: chunked n k (l.drop n)

/-- Values are written at their outputs (R344). -/
def writeOutputs (always : Bool) (l : List (Bytes × Bytes)) (s : State) : State :=
  let s := writeNodes always l s
  l.foldl (fun t e => setProg (fun p => { p with outputs := tabSet p.outputs (varId e.1) e.2 }) (writeTarget e.1 e.2 t)) s

/-- Program caravans that have not ended. -/
def programCaravans (s : State) : Nat := (s.car.slots.filter (fun e => e.2.origin == 2)).length

/-- A CARAVAN_OPEN of a cycle: the CARAVAN_ID, or 0 and the refusal reason (R359). -/
def openProgram (s : State) (c : Nat × List (Nat × Nat)) : State × (Nat × Nat) :=
  if 4 ≤ programCaravans s then (s, (0, 0x20))
  else if c.1 < s.zone + (fld s.car.cfg 0 4 + 100) * 1000000 then (s, (0, 0x23))
  else if s.win.oasis && c.2.any (fun e => tgtKind e.1 == 1) then (s, (0, 0x06))
  else match openSealed c.1 2 false c.2 s with
    | (t, .inl id) => (t, (id, 0))
    | (t, .inr r) => (t, (0, r))

/-- A program caravan that is OPEN or STAGED aborts with reason PROGRAM. -/
def abortProgram (s : State) (id : Nat) : State :=
  match carSlot id s with
  | none => s
  | some (k, c) => if c.origin = 2 ∧ c.standing = 0 then decide_ k c (some 8) none s else s

/-- The STOP values of the non-GUARD outputs that do not hold their last value (R351). -/
def stopValues (p : Bytes → Bool) (s : State) : State :=
  let l := ((progDir s).filter (fun e => eClass e == 1 && !entryGuard e && !bit (fld e 11 1) 1 && p e)).map (fun e => (e, ofF32 (eType e) (fld e 24 4)))
  writeOutputs true l s

/-- The outputs of a cycle are written at its output instant. -/
def finishCycle (t : Nat) (s : State) : State :=
  let x := task t s
  match x.image with
  | none => s
  | some l =>
    let s := setTask t { x with tin := none, overrun := false, image := none, opens := [], aborts := [], event := none } s
    let s := writeOutputs false l s
    let s := x.aborts.foldl abortProgram s
    let r := x.opens.foldl (fun (a : State × List (Nat × Nat)) c => let o := openProgram a.1 c; (o.1, a.2 ++ [o.2])) (s, [])
    let s := setTask t { task t r.1 with results := r.2 } r.1
    let s := if progState s = 1 then stopValues (fun e => eTask e == t) s else s
    if t = 0 then replicatePlant s else s

/-- A TE event is discarded, counted and recorded (R335). -/
def discardEvent (kind index : Nat) (s : State) : State :=
  emit 0x0C04 [kind, index] (setProg (fun p => { p with discarded := (p.discarded + 1) % 2 ^ 32 }) s)

/-- A TE run has overrun: the next queued event is discarded (R335). -/
def discardNext (s : State) : State :=
  match s.prog.queue with
  | [] => setTask 4 { task 4 s with discard := true } s
  | e :: rest => discardEvent (fld (eventRec (progImage s) e.1) 0 1) (fld (eventRec (progImage s) e.1) 2 2) (setProg (fun p => { p with queue := rest }) s)

/-- A task's output instant: the image is written, or the cycle overruns (R334). -/
def outputInstant (t : Nat) (s : State) : State :=
  let x := task t s
  if x.tin.isNone ∨ x.tout = 0 ∨ s.tb.now < x.tout then s
  else if !x.executing then finishCycle t s
  else
    let s := if x.overrun then s else emit 0x0C01 [t] (setTask t { x with overrun := true, overruns := (x.overruns + 1) % 65536 } s)
    let x := task t s
    if t = 4 then discardNext (setTask t { x with tout := s.tb.now + taskDeadline (progImage s) 4 } s) else setTask t { x with tout := 0 } s

/-- TASK_OUTPUT (R334): due at t_out. -/
def execTaskOutput (dt : Nat) (task_ : Fin 5) (s : State) : Host.Outcome State Fault Refusal :=
  let s := advance dt s
  .next (if engineRuns s then outputInstant task_.val s else s)

/-! ### States of the program (R349 to R353, R360) -/

/-- No program is in RUN during the RULES phase of Oasis: recorded once (R360). -/
def noteNoProgram (s : State) : State :=
  if s.opt.oasisPhase = 2 ∧ progState s ≠ 2 ∧ !s.prog.oasisNoted then emit 0x0C07 [] (setProg (fun p => { p with oasisNoted := true }) s) else s

/-- Cycles in execution are abandoned: nothing of them is written (R351 step 1, R353). -/
def haltTasks (s : State) : State :=
  (List.range 5).foldl (fun t k =>
    let x := task k t
    if x.executing then setTask k { x with tin := none, executing := false, overrun := false, image := none, opens := [], aborts := [], event := none } t else t) s

/-- The requested mode and its start kind are sent to the standby (R358; log 18). -/
def sendMode (s : State) : State := (replicate 0x12 true (le 1 3 ++ le 1 s.prog.req ++ le 1 s.prog.startKind) s).1

/-- Entry to STOP with a cause: 1 HOST, 2 TRAP, 3 WATCHDOG, 4 HOLD_LIMIT (R351). -/
def stopProgram (cause : Nat) (s : State) : State :=
  let was := s.prog.req
  let s := haltTasks s
  let s := setProg (fun p => { p with req := 1, cause := cause, holdAt := none, queue := [], hot := (was == 2 || was == 3) && (cause == 1 || cause == 4) }) s
  let s := stopValues (fun e => (task (eTask e) s).image.isNone) s
  let s := (s.car.slots.filter (fun e => e.2.origin == 2)).foldl (fun t e => abortProgram t e.2.id) s
  noteNoProgram (sendMode (emit 0x0C06 [cause] s))

/-- The tasks start afresh: each at its first input instant from an instant on. -/
def startTasks (from_ : Nat) (s : State) : State :=
  setProg (fun p => { p with
    tasks := (List.range 5).foldl (fun t k => let x := tabGet {} p.tasks k; tabSet t k { x with tin := none, executing := false, overrun := false, image := none, opens := [], aborts := [], first := true, from_ := from_, lastIn := from_ / 100000 - 1, step := false, discard := false, event := none }) p.tasks
    queue := [] }) s

/-- The memory a start kind gives: WARM keeps retained data, COLD none, HOT all (R350). -/
def startMemory (kind : Nat) (s : State) : State :=
  let img := progImage s
  let dir := directory img
  match kind with
  | 2 => s
  | 1 => setProg (fun p => { p with mem := initialMem img, retained := retainedOf dir (initialMem img), retPend := [] }) s
  | _ => setProg (fun p => { p with mem := (retainedVars dir).foldl (fun t e => putVar t e (getVar p.mem e)) (initialMem img) }) s

/-- Entry to RUN with a start kind; tasks start at their first input instant at least 1 ms after the taking (R350). -/
def runProgram (kind : Nat) (s : State) : State :=
  let s := startTasks (s.tb.now + 1000000) (startMemory kind s)
  sendMode (setProg (fun p => { p with req := 2, startKind := kind, holdAt := none, cause := 0, hot := false, oasisNoted := false }) s)

/-- TASK_WATCHDOG (R334): due at t_in + WATCHDOG × PERIOD_US of a cycle that still executes. -/
def execTaskWatchdog (dt : Nat) (task_ : Fin 4) (s : State) : Host.Outcome State Fault Refusal :=
  let s := advance dt s
  let t := task_.val
  let r := taskRec (progImage s) t
  .next (match (task t s).tin with
    | none => s
    | some i => if (task t s).executing ∧ i + fld r 2 1 * fld r 4 4 * 1000 ≤ s.tb.now then stopProgram 3 s else s)

/-- The code of a trap (R363). -/
def trapNumber : TrapCode → Nat
  | .divZero => 1 | .indexBounds => 2 | .stackOverflow => 3

/-- TRAP (R341): a cycle in execution traps. -/
def execTrap (dt : Nat) (task_ : Fin 5) (code : TrapCode) (inst off : Nat) (s : State) : Host.Outcome State Fault Refusal :=
  let s := advance dt s
  let t := task_.val
  let c := trapNumber code
  .next (if (task t s).executing then
      stopProgram 2 (emit 0x0C02 [c, t, inst, off] (setProg (fun p => { p with trap := (c, t, inst % 2 ^ 32, off % 2 ^ 32) }) s))
    else s)

/-- HOLD_LIMIT (R352): due HOLD_LIMIT_S after HOLD was taken. -/
def execHoldLimit (dt : Nat) (s : State) : Host.Outcome State Fault Refusal :=
  let s := advance dt s
  .next (match s.prog.holdAt with
    | none => s
    | some t => if t + fld s.prog.cfg 4 4 * 1000000000 ≤ s.tb.now then stopProgram 4 s else s)

/-! ### On-line change (R355, R356) -/

/-- No cycle of any task is executing. -/
def quiet (s : State) : Bool := (List.range 5).all (fun t => !(task t s).executing)

/-- The forces an image releases: their variable is gone, or of another CLASS, TYPE or SIZE. -/
def lostForces (old new : List Bytes) (s : State) : List Nat :=
  (s.prog.forces.filter (fun f => match entryOf old f.1 with | some e => (keptIn new e).isNone | none => true)).map (·.1)

/-- An image takes the place of the active one: kept data is copied, forces that cannot be kept are released and recorded (R356). -/
def placeImage (img : Bytes) (s : State) : State × Bytes :=
  let old := progImage s
  let od := progDir s
  let nd := directory img
  let mem := if s.prog.image.isNone then initialMem img else keepData old img s.prog.mem
  let lost := lostForces od nd s
  let c := changeCounts od nd
  let alive := fun (k : Nat) => match entryOf od k with | some e => (keptIn nd e).isSome | none => false
  let s := setProg (fun p => { p with image := some img, mem := mem, retained := retainedOf nd mem, retPend := [], forces := p.forces.filter (fun f => !lost.contains f.1), inputs := p.inputs.filter (fun e => alive e.1), outputs := p.outputs.filter (fun e => alive e.1), edgeBase := p.edgeBase.filter (fun e => alive e.1), hot := false }) s
  let s := lost.foldl (fun t (v : Nat) => emit 0x0C03 [(v : Int)] t) s
  (s, le 4 c.1 ++ le 4 c.2.1 ++ le 4 c.2.2 ++ le 2 lost.length ++ zeros 2 ++ le 8 s.zone)

/-- The switch: the new image from now on, TE's held events under the new event records (R355 steps 3 and 4). -/
def switchImage (s : State) : State :=
  match s.prog.change with
  | none => s
  | some c =>
    let r := placeImage c.image (setProg (fun p => { p with change := none }) s)
    let s := r.1
    let kept := fun (e : Nat × Nat × Nat × Nat) => decide (e.1 < eventCount c.image)
    let gone := (s.prog.queue.filter (fun e => !kept e)).length
    let s := setProg (fun p => { p with
      queue := p.queue.filter kept, discarded := (p.discarded + gone) % 2 ^ 32
      tasks := (List.range 5).foldl (fun t k => let x := tabGet {} p.tasks k; tabSet t k { x with first := true, from_ := s.tb.now / 100000 * 100000, lastIn := s.tb.now / 100000 - 1 }) p.tasks }) s
    let s := (replicate 0x12 true (le 1 5) s).1
    finish c.mbox (.ok r.2) s

/-- An input instant of T0 has come since the last one judged. -/
def t0Instant (s : State) : Bool :=
  taskOn (progImage s) 0 && tickIn (taskGrid (progImage s) 0) (task 0 s).lastIn (s.tb.now / 100000)

/-- CHANGE_SWITCH (R355): due at the first T0 input instant at which no cycle is executing. -/
def execChangeSwitch (dt : Nat) (s : State) : Host.Outcome State Fault Refusal :=
  let s := advance dt s
  .next (if s.prog.change.isSome && progState s == 2 && quiet s && t0Instant s then switchImage s else s)

/-- CHANGE_TIMEOUT (R355): due CHANGE_MAX_WAIT_MS after quiescing began. -/
def execChangeTimeout (dt : Nat) (s : State) : Host.Outcome State Fault Refusal :=
  let s := advance dt s
  .next (match s.prog.change with
    | none => s
    | some c =>
      if s.tb.now < c.from_ + fld s.prog.cfg 0 4 * 1000000 then s
      else finish c.mbox (refuse 0x26) (setProg (fun p => { p with change := none }) s))

/-! ### Input instants (R332, R334, R335) -/

/-- An instant of a task is skipped; the outputs of an overrun cycle wait for its output instant (R334). -/
def skipInstant (t inst : Nat) (s : State) : State :=
  let x := task t s
  setTask t { x with skipped := (x.skipped + 1) % 65536, tout := if x.overrun then inst + taskDeadline (progImage s) t else x.tout } s

/-- An input instant of a cyclic task, at a local instant. -/
def cyclicInstant (t inst : Nat) (s : State) : State :=
  let x := task t s
  if s.prog.change.isSome ∧ t ≠ 0 then (if x.executing then skipInstant t inst s else setTask t { x with skipped := (x.skipped + 1) % 65536 } s)
  else if x.executing ∨ (x.overrun ∧ x.tout = 0) then skipInstant t inst s
  else beginCycle t inst s

/-- The latest input instant of a task up to now, in ticks. -/
def lastInstant (g : Nat × Nat) (n : Nat) : Nat := n - (n + g.1 - g.2 % g.1) % g.1

/-- TASK_INPUT (R333): due at a cyclic task's t_in; TE's is the first tick at or after the detection of the event it takes. -/
def execTaskInput (dt : Nat) (task_ : Fin 5) (s : State) : Host.Outcome State Fault Refusal :=
  let s := advance dt s
  let t := task_.val
  let n := s.tb.now / 100000
  .next (if !progRuns s then s
    else if t = 4 then
      let s := outputInstant 4 s
      match s.prog.queue with
      | [] => s
      | e :: rest =>
        if progState s ≠ 2 ∨ s.prog.change.isSome ∨ (task 4 s).tin.isSome ∨ !taskOn (progImage s) 4 ∨ n * 100000 < e.2.2.2 then s
        else
          let s := setTask 4 { task 4 s with event := some (e.1, e.2.1, e.2.2.1) } (setProg (fun p => { p with queue := rest }) s)
          beginCycle 4 (n * 100000) s
    else
      let g := taskGrid (progImage s) t
      let x := task t s
      if g.1 = 0 ∨ !tickIn g x.lastIn n then s
      else
        let s := outputInstant t s
        let s := if t = 0 && s.prog.change.isSome && progState s == 2 && quiet s && t0Instant s then switchImage s else s
        let inst := lastInstant (taskGrid (progImage s) t) n * 100000
        let x := task t s
        let s := setTask t { x with lastIn := n } s
        if !taskOn (progImage s) t ∨ inst < x.from_ ∨ !(progState s == 2 || (progState s == 3 && x.step)) then s
        else cyclicInstant t inst s)

/-! ### The end of execution and retained data (R333, R357) -/

/-- The 64-byte lines of RETAINED data that a write changed, each as it stands now. -/
def changedLines (dir : List Bytes) (before after : List Host.Cell) : Tab Bytes :=
  let vars := (retainedVars dir).filter (fun e => getVar before e != getVar after e)
  vars.foldl (fun t e =>
    (List.range ((eOff e + eSize e - 1) / 64 + 1 - eOff e / 64)).foldl (fun u i =>
      let l := eOff e / 64 + i
      if Memory.read before (64 * l) 64 = Memory.read after (64 * l) 64 then u else tabSet u l (Memory.read after (64 * l) 64)) t) []

/-- A timer is armed (R346). -/
def armTimer (s : State) (a : Fin 64 × Nat × Nat) : State :=
  setProg (fun p => { p with timers := tabSet p.timers a.1.val { target := a.2.1, period := a.2.2, expiries := 0 } }) s

/-- TASK_EXECUTION_END (R333): a cycle's execution ends; its writes stand, its output image is copied, its retained record formed. -/
def execTaskExecutionEnd (dt : Nat) (task_ : Fin 5) (fx : TaskEffects) (s : State) : Host.Outcome State Fault Refusal :=
  let s := advance dt s
  let t := task_.val
  .next (if !(task t s).executing ∨ !progRuns s then s
    else
      let dir := progDir s
      let size := fld (progImage s) 0x20 4
      let before := s.prog.mem
      let after := (fx.writes.filter (fun w => decide (w.1 + w.2.length ≤ size))).foldl (fun m w => Memory.write m w.1 w.2) before
      let lines := changedLines dir before after
      let s := setProg (fun p => { p with mem := after, retPend := lines.foldl (fun r l => tabSet r l.1 l.2) p.retPend }) s
      let value := fun (e : Bytes) => match tabGet? s.prog.forces (varId e) with | some f => fit (eSize e) f | none => getVar s.prog.mem e
      let img := (taskVars 1 t s).map (fun e => (e, value e))
      let x := task t s
      let s := setTask t { x with executing := false, image := some img, opens := fx.opens, aborts := fx.aborts, execLast := fx.time % 2 ^ 32, execMax := max x.execMax (fx.time % 2 ^ 32) } s
      fx.timers.foldl armTimer s)

/-- RETAINED_RECORD_DURABLE (R357): the pending record is written to the Cellar and sent to the standby. -/
def execRetainedRecordDurable (dt : Nat) (s : State) : Host.Outcome State Fault Refusal :=
  let s := advance dt s
  let l := s.prog.retPend
  let waits := feedsTwin s && s.twin.unacked.any (fun i => i.type == 0x12 && i.data.take 1 == [1])
  .next (if l = [] || waits then s
    else
      let s := setProg (fun p => { p with retained := l.foldl (fun m e => Memory.write m (64 * e.1) e.2) p.retained, retPend := [] }) s
      (replicate 0x12 true (le 1 1 ++ l.flatMap (fun e => le 4 e.1 ++ e.2)) s).1)

/-! ### Events of TE (R335, R346) -/

/-- An event is queued for TE, or discarded (R335). -/
def queueEvent (i data time : Nat) (s : State) : State :=
  let r := eventRec (progImage s) i
  if (task 4 s).discard then discardEvent (fld r 0 1) (fld r 2 2) (setTask 4 { task 4 s with discard := false } s)
  else if 64 ≤ s.prog.queue.length then discardEvent (fld r 0 1) (fld r 2 2) s
  else setProg (fun p => { p with queue := p.queue ++ [(i, data % 2 ^ 32, time, s.tb.now)] }) s

/-- An event of the table has been detected: DATA and TIME where its condition holds. -/
def eventData (r : Bytes) (caravan : Nat) (s : State) : Option (Nat × Nat) :=
  let d := di (fld r 2 2) s
  match fld r 0 1 with
  | 1 => if d.state then some (d.rises, d.lastEdge) else none
  | 2 => if d.state then none else some (d.rises, d.lastEdge)
  | 3 => if d.rises = fld r 4 4 then some (d.rises, d.lastEdge) else none
  | 5 => (match findCar caravan s with
      | some c => if c.origin = 2 ∧ 4 ≤ c.state then some (caravan, s.zone) else none
      | none => none)
  | 6 => (match (tabGet {} s.net.nodes (fld r 2 2)).state with | 0 => none | k => some (if k = 1 then 1 else 0, s.zone))
  | _ => none

/-- TE_EVENT (R335): an event of the event table is detected; `caravan` names the caravan of a CARAVAN_FINAL. -/
def execTeEvent (dt index caravan : Nat) (s : State) : Host.Outcome State Fault Refusal :=
  let s := advance dt s
  .next (if !progRuns s || progState s != 2 || decide (eventCount (progImage s) ≤ index) then s
    else match eventData (eventRec (progImage s) index) caravan s with
      | some d => queueEvent index d.1 d.2 s
      | none => s)

/-- HW_TIMER (R346): due at an armed timer's target; it fires into the TE events that name it. -/
def execHwTimer (dt : Nat) (timer : Fin 64) (s : State) : Host.Outcome State Fault Refusal :=
  let s := advance dt s
  let n := timer.val
  .next (match tabGet? s.prog.timers n with
    | none => s
    | some x =>
      if s.zone < x.target then s
      else
        let x' := { x with expiries := x.expiries + 1, target := x.target + x.period }
        let s := setProg (fun p => { p with timers := if x.period = 0 then tabErase p.timers n else tabSet p.timers n x' }) s
        if !progRuns s || progState s != 2 then s
        else
          let evs := (List.range (eventCount (progImage s))).filter (fun i => fld (eventRec (progImage s) i) 0 4 == 4 + n * 65536)
          evs.foldl (fun t i => queueEvent i x'.expiries x.target t) s)

end Sys2Proof.Machine
end

