-- ==== Sys2Proof/Machine/Hydraulics.lean ====
section
/-! DEFINITION. Hydraulics of the zone: fluid properties, edge laws, pump modes and valve positions, removed edges and isolated
parts, and the residuals of a hydraulic state (R116 to R121, R129, R130). -/

namespace Sys2Proof.Machine
open Sys2Proof

/-! ### Numbers -/

/-- π. -/
def piRat : Rat := mkRat 31415926535897932384626433832795 (10 ^ 31)

/-- Standard gravity (R117). -/
def gravity : Rat := dec 980665 5

/-- The square root of a non-negative number, to 2⁻²⁰⁰; 0 below. -/
def rootRat (q : Rat) : Rat := if q ≤ 0 then 0 else mkRat (isqrt (q.num.natAbs * 2 ^ 400 / q.den)) (2 ^ 200)

/-- |q|. -/
def absRat (q : Rat) : Rat := if q < 0 then -q else q

/-! ### Fluid (R116) -/

/-- Density, specific heat and dynamic viscosity. -/
structure Fluid where
  /-- ρ, kg/m³. -/
  rho : Rat
  /-- c_p, J/(kg·K). -/
  cp : Rat
  /-- µ, Pa·s. -/
  mu : Rat
deriving DecidableEq, Repr

/-- Properties at a temperature in °C and a gauge pressure in Pa: water, or the glycol entry the model names (R116, R289). -/
def fluidAt (m : ModelImage) (s : State) (t p : Rat) : Fluid :=
  let n := fld m.header 0x24 2
  if bit (fld m.header 6 2) 1 && n != 0 then
    let g := tabGet (zeros 64) s.therm.glycol n
    let v := fun (o : Nat) => f32Rat (fld g o 4)
    { rho := poly2 (v 0x0C) (v 0x10) (v 0x14) t, cp := poly2 (v 0x18) (v 0x1C) (v 0x20) t, mu := Config.exp (poly2 (v 0x24) (v 0x28) (v 0x2C) t) }
  else
    let u := roundRat (t * 1000000)
    { rho := Config.waterDensity u (p + 101325), cp := Config.waterHeat u (p + 101325), mu := Config.waterViscosity u (p + 101325) }

/-! ### Rows -/

/-- Parameter n of an element. -/
def elemR (r : Bytes) (n : Nat) : Rat := f32Rat (elemP r n)

/-- A real field of a row. -/
def rowR (r : Bytes) (off : Nat) : Rat := f32Rat (fld r off 4)

/-- ELEVATION of a node. -/
def elevation (m : ModelImage) (n : Nat) : Rat := rowR (m.nodes.getD n []) 4

/-- Cross-section of a pipe. -/
def pipeArea (r : Bytes) : Rat := piRat * rowR r 0x0C * rowR r 0x0C / 4

/-- Volume of a pipe. -/
def pipeVolume (r : Bytes) : Rat := pipeArea r * rowR r 8

/-! ### Hydraulic states -/

/-- Pressure of a node. -/
def Hydro.p (h : Hydro) (n : Nat) : Rat := f64Rat (h.pressures.getD n 0)

/-- Flow of a pipe. -/
def Hydro.pipeQ (h : Hydro) (n : Nat) : Rat := f64Rat (h.pipes.getD n 0)

/-- Flow of an element. -/
def Hydro.elemQ (h : Hydro) (n : Nat) : Rat := f64Rat (h.elements.getD n 0)

/-- Mode of an element. -/
def Hydro.mode (h : Hydro) (n : Nat) : Nat := h.modes.getD n 0

/-! ### Bindings -/

/-- The value of the first GOOD binding of a quantity on a target (R115). -/
def goodOn (m : ModelImage) (al : List Aligned) (q tk target : Nat) : Option Rat :=
  ((m.sensors.zip al).find? (fun e => fld e.1 0 1 == q && fld e.1 1 1 == tk && fld e.1 4 4 == target && e.2.quality == 0)).map (fun e => f32Val e.2.value)

/-- A binding of a quantity on a target exists. -/
def boundOn (m : ModelImage) (q tk target : Nat) : Bool :=
  m.sensors.any (fun r => fld r 0 1 == q && fld r 1 1 == tk && fld r 4 4 == target)

/-- The set-point of an element's drive: of a loop slot, or last reported APPLIED by a field node on channel 0 (R119 step 3; log 25). -/
def driveSetpoint (r : Bytes) (s : State) : Option Rat :=
  let d := fld r 0x0E 2
  match fld r 0x0C 1 with
  | 1 => (tabGet? (tabGet {} s.net.nodes d).applied 0).map f32Val
  | 2 => let l := loopSlot d s; if lKind l.record = 0 then none else some ((l.sp : Rat) * lInLsb l.record)
  | _ => none

/-! ### Laws (R117, R118) -/

/-- Q_ε². -/
def qEps2 : Rat := mkRat 1 (10 ^ 12)

/-- φ(Q). -/
def phi (q : Rat) : Rat := q * rootRat (q * q + qEps2)

/-- dφ ÷ dQ. -/
def phiSlope (q : Rat) : Rat := (2 * q * q + qEps2) / rootRat (q * q + qEps2)

/-- Swamee–Jain. -/
def swamee (rough d re : Rat) : Rat :=
  let l := Config.log10 (rough / (dec 37 1 * d) + dec 574 2 / Config.power re (dec 9 1))
  dec 25 2 / (l * l)

/-- The friction factor (R118). -/
def friction (rough d re : Rat) : Rat :=
  if re ≤ 2000 then 64 / re
  else if 4000 ≤ re then swamee rough d re
  else dec 32 3 + (swamee rough d 4000 - dec 32 3) * (re - 2000) / 2000

/-- What φ(Q) is multiplied by in a pipe's law. -/
def pipeCoef (r : Bytes) (f : Fluid) (q : Rat) : Rat :=
  let d := rowR r 0x0C
  let re := f.rho * absRat q * d / (f.mu * pipeArea r)
  (friction (rowR r 0x10) d re * rowR r 8 / d + rowR r 0x14) * 8 * f.rho / (piRat * piRat * d * d * d * d)

/-- A valve's position (R120). -/
def valvePosition (m : ModelImage) (al : List Aligned) (i : Nat) (r : Bytes) : Rat :=
  match goodOn m al 6 2 i with
  | some v => clampRat (elemR r 3) (elemR r 4) v
  | none => if bit (fld r 1 1) 2 && boundOn m 6 2 i then 0 else elemR r 2

/-- Kv_eff at a position (R120). -/
def kvEff (r : Bytes) (x : Rat) : Rat :=
  if x = 0 then 0
  else match bits (fld r 1 1) 4 3 with
    | 0 => elemR r 0 * x
    | 1 => elemR r 0 * Config.power (elemR r 1) (x - 1)
    | _ => if mkRat 1 2 ≤ x then elemR r 0 else 0

/-- What φ(Q) is multiplied by in a valve's law. -/
def valveCoef (f : Fluid) (kv : Rat) : Rat := 100000 * (f.rho / 1000) * (3600 / kv) * (3600 / kv)

/-- The pump curve at a speed and a flow. -/
def pumpHead (r : Bytes) (sp q : Rat) : Rat := sp * sp * elemR r 0 + sp * elemR r 1 * q - elemR r 2 * q * q

/-- The speed at which a pump gives a differential pressure at a flow (R119). -/
def pumpSpeed (r : Bytes) (dp q : Rat) : Rat :=
  let b := elemR r 1 * q
  (rootRat (b * b + 4 * elemR r 0 * (dp + elemR r 2 * q * q)) - b) / (2 * elemR r 0)

/-! ### Pump modes (R119) -/

/-- What a pump is set to: a speed, or a differential pressure. -/
inductive PumpAim
  /-- SPEED mode at a speed. -/
  | speed (v : Rat)
  /-- DP mode at Δp_set. -/
  | dp (v : Rat)
deriving DecidableEq, Repr

/-- The first of the four rules that applies. -/
def pumpAim (m : ModelImage) (al : List Aligned) (i : Nat) (r : Bytes) (s : State) : PumpAim :=
  match goodOn m al 7 2 i, goodOn m al 2 2 i, driveSetpoint r s with
  | some v, _, _ => .speed v
  | none, some v, _ => .dp (-v)
  | none, none, some v => .dp v
  | none, none, none => .speed 1

/-- Mode and speed of a pump at a flow, its check valve apart. -/
def pumpAt (r : Bytes) (aim : PumpAim) (q : Rat) : Nat × Rat :=
  match aim with
  | .speed v => (0, v)
  | .dp v =>
    let n := pumpSpeed r v q
    if elemR r 4 < n then (0, elemR r 4) else if n < elemR r 3 then (0, elemR r 3) else (1, n)

/-- A pump's mode stands at the solved flow and rise p_B − p_A: it needs no mode switch. -/
def pumpStands (r : Bytes) (aim : PumpAim) (mode : Nat) (q rise : Rat) : Bool :=
  let check := bit (fld r 1 1) 1
  if mode = 2 then
    let n := (pumpAt r aim 0).2
    check && !decide (rise < n * n * elemR r 0)
  else mode == (pumpAt r aim q).1 && !(check && decide (q < 0))

/-! ### Removed edges and isolated parts (R121) -/

/-- A pipe is out of service. -/
def pipeOut (r : Bytes) : Bool := bit (fld r 0x1E 2) 0

/-- An element is removed from the network: out of service, a closed pump, or a valve with Kv_eff 0. -/
def elemOut (m : ModelImage) (al : List Aligned) (modes : List Nat) (i : Nat) (r : Bytes) : Bool :=
  bit (fld r 1 1) 0 || (fld r 0 1 == 5 && modes.getD i 0 == 2) || (fld r 0 1 == 6 && kvEff r (valvePosition m al i r) == 0)

/-- Per node whether it lies in an isolated part. -/
def isolation (m : ModelImage) (elemRemoved : List Bool) : List Bool :=
  let pipes := (m.pipes.filter (fun r => !pipeOut r)).map (fun r => (fld r 0 4, fld r 4 4))
  let live := (m.elements.zip elemRemoved).filter (fun e => !e.2)
  let elems := live.map (fun e => (fld e.1 4 4, fld e.1 8 4))
  let part := relabels (pipes ++ elems) m.nodes.length (List.range m.nodes.length)
  let fed := fun (k : Nat) => live.any (fun e => (fld e.1 0 1 == 3 || fld e.1 0 1 == 4) && part.getD (fld e.1 4 4) 0 == k)
  let held := fun (k : Nat) => (m.nodes.zip part).any (fun e => bit (fld e.1 1 1) 0 && e.2 == k)
  part.map (fun k => !(fed k && held k))

/-! ### A solved network -/

/-- The network of a solve with what its edges need: removed and isolated edges, and fluid properties held fixed (R116, R121). -/
structure Network where
  /-- The model. -/
  m : ModelImage
  /-- Aligned bindings. -/
  al : List Aligned
  /-- Per node whether it is isolated. -/
  isolated : List Bool
  /-- Per pipe whether it carries nothing. -/
  pipeOff : List Bool
  /-- Per element whether it carries nothing. -/
  elemOff : List Bool
  /-- Per pipe its fluid. -/
  pipeFluid : List Fluid
  /-- Per element its fluid. -/
  elemFluid : List Fluid

/-- The mean temperature of a pipe's parcels. -/
def meanTemp (l : List (Nat × Nat)) : Rat :=
  let v := (l.map (fun e => f32Rat e.1)).sum
  if v = 0 then (match l with | [] => 0 | e :: _ => f32Rat e.2) else (l.map (fun e => f32Rat e.1 * f32Rat e.2)).sum / v

/-- The node an element takes its flow from. -/
def inletNode (r : Bytes) (q : Rat) : Nat := if q < 0 then fld r 8 4 else fld r 4 4

/-- The network of a solve: modes as the result has them, temperatures as the thermal state has them, pressures of the start. -/
def network (m : ModelImage) (al : List Aligned) (modes : List Nat) (start : Hydro) (th : Thermal) (s : State) : Network :=
  let out := m.elements.zipIdx.map (fun e => elemOut m al modes e.2 e.1)
  let iso := isolation m out
  let at_ := fun (n : Nat) => iso.getD n false
  { m := m, al := al, isolated := iso
    pipeOff := m.pipes.map (fun r => pipeOut r || at_ (fld r 0 4))
    elemOff := (m.elements.zip out).map (fun e => e.2 || at_ (fld e.1 4 4))
    pipeFluid := m.pipes.zipIdx.map (fun e => fluidAt m s (meanTemp (th.pipes.getD e.2 [])) (start.p (fld e.1 0 4)))
    elemFluid := m.elements.zipIdx.map (fun e => fluidAt m s (f32Rat (th.nodes.getD (inletNode e.1 (start.elemQ e.2)) 0)) (start.p (fld e.1 4 4))) }

/-- Water with no properties, for a row that is not there. -/
def noFluid : Fluid := { rho := 0, cp := 0, mu := 0 }

/-- Fluid of a pipe. -/
def Network.pipeF (w : Network) (i : Nat) : Fluid := w.pipeFluid.getD i noFluid

/-- Fluid of an element. -/
def Network.elemF (w : Network) (i : Nat) : Fluid := w.elemFluid.getD i noFluid

/-- The hydraulic state with every flow of a removed or isolated edge at 0 (R121). -/
def Network.settle (w : Network) (h : Hydro) : Hydro :=
  { h with pipes := (h.pipes.zip w.pipeOff).map (fun e => if e.2 then 0 else e.1), elements := (h.elements.zip w.elemOff).map (fun e => if e.2 then 0 else e.1) }

/-- The deviation of a law edge, Pa: left side less right side of R117; a DP link's deviation from Δp_set; 0 without a law. -/
def Network.elemDeviation (w : Network) (h : Hydro) (i : Nat) (r : Bytes) (s : State) : Rat :=
  let a := fld r 4 4
  let b := fld r 8 4
  let q := h.elemQ i
  let f := w.elemF i
  let lhs := h.p a - h.p b + f.rho * gravity * (elevation w.m a - elevation w.m b)
  match fld r 0 1 with
  | 3 => lhs - elemR r 4 * phi q
  | 6 => lhs - valveCoef f (kvEff r (valvePosition w.m w.al i r)) * phi q
  | 5 =>
    let aim := pumpAim w.m w.al i r s
    (match h.mode i, aim with
      | 1, .dp v => h.p b - h.p a - v
      | _, _ => lhs + pumpHead r (pumpAt r aim q).2 q)
  | _ => 0

/-- The deviation of a pipe from its law, Pa. -/
def Network.pipeDeviation (w : Network) (h : Hydro) (i : Nat) (r : Bytes) : Rat :=
  let a := fld r 0 4
  let b := fld r 4 4
  let f := w.pipeF i
  let q := h.pipeQ i
  h.p a - h.p b + f.rho * gravity * (elevation w.m a - elevation w.m b) - pipeCoef r f q * phi q

/-- Flows in less flows out of every node, m³/s. -/
def massResiduals (m : ModelImage) (h : Hydro) : List Rat :=
  let add := fun (l : List Rat) (a b : Nat) (q : Rat) => let l := l.set a (l.getD a 0 - q); l.set b (l.getD b 0 + q)
  let l := m.pipes.zipIdx.foldl (fun l e => add l (fld e.1 0 4) (fld e.1 4 4) (h.pipeQ e.2)) (m.nodes.map (fun _ => 0))
  m.elements.zipIdx.foldl (fun l e => add l (fld e.1 4 4) (fld e.1 8 4) (h.elemQ e.2)) l

/-- The largest absolute value. -/
def maxAbs (l : List Rat) : Rat := l.foldl (fun a v => max a (absRat v)) 0

/-- MAX_MASS_RESID over the nodes whose balance the Newton solve holds, and MAX_HEAD_RESID (R128, R130). -/
def Network.residuals (w : Network) (h : Hydro) (s : State) : Rat × Rat :=
  let mass := ((massResiduals w.m h).zip (w.m.nodes.zip w.isolated)).filterMap (fun e => if bit (fld e.2.1 1 1) 0 || e.2.2 then none else some e.1)
  let pipes := (w.m.pipes.zipIdx.zip w.pipeOff).filterMap (fun e => if e.2 then none else some (w.pipeDeviation h e.1.2 e.1.1))
  let elems := (w.m.elements.zipIdx.zip w.elemOff).filterMap (fun e => if e.2 then none else some (w.elemDeviation h e.1.2 e.1.1 s))
  (maxAbs mass, maxAbs (pipes ++ elems))

/-- Every pump's mode stands (R130: modes are unchanged). -/
def Network.modesStand (w : Network) (h : Hydro) (s : State) : Bool :=
  w.m.elements.zipIdx.all (fun e =>
    fld e.1 0 1 != 5 || bit (fld e.1 1 1) 0 || (w.isolated.getD (fld e.1 4 4) false && h.mode e.2 != 2) ||
      pumpStands e.1 (pumpAim w.m w.al e.2 e.1 s) (h.mode e.2) (h.elemQ e.2) (h.p (fld e.1 8 4) - h.p (fld e.1 4 4)))

/-- D = 1 ÷ h', with h' at least 1,000 Pa/(m³/s) (R129). -/
def conductance (slope : Rat) : Rat := 1 / max 1000 slope

/-- Conductances of pipes and elements: the hydraulic operator of the sensitivity set (R129, R138). -/
def Network.conductances (w : Network) (h : Hydro) (s : State) : List Rat × List Rat :=
  ((w.m.pipes.zipIdx.zip w.pipeOff).map (fun e => if e.2 then 0 else conductance (pipeCoef e.1.1 (w.pipeF e.1.2) (h.pipeQ e.1.2) * phiSlope (h.pipeQ e.1.2))),
    (w.m.elements.zipIdx.zip w.elemOff).map (fun e =>
      let r := e.1.1
      let i := e.1.2
      let q := h.elemQ i
      if e.2 then 0
      else match fld r 0 1 with
        | 3 => conductance (elemR r 4 * phiSlope q)
        | 6 => conductance (valveCoef (w.elemF i) (kvEff r (valvePosition w.m w.al i r)) * phiSlope q)
        | 5 => if h.mode i = 1 then mkRat 1 10000 else conductance (2 * elemR r 2 * q - (pumpAt r (pumpAim w.m w.al i r s) q).2 * elemR r 1)
        | _ => 0))

/-- LEVEL of an element: speed or position in units of 2⁻¹⁵ (R148). -/
def Network.level (w : Network) (h : Hydro) (i : Nat) (r : Bytes) (s : State) : Nat :=
  let units := fun (v : Rat) => min 65535 (roundRat (v * 32768)).toNat
  match fld r 0 1 with
  | 5 => if h.mode i = 2 then 0 else units (pumpAt r (pumpAim w.m w.al i r s) (h.elemQ i)).2
  | 6 => units (valvePosition w.m w.al i r)
  | _ => 0

end Sys2Proof.Machine
end

