-- ==== Sys2Proof/Machine/Thermal.lean ====
section
/-! DEFINITION. Heat in the zone: parcels, node and outlet temperatures, store layers, the thermal correction and the thermal path
table (R122, R133 to R141). -/

namespace Sys2Proof.Machine
open Sys2Proof

/-! ### Parcels -/

/-- A parcel as numbers: volume and temperature. -/
abbrev Parcel := Rat × Rat

/-- Parcels as numbers. -/
def parcelsIn (l : List (Nat × Nat)) : List Parcel := l.map (fun e => (f32Rat e.1, f32Rat e.2))

/-- Parcels as binary32; an empty one is not kept. -/
def parcelsOut (l : List Parcel) : List (Nat × Nat) := (l.filter (fun e => decide (0 < e.1))).map (fun e => (toF32 e.1, toF32 e.2))

/-- A volume drawn off the head of a queue: what leaves, and what stays. -/
def drawOff : Rat → List Parcel → List Parcel × List Parcel
  | _, [] => ([], [])
  | v, e :: l =>
    if v ≤ 0 then ([], e :: l)
    else if e.1 ≤ v then let r := drawOff (v - e.1) l; (e :: r.1, r.2) else ([(v, e.2)], (e.1 - v, e.2) :: l)

/-- Two parcels as one. -/
def joinParcels (a b : Parcel) : Parcel := (a.1 + b.1, if a.1 + b.1 = 0 then a.2 else (a.1 * a.2 + b.1 * b.2) / (a.1 + b.1))

/-- Adjacent parcels closer than a tolerance are merged (R137). -/
def mergeFrom (tol : Rat) (c : Parcel) : List Parcel → List Parcel
  | [] => [c]
  | e :: l => if absRat (c.2 - e.2) < tol then mergeFrom tol (joinParcels c e) l else c :: mergeFrom tol e l

/-- Merging over a queue. -/
def mergeParcels (tol : Rat) : List Parcel → List Parcel
  | [] => []
  | e :: l => mergeFrom tol e l

/-- The smallest difference between adjacent parcels. -/
def closest : List Parcel → Option Rat
  | a :: b :: l =>
    let d := absRat (a.2 - b.2)
    (match closest (b :: l) with | some x => some (min d x) | none => some d)
  | _ => none

/-- The first adjacent pair of a given difference is merged. -/
def mergeAt (d : Rat) : List Parcel → List Parcel
  | a :: b :: l => if absRat (a.2 - b.2) = d then joinParcels a b :: l else a :: mergeAt d (b :: l)
  | l => l

/-- The two adjacent parcels of closest temperature are merged: no parcel is free (R137). -/
def mergeClosest (l : List Parcel) : List Parcel := match closest l with | none => l | some d => mergeAt d l

/-- Parcels in use. -/
def Thermal.used (t : Thermal) : Nat := (t.pipes.map (·.length)).sum

/-! ### Temperatures of the model -/

/-- GROUND_TEMP. -/
def groundTemp (m : ModelImage) : Rat := rowR m.header 0x28

/-- T_SUPPLY_DESIGN. -/
def supplyDesign (m : ModelImage) : Rat := rowR m.header 0x2C

/-- T_RETURN_DESIGN. -/
def returnDesign (m : ModelImage) : Rat := rowR m.header 0x30

/-- A cooling zone. -/
def cooling (m : ModelImage) : Bool := bit (fld m.header 6 2) 0

/-- Design temperature of a node's net. -/
def netDesign (m : ModelImage) (n : Nat) : Rat := if netOf m n = 0 then supplyDesign m else returnDesign m

/-- T_g of a pipe (R133). -/
def pipeGround (m : ModelImage) (al : List Aligned) (t0 i : Nat) (r : Bytes) : Rat :=
  let g := fld r 0x1C 2
  if g = 0xFFFF then groundTemp m
  else match al[g]? with
    | some a => if a.quality = 2 then Config.groundTemp i t0 else f32Val a.value
    | none => Config.groundTemp i t0

/-- The share of its difference to the ground that a parcel keeps over a time in a pipe (R133). -/
def keeps (r : Bytes) (f : Fluid) (time : Rat) : Rat := Config.exp (-(rowR r 0x18 * time / (f.rho * f.cp * pipeArea r)))

/-! ### The flat start (R141) -/

/-- Design flow of an element: of a SUBSTATION at T_SUPPLY_DESIGN, of a STORE its P5 (R123). -/
def designFlow (m : ModelImage) (r : Bytes) (s : State) : Rat :=
  match fld r 0 1 with
  | 2 => let f := fluidAt m s (supplyDesign m) (rowR m.header 0x34); elemR r 0 / (f.rho * f.cp * elemR r 1)
  | 4 => elemR r 5
  | _ => 0

/-- Pressures hydrostatic from P_REF, flows 0, each SUBSTATION at its design flow (R141). -/
def flatHydro (m : ModelImage) (s : State) : Hydro :=
  let part := parts m
  let ref := fun (k : Nat) => (((m.nodes.zipIdx.filter (fun e => bit (fld e.1 1 1) 0 && part.getD e.2 0 == k)).map (·.2)).head?).getD 0
  let p := rowR m.header 0x34
  { pressures := (List.range m.nodes.length).map (fun i =>
      toF64 (p + (fluidAt m s (netDesign m i) p).rho * gravity * (elevation m (ref (part.getD i 0)) - elevation m i)))
    pipes := m.pipes.map (fun _ => 0)
    elements := m.elements.map (fun r => if fld r 0 1 = 2 then toF64 (designFlow m r s) else 0)
    modes := m.elements.map (fun _ => 0) }

/-- Nodes and pipes at the design temperature of their net, store layers linear between the two (R141). -/
def flatThermal (m : ModelImage) : Thermal :=
  let ts := supplyDesign m
  let tr := returnDesign m
  { pipes := m.pipes.map (fun r => [(toF32 (pipeVolume r), toF32 (netDesign m (fld r 0 4)))])
    nodes := (List.range m.nodes.length).map (fun i => toF32 (netDesign m i))
    elements := m.elements.map (fun r => (toF32 (netDesign m (fld r 4 4)), toF32 (netDesign m (fld r 8 4))))
    stores := (m.elements.zipIdx.filter (fun e => fld e.1 0 1 == 4)).map (fun e => (e.2, (List.range 32).map (fun (i : Nat) => toF32 (tr + (ts - tr) * mkRat i 31))))
    outs := m.pipes.map (fun r => (toF32 (netDesign m (fld r 0 4)), false)) }

/-- Layers of a STORE. -/
def Thermal.layers (t : Thermal) (i : Nat) : List Nat := tabGet (List.replicate 32 0) t.stores i

/-- Temperature of a node. -/
def Thermal.node (t : Thermal) (n : Nat) : Rat := f32Rat (t.nodes.getD n 0)

/-! ### Carrying over at a model swap (R142) -/

/-- The published state carries over: the same numbers of nodes, pipes and elements, and every element keeps its TYPE. -/
def carriesOver (old new : ModelImage) : Bool :=
  slice old.header 0x10 12 == slice new.header 0x10 12 && old.elements.map (fun r => fld r 0 1) == new.elements.map (fun r => fld r 0 1)

/-- Pipes whose LENGTH or DIAMETER changed are refilled at the mean temperature of their end nodes. -/
def refill (old new : ModelImage) (t : Thermal) : Thermal :=
  { t with pipes := ((old.pipes.zip new.pipes).zip t.pipes).map (fun e =>
      let r := e.1.2
      if slice e.1.1 8 8 = slice r 8 8 then e.2 else [(toF32 (pipeVolume r), toF32 ((t.node (fld r 0 4) + t.node (fld r 4 4)) / 2))]) }

/-! ### Store layers (R135) -/

/-- One transfer of a fraction of a layer's volume, downwards when charging, upwards when discharging. -/
def shiftLayers (charge : Bool) (c tin : Rat) (l : List Rat) : List Rat :=
  let from_ := if charge then l.drop 1 ++ [tin] else tin :: l
  (l.zip from_).map (fun e => e.1 + c * (e.2 - e.1))

/-- The shift of |d| Δt of volume: as many equal transfers as keep each within one layer. -/
def shiftBy (charge : Bool) (c tin : Rat) (l : List Rat) : List Rat :=
  let n := max 1 (c.ceil.toNat)
  (List.range n).foldl (fun l _ => shiftLayers charge (c / n) tin l) l

/-- A block of mixed layers enters a stack of blocks, topmost first: it is mixed with the block below while that is warmer. -/
def settleBlock : Rat × Nat → List (Rat × Nat) → List (Rat × Nat)
  | b, [] => [b]
  | b, below :: l => if b.1 / b.2 < below.1 / below.2 then settleBlock (b.1 + below.1, b.2 + below.2) l else b :: below :: l

/-- Layers without a layer warmer than the one above it. -/
def mixLayers (l : List Rat) : List Rat :=
  let blocks := l.foldl (fun st x => settleBlock (x, 1) st) []
  blocks.reverse.flatMap (fun b => List.replicate b.2 (b.1 / b.2))

/-- A store over a step: shift, loss, mixing. -/
def stepStore (r : Bytes) (ground : Rat) (f : Fluid) (d time tin : Rat) (l : List Nat) : List Nat :=
  let v := elemR r 0 / 32
  let x := shiftBy (decide (0 ≤ d)) (absRat d * time / v) tin (l.map f32Rat)
  let y := x.map (fun t => t - elemR r 2 / 32 * (t - ground) * time / (f.rho * f.cp * v))
  (mixLayers y).map toF32

/-! ### One thermal step (R133 to R137) -/

/-- Nodes reached from some nodes. -/
def reachedFrom (edges : List (Nat × Nat)) : Nat → List Nat → List Nat
  | 0, l => l
  | k + 1, l =>
    let new := (edges.filterMap (fun e => if l.contains e.1 && !l.contains e.2 then some e.2 else none)).eraseDups
    if new = [] then l else reachedFrom edges k (l ++ new)

/-- The instantaneous links transported as queues after all: of the links on a cycle the one with the longest residence time, until
no cycle is left (R136). A link is its row, its ends in flow direction, and its residence time. -/
def breakCycles (nodes : Nat) (pass : List (Nat × Nat)) : Nat → List (Nat × (Nat × Nat) × Rat) → List Nat
  | 0, _ => []
  | k + 1, links =>
    let edges := pass ++ links.map (fun e => e.2.1)
    let cyc := links.filter (fun e => (reachedFrom edges nodes [e.2.1.2]).contains e.2.1.1)
    match cyc with
    | [] => []
    | e :: l =>
      let w := l.foldl (fun a b => if a.2.2 < b.2.2 then b else a) e
      w.1 :: breakCycles nodes pass k (links.filter (fun x => x.1 != w.1))

/-- The ends of an edge in flow direction. -/
def flowEnds (a b : Nat) (q : Rat) : Nat × Nat := if q < 0 then (b, a) else (a, b)

/-- The outlet temperature of an element over its inlet's, where it lets flow through; at NODE_B for flow from NODE_A to NODE_B (R134). -/
def outletTemp (w : Network) (th : Thermal) (t0 i : Nat) (r : Bytes) (q : Rat) (s : State) (tin : Rat) : Rat :=
  let f := w.elemF i
  match fld r 0 1 with
  | 2 =>
    if q < 0 then Config.reverseOutlet i t0
    else
      let sign : Rat := if cooling w.m then -1 else 1
      let t := match goodOn w.m w.al 5 2 i with
        | some p => if dec 1 6 ≤ q then tin - sign * p / (f.rho * f.cp * q) else elemR r 5
        | none => elemR r 5
      if cooling w.m then max t tin else min t tin
  | 3 =>
    if q < 0 then Config.reverseOutlet i t0
    else
      let t := match goodOn w.m w.al 3 0 (fld r 8 4), driveSetpoint r s with
        | some v, _ => v
        | none, some v => v
        | none, none => supplyDesign w.m
      clampRat (elemR r 2) (elemR r 3) t
  | 4 => f32Rat ((th.layers i).getD (if q < 0 then 31 else 0) 0)
  | _ => tin

/-- Node temperatures after one pass: the volume-weighted mean of what reaches each node, over fixed arrivals and links; a node
that nothing reaches keeps its temperature (R134). -/
def nodePass (fixed : List (Nat × Parcel)) (links : List (Nat × Nat × Rat × (Rat → Rat))) (t0 t : List Rat) : List Rat :=
  let add := fun (l : List (Rat × Rat)) (n : Nat) (v x : Rat) => let e := l.getD n (0, 0); l.set n (e.1 + v, e.2 + v * x)
  let sums := fixed.foldl (fun l e => add l e.1 e.2.1 e.2.2) (t.map (fun _ => (0, 0)))
  let sums := links.foldl (fun l e => add l e.2.1 e.2.2.1 (e.2.2.2 (t.getD e.1 0))) sums
  (sums.zip t0).map (fun e => if e.1.1 = 0 then e.2 else f64Rat (toF64 (e.1.2 / e.1.1)))

/-- Passes until every temperature along an acyclic flow has settled. -/
def nodePasses (fixed : List (Nat × Parcel)) (links : List (Nat × Nat × Rat × (Rat → Rat))) (t0 : List Rat) : Nat → List Rat → List Rat
  | 0, t => t
  | k + 1, t => nodePasses fixed links t0 k (nodePass fixed links t0 t)

/-- What one pipe does in a step: off or at rest, an instantaneous link, or a queue with what it draws off. -/
inductive PipeStep
  /-- Its parcels rest. -/
  | rest (l : List Parcel)
  /-- Its outlet temperature follows its inlet at once. -/
  | link
  /-- It gives parcels at its outlet and keeps the others, upstream end first. -/
  | queue (out stay : List Parcel)

/-- The thermal step over a time with the flows of a hydraulic state; the merge tolerance is the one now in force (R133 to R137). -/
def thermalStep (w : Network) (h : Hydro) (time tol : Rat) (t0 : Nat) (th : Thermal) (s : State) : Thermal :=
  let m := w.m
  let pipes := m.pipes.zipIdx
  let q := fun (i : Nat) => h.pipeQ i
  let still := fun (i : Nat) => w.pipeOff.getD i false || q i == 0
  let short := fun (e : Bytes × Nat) => !still e.2 && decide (pipeVolume e.1 < absRat (q e.2) * time)
  let pass := (m.elements.zipIdx.filter (fun e => (fld e.1 0 1 == 5 || fld e.1 0 1 == 6) && h.elemQ e.2 != 0)).map (fun e => flowEnds (fld e.1 4 4) (fld e.1 8 4) (h.elemQ e.2))
  let shorts := (pipes.filter short).map (fun e => (e.2, flowEnds (fld e.1 0 4) (fld e.1 4 4) (q e.2), pipeVolume e.1 / absRat (q e.2)))
  let broken := breakCycles m.nodes.length pass shorts.length shorts
  let steps : List PipeStep := pipes.map (fun e =>
    let g := pipeGround m w.al t0 e.2 e.1
    let k := keeps e.1 (w.pipeF e.2) time
    let l := (parcelsIn (th.pipes.getD e.2 [])).map (fun x => (x.1, g + (x.2 - g) * k))
    if still e.2 then .rest l
    else if short e && !broken.contains e.2 then .link
    else
      let d := drawOff (absRat (q e.2) * time) (if q e.2 < 0 then l else l.reverse)
      .queue d.1 d.2.reverse)
  let ends := fun (e : Bytes × Nat) => flowEnds (fld e.1 0 4) (fld e.1 4 4) (q e.2)
  let linkOut := fun (e : Bytes × Nat) (t : Rat) =>
    let g := pipeGround m w.al t0 e.2 e.1
    g + (t - g) * keeps e.1 (w.pipeF e.2) (pipeVolume e.1 / absRat (q e.2))
  let fixed := (pipes.zip steps).flatMap (fun e => match e.2 with | .queue o _ => o.map (fun x => ((ends e.1).2, x)) | _ => [])
  let pipeLinks := (pipes.zip steps).filterMap (fun e => match e.2 with
    | .link => some ((ends e.1).1, (ends e.1).2, absRat (q e.1.2) * time, linkOut e.1)
    | _ => none)
  let elemLinks := m.elements.zipIdx.filterMap (fun e =>
    let d := h.elemQ e.2
    if d = 0 then none
    else
      let ab := flowEnds (fld e.1 4 4) (fld e.1 8 4) d
      some (ab.1, ab.2, absRat d * time, outletTemp w th t0 e.2 e.1 d s))
  let start := th.nodes.map f32Rat
  let nodes := nodePasses fixed (pipeLinks ++ elemLinks) start m.nodes.length start
  let node := fun (n : Nat) => nodes.getD n 0
  let push := fun (acc : Nat × List (List (Nat × Nat)) × List (Nat × Bool)) (e : (Bytes × Nat) × PipeStep) =>
    let r : List Parcel × Option Rat × Bool := match e.2 with
      | .rest l => (l, (if q e.1.2 < 0 then l.head? else l.getLast?).map (·.2), false)
      | .link => let t := linkOut e.1 (node (ends e.1).1); ([(pipeVolume e.1.1, t)], some t, true)
      | .queue o stay =>
        let left := (o.map (·.1)).sum
        let stay := if 524288 ≤ acc.1 then mergeClosest stay else stay
        let l := mergeParcels tol ((left, node (ends e.1).1) :: stay)
        (if q e.1.2 < 0 then l.reverse else l, some (if left = 0 then node (ends e.1).2 else (o.map (fun x => x.1 * x.2)).sum / left), false)
    let l := parcelsOut r.1
    (acc.1 + l.length - (th.pipes.getD e.1.2 []).length, acc.2.1 ++ [l], acc.2.2 ++ [(toF32 (r.2.1.getD 0), r.2.2)])
  let pushed := (pipes.zip steps).foldl push (th.used, [], [])
  { pipes := pushed.2.1
    outs := pushed.2.2
    nodes := nodes.map toF32
    elements := m.elements.zipIdx.map (fun e =>
      let d := h.elemQ e.2
      let tin := node (inletNode e.1 d)
      (toF32 tin, toF32 (outletTemp w th t0 e.2 e.1 d s tin)))
    stores := (m.elements.zipIdx.filter (fun e => fld e.1 0 1 == 4)).map (fun e =>
      let d := h.elemQ e.2
      (e.2, stepStore e.1 (groundTemp m) (w.elemF e.2) d time (node (if d < 0 then fld e.1 8 4 else fld e.1 4 4)) (th.layers e.2))) }

/-! ### The thermal correction (R122) -/

/-- σ_eff² of a binding (R114). -/
def sigmaEff2 (cfg r : Bytes) (a : Aligned) : Rat :=
  let d := f32Rat (fld cfg (0x34 + 4 * (fld r 0 1 - 1)) 4) * mkRat a.age 1000000000
  f32Rat (fld r 0x0C 4) * f32Rat (fld r 0x0C 4) + d * d

/-- The parcel of a pipe at a fraction of its length from FROM_NODE. -/
def parcelAt : Rat → List Parcel → Nat
  | _, [] => 0
  | _, [_] => 0
  | v, e :: l => if v < e.1 then 0 else parcelAt (v - e.1) l + 1

/-- The parcels that lie within a volume of the head of a queue are moved by a temperature. -/
def shiftHead (d : Rat) : Rat → List Parcel → List Parcel
  | _, [] => []
  | v, e :: l => if v ≤ 0 then e :: l else (e.1, e.2 + d) :: shiftHead d (v - e.1) l

/-- The temperature a binding compares with, and the thermal state after a change of it: at a node also the parcels that entered its
outgoing pipes during the last epoch (R122 steps 1 and 4). -/
def thermalTarget (m : ModelImage) (h : Hydro) (epoch : Rat) (r : Bytes) (th : Thermal) : Rat × (Rat → Thermal) :=
  let n := fld r 4 4
  match fld r 1 1 with
  | 0 =>
    let t := th.node n
    (t, fun d => { th with
      nodes := th.nodes.set n (toF32 (t + d))
      pipes := (m.pipes.zipIdx.zip th.pipes).map (fun e =>
        let q := h.pipeQ e.1.2
        if q = 0 ∨ (flowEnds (fld e.1.1 0 4) (fld e.1.1 4 4) q).1 ≠ n then e.2
        else
          let l := if q < 0 then e.2.reverse else e.2
          let l := parcelsOut (shiftHead d (absRat q * epoch) (parcelsIn l))
          if q < 0 then l.reverse else l) })
  | 1 =>
    let l := parcelsIn (th.pipes.getD n [])
    let k := parcelAt (rowR r 0x18 * (l.map (·.1)).sum) l
    let e := l.getD k (0, 0)
    (e.2, fun d => { th with pipes := th.pipes.set n (parcelsOut (l.set k (e.1, e.2 + d))) })
  | _ =>
    let k := min 31 (floorNat (rowR r 0x18 * 32))
    let l := th.layers n
    let t := f32Rat (l.getD k 0)
    (t, fun d => { th with stores := tabSet th.stores n (l.set k (toF32 (t + d))) })

/-- The correction by every GOOD TEMPERATURE binding in row order: a binding whose test ratio exceeds BAD_DATA_THRESHOLD is SUSPECT
and corrects nothing; the rows found SUSPECT are listed. -/
def correct (m : ModelImage) (cfg : Bytes) (h : Hydro) (sigmaM epoch : Rat) (al : List Aligned) (th : Thermal) : Thermal × List Nat :=
  (m.sensors.zip al).zipIdx.foldl (fun acc e =>
    let r := e.1.1
    let a := e.1.2
    if fld r 0 1 ≠ 3 ∨ a.quality ≠ 0 then acc
    else
      let g := thermalTarget m h epoch r acc.1
      let d := f32Val a.value - g.1
      let se := sigmaEff2 cfg r a
      let v := sigmaM * sigmaM + se
      let b := f32Rat (fld cfg 0x1C 4)
      if b * b * v < d * d then (acc.1, acc.2 ++ [e.2]) else (g.2 (sigmaM * sigmaM / v * d), acc.2)) (th, [])

/-! ### The thermal path table (R139) -/

/-- Path entries at a node: source, fraction, delay and gain, and the fraction left over. -/
abbrev Paths := List (Nat × Rat × Rat × Rat) × Rat

/-- Entries that meet at a node with the flows that bring them: those of one source are combined, the four largest fractions kept. -/
def joinPaths (l : List (Rat × Paths)) : Paths :=
  let q := (l.map (·.1)).sum
  if q = 0 then ([], 0)
  else
    let all := l.flatMap (fun e => e.2.1.map (fun x => (e.1, x)))
    let sources := (all.map (fun e => e.2.1)).eraseDups
    let one := fun (k : Nat) =>
      let mine := all.filter (fun e => e.2.1 == k)
      let w := (mine.map (·.1)).sum
      let mean := fun (g : Rat × Rat × Rat → Rat) => (mine.map (fun e => e.1 * g e.2.2)).sum / w
      (k, (mine.map (fun e => e.1 * e.2.2.1)).sum / q, mean (fun x => x.2.1), mean (fun x => x.2.2))
    let sorted := (sources.map one).mergeSort (fun a b => decide (b.2.1 ≤ a.2.1))
    (sorted.take 4, (l.map (fun e => e.1 * e.2.2)).sum / q + ((sorted.drop 4).map (fun e => e.2.1)).sum)

/-- Path entries of every node after one pass over the edges that carry a path: from, to, flow, delay and gain, or a source. -/
def pathPass (edges : List (Nat × Nat × Rat × Rat × Rat)) (sources : List (Nat × Nat × Rat)) (t : List Paths) : List Paths :=
  (List.range t.length).map (fun n =>
    let own := (sources.filter (fun e => e.2.1 == n)).map (fun e => (e.2.2, (([(e.1, 1, 0, 1)], 0) : Paths)))
    let ins := (edges.filter (fun e => e.2.1 == n)).map (fun e =>
      let p := t.getD e.1 ([], 0)
      (e.2.2.1, ((p.1.map (fun x => (x.1, x.2.1, x.2.2.1 + e.2.2.2.1, x.2.2.2 * e.2.2.2.2)), p.2) : Paths)))
    joinPaths (own ++ ins))

/-- Passes over every node. -/
def pathPasses (edges : List (Nat × Nat × Rat × Rat × Rat)) (sources : List (Nat × Nat × Rat)) : Nat → List Paths → List Paths
  | 0, t => t
  | k + 1, t => pathPasses edges sources k (pathPass edges sources t)

/-- The thermal path table of the nodes that are supply nodes of a SUBSTATION or critical points (R138, R139). -/
def pathTable (w : Network) (h : Hydro) : Tab (List PathEntry × Nat) :=
  let m := w.m
  let least := dec 1 6
  let pipes := m.pipes.zipIdx.filterMap (fun e =>
    let q := absRat (h.pipeQ e.2)
    if q < least then none
    else
      let ab := flowEnds (fld e.1 0 4) (fld e.1 4 4) (h.pipeQ e.2)
      let f := w.pipeF e.2
      some (ab.1, ab.2, q, pipeVolume e.1 / q, Config.exp (-(rowR e.1 0x18 * rowR e.1 8 / (f.rho * f.cp * q)))))
  let through := m.elements.zipIdx.filterMap (fun e =>
    let q := h.elemQ e.2
    if absRat q < least ∨ ¬(fld e.1 0 1 = 5 ∨ fld e.1 0 1 = 6) then none
    else let ab := flowEnds (fld e.1 4 4) (fld e.1 8 4) q; some (ab.1, ab.2, absRat q, 0, 1))
  let sources := m.elements.zipIdx.filterMap (fun e =>
    let q := h.elemQ e.2
    if fld e.1 0 1 = 3 ∧ least ≤ q then some (e.2, fld e.1 8 4, q)
    else if fld e.1 0 1 = 4 ∧ q ≤ -least then some (e.2, fld e.1 4 4, -q) else none)
  let t := pathPasses (pipes ++ through) sources m.nodes.length (m.nodes.map (fun _ => ([], 0)))
  let wanted := (m.nodes.zipIdx.filter (fun e => bit (fld e.1 1 1) 1 || m.elements.any (fun r => fld r 0 1 == 2 && fld r 4 4 == e.2))).map (·.2)
  wanted.map (fun n =>
    let p := t.getD n ([], 0)
    (n, p.1.map (fun x => { source := x.1, frac := toF32 x.2.1, delay := toF32 x.2.2.1, gain := toF32 x.2.2.2 }), toF32 p.2))

end Sys2Proof.Machine
end

