-- ==== Sys2Proof/Machine/Solver.lean ====
section
/-! DEFINITION. The solve epoch: aligning measurements, starting a solve, its outcome and publication, warm starts, and the
Solver class (R105 to R150). -/

namespace Sys2Proof.Machine
open Sys2Proof

/-! ### Solver state (R111, R147) -/

/-- SOLVER_STATE: 0 IDLE, 1 RUNNING, 2 PARKED, 3 REPLICA, 4 FAULTED. -/
def solverState (s : State) : Nat :=
  if s.solver.faulted then 4
  else if s.win.role = .standby then 3
  else if s.model.active.isNone then 0
  else if s.win.power ≠ .active then 2
  else if s.solver.run.isSome then 1 else 0

/-- A solve may start at an epoch instant (R108, R111). -/
def solverRuns (s : State) : Bool :=
  !s.solver.faulted && s.win.role != .standby && s.model.active.isSome && s.win.power == .active && driving s && !safeStart s

/-- The running solve is abandoned unpublished and the Erg goes back to the optimiser (R143). -/
def abandonSolve (s : State) : State :=
  { s with solver := { s.solver with run := none }, opt := { s.opt with suspended := false } }

/-! ### Aligning measurements (R113 to R115) -/

/-- The sample of a source that serves an epoch instant. -/
def alignedSample (kind src t0 : Nat) (s : State) : Option Reading :=
  match kind with
  | 0 =>
    (match (tabGet [] (tabGet {} s.net.nodes (src % 65536)).samples (src / 65536)).find? (fun x => decide (x.stamp ≤ t0) && decide (x.rx < t0)) with
      | none => none
      | some x => some (readF32 x.value x.stamp (x.quality != 0 || decide (x.rx + 100000 < x.stamp))))
  | _ =>
    (match sensorReading kind src s with
      | none => none
      | some x => if (if kind = 5 ∨ kind = 6 then x.stamp < t0 else x.stamp ≤ t0) then some x else none)

/-- A binding's value, age and quality at an epoch instant. -/
def alignBinding (t0 : Nat) (s : State) (r : Bytes) (row : Nat) : Aligned :=
  let excluded := bit (fld r 3 1) 0
  match alignedSample (fld r 2 1) (fld r 8 4) t0 s with
  | none => { value := 0, age := 0xFFFFFFFF * 1000000, quality := if excluded then 1 else 2 }
  | some x =>
    let age := t0 - x.stamp
    let quality :=
      if excluded then 1
      else if fld s.solver.cfg 4 2 * epochNs s < age then 3
      else if x.bad || !f32Finite x.raw then 4
      else if (tabGet? s.solver.quarantine row).isSome then 6 else 0
    { value := toF32 (rowR r 0x10 * x.x + rowR r 0x14), age := age, quality := quality }

/-! ### The epoch instant (R29, R109, R141 to R146) -/

/-- A pending configuration takes effect at the epoch instant it waits for; the epochs are counted on the new grid from there. -/
def applySolverConfig (s : State) : State :=
  match s.solver.pend with
  | none => s
  | some (b, t) =>
    if s.zone < t then s
    else
      let s := { s with solver := { s.solver with cfg := b, pend := none } }
      { s with solver := { s.solver with lastEpoch := if epochNs s = 0 then 0 else s.zone / epochNs s } }

/-- A warm start ends with a reason. -/
def endWarm (reason : Nat) (s : State) : State :=
  match s.solver.warm with
  | none => s
  | some w => opFail w.entry reason { s with solver := { s.solver with warm := none } }

/-- The solver at a model swap: quarantine ends, and the state is carried over or the next solve starts flat (R126, R142, R149). -/
def solverSwap (old : Option ModelImage) (new : ModelImage) (s : State) : State :=
  let s := endWarm 0x25 { s with solver := { s.solver with suspect := [], quarantine := [], warmIter := none, sens := none } }
  match old with
  | some o =>
    if carriesOver o new then { s with solver := { s.solver with thermal := s.solver.thermal.map (refill o new) } }
    else
      let bare := fun (p : PubState) => { p with nodes := [], pipes := [], elements := [], bindings := [], stores := [] }
      { s with solver := { s.solver with flatNext := true, hydro := none, iter := none, thermal := none, history := [], pub := s.solver.pub.map bare, prev := s.solver.prev.map bare } }
  | none => { s with solver := { s.solver with flatNext := true } }

/-- An epoch instant during a running solve is skipped, counted and recorded; the plan yields (R29, R39, R181). -/
def skipEpoch (t0 : Nat) (s : State) : State :=
  match s.solver.run with
  | none => s
  | some r =>
    let s := emit 0x0501 [t0] { s with solver := { s.solver with skipped := (s.solver.skipped + 1) % 2 ^ 32, run := some { r with overran := true } } }
    let s := if r.overran then s else yieldRow 6 (2 ^ 4) (2 ^ 6) s
    if s.opt.plan.isSome then planYield 4 s else s

/-- A solve starts: measurements are aligned, and it begins from the flat start, a warm start's iterate, the last iterate or the
last published state (R109, R112, R141, R143). -/
def startSolve (t0 : Nat) (m : ModelImage) (s : State) : State :=
  let flat := s.solver.flatNext
  let th := if flat then none else s.solver.thermal
  let from_ := s.solver.warmIter.or (if flat then none else s.solver.iter.or s.solver.hydro)
  let al := m.sensors.zipIdx.map (fun e => alignBinding t0 s e.1 e.2)
  { s with solver := { s.solver with
      run := some { t0 := t0, aligned := al, startedAt := s.tb.now, flat := flat }
      attempt := t0, warmIter := none, flatNext := false
      iter := some (from_.getD (flatHydro m s))
      thermal := some (th.getD (flatThermal m))
      thermTo := if th.isNone then t0 else s.solver.thermTo } }

/-! ### Deadlines of a solve (R109, R124, R130) -/

/-- ESTIMATION_DEADLINE (R124): due at t0 + 80 ms; it arises only while estimation still runs. -/
def execEstimationDeadline (dt : Nat) (s : State) : Host.Outcome State Fault Refusal :=
  let s := advance dt s
  .next (match s.solver.run with
    | none => s
    | some r => if s.zone < r.t0 + 80000000 then s else { s with solver := { s.solver with run := some { r with estLimit := true } } })

/-- NEWTON_DEADLINE (R130): due at t0 + 120 ms; it arises only while the Newton solve still runs. -/
def execNewtonDeadline (dt : Nat) (s : State) : Host.Outcome State Fault Refusal :=
  let s := advance dt s
  .next (match s.solver.run with
    | none => s
    | some r => if s.zone < r.t0 + 120000000 then s else { s with solver := { s.solver with run := some { r with newtonOver := true } } })

/-! ### The replicated model state (R32; log 25) -/

/-- A MODEL_STATE item: the published records, the thermal horizon and the parcels. -/
def modelStateItem (p : PubState) (thermTo : Nat) (th : Thermal) : Bytes :=
  le 8 p.epoch ++ le 8 thermTo ++ p.nodes.flatten ++ p.pipes.flatten ++ p.elements.flatten ++ p.bindings.flatten ++ p.stores.flatten ++
    th.pipes.flatMap (fun l => le 2 l.length ++ l.flatMap (fun e => le 4 e.1 ++ le 4 e.2))

/-- The parcels of pipes as an item spells them. -/
def readParcels : Nat → Bytes → List (List (Nat × Nat))
  | 0, _ => []
  | k + 1, b =>
    let n := fld b 0 2
    (chunks 8 n (b.drop 2)).map (fun e => (fld e 0 4, fld e 4 4)) :: readParcels k (b.drop (2 + 8 * n))

/-- A standby takes over the replicated model state (R32, R111, R112). -/
def takeModelState (b : Bytes) (s : State) : State :=
  match s.model.active with
  | none => s
  | some m =>
    let stores := (m.elements.zipIdx.filter (fun e => fld e.1 0 1 == 4)).map (·.2)
    let part := fun (acc : List (List Bytes) × Bytes) (e : Nat × Nat) => (acc.1 ++ [chunks e.1 e.2 acc.2], acc.2.drop (e.1 * e.2))
    let r := [(16, m.nodes.length), (16, m.pipes.length), (16, m.elements.length), (16, m.sensors.length), (128, stores.length)].foldl part ([], b.drop 16)
    let at_ := fun (k : Nat) => r.1.getD k []
    let p : PubState := { epoch := fld b 0 8, nodes := at_ 0, pipes := at_ 1, elements := at_ 2, bindings := at_ 3, stores := at_ 4 }
    let temp := fun (n : Nat) => fld (p.nodes.getD n []) 4 4
    let h : Hydro :=
      { pressures := p.nodes.map (fun e => f32to64 (fld e 0 4)), pipes := p.pipes.map (fun e => f32to64 (fld e 0 4))
        elements := p.elements.map (fun e => f32to64 (fld e 0 4)), modes := (p.elements.zip m.elements).map (fun e => if fld e.2 0 1 = 5 then fld e.1 0x0C 1 else 0) }
    let th : Thermal :=
      { pipes := readParcels m.pipes.length r.2, nodes := p.nodes.map (fun e => fld e 4 4), outs := p.pipes.map (fun e => (fld e 8 4, bit (fld e 0x0E 2) 1))
        elements := (p.elements.zip m.elements).map (fun e => (temp (inletNode e.2 (f32Val (fld e.1 0 4))), fld e.1 8 4))
        stores := (stores.zip p.stores).map (fun e => (e.1, (chunks 4 32 e.2).map leNat)) }
    { s with solver := { s.solver with prev := s.solver.pub, pub := some p, hydro := some h, iter := some h, thermal := some th, thermTo := fld b 8 8, flatNext := false } }

/-! ### The end of a solve (R110, R122 to R142) -/

/-- The hydraulic state a result spells. -/
def hydroOf (r : SolveResult) : Hydro := { pressures := r.pressures, pipes := r.pipes, elements := r.elements, modes := r.modes }

/-- A result has a finite value for every node, pipe and element. -/
def resultFits (m : ModelImage) (r : SolveResult) : Bool :=
  r.pressures.length == m.nodes.length && r.pipes.length == m.pipes.length && r.elements.length == m.elements.length &&
    r.modes.length == m.elements.length && (r.pressures ++ r.pipes ++ r.elements).all f64Finite

/-- The bindings a bad-data round may remove: GOOD terms of J, at most one a round (R125). -/
def badData (m : ModelImage) (cfg : Bytes) (al : List Aligned) (l : List Nat) : List Nat :=
  (l.filter (fun k => [1, 2, 4, 5].contains (fld (m.sensors.getD k []) 0 1) && (al[k]?).any (fun a => a.quality == 0))).take (fld cfg 0x20 1)

/-- Bindings marked with a quality. -/
def markBindings (q : Nat) (rows : List Nat) (al : List Aligned) : List Aligned :=
  al.zipIdx.map (fun e => if rows.contains e.2 then { e.1 with quality := q } else e.1)

/-- The node that shows whether a binding's target is isolated. -/
def targetNode (m : ModelImage) (r : Bytes) : Nat :=
  let n := fld r 4 4
  match fld r 1 1 with
  | 0 => n
  | 1 => fld (m.pipes.getD n []) 0 4
  | _ => fld (m.elements.getD n []) 4 4

/-- A SUBSTATION or STORE without a GOOD VOLUME_FLOW or HEAT_POWER binding of its own (R127). -/
def pseudoOnly (m : ModelImage) (al : List Aligned) (i : Nat) (r : Bytes) : Bool :=
  (fld r 0 1 == 2 || fld r 0 1 == 4) && (goodOn m al 4 2 i).isNone && (goodOn m al 5 2 i).isNone

/-- What a finished solve leaves before its outcome is known. -/
structure Solved where
  /-- Its network. -/
  w : Network
  /-- Its hydraulic state. -/
  h : Hydro
  /-- Bindings with their final quality. -/
  al : List Aligned
  /-- The thermal state at t0, uncorrected. -/
  th0 : Thermal
  /-- The thermal state at t0, corrected. -/
  th1 : Thermal
  /-- The hydraulic state whose flows were last published. -/
  flows : Hydro
  /-- MAX_MASS_RESID and MAX_HEAD_RESID. -/
  resid : Rat × Rat
  /-- It converged (R130). -/
  converged : Bool

/-- The epoch length in s. -/
def epochS (s : State) : Rat := mkRat (epochNs s) 1000000000

/-- MERGE_TOL_NOW, K (R137). -/
def mergeTolNow (s : State) : Rat := f32Rat (fld s.solver.cfg 0x30 4) * s.solver.tolMul

/-- A solve worked through with what its numerical part found: the gap is made up, the thermal correction made, bad data removed,
and the result held against the network's laws (R112, R121, R122, R125, R130). -/
def workThrough (m : ModelImage) (r : Solve) (x : SolveResult) (s : State) : Solved :=
  let cfg := s.solver.cfg
  let start := s.solver.iter.getD (flatHydro m s)
  let flows := s.solver.hydro.getD { start with elements := start.elements.map (fun _ => 0) }
  let th := s.solver.thermal.getD (flatThermal m)
  let gap := r.t0 - s.solver.thermTo
  let th0 := if gap = 0 then th else thermalStep (network m r.aligned flows.modes flows th s) flows (mkRat gap 1000000000) (mergeTolNow s) r.t0 th s
  let sigma := if 10 * epochNs s < gap then 100 else f32Rat (fld cfg 0x2C 4)
  let c := correct m cfg flows sigma (epochS s) r.aligned th0
  let al1 := markBindings 5 c.2 r.aligned
  let al2 := markBindings 5 (badData m cfg al1 x.suspects) al1
  let w := network m al2 x.modes start c.1 s
  let h := w.settle (hydroOf x)
  let lost := (m.sensors.zipIdx.filter (fun e => w.isolated.getD (targetNode m e.1) false)).map (·.2)
  let resid := w.residuals h s
  { w := w, h := h, al := markBindings 7 lost al2, th0 := th0, th1 := c.1, flows := flows, resid := resid
    converged := !r.newtonOver && resultFits m x && decide (x.newtonIter ≤ fld cfg 0x0E 2) && (x.frozen || w.modesStand h s) &&
      decide (resid.1 ≤ f32Rat (fld cfg 0x14 4)) && decide (resid.2 ≤ f32Rat (fld cfg 0x18 4)) }

/-- The node records (R148). -/
def nodeRecords (v : Solved) (th : Thermal) : List Bytes :=
  let mass := massResiduals v.w.m v.h
  (v.w.m.nodes.zipIdx.zip v.w.isolated).map (fun e =>
    let r := e.1.1
    let i := e.1.2
    let p := toF32 (v.h.p i)
    let crit := bit (fld r 1 1) 1 && !e.2 && (decide (f32Rat p < rowR r 8) || decide (rowR r 0x0C < f32Rat p))
    le 4 (if e.2 then qNaN else p) ++ le 4 (th.nodes.getD i 0) ++ le 4 (if e.2 then 0 else toF32 (mass.getD i 0)) ++ le 2 (bitAt 0 e.2 + bitAt 1 crit) ++ zeros 2)

/-- The pressure difference of two nodes as a record gives it. -/
def dpField (v : Solved) (a b : Nat) : Bytes :=
  le 4 (if v.w.isolated.getD a false || v.w.isolated.getD b false then qNaN else toF32 (v.h.p a - v.h.p b))

/-- The pipe records (R148). -/
def pipeRecords (v : Solved) (th : Thermal) : List Bytes :=
  v.w.m.pipes.zipIdx.map (fun e =>
    let out := th.outs.getD e.2 (0, false)
    le 4 (toF32 (v.h.pipeQ e.2)) ++ dpField v (fld e.1 0 4) (fld e.1 4 4) ++ le 4 out.1 ++ le 2 (min 65535 (th.pipes.getD e.2 []).length) ++
      le 2 (bitAt 0 (v.w.isolated.getD (fld e.1 0 4) false) + bitAt 1 out.2))

/-- DP_SHORT of an element (R132). -/
def dpShort (v : Solved) (i : Nat) (r : Bytes) : Bool :=
  fld r 0 1 == 2 && !v.w.isolated.getD (fld r 4 4) false && decide (0 < v.h.elemQ i) && decide (v.h.p (fld r 4 4) - v.h.p (fld r 8 4) < elemR r 3)

/-- MODE of an element as a record gives it: a valve with Kv_eff 0 is CLOSED (R148). -/
def modeField (v : Solved) (i : Nat) (r : Bytes) : Nat :=
  if fld r 0 1 = 5 then v.h.mode i
  else if fld r 0 1 = 6 then b2n (kvEff r (valvePosition v.w.m v.w.al i r) == 0) else 0

/-- The element records (R148). -/
def elementRecords (v : Solved) (th : Thermal) (s : State) : List Bytes :=
  v.w.m.elements.zipIdx.map (fun e =>
    let r := e.1
    let i := e.2
    le 4 (toF32 (v.h.elemQ i)) ++ dpField v (fld r 4 4) (fld r 8 4) ++ le 4 (th.elements.getD i (0, 0)).2 ++ le 1 (modeField v i r) ++
      le 1 (bitAt 0 (v.w.isolated.getD (fld r 4 4) false) + bitAt 1 (pseudoOnly v.w.m v.al i r) + bitAt 2 (dpShort v i r)) ++ le 2 (v.w.level v.h i r s))

/-- The binding records (R148). -/
def bindingRecords (v : Solved) (residuals : List Nat) (s : State) : List Bytes :=
  v.al.zipIdx.map (fun e =>
    le 4 e.1.value ++ le 4 (residuals.getD e.2 0) ++ le 4 (min 0xFFFFFFFF (e.1.age / 1000000)) ++ le 1 e.1.quality ++
      le 1 (min 255 (tabGet 0 s.solver.suspect e.2)) ++ zeros 2)

/-- The store records (R148). -/
def storeRecords (th : Thermal) : List Bytes := th.stores.map (fun e => e.2.flatMap (le 4))

/-- The sensitivity set of a published solve (R138). -/
def sensOf (v : Solved) (t0 : Nat) (s : State) : Sens :=
  let d := v.w.conductances v.h s
  let subs := v.w.m.elements.zipIdx.filter (fun e => fld e.1 0 1 == 2)
  { epoch := t0, pipes := d.1.map toF64, elements := d.2.map toF64, paths := pathTable v.w v.h
    response := subs.map (fun e =>
      let t := v.th1.elements.getD e.2 (0, 0)
      (e.2, toF32 (-(v.h.elemQ e.2) / max 1 (absRat (f32Rat t.1 - f32Rat t.2))))) }

/-- SUSPECT is counted over published solves; a binding that reaches SUSPECT_EPOCHS becomes QUARANTINED (R126). -/
def countSuspect (s : State) (e : Aligned × Nat) : State :=
  if e.1.quality = 0 then { s with solver := { s.solver with suspect := tabErase s.solver.suspect e.2 } }
  else if e.1.quality = 5 then
    let n := tabGet 0 s.solver.suspect e.2 + 1
    let s := { s with solver := { s.solver with suspect := tabSet s.solver.suspect e.2 n } }
    if n < fld s.solver.cfg 0x21 1 then s else emit 0x0504 [e.2] { s with solver := { s.solver with quarantine := tabSet s.solver.quarantine e.2 s.tb.now } }
  else s

/-- The merge tolerance after a step, and whether the pool is high (R137). -/
def poolRule (used mul : Nat) : Nat × Bool :=
  if 471859 < used then (min 16 (2 * mul), true) else if used < 262144 then (max 1 (mul / 2), false) else (mul, false)

/-- The history of the stores gains a sample at an epoch instant that is a multiple of 60 s; 7 days are kept (R165). -/
def keepHistory (t0 : Nat) (h : Hydro) (th : Thermal) (s : State) : State :=
  if t0 % 60000000000 ≠ 0 then s
  else { s with solver := { s.solver with history := th.stores.foldl (fun t e =>
      let l := tabGet [] t e.1 ++ [(t0, e.2.flatMap (le 4) ++ le 4 (toF32 (h.elemQ e.1)))]
      tabSet t e.1 (l.drop (l.length - 10080))) s.solver.history } }

/-- The state, the status, the sensitivity set and the replication record are published at one instant (R110, R132, R138, R148). -/
def publishSolve (r : Solve) (x : SolveResult) (v : Solved) (s : State) : State :=
  let th := thermalStep v.w v.h (epochS s) (mergeTolNow s) r.t0 v.th1 s
  let pool := poolRule th.used s.solver.tolMul
  let s := v.al.zipIdx.foldl countSuspect s
  let m := v.w.m
  let p : PubState := { epoch := r.t0, nodes := nodeRecords v th, pipes := pipeRecords v th, elements := elementRecords v th s, bindings := bindingRecords v x.residuals s, stores := storeRecords th }
  let count := fun (q : Nat) => (v.al.filter (fun a => a.quality == q)).length
  let j := f32Val x.j
  let dof := count 0
  let high := decide ((dof : Rat) < j) && decide (18 * (dof : Rat) < (j - dof) * (j - dof))
  let shorts := (m.elements.zipIdx.filter (fun e => dpShort v e.2 e.1)).length
  let pseudo := m.elements.zipIdx.any (fun e => pseudoOnly m v.al e.2 e.1)
  let crit := p.nodes.any (fun b => bit (fld b 0x0C 2) 1)
  let iso := (v.w.isolated.filter (·)).length
  let lim := r.estLimit || x.estLimit
  let flags := bitAt 0 lim + bitAt 1 (decide (0 < count 5)) + bitAt 2 high + bitAt 3 (decide (0 < iso)) + bitAt 4 pseudo + bitAt 5 (decide (0 < shorts)) +
    bitAt 7 crit + bitAt 8 x.frozen + bitAt 9 pool.2
  let s := keepHistory r.t0 v.h th s
  let s := { s with
    solver := { s.solver with
      outcome := if lim then 2 else 1, flags := flags, estIter := x.estIter, newtonIter := x.newtonIter, cgIter := x.cgIter
      massResid := toF32 v.resid.1, headResid := toF32 v.resid.2, jFinal := x.j, dof := dof, bindCounts := [count 0, count 3, count 5, count 6]
      nodesIsolated := iso, dpShort := shorts, parcels := th.used, tolMul := pool.1, times := x.times, consec := 0
      published := (s.solver.published + 1) % 2 ^ 32, prev := s.solver.pub, pub := some p, hydro := some v.h, iter := some v.h
      thermal := some th, thermTo := r.t0 + epochNs s, sens := some (sensOf v r.t0 s) }
    opt := { s.opt with solved := true } }
  (replicate 0x14 false (modelStateItem p s.solver.thermTo th) s).1

/-- A solve that did not converge: the parcels move on with the last published flows; after NONCONV_LIMIT in a row the next solve
starts flat (R140, R141). -/
def failSolve (r : Solve) (x : SolveResult) (v : Solved) (s : State) : State :=
  let w := network v.w.m r.aligned v.flows.modes v.flows v.th0 s
  let th := thermalStep w v.flows (epochS s) (mergeTolNow s) r.t0 v.th0 s
  let n := s.solver.consec + 1
  let lim := max 1 (fld s.solver.cfg 0x50 2)
  let flat := n % lim == 0
  let pool := poolRule th.used s.solver.tolMul
  let s := { s with solver := { s.solver with
    outcome := 3, consec := n % 65536, notConverged := (s.solver.notConverged + 1) % 2 ^ 32, estIter := x.estIter, newtonIter := x.newtonIter, cgIter := x.cgIter
    massResid := toF32 v.resid.1, headResid := toF32 v.resid.2, times := x.times, flags := bitAt 0 (r.estLimit || x.estLimit) + bitAt 6 flat + bitAt 8 x.frozen + bitAt 9 pool.2
    iter := if resultFits v.w.m x then some v.h else s.solver.iter, thermal := some th, thermTo := r.t0 + epochNs s, tolMul := pool.1, flatNext := flat } }
  let s := emit 0x0502 [n] s
  let s := if flat then emit 0x0503 [] s else s
  if s.opt.plan.isSome then planYield 4 s else s

/-- SOLVE_COMPLETE (R110, R140): the numerical part of the running solve has ended. -/
def execSolveComplete (dt : Nat) (result : SolveResult) (s : State) : Host.Outcome State Fault Refusal :=
  let s := advance dt s
  .next (match s.solver.run, s.model.active with
    | some r, some m =>
      let v := workThrough m r result s
      let s := abandonSolve s
      let s := { s with opt := { s.opt with solveTimes := (s.opt.solveTimes ++ [result.times.getD 4 0]).drop (s.opt.solveTimes.length - 9) } }
      if v.converged then publishSolve r result v s else failSolve r result v s
    | _, _ => s)

/-! ### Scratch errors and quarantine (R108, R126) -/

/-- A cell is replaced by a spare; with none left the solver is FAULTED. -/
def replaceCell (s : State) : State :=
  if s.solver.spares = 0 then emit 0x0506 [] { s with solver := { s.solver with faulted := true } }
  else emit 0x0505 [s.solver.spares - 1] { s with solver := { s.solver with spares := s.solver.spares - 1 } }

/-- An uncorrectable error in the running solve: it is discarded and restarted once from the same aligned measurements. -/
def solveError (s : State) : State :=
  match s.solver.run with
  | none => s
  | some r =>
    let t := replaceCell s
    if t.solver.faulted || r.restarted then abandonSolve { t with solver := { t.solver with outcome := 4 } }
    else { t with solver := { t.solver with hwRetries := (t.solver.hwRetries + 1) % 2 ^ 32, run := some { r with restarted := true, estLimit := false, newtonOver := false } } }

/-- A binding is released from quarantine. -/
def releaseBinding (n : Nat) (s : State) : State :=
  { s with solver := { s.solver with quarantine := tabErase s.solver.quarantine n, suspect := tabErase s.solver.suspect n } }

/-- QUARANTINE_EXPIRY (R126): due QUARANTINE_S after the binding was quarantined. -/
def execQuarantineExpiry (dt binding : Nat) (s : State) : Host.Outcome State Fault Refusal :=
  let s := advance dt s
  .next (match tabGet? s.solver.quarantine binding with
    | none => s
    | some t => if s.tb.now < t + fld s.solver.cfg 0x22 2 * 1000000000 then s else releaseBinding binding s)

/-! ### Warm starts (R149) -/

/-- WARM_START_COMPLETE (R149): DONE on convergence, FAILED once WARM_MAX_ITER items have passed without it. -/
def execWarmStartComplete (dt : Nat) (result : WarmResult) (s : State) : Host.Outcome State Fault Refusal :=
  let s := advance dt s
  .next (match s.solver.warm with
    | none => s
    | some w =>
      let cfg := s.solver.cfg
      let lim := fld cfg 0x54 2
      let ok := result.converged && decide (result.iterations ≤ lim) && decide (f32Val result.mass ≤ f32Rat (fld cfg 0x14 4)) && decide (f32Val result.head ≤ f32Rat (fld cfg 0x18 4))
      let s := progressTo w.entry result.iterations s
      if ok then
        opDone w.entry (le 4 result.iterations ++ le 4 result.mass ++ le 4 result.head) { s with solver := { s.solver with warm := none, warmIter := some (hydroOf result.result) } }
      else if lim ≤ result.iterations then endWarm 0x24 s else s)

/-! ### Commands (R144 to R150) -/

/-- Solver-Get-Config. -/
def cmdSolverGetConfig : Command :=
  { code := 0x0501, standby := true, len := lenIs 0
    body := fun _ s =>
      let p := match s.solver.pend with | none => le 1 0 ++ zeros 3 ++ le 8 0 ++ zeros 88 | some (b, t) => le 1 1 ++ zeros 3 ++ le 8 t ++ b
      (s, .ok (s.solver.cfg ++ p)) }

/-- An interval of a length in ms is a multiple of another (R26). -/
def multipleOf (a b : Nat) : Bool := b != 0 && a % b == 0

/-- The intervals of an optimiser configuration are multiples of an epoch length (R26). -/
def epochFits (opt : Bytes) (ms : Nat) : Bool := multipleOf (fld opt 0 4) ms && multipleOf (fld opt 4 4) ms

/-- Solver-Set-Config (R145, R146). -/
def cmdSolverSetConfig : Command :=
  { code := 0x0502, len := lenIs 88, reserved := resv [(0x52, 2), (0x56, 2)]
    range := fun c _ =>
      let b := c.payload
      let f := fun (off : Nat) (lo hi : Rat) => chk (f32In (fld b off 4) lo hi) off
      [inRange b 0 4 250 10000, inRange b 4 2 1 60, inRange b 6 2 1 20, f 8 (dec 1 8) (dec 1 1), inRange b 0x0C 2 10 2000, inRange b 0x0E 2 2 50,
        f 0x10 (dec 1 12) (dec 1 2), f 0x14 (dec 1 9) (dec 1 3), f 0x18 (dec 1 2) 1000, f 0x1C 2 20, inRange b 0x20 1 0 8, inRange b 0x21 1 1 255,
        inRange b 0x22 2 60 65535, f 0x24 (dec 1 2) 10, f 0x28 (dec 1 9) (dec 1 3), f 0x2C (dec 1 2) 50, f 0x30 (dec 1 3) 1] ++
        (List.range 7).map (fun k => f (0x34 + 4 * k) 0 1000000) ++ [inRange b 0x50 2 1 3600, inRange b 0x54 2 10 1000]
    body := fun c s =>
      let b := c.payload
      let ms := fld b 0 4
      let old := fld s.solver.cfg 0 4
      let at_ := nextGrid (Nat.lcm old ms * 1000000) s.zone
      if !epochFits s.opt.cfg ms || (match s.opt.pend with | some (o, _) => !epochFits o ms | none => false) then (s, refuse 0x0A)
      else if ms ≠ old ∧ s.zone + 3600000000000 < at_ then (s, refuseAt 0x21 0)
      else ({ s with solver := { s.solver with pend := some (b, at_) } }, .ok (le 8 at_)) }

/-- The status report (R147). -/
def solverStatus (s : State) : Bytes :=
  let v := s.solver
  le 8 v.attempt ++ le 8 (match v.pub with | some p => p.epoch | none => 0) ++ le 1 v.outcome ++ le 1 (solverState s) ++ le 2 v.flags ++ le 2 v.estIter ++
    le 2 v.newtonIter ++ le 4 v.cgIter ++ le 4 v.massResid ++ le 4 v.headResid ++ le 4 v.jFinal ++ le 4 v.dof ++ v.bindCounts.flatMap (le 4) ++
    le 4 v.nodesIsolated ++ le 4 v.dpShort ++ le 4 v.parcels ++ le 4 (toF32 (mergeTolNow s)) ++ ((v.times ++ [0, 0, 0, 0, 0]).take 5).flatMap (le 4) ++
    le 2 v.consec ++ le 1 v.spares ++ zeros 1 ++ le 4 v.skipped ++ le 4 v.published ++ le 4 v.notConverged ++ le 4 v.hwRetries ++ zeros 4

/-- Solver-Get-Status. -/
def cmdSolverGetStatus : Command :=
  { code := 0x0503, standby := true, len := lenIs 0, body := fun _ s => (s, .ok (solverStatus s)) }

/-- The record size and the greatest COUNT of a KIND (R148). -/
def stateSize (kind : Nat) : Nat × Nat := if kind = 4 then (128, 63) else (16, 509)

/-- The rows a KIND has in a model. -/
def stateRows (m : ModelImage) (kind : Nat) : Nat :=
  match kind with
  | 0 => m.nodes.length | 1 => m.pipes.length | 2 => m.elements.length | 3 => m.sensors.length
  | _ => (m.elements.filter (fun r => fld r 0 1 == 4)).length

/-- The records of a KIND. -/
def PubState.records (p : PubState) (kind : Nat) : List Bytes :=
  match kind with | 0 => p.nodes | 1 => p.pipes | 2 => p.elements | 3 => p.bindings | _ => p.stores

/-- Solver-Read-State (R148): before the first publication EPOCH_TIME and the records are 0 (log 25). -/
def cmdSolverReadState : Command :=
  { code := 0x0504, standby := true, len := lenIs 8, reserved := resv [(1, 1)]
    state := fun _ s => if s.model.active.isNone then some 0x20 else none
    range := fun c s =>
      let b := c.payload
      let n := match s.model.active with | none => 0 | some m => stateRows m (fld b 0 1)
      [inRange b 0 1 0 4, inRange b 2 2 1 (stateSize (fld b 0 1)).2, chk (decide (fld b 4 4 + fld b 2 2 ≤ n)) 4]
    body := fun c s =>
      let b := c.payload
      let sz := (stateSize (fld b 0 1)).1
      let p := s.solver.pub.getD { epoch := 0, nodes := [], pipes := [], elements := [], bindings := [], stores := [] }
      let recs := ((p.records (fld b 0 1)).drop (fld b 4 4)).take (fld b 2 2)
      (s, .ok (slice b 0 8 ++ le 8 p.epoch ++ fit (sz * fld b 2 2) recs.flatten)) }

/-- Solver-Release-Binding (R126). -/
def cmdSolverReleaseBinding : Command :=
  { code := 0x0505, len := lenIs 4
    body := fun c s =>
      let n := fld c.payload 0 4
      if (tabGet? s.solver.quarantine n).isNone then (s, refuseAt 0x23 0) else (releaseBinding n s, .ok []) }

/-- Solver-Warm-Start (R149). -/
def cmdSolverWarmStart : Command :=
  { code := 0x0506, len := lenIs 4, reserved := resv [(2, 2)]
    state := fun _ s =>
      if s.model.active.isNone then some 0x20
      else if solverState s = 2 ∨ solverState s = 4 then some 0x06 else startRefusal 0x0506 s
    range := fun c _ => [inRange c.payload 0 2 0 1]
    body := fun c s => startOp c (fld s.solver.cfg 0x54 2) s (fun n s => { s with solver := { s.solver with warm := some { entry := n, mode := fld c.payload 0 2 } } }) }

/-! ### The rows of the Ferosh command set: one exchange each -/

/-- SOLVER_GET_CONFIG (R144). -/
def execSolverGetConfig (dt : Nat) (r : Request) (s : State) : Host.Outcome State Fault Refusal :=
  runCommand cmdSolverGetConfig dt r s

/-- SOLVER_SET_CONFIG (R146). -/
def execSolverSetConfig (dt : Nat) (r : Request) (s : State) : Host.Outcome State Fault Refusal :=
  runCommand cmdSolverSetConfig dt r s

/-- SOLVER_GET_STATUS (R147). -/
def execSolverGetStatus (dt : Nat) (r : Request) (s : State) : Host.Outcome State Fault Refusal :=
  runCommand cmdSolverGetStatus dt r s

/-- SOLVER_READ_STATE (R148). -/
def execSolverReadState (dt : Nat) (r : Request) (s : State) : Host.Outcome State Fault Refusal :=
  runCommand cmdSolverReadState dt r s

/-- SOLVER_RELEASE_BINDING (R126). -/
def execSolverReleaseBinding (dt : Nat) (r : Request) (s : State) : Host.Outcome State Fault Refusal :=
  runCommand cmdSolverReleaseBinding dt r s

/-- SOLVER_WARM_START (R149). -/
def execSolverWarmStart (dt : Nat) (r : Request) (s : State) : Host.Outcome State Fault Refusal :=
  runCommand cmdSolverWarmStart dt r s

end Sys2Proof.Machine
end

