-- ==== Sys2Proof/Machine/Optimiser.lean ====
section
/-! DEFINITION. Predictive dispatch: replans, plans and their publication, plan steps as caravans, Oasis mode, store models, and
the Optimiser class (R151 to R187). -/

namespace Sys2Proof.Machine
open Sys2Proof

/-! ### State and budget (R166, R172, R185) -/

/-- OPT_STATE: 0 IDLE, 1 RUNNING, 2 PARKED, 3 REPLICA. -/
def optState (s : State) : Nat :=
  if s.win.role = .standby then 3
  else if s.model.active.isNone || !s.opt.solved then 0
  else if s.win.power ≠ .active then 2
  else if s.opt.run.isSome then 1 else 0

/-- REPLAN_INTERVAL in ns. -/
def replanNs (s : State) : Nat := fld s.opt.cfg 0 4 * 1000000

/-- ERG_BUDGET_US: the Erg time of a replan interval less the mean of the last 10 solve durations in each epoch and less 100 ms (R172). -/
def ergBudget (s : State) : Nat :=
  let t := s.opt.solveTimes
  let mean := if t.length = 0 then 0 else t.sum / t.length
  if epochNs s = 0 then 0 else replanNs s / epochNs s * (epochNs s / 1000 - mean) - 100000

/-- The uplink-loss time has not passed since the last valid uplink frame (R36, R220). -/
def uplinkAlive (s : State) : Bool := decide (s.tb.now < s.net.uplinkValid + fld s.net.cfg 0x12 2 * 1000000)

/-! ### Series (R161, R162) -/

/-- The points of a series. -/
def seriesPoints (kind index : Nat) (s : State) : List (Nat × Nat) := tabGet [] s.opt.series (kind * 65536 + index)

/-- The curve entry of a UNIT row. -/
def curveOf (curves : Tab Bytes) (u : Bytes) : Bytes := tabGet (zeros 64) curves (fld u 2 2)

/-- The DEMAND series a model needs: of each group unit, and of substations in no group. -/
def demandSeries (m : ModelImage) : List Nat :=
  ((m.units.filter (fun u => fld u 0 1 == 6)).map (fun u => fld u 4 4)) ++
    (if m.elements.any (fun r => fld r 0 1 == 2 && fld r 2 2 == 0xFFFF) then [0xFFFF] else [])

/-- The series a replan needs besides DEMAND: SERIES and INDEX. -/
def neededSeries (m : ModelImage) (s : State) : List (Nat × Nat) :=
  let c := fun (u : Bytes) => curveOf s.opt.curves u
  let fuels := ((m.units.filter (fun u => decide (fld u 0 1 ≤ 2))).map (fun u => (4, fld (c u) 0 1))).eraseDups
  let electric := m.units.any (fun u => fld u 0 1 == 3 || fld u 0 1 == 4 || decide (fld (c u) 1 1 % 4 ≠ 0))
  fuels ++ (if electric then [(1, 0), (2, 0)] else []) ++ (if fld s.opt.cfg 0x20 4 % 2 ^ 31 = 0 then [] else [(3, 0)])

/-- The inputs are there: every needed series, and every DEMAND series unless a persistence forecast stands in (R162). -/
def inputsThere (m : ModelImage) (s : State) : Bool :=
  (neededSeries m s).all (fun e => seriesPoints e.1 e.2 s != []) &&
    (fld s.opt.cfg 0x2D 1 == 1 || (demandSeries m).all (fun g => seriesPoints 5 g s != []))

/-- The estimated heat power of the substations of a group, 0xFFFF for those in none (R162). -/
def groupHeat (m : ModelImage) (g : Nat) (s : State) : Rat :=
  match s.solver.hydro, s.solver.thermal with
  | some h, some th => ((m.elements.zipIdx.filter (fun e => fld e.1 0 1 == 2 && fld e.1 2 2 == g)).map (fun e =>
      let t := th.elements.getD e.2 (0, 0)
      let f := fluidAt m s (f32Rat t.1) (h.p (fld e.1 4 4))
      f.rho * f.cp * h.elemQ e.2 * (f32Rat t.1 - f32Rat t.2))).sum
  | _, _ => 0

/-- The history of estimated heat power gains a value at a step boundary; 24 h are kept. -/
def keepDemand (t : Nat) (s : State) : State :=
  match s.model.active with
  | none => s
  | some m => { s with opt := { s.opt with demandHist := (demandSeries m).map (fun g =>
      (g, (tabGet [] s.opt.demandHist g ++ [(t, toF32 (groupHeat m g s))]).filter (fun e => decide (t ≤ e.1 + 86400000000000)))) } }

/-! ### Store models (R155, R164) -/

/-- The default record. -/
def defaultStore : Bytes := recordOf 24 [(4, 4, 0x3F800000), (8, 1, 1)]

/-- The model record of a STORE element. -/
def storeModel (models : Tab Bytes) (n : Nat) : Bytes := tabGet defaultStore models n

/-- Heat capacity of a layer at the mean of the design temperatures, J/K. -/
def layerHeat (m : ModelImage) (r : Bytes) (s : State) : Rat :=
  let f := fluidAt m s ((supplyDesign m + returnDesign m) / 2) (rowR m.header 0x34)
  f.rho * f.cp * elemR r 0 / 32

/-- The layers after a time with a charge and a discharge in W (R155). -/
def advanceLayers (m : ModelImage) (r rec_ : Bytes) (c e time : Rat) (s : State) (l : List Rat) : List Rat :=
  let cl := layerHeat m r s
  let k := f32Rat (fld rec_ 0 4)
  let loss := f32Rat (fld rec_ 4 4) * elemR r 2 / 32
  let n := fld rec_ 8 1
  l.zipIdx.map (fun x =>
    let t := x.1
    let up := l.getD (x.2 + 1) t
    let down := if x.2 = 0 then t else l.getD (x.2 - 1) t
    let g : Rat := if 32 ≤ x.2 + n then 1 / n else 0
    let h : Rat := if x.2 < n then 1 / n else 0
    t + k * (up - 2 * t + down) + (c * g - e * h) * time / cl - loss * (t - groundTemp m) * time / cl)

/-! ### Plans (R160, R175, R186) -/

/-- The index of the plan step whose interval contains an instant. -/
def planIndex (p : Plan) (t : Nat) : Option Nat :=
  let len := p.stepMs * 1000000
  if len = 0 ∨ t < p.step1 then none
  else
    let k := (t - p.step1) / len
    if k < p.horizon then some k else none

/-- A record of a plan. -/
def planRec (l : Tab (List Bytes)) (row k : Nat) : Option Bytes := (tabGet [] l row)[k]?

/-- The layers of a store carried from one instant to another with the net charge of the current plan's steps (R160). -/
def carryLayers (m : ModelImage) (r rec_ : Bytes) (unit : Nat) (p : Option Plan) (s : State) : Nat → Nat → Nat → List Rat → List Rat
  | 0, _, _, l => l
  | fuel + 1, t, end_, l =>
    if end_ ≤ t then l
    else
      let (net, stop) := match p with
        | none => ((0 : Rat), end_)
        | some q => match planIndex q t with
          | none => (0, if t < q.step1 then min end_ q.step1 else end_)
          | some k => ((match planRec q.units unit k with | some b => f32Val (fld b 0 4) | none => 0), min end_ (q.step1 + (k + 1) * q.stepMs * 1000000))
      carryLayers m r rec_ unit p s fuel stop end_ (advanceLayers m r rec_ (max 0 net) (max 0 (-net)) (mkRat (stop - t : Nat) 1000000000) s l)

/-- The published layers of a STORE element. -/
def publishedLayers (n : Nat) (s : State) : List Nat := match s.solver.thermal with | some th => th.layers n | none => List.replicate 32 0

/-- Deferred energy at an instant: X of the last step of the previous plan that has ended by it (R156, R160). -/
def carriedX (p : Option Plan) (unit t : Nat) : Nat :=
  match p with
  | none => 0
  | some q =>
    let len := q.stepMs * 1000000
    if len = 0 ∨ t < q.step1 + len then 0
    else match planRec q.units unit (min (q.horizon - 1) ((t - q.step1) / len - 1)) with | some b => fld b 8 4 | none => 0

/-- The outlet temperature a plan gives a unit at an instant. -/
def plannedTemp (p : Option Plan) (unit t : Nat) : Option Rat :=
  match p with
  | none => none
  | some q => (planIndex q t).bind (fun k => (planRec q.units unit k).map (fun b => f32Val (fld b 4 4)))

/-- A replan starts: its grid, its initial values and the FLAGS known by then (R160, R161, R167, R168, R180). -/
def startReplan (tr : Nat) (m : ModelImage) (s : State) : State :=
  let cfg := s.opt.cfg
  let interval := replanNs s
  let stepMs := fld cfg 4 4
  let len := stepMs * 1000000
  let horizon := fld cfg 8 2
  let step1 := if len = 0 then tr + interval else (tr + interval + len - 1) / len * len
  let measured := s.opt.oasisPhase == 3 && !s.opt.reconcileRun && !s.opt.reconcileDue && s.opt.reconcileId.isNone
  let carry := if measured || s.opt.anchor then none else s.opt.plan
  let lin := match s.solver.sens with | some x => x.epoch | none => 0
  let lastStep := step1 + (horizon - 1) * len
  let old := fun (k i : Nat) => match (seriesPoints k i s).getLast? with | some e => decide (e.1 + len < lastStep) | none => false
  let extrapolated := (neededSeries m s).any (fun e => old e.1 e.2) || (demandSeries m).any (fun g => old 5 g)
  let persistence := (demandSeries m).any (fun g => seriesPoints 5 g s == [])
  let pseudo := match s.solver.pub with
    | some p => (m.elements.zip p.elements).any (fun e => fld e.1 0 1 == 2 && fld e.1 2 2 != 0xFFFF && bit (fld e.2 0x0D 1) 1)
    | none => false
  let flags := bitAt 0 (decide (lin + fld cfg 0x34 4 * 1000000000 < tr)) + bitAt 1 extrapolated + bitAt 2 persistence +
    bitAt 5 (decide (ergBudget s < s.opt.ergPublished)) + bitAt 6 pseudo + bitAt 7 s.opt.anchor + bitAt 8 (fld cfg 0x0C 2 == 0)
  let stores := m.units.zipIdx.filter (fun e => fld e.1 0 1 == 5)
  let groups := m.units.zipIdx.filter (fun e => fld e.1 0 1 == 6)
  let run : Replan :=
    { tr := tr, deadline := tr + interval - 100000000, due := tr + interval, lin := lin, stepMs := stepMs, horizon := horizon, reconcile := measured
      flags := flags, model := m, step1 := step1
      inputs := { cfg := cfg, curves := s.opt.curves, series := s.opt.series, storeModels := s.opt.storeModels }
      layers := stores.map (fun e =>
        let n := fld e.1 4 4
        let r := m.elements.getD n []
        let l := (publishedLayers n s).map f32Rat
        (e.2, (if measured || s.opt.anchor then l else carryLayers m r (storeModel s.opt.storeModels n) e.2 carry s 64 tr step1 l).map toF32))
      deferred := groups.map (fun e => (e.2, if measured then 0 else carriedX s.opt.plan e.2 step1)) }
  { s with opt := { s.opt with run := some run, anchor := false, flags := flags, reconcileRun := s.opt.reconcileRun || measured } }

/-- Bits 0 to 2 of a plan record's FLAGS. -/
def planFlags (ramp cap relaxed : Bool) : Nat := bitAt 0 ramp + bitAt 1 cap + bitAt 2 relaxed

/-- A plan record (R186). -/
def planBytes (out temp aux state flags : Nat) : Bytes := le 4 out ++ le 4 temp ++ le 4 aux ++ le 1 state ++ le 1 flags ++ zeros 2

/-- The records of a plant unit: electricity by its curve, the COP at the outlet temperature of the previous plan (R152, R154). -/
def plantRecords (run : Replan) (prev : Option Plan) (u : Bytes) (row : Nat) (l : List PlantStep) (relaxed : List Nat) : List Bytes :=
  let r := run.model.elements.getD (fld u 4 4) []
  let e := curveOf run.inputs.curves u
  let v := fun (o : Nat) => f32Val (fld e o 4)
  let len := run.stepMs * 1000000
  l.zipIdx.map (fun x =>
    let p := f32Val x.1.output
    let that := (plannedTemp prev row (run.step1 + x.2 * len)).getD (elemR r 2)
    let cop := clampRat 1 10 (v 0x18 - v 0x20 * (that - v 0x1C))
    let aux := match fld u 0 1 with | 1 => v 0x14 * p | 3 => p / cop | 4 => p / cop | _ => 0
    let ramp := match (if x.2 = 0 then none else l[x.2 - 1]?) with
      | some b => b.on && x.1.on && decide (elemR r 5 * mkRat run.stepMs 1000 ≤ absRat (p - f32Val b.output))
      | none => false
    planBytes x.1.output x.1.temp (toF32 aux) (b2n x.1.on) (planFlags ramp (x.1.on && decide (elemR r 1 ≤ p)) (relaxed.contains (x.2 + 1))))

/-- The records of a store unit: mean layer and energy above T_RETURN_DESIGN at each step's end by the layer law (R155). -/
def storeSteps (run : Replan) (r rec_ : Bytes) (s : State) (relaxed : List Nat) : Nat → List Rat → List (Nat × Nat) → List Bytes
  | _, _, [] => []
  | k, l, (c, e) :: t =>
    let m := run.model
    let cv := f32Val c
    let ev := f32Val e
    let l := advanceLayers m r rec_ cv ev (mkRat run.stepMs 1000) s l
    let f := fluidAt m s ((supplyDesign m + returnDesign m) / 2) (rowR m.header 0x34)
    let top := f.rho * f.cp * absRat (supplyDesign m - returnDesign m)
    let energy := (l.map (fun x => layerHeat m r s * (x - returnDesign m))).sum / 3600
    planBytes (toF32 (cv - ev)) (toF32 (l.sum / 32)) (toF32 energy) 1
        (planFlags false (decide (top * elemR r 5 ≤ cv) || decide (top * elemR r 6 ≤ ev)) (relaxed.contains k)) ::
      storeSteps run r rec_ s relaxed (k + 1) (l.map (fun x => f32Rat (toF32 x))) t

/-- The records of a group unit: X advances by what is set back less what is recovered (R156). -/
def groupSteps (run : Replan) (e g : Bytes) (relaxed : List Nat) : Nat → Rat → List (Nat × Nat) → List Bytes
  | _, _, [] => []
  | k, x, (b, r) :: t =>
    let x := max 0 (x + (f32Val (fld e 0x30 4) * f32Val b - f32Val r) * mkRat run.stepMs 3600000)
    planBytes b 0 (toF32 x) 1 (planFlags false (decide (f32Val (fld g 4 4) ≤ f32Val b)) (relaxed.contains k)) :: groupSteps run e g relaxed (k + 1) x t

/-- The plan a replan ends with. -/
def makePlan (run : Replan) (x : ReplanResult) (outcome : Nat) (s : State) : Plan :=
  let m := run.model
  let unit := fun (n : Nat) => m.units.getD n []
  let elem := fun (u : Bytes) => m.elements.getD (fld u 4 4) []
  let plants := x.plants.map (fun e => (e.1, plantRecords run s.opt.plan (unit e.1) e.1 (e.2.take run.horizon) x.relaxed))
  let stores := x.stores.map (fun e =>
    let u := unit e.1
    (e.1, storeSteps run (elem u) (storeModel run.inputs.storeModels (fld u 4 4)) s x.relaxed 1 ((tabGet [] run.layers e.1).map f32Rat) (e.2.take run.horizon)))
  let groups := x.groups.map (fun e =>
    let u := unit e.1
    (e.1, groupSteps run (curveOf run.inputs.curves u) (m.groups.getD (fld u 4 4) []) x.relaxed 1 (f32Val (tabGet 0 run.deferred e.1)) (e.2.take run.horizon)))
  let pumps := x.pumps.map (fun e => (e.1, (e.2.take run.horizon).zipIdx.map (fun d =>
    planBytes d.1 0 0 1 (planFlags false (decide (elemR (m.elements.getD e.1 []) 6 ≤ f32Val d.1)) (x.relaxed.contains (d.2 + 1))))))
  { basis := run.tr, publish := run.due, lin := run.lin, step1 := run.step1, stepMs := run.stepMs, horizon := run.horizon, outcome := outcome
    units := (plants ++ stores ++ groups).foldl (fun t e => tabSet t e.1 e.2) []
    pumps := pumps.foldl (fun t e => tabSet t e.1 e.2) [], reconcile := run.reconcile }

/-! ### The end of a replan (R169 to R172, R174) -/

/-- The figures of an attempt that ended before its numerical part was done are open; an attempt without inputs made no iteration
(R171, R185; log 8). -/
def cutShort (outcome : Nat) (s : State) : State :=
  let n := s.opt.failed
  let w := fun (k : Nat) => Config.attemptFigure n k
  let it := fun (k : Nat) => if outcome = 7 then 0 else (w k).toNat % 65536
  if outcome = 5 ∨ outcome = 6 ∨ outcome = 7 then
    { s with opt := { s.opt with ipmIter := it 0, commitIter := it 1, figures := [(w 2).toNat, (w 3).toNat, (w 4).toNat, (w 5).toNat], ergTime := (w 6).toNat } }
  else s

/-- A replan that publishes nothing is counted and recorded; a reconciliation waits for the next one (R171, R180). -/
def replanFailed (outcome : Nat) (s : State) : State :=
  let again := match s.opt.run with | some r => r.reconcile | none => false
  let s := cutShort outcome s
  emit 0x0601 [outcome] { s with opt := { s.opt with run := none, outcome := outcome, failed := (s.opt.failed + 1) % 2 ^ 32, reconcileRun := s.opt.reconcileRun && !again } }

/-- The running replan is ABANDONED (R174). -/
def abandonReplan (s : State) : State := if s.opt.run.isSome then replanFailed 5 s else s

/-- The replan takes its outcome from its figures: OPTIMAL within both tolerances, else SUBOPTIMAL or NOT_FINISHED by its infeasibility
(R169, R171). -/
def replanOutcome (cfg : Bytes) (x : ReplanResult) : Nat :=
  let f := fun (k : Nat) => f32Val (x.figures.getD k 0)
  let feasible := decide (f 2 ≤ f32Rat (fld cfg 0x14 4))
  if feasible && decide (f 1 ≤ f32Rat (fld cfg 0x10 4)) then (if f 3 = 0 then 1 else 2) else if feasible then 3 else 4

/-- The replan stops with what its numerical part has. -/
def endReplan (x : ReplanResult) (s : State) : State :=
  match s.opt.run with
  | none => s
  | some run =>
    let o := replanOutcome run.inputs.cfg x
    let flags := run.flags + bitAt 3 (decide (0 < f32Val (x.figures.getD 3 0))) + bitAt 4 x.unserved + bitAt 9 x.surplus
    let s := { s with opt := { s.opt with flags := flags, ipmIter := x.ipmIter, commitIter := x.commitIter, figures := (x.figures ++ [0, 0, 0, 0]).take 4, ergTime := x.ergTime } }
    if o = 4 then replanFailed 4 s
    else { s with opt := { s.opt with run := none, outcome := o, ready := some (makePlan run x o s, run.inputs) } }

/-- REPLAN_COMPLETE (R171): the interior-point solve ends on optimality or its iteration limit, before the deadline. -/
def execReplanComplete (dt : Nat) (result : ReplanResult) (s : State) : Host.Outcome State Fault Refusal :=
  let s := advance dt s
  .next (if s.opt.suspended then s else endReplan result s)

/-- REPLAN_DEADLINE (R170): due at T_r + I − 100 ms; the replan stops with what it has reached. -/
def execReplanDeadline (dt : Nat) (result : ReplanResult) (s : State) : Host.Outcome State Fault Refusal :=
  let s := advance dt s
  .next (match s.opt.run with
    | none => s
    | some r => if s.zone < r.deadline then s else endReplan result s)

/-- SCRATCH_UNCORRECTABLE (R108, R171): in a solve, or in the optimiser's partition, whose cell is replaced at the next epoch instant. -/
def execScratchUncorrectable (dt : Nat) (inSolve : Bool) (s : State) : Host.Outcome State Fault Refusal :=
  let s := advance dt s
  .next (if inSolve then solveError s
    else if s.opt.run.isSome then replanFailed 6 { s with solver := { s.solver with optCell := true } } else s)

/-! ### Publication (R32, R170, R182) -/

/-- Lists of records by key, as an item spells them. -/
def putTab (t : Tab (List Bytes)) : Bytes := le 2 t.length ++ t.flatMap (fun e => le 4 e.1 ++ le 2 e.2.length ++ e.2.flatten)

/-- Entries of lists of records of a size. -/
def getEntries (size : Nat) : Nat → Bytes → Tab (List Bytes) × Bytes
  | 0, b => ([], b)
  | k + 1, b =>
    let n := fld b 4 2
    let r := getEntries size k (b.drop (6 + n * size))
    ((fld b 0 4, chunks size n (b.drop 6)) :: r.1, r.2)

/-- Lists of records and what follows them. -/
def getTab (size : Nat) (b : Bytes) : Tab (List Bytes) × Bytes := getEntries size (fld b 0 2) (b.drop 2)

/-- A PLAN item: the plan and what it was computed from (log 18). -/
def planItem (p : Plan) (x : PlanInputs) : Bytes :=
  le 8 p.basis ++ le 8 p.publish ++ le 8 p.lin ++ le 8 p.step1 ++ le 4 p.stepMs ++ le 2 p.horizon ++ le 1 p.outcome ++ le 1 (b2n p.reconcile) ++ fit 64 x.cfg ++
    putTab p.units ++ putTab p.pumps ++ putTab (x.curves.map (fun e => (e.1, [e.2]))) ++
    putTab (x.series.map (fun e => (e.1, e.2.map (fun q => le 8 q.1 ++ le 4 q.2)))) ++ putTab (x.storeModels.map (fun e => (e.1, [e.2])))

/-- A standby takes a replicated plan (R182). -/
def takePlan (b : Bytes) (s : State) : State :=
  let u := getTab 16 (b.drop 104)
  let p := getTab 16 u.2
  let c := getTab 64 p.2
  let e := getTab 12 c.2
  let m := getTab 24 e.2
  let one := fun (t : Tab (List Bytes)) => t.map (fun x => (x.1, (x.2.head?).getD []))
  let plan : Plan := { basis := fld b 0 8, publish := fld b 8 8, lin := fld b 16 8, step1 := fld b 24 8, stepMs := fld b 32 4, horizon := fld b 36 2, outcome := fld b 38 1, reconcile := fld b 39 1 == 1, units := u.1, pumps := p.1 }
  let inp : PlanInputs := { cfg := slice b 40 64, curves := one c.1, series := e.1.map (fun x => (x.1, x.2.map (fun q => (fld q 0 8, fld q 8 4)))), storeModels := one m.1 }
  { s with opt := { s.opt with plan := some plan, repl := some inp }, boot := { s.boot with basisKept := some plan.basis } }

/-- A published plan becomes the current one; a reconciliation plan's caravan is due at the next boundary (R170, R180). -/
def planCurrent (p : Plan) (s : State) : State :=
  { s with
    opt := { s.opt with plan := some p, waiting := none, stalePlan := false, reconcileDue := s.opt.reconcileDue || (p.reconcile && s.opt.oasisPhase == 3) }
    boot := { s.boot with basisKept := some p.basis } }

/-- The finished plan is published at T_r + I; with a standby it becomes current once acknowledged. -/
def publishPlan (s : State) : State :=
  match s.opt.ready with
  | none => s
  | some (p, x) =>
    let s := { s with opt := { s.opt with ready := none, published := (s.opt.published + 1) % 2 ^ 32, ergPublished := s.opt.ergTime } }
    match replicate 0x13 true (planItem p x) s with
    | (s, none) => planCurrent p s
    | (s, some i) => { s with opt := { s.opt with waiting := some (p, i) } }

/-- The standby has acknowledged an item: a plan that waited for it becomes current. -/
def planAcked (item : Nat) (s : State) : State :=
  match s.opt.waiting with
  | none => s
  | some (p, i) => if i = item then planCurrent p s else s

/-- The standby is lost: a plan that waits becomes current. -/
def planReleased (s : State) : State :=
  match s.opt.waiting with
  | none => s
  | some (p, _) => planCurrent p s

/-- The pending configuration takes effect at its instant; the instants are counted on the new grids from there (R184). -/
def applyOptConfig (s : State) : State :=
  match s.opt.pend with
  | none => s
  | some (b, t) =>
    if s.zone < t then s
    else
      let s := { s with opt := { s.opt with cfg := b, pend := none } }
      { s with opt := { s.opt with lastReplan := s.zone / max 1 (replanNs s) } }

/-- REPLAN_INSTANT (R166, R170, R184): due at each multiple of the replan interval. -/
def execReplanInstant (dt : Nat) (s : State) : Host.Outcome State Fault Refusal :=
  let s := advance dt s
  let k := s.zone / max 1 (replanNs s)
  .next (if k ≤ s.opt.lastReplan then s
    else
      let tr := k * replanNs s
      let s := applyOptConfig (publishPlan { s with opt := { s.opt with lastReplan := k } })
      if s.opt.run.isSome || s.win.power != .active || !driving s || !s.opt.solved || safeStart s then s
      else match s.model.active with
        | none => s
        | some m => if inputsThere m s then startReplan tr m s else replanFailed 7 s)

/-! ### Model swaps (R104, R164, R174) -/

/-- The optimiser at a model swap. -/
def optSwap (old : Option ModelImage) (new : ModelImage) (s : State) : State :=
  let keeps := fun (n : Nat) => match old with
    | none => false
    | some o => elemType o n == 4 && elemType new n == 4 && elemP (o.elements.getD n []) 0 == elemP (new.elements.getD n []) 0
  let s := { s with opt := { s.opt with solved := false, storeModels := s.opt.storeModels.filter (fun e => keeps e.1), demandHist := [] } }
  match old with
  | none => s
  | some o =>
    if planCompatible o new then s
    else
      let s := abandonReplan s
      { s with opt := { s.opt with ready := none, stalePlan := s.opt.plan.isSome } }

/-! ### From plan to set-points (R175 to R177) -/

/-- The TARGET of an element's drive (R188). -/
def driveTarget (r : Bytes) : Nat := (if fld r 0x0C 1 = 1 then 2 ^ 28 else 2 * 2 ^ 28) + fld r 0x0E 2

/-- The value of a plan record for the element of a UNIT row (R176). -/
def unitValue (m : ModelImage) (u r b : Bytes) (s : State) : Nat :=
  if fld u 0 1 = 5 then
    let l := (publishedLayers (fld u 4 4) s).map f32Rat
    let top := l.getD 31 0
    let low := l.getD 0 0
    let f := fluidAt m s ((top + low) / 2) (rowR m.header 0x34)
    toF32 (clampRat (-(elemR r 6)) (elemR r 5) (f32Val (fld b 0 4) / (f.rho * f.cp * max 5 (top - low))))
  else if fld b 0x0C 1 = 0 then qNaN
  else toF32 (clampRat (elemR r 2) (elemR r 3) (f32Val (fld b 4 4)))

/-- The members of a plan step (R93, R176). -/
def planMembers (m : ModelImage) (p : Plan) (k : Nat) (s : State) : List (Nat × Nat) :=
  (converted m).filterMap (fun i =>
    let r := m.elements.getD i []
    let value := match fld r 0 1 with
      | 5 => (planRec p.pumps i k).map (fun b => fld b 0 4)
      | 2 =>
        (match m.units.zipIdx.find? (fun (e : Bytes × Nat) => fld e.1 0 1 == 6 && fld e.1 4 4 == fld r 2 2) with
          | none => none
          | some u => (planRec p.units u.2 k).map (fun b => toF32 (min (f32Val (fld b 0 4)) (min (rowR (m.groups.getD (fld r 2 2) []) 4) (elemR r 6)))))
      | _ =>
        (match m.units.zipIdx.find? (fun (e : Bytes × Nat) => fld e.1 0 1 != 6 && fld e.1 4 4 == i) with
          | none => none
          | some u => (planRec p.units u.2 k).map (fun b => unitValue m u.1 r b s))
    value.map (fun v => (driveTarget r, v)))

/-- A step boundary passes without delivery. -/
def stepUndelivered (t : Nat) (s : State) : State :=
  emit 0x0602 [t] { s with opt := { s.opt with undelivered := (s.opt.undelivered + 1) % 2 ^ 32 } }

/-- The step of the current plan that contains a boundary is delivered as one caravan, which activates CARAVAN_LEAD_MS later; in Oasis
mode only the reconciliation caravan is (R37, R175 to R177, R180). -/
def deliverStep (t : Nat) (s : State) : State :=
  if s.win.oasis && !s.opt.reconcileDue then s
  else match s.model.active, s.opt.plan with
  | some m, some p =>
    (match (if s.opt.stalePlan then none else planIndex p t) with
      | none => stepUndelivered t s
      | some k =>
        let es := planMembers m p k s
        if es = [] then s
        else match openSealed (t + fld s.opt.cfg 0x0E 2 * 1000000) 0 false es s with
          | (s, .inl id) => if s.win.oasis then { s with opt := { s.opt with reconcileDue := false, reconcileId := some id } } else s
          | (s, .inr _) => stepUndelivered t s)
  | _, _ => stepUndelivered t s

/-- The step length in force: the current plan's grid until a plan on a new grid is published (R184). -/
def planStepNs (s : State) : Nat := (match s.opt.plan with | some p => p.stepMs | none => fld s.opt.cfg 4 4) * 1000000

/-- STEP_BOUNDARY (R175): due at each multiple of the step length. -/
def execStepBoundary (dt : Nat) (s : State) : Host.Outcome State Fault Refusal :=
  let s := advance dt s
  let len := max 1 (planStepNs s)
  let t := s.zone / len * len
  .next (if t ≤ s.opt.lastStep then s
    else
      let s := keepDemand t { s with opt := { s.opt with lastStep := t } }
      if driving s && (s.win.power == .active || s.win.power == .quiet) then deliverStep t s else s)

/-! ### Oasis mode (R36 to R38, R178 to R180) -/

/-- Oasis mode is entered with a cause. -/
def enterOasis (cause : Nat) (s : State) : State :=
  if s.win.oasis then s
  else emit 0x0005 [0, cause] (setOasis true { s with opt := { s.opt with oasisPhase := 1, oasisCause := cause, oasisEntry := s.zone } })

/-- BASIS_TIME from which the plan's age counts: the current plan's, or after a start without one the kept one (R552). -/
def planBasis (s : State) : Option Nat := match s.opt.plan with | some p => some p.basis | none => s.boot.basisKept

/-- PLAN_AGE_LIMIT (R178): due when the plan's age exceeds PLAN_AGE_LIMIT_S. -/
def execPlanAgeLimit (dt : Nat) (s : State) : Host.Outcome State Fault Refusal :=
  let s := advance dt s
  .next (match planBasis s with
    | none => s
    | some b => if driving s && decide (b + fld s.opt.cfg 0x18 4 * 1000000000 < s.zone) then enterOasis 2 s else s)

/-- UPLINK_LOSS (R36, R220): due UPLINK_LOSS_MS after the last valid frame of either uplink. -/
def execUplinkLoss (dt : Nat) (s : State) : Host.Outcome State Fault Refusal :=
  let s := advance dt s
  .next (if driving s && switchUp s && !uplinkAlive s then enterOasis 1 s else s)

/-- OASIS_HOLD_END (R179): due OASIS_HOLD_S after entry. -/
def execOasisHoldEnd (dt : Nat) (s : State) : Host.Outcome State Fault Refusal :=
  let s := advance dt s
  .next (if s.opt.oasisPhase = 1 ∧ driving s ∧ s.opt.oasisEntry + fld s.opt.cfg 0x1C 4 * 1000000000 ≤ s.zone then
      noteNoProgram { s with opt := { s.opt with oasisPhase := 2 }, prog := { s.prog with oasisNoted := false } }
    else s)

/-! ### Store fitting (R165) -/

/-- The samples of a store's history in a window. -/
def fitSamples (store window : Nat) (s : State) : Nat :=
  ((tabGet [] s.solver.history store).filter (fun e => decide (s.zone ≤ e.1 + window * 1000000000))).length

/-- The TEMPERATURE bindings of a store. -/
def storeBindings (store : Nat) (s : State) : Nat :=
  match s.model.active with
  | none => 0
  | some m => (m.sensors.filter (fun r => fld r 0 1 == 3 && fld r 1 1 == 2 && fld r 4 4 == store)).length

/-- STORE_FIT_COMPLETE (R165): the fit ends DONE with the new record, or FAILED. -/
def execStoreFitComplete (dt : Nat) (result : FitResult) (s : State) : Host.Outcome State Fault Refusal :=
  let s := advance dt s
  .next (match s.opt.fit with
    | none => s
    | some f =>
      let s := { s with opt := { s.opt with fit := none } }
      if f.samples < 60 then opFail f.entry 0x25 s
      else if storeBindings f.store s < 3 then opFail f.entry 0x26 s
      else
        let b := le 4 result.kappa ++ le 4 result.loss ++ le 1 result.spread ++ zeros 3 ++ le 4 result.rms ++ le 8 s.zone
        opDone f.entry b (progressTo f.entry f.samples { s with opt := { s.opt with storeModels := tabSet s.opt.storeModels f.store b } }))

/-! ### Commands (R182 to R187) -/

/-- What a standby answers from: the inputs of the replicated plan. -/
def optInputs (s : State) : PlanInputs :=
  match (if s.win.role = .standby then s.opt.repl else none) with
  | some x => x
  | none => { cfg := s.opt.cfg, curves := s.opt.curves, series := s.opt.series, storeModels := s.opt.storeModels }

/-- Optimiser-Get-Config. -/
def cmdOptimiserGetConfig : Command :=
  { code := 0x0601, standby := true, len := lenIs 0
    body := fun _ s =>
      let p := match s.opt.pend with | none => le 1 0 ++ zeros 7 ++ le 8 0 ++ zeros 64 | some (b, t) => le 1 1 ++ zeros 7 ++ le 8 t ++ b
      (s, .ok ((optInputs s).cfg ++ p)) }

/-- R26, R177, R178 and R200 hold of a configuration. -/
def optFits (b : Bytes) (s : State) : Bool :=
  let i := fld b 0 4
  let d := fld b 4 4
  let lim := fld b 0x18 4 * 1000
  epochFits b (fld s.solver.cfg 0 4) && (match s.solver.pend with | some (c, _) => epochFits b (fld c 0 4) | none => true) &&
    decide (fld b 0x0E 2 < d) && decide (2 * i ≤ lim) && decide (lim ≤ i + (fld b 8 2 - 1) * d) && decide (fld s.car.cfg 0 4 + 250 ≤ fld b 0x0E 2)

/-- Optimiser-Set-Config (R183, R184). -/
def cmdOptimiserSetConfig : Command :=
  { code := 0x0602, len := lenIs 64, reserved := resv [(0x2E, 2), (0x3C, 4)]
    range := fun c _ =>
      let b := c.payload
      let f := fun (off : Nat) (lo hi : Rat) => chk (f32In (fld b off 4) lo hi) off
      [inRange b 0 4 15000 900000, inRange b 4 4 60000 3600000, inRange b 8 2 2 384, inRange b 0x0A 2 10 200, inRange b 0x0C 2 0 50, inRange b 0x0E 2 100 60000,
        f 0x10 (dec 1 9) (dec 1 2), f 0x14 (dec 1 9) (dec 1 2), inRange b 0x18 4 60 86400, inRange b 0x1C 4 0 86400, f 0x20 0 10000, f 0x24 0 1000000,
        f 0x28 0 1, inRange b 0x2C 1 0 1, inRange b 0x2D 1 0 1, f 0x30 0 10000, inRange b 0x34 4 1 3600, f 0x38 1 1000000000]
    body := fun c s =>
      let b := c.payload
      let g := fun (x : Bytes) => Nat.lcm (fld x 0 4) (fld x 4 4)
      let same := slice b 0 8 == slice s.opt.cfg 0 8
      let at_ := if same then nextGrid (replanNs s) s.zone else nextGrid (Nat.lcm (g b) (g s.opt.cfg) * 1000000) s.zone
      if !optFits b s || decide (s.zone + 86400000000000 < at_) then (s, refuse 0x0A)
      else ({ s with opt := { s.opt with pend := some (b, at_) } }, .ok (le 8 at_)) }

/-- The curve entries a request carries. -/
def putCurves (b : Bytes) : List Bytes := chunks 64 (fld b 2 2) (b.drop 4)

/-- The offset of the first failing field of an entry, against every UNIT row of the active model that names it (R163). -/
def entryFail (n : Nat) (e : Bytes) (s : State) : Option Nat :=
  let us := match s.model.active with | none => [] | some m => m.units.filter (fun u => fld u 2 2 == n)
  match us with
  | [] => curveFail none e
  | _ => us.findSome? (fun u => curveFail (some (fld u 0 1)) e)

/-- Optimiser-Put-Curves (R163). -/
def cmdOptimiserPutCurves : Command :=
  { code := 0x0603, len := fun b l => decide (4 ≤ l) && l == 4 + 64 * fld b 2 2
    reserved := fun b => (putCurves b).zipIdx.flatMap (fun e =>
      let o := 4 + 64 * e.2
      (if 4 ≤ fld e.1 1 1 then [(o + 1, 1)] else []) ++ [(o + 6, 2), (o + 0x38, 8)])
    range := fun c _ => [inRange c.payload 0 2 0 255, inRange c.payload 2 2 1 127, chk (decide (fld c.payload 0 2 + fld c.payload 2 2 ≤ 256)) 0]
    body := fun c s =>
      let b := c.payload
      let es := (putCurves b).zipIdx
      match es.findSome? (fun e => (entryFail (fld b 0 2 + e.2) e.1 s).map (fun o => 4 + 64 * e.2 + o)) with
      | some o => (s, refuseAt 0x23 o)
      | none => ({ s with opt := { s.opt with curves := es.foldl (fun t e => tabSet t (fld b 0 2 + e.2) e.1) s.opt.curves } }, .ok []) }

/-- The points a request carries. -/
def putPoints (b : Bytes) : List (Nat × Nat) := (chunks 12 (fld b 4 2) (b.drop 8)).map (fun e => (fld e 0 8, fld e 8 4))

/-- The first point whose TIME is not after the one before it. -/
def disorder : Nat → List (Nat × Nat) → Option Nat
  | k, a :: b :: l => if a.1 < b.1 then disorder (k + 1) (b :: l) else some (k + 1)
  | _, _ => none

/-- Optimiser-Put-Series (R161). -/
def cmdOptimiserPutSeries : Command :=
  { code := 0x0604, len := fun b l => decide (8 ≤ l) && l == 8 + 12 * fld b 4 2, reserved := resv [(1, 1), (6, 2)]
    range := fun c _ =>
      let b := c.payload
      let k := fld b 0 1
      let i := fld b 2 2
      [inRange b 0 1 1 5, chk (if k = 4 then decide (i ≤ 3) else if k = 5 then decide (i ≤ 255) || i == 0xFFFF else i == 0) 2, inRange b 4 2 1 679]
    body := fun c s =>
      let b := c.payload
      match disorder 0 (putPoints b) with
      | some k => (s, refuseAt 0x24 (8 + 12 * k))
      | none => ({ s with opt := { s.opt with series := tabSet s.opt.series (fld b 0 1 * 65536 + fld b 2 2) (putPoints b) } }, .ok []) }

/-- The status report (R185). -/
def optStatus (s : State) : Bytes :=
  let o := s.opt
  let p := fun (f : Plan → Nat) => match o.plan with | some x => f x | none => 0
  let age := match o.plan with | some x => min 0xFFFFFFFF ((s.zone - x.basis) / 1000000) | none => 0
  le 8 (p (·.basis)) ++ le 8 (p (·.publish)) ++ le 8 (p (·.lin)) ++ le 1 o.outcome ++ le 1 (optState s) ++ le 2 o.flags ++ le 2 o.ipmIter ++ le 2 o.commitIter ++
    o.figures.flatMap (le 4) ++ le 4 age ++ le 4 o.ergTime ++ le 4 (ergBudget s) ++ le 4 o.published ++ le 4 o.failed ++ le 4 o.undelivered ++
    le 8 (if s.win.oasis then o.oasisEntry else 0) ++ le 1 (if s.win.oasis then o.oasisCause else 0) ++ le 1 o.oasisPhase ++ zeros 6

/-- Optimiser-Get-Status. -/
def cmdOptimiserGetStatus : Command :=
  { code := 0x0605, standby := true, len := lenIs 0, body := fun _ s => (s, .ok (optStatus s)) }

/-- Optimiser-Read-Plan (R186). -/
def cmdOptimiserReadPlan : Command :=
  { code := 0x0606, standby := true, len := lenIs 12, reserved := resv [(1, 1), (6, 2)]
    state := fun _ s => if s.opt.plan.isNone then some 0x20 else none
    range := fun c s =>
      let b := c.payload
      let h := match s.opt.plan with | some p => p.horizon | none => 0
      [inRange b 0 1 0 1, chk (decide (1 ≤ fld b 2 2 ∧ fld b 2 2 + fld b 4 2 ≤ h + 1)) 2, inRange b 4 2 1 384]
    body := fun c s =>
      let b := c.payload
      match s.opt.plan with
      | none => (s, refuse 0x20)
      | some p => match tabGet? (if fld b 0 1 = 0 then p.units else p.pumps) (fld b 8 4) with
        | none => (s, refuseAt 0x0B 8)
        | some l =>
          (s, .ok (slice b 0 12 ++ zeros 4 ++ le 8 p.basis ++ le 8 p.step1 ++ le 4 p.stepMs ++ le 2 p.horizon ++ le 1 p.outcome ++ zeros 1 ++
            fit (16 * fld b 4 2) ((l.drop (fld b 2 2 - 1)).take (fld b 4 2)).flatten)) }

/-- Optimiser-Reconcile (R180). -/
def cmdOptimiserReconcile : Command :=
  { code := 0x0607, len := lenIs 0
    state := fun _ s =>
      if !s.win.oasis then some 0x21
      else if !uplinkAlive s || !decide (1 ≤ s.opt.outcome ∧ s.opt.outcome ≤ 3) then some 0x22 else none
    body := fun _ s => ({ s with opt := { s.opt with oasisPhase := 3 } }, .ok (le 8 (nextGrid (replanNs s) s.zone))) }

/-- A STORE element row of the active model. -/
def isStore (n : Nat) (s : State) : Bool := match s.model.active with | none => false | some m => decide (n < m.elements.length) && elemType m n == 4

/-- Optimiser-Fit-Store (R165). -/
def cmdOptimiserFitStore : Command :=
  { code := 0x0608, len := lenIs 8, state := fun _ s => startRefusal 0x0608 s
    range := fun c _ => [inRange c.payload 4 4 3600 604800]
    body := fun c s =>
      let n := fld c.payload 0 4
      if !isStore n s then (s, refuseAt 0x0B 0)
      else
        let k := fitSamples n (fld c.payload 4 4) s
        startOp c k s (fun e s => { s with opt := { s.opt with fit := some { entry := e, store := n, samples := k } } }) }

/-- Optimiser-Get-Store-Model (R164). -/
def cmdOptimiserGetStoreModel : Command :=
  { code := 0x0609, standby := true, len := lenIs 4
    body := fun c s =>
      let n := fld c.payload 0 4
      if isStore n s then (s, .ok (storeModel (optInputs s).storeModels n)) else (s, refuseAt 0x0B 0) }

/-! ### The rows of the Ferosh command set: one exchange each -/

/-- OPTIMISER_GET_CONFIG (R182). -/
def execOptimiserGetConfig (dt : Nat) (r : Request) (s : State) : Host.Outcome State Fault Refusal :=
  runCommand cmdOptimiserGetConfig dt r s

/-- OPTIMISER_SET_CONFIG (R184). -/
def execOptimiserSetConfig (dt : Nat) (r : Request) (s : State) : Host.Outcome State Fault Refusal :=
  runCommand cmdOptimiserSetConfig dt r s

/-- OPTIMISER_PUT_CURVES (R163). -/
def execOptimiserPutCurves (dt : Nat) (r : Request) (s : State) : Host.Outcome State Fault Refusal :=
  runCommand cmdOptimiserPutCurves dt r s

/-- OPTIMISER_PUT_SERIES (R161). -/
def execOptimiserPutSeries (dt : Nat) (r : Request) (s : State) : Host.Outcome State Fault Refusal :=
  runCommand cmdOptimiserPutSeries dt r s

/-- OPTIMISER_GET_STATUS (R185). -/
def execOptimiserGetStatus (dt : Nat) (r : Request) (s : State) : Host.Outcome State Fault Refusal :=
  runCommand cmdOptimiserGetStatus dt r s

/-- OPTIMISER_READ_PLAN (R186). -/
def execOptimiserReadPlan (dt : Nat) (r : Request) (s : State) : Host.Outcome State Fault Refusal :=
  runCommand cmdOptimiserReadPlan dt r s

/-- OPTIMISER_RECONCILE (R180). -/
def execOptimiserReconcile (dt : Nat) (r : Request) (s : State) : Host.Outcome State Fault Refusal :=
  runCommand cmdOptimiserReconcile dt r s

/-- OPTIMISER_FIT_STORE (R165). -/
def execOptimiserFitStore (dt : Nat) (r : Request) (s : State) : Host.Outcome State Fault Refusal :=
  runCommand cmdOptimiserFitStore dt r s

/-- OPTIMISER_GET_STORE_MODEL (R182). -/
def execOptimiserGetStoreModel (dt : Nat) (r : Request) (s : State) : Host.Outcome State Fault Refusal :=
  runCommand cmdOptimiserGetStoreModel dt r s

end Sys2Proof.Machine
end

