-- ==== Sys2Proof/Machine/Security.lean ====
section
/-! DEFINITION. The Strongroom: key register and key store, key update, derived keys and epochs, tamper response, debug gate and
the Security class (R456 to R492). -/

namespace Sys2Proof.Machine
open Sys2Proof

/-- The Strongroom changed. -/
def setSec (f : Security → Security) (s : State) : State := { s with sec := f s.sec }

/-- Random bytes are drawn. -/
def draw (n : Nat) (s : State) : Bytes × State := (fit n (Config.random s.sec.draws n), setSec (fun x => { x with draws := x.draws + 1 }) s)

/-- E: after reconciliation the count of blown fuses (R458). -/
def epochE (s : State) : Nat := s.sec.eFuse

/-- TAMPER_STATE (R483). -/
def tamperCode : TamperState → Nat
  | .none => 0 | .tripped => 1 | .latched => 2 | .exhausted => 3

/-! ### The key register and the key store (R464 to R466) -/

/-- TYPE, OWNER and allowed USAGE of a slot's role (R464). -/
def slotRole (n : Nat) : Nat × Nat × Nat :=
  if n = 0 then (3, 0, 1) else if n = 1 then (1, 1, 12) else if n = 2 then (1, 2, 4) else if n = 3 then (3, 3, 1) else if n = 4 then (2, 3, 2) else (2, 4, 2)

/-- Bytes of material of a TYPE. -/
def typeLength (t : Nat) : Nat := if t = 1 then 32 else if t = 2 then 48 else if t = 3 then 96 else 0

/-- The integrity tag of a slot's contents (R464). -/
def slotTag (n type owner usage : Nat) (material : Bytes) (s : State) : Bytes :=
  fit 4 (hmac (tagKey (epochE s)) (le 1 n ++ le 1 1 ++ le 1 type ++ le 1 owner ++ le 2 usage ++ le 1 material.length ++ material))

/-- A loaded slot with its tag. -/
def loadedSlot (n type owner usage : Nat) (material : Bytes) (s : State) : KeySlot :=
  { state := 1, type := type, owner := owner, usage := usage, material := material, tag := slotTag n type owner usage material s }

/-- A slot's tag matches its contents. -/
def slotSound (n : Nat) (k : KeySlot) (s : State) : Bool := k.tag == slotTag n k.type k.owner k.usage k.material s

/-- A slot becomes FAULT, with its event (R465). -/
def faultSlot (n : Nat) (s : State) : State :=
  emit 0x0303 [n] (setSec (fun x => { x with slots := tabSet x.slots n { keySlot n s with state := 2, material := [] } }) s)

/-- A use of a slot for a USAGE: its tag is checked first; the refusal is KEY_USAGE where the slot does not carry the usage and
SLOT_FAULT where it is FAULT (R465). -/
def useSlot (n usage : Nat) (s : State) : State × (Nat ⊕ Bytes) :=
  let k := keySlot n s
  if k.state = 2 then (s, .inl 0x29)
  else if k.state = 0 ∨ k.usage &&& usage ≠ usage then (s, .inl 0x2A)
  else if slotSound n k s then (s, .inr k.material)
  else (faultSlot n s, .inl 0x29)

/-- The bank in force. -/
def bankOf (n : Nat) (s : State) : Tab SlotImage := if n = 0 then s.sec.bank0 else s.sec.bank1

/-- A bank written. -/
def setBank (n : Nat) (b : Tab SlotImage) (s : State) : State :=
  setSec (fun x => if n = 0 then { x with bank0 := b } else { x with bank1 := b }) s

/-- The key store holds a slot image. -/
def storeHolds (s : State) : Bool := bankOf s.sec.bank s != []

/-- The clear descriptor of an image (R466). -/
def imageDesc (type owner usage length : Nat) : Bytes := le 1 1 ++ le 1 type ++ le 1 owner ++ zeros 1 ++ le 2 usage ++ le 1 length ++ zeros 9

/-- The nonce of an image (R466). -/
def imageNonce (slot bank writes : Nat) : Bytes := le 1 slot ++ le 1 bank ++ zeros 2 ++ le 8 writes

/-- The material of an image, where its GCM tag passes. -/
def unwrap (slot bank : Nat) (i : SlotImage) (s : State) : Option Bytes :=
  (Config.gcmOpen (kek (epochE s)) (imageNonce slot bank i.writes) (imageDesc i.type i.owner i.usage (typeLength i.type)) i.wrapped i.tag).map (fit (typeLength i.type))

/-- Material wrapped into an image of a bank. -/
def wrap (slot bank type owner usage : Nat) (material : Bytes) (s : State) : SlotImage :=
  let w := (match tabGet? (bankOf bank s) slot with | none => 0 | some i => i.writes) + 1
  let c := Config.gcmSeal (kek (epochE s)) (imageNonce slot bank w) (imageDesc type owner usage material.length) (fit 96 material)
  { type := type, owner := owner, usage := usage, wrapped := c.1, tag := c.2, writes := w }

/-- The register is loaded from the bank in force; an image whose GCM tag fails loads as FAULT (R465, R466). -/
def loadKeys (s : State) : State :=
  (bankOf s.sec.bank s).foldl (fun t e =>
    match unwrap e.1 s.sec.bank e.2 s with
    | some m => setSec (fun x => { x with slots := tabSet x.slots e.1 (loadedSlot e.1 e.2.type e.2.owner e.2.usage m s) }) t
    | none => faultSlot e.1 (setSec (fun x => { x with slots := tabSet x.slots e.1 { state := 2, type := e.2.type, owner := e.2.owner, usage := e.2.usage } }) t))
    (setSec (fun x => { x with slots := [] }) s)

/-- The register is zeroed. -/
def zeroKeys (s : State) : State := setSec (fun x => { x with slots := [] }) s

/-- The key store is erased. -/
def eraseStore (s : State) : State := setSec (fun x => { x with bank0 := [], bank1 := [], slots := [] }) s

/-- SLOTS_LOADED or SLOTS_FAULT: bit n for a slot in a STATE. -/
def slotMask (st : Nat) (s : State) : Nat := ((List.range 64).map (fun n => bitAt n ((keySlot n s).state == st))).sum

/-- The key update in progress ends FAILED with ABORTED (R471, R482). -/
def abortUpdate (s : State) : State :=
  match s.sec.update with
  | none => s
  | some u => opFail u.entry 0x0D (setSec (fun x => { x with update := none }) s)

/-! ### Key epochs (R472, R473) -/

/-- A pending rollover whose switch has not been made. -/
def pendingRoll (s : State) : Option Rollover := s.sec.roll.filter (fun r => r.old.isNone)

/-- A KEY_EPOCH item (R251). -/
def epochItem (s : State) : Bytes :=
  let p := pendingRoll s
  let o := s.sec.roll
  le 4 s.sec.keyEpoch ++ le 4 ((p.map (·.next)).getD 0) ++ le 4 ((o.map (·.overlap)).getD 0) ++ zeros 4 ++ le 8 ((o.map (·.switch)).getD 0)

/-- The switch to the next key epoch is made and replicated. -/
def switchEpoch (s : State) : State :=
  match pendingRoll s with
  | none => s
  | some r =>
    let s := emit 0x0306 [r.next] (setSec (fun x => { x with keyEpoch := r.next, roll := some { r with old := some x.keyEpoch } }) s)
    (replicate 0x16 true (epochItem s) s).1

/-- The overlap of a rollover ends. -/
def endOverlap (s : State) : State := setSec (fun x => { x with roll := none }) s

/-- The instant at which a rollover's overlap ends. -/
def overlapEnd (r : Rollover) : Nat := r.switch + r.overlap * 10 ^ 9

/-- Switches and ends of overlap that have passed take effect (R472). -/
def epochCatchUp (s : State) : State :=
  let s := match pendingRoll s with | some r => if r.switch ≤ s.zone then switchEpoch s else s | none => s
  match s.sec.roll with
  | some r => if r.old.isSome ∧ overlapEnd r ≤ s.zone then endOverlap s else s
  | none => s

/-- The Keeper runs in a powered state: its deadlines are met as they come. -/
def keeperUp (s : State) : Bool := s.boot.restored && !s.power.off && !s.boot.held && s.power.standby.isNone

/-- KEY_EPOCH_SWITCH (R473): due at SWITCH_TIME; a standby takes its switch from replication alone. -/
def execKeyEpochSwitch (dt : Nat) (s : State) : Host.Outcome State Fault Refusal :=
  let s := advance dt s
  .next (match pendingRoll s with
    | some r => if keeperUp s && s.win.role != .standby && decide (r.switch ≤ s.zone) then switchEpoch s else s
    | none => s)

/-- OVERLAP_END (R473): due at SWITCH_TIME + OVERLAP_S. -/
def execOverlapEnd (dt : Nat) (s : State) : Host.Outcome State Fault Refusal :=
  let s := advance dt s
  .next (match s.sec.roll with
    | some r => if keeperUp s && r.old.isSome && decide (overlapEnd r ≤ s.zone) then endOverlap s else s
    | none => s)

/-- The Sec-Set-Key-Epoch commands that wait for an item are answered; with no item, all of them. -/
def epochAcked (item : Option Nat) (s : State) : State :=
  let done := fun (w : Nat × Nat) => match item with | none => true | some i => w.2 == i
  let mine := s.sec.epochWait.filter done
  mine.foldl (fun t w => finish w.1 (.ok []) t) (setSec (fun x => { x with epochWait := x.epochWait.filter (fun w => !done w) }) s)

/-! ### Tamper (R477 to R484) -/

/-- SEC_TAMPER at its detection instant (R481). -/
def tamperEvent (source : Nat) (locked : Bool) (s : State) : State :=
  emitEvent { code := 0x0301, time := s.sec.lastTime, items := [item source, item (epochE s)], locked := locked } s

/-- Fuses are blown until E_fuse has caught up with E_vbat; with E the keys at rest change, so the store is erased; beyond 64 the
epochs are exhausted (R458 steps 4 and 5, R466). -/
def blowFuses (s : State) : State :=
  let f := min 64 (max s.sec.eFuse s.sec.eVbat)
  let t := if f = s.sec.eFuse then s else setSec (fun x => { x with eFuse := f }) (eraseStore s)
  if f < t.sec.eVbat then setSec (fun x => { x with exhausted := true, tamper := .exhausted }) t else t

/-- Step 4 of the tamper response, and step 4 made late (R480, R481). -/
def blowAndRecord (s : State) : State :=
  match s.sec.fuseDue with
  | none => blowFuses s
  | some (src, locked) => tamperEvent src locked (setSec (fun x => { x with fuseDue := none }) (blowFuses s))

/-- Step 5: once no source is active a TRIPPED module is LATCHED. -/
def latchTamper (s : State) : State :=
  if s.sec.tamper = .tripped ∧ s.sec.active = 0 then setSec (fun x => { x with tamper := .latched }) s else s

/-- The debug level becomes CLOSED, with its event (R486, R492). -/
def closeDebug (s : State) : State :=
  if s.win.debug = .closed then s else emit 0x0305 [0, 1] { s with win := { s.win with debug := .closed } }

/-- FIELD debug closes; VENDOR holds. -/
def closeField (s : State) : State := if s.win.debug = .field then closeDebug s else s

/-- The power state is one in which the response's Keeper-side steps are made: the module is powered and not in STANDBY. -/
def tamperAwake (s : State) : Bool := !s.power.off && s.power.standby.isNone && !s.boot.held

/-- The tamper response (R480, R482, R210, R39). -/
def tamperResponse (source : Nat) (s : State) : State :=
  let awake := tamperAwake s
  let held := storeHolds s
  let time := if awake then s.zone else s.rtc.ns
  let ts : TamperState := if s.sec.tamper = .exhausted then .exhausted else .tripped
  let ev := s.sec.eVbat + b2n held
  let s := setSec (fun x => { x with lastSource := source, lastTime := time, lastRtc := !awake, tamper := ts, fuseDue := some (source, awake && s.tb.state == 2), eVbat := ev }) s
  let s := zeroKeys (abortUpdate s)
  let s := if !awake then s
    else
      let s := raise 4 (if s.win.st = .ready then setModState .tampered s else s)
      tamperCaravans (closeField (endAllTls (yieldRow 2 6 160 s)))
  latchTamper (if awake && (s.win.power == .active || s.win.power == .quiet) then blowAndRecord s else s)

/-- A source is armed (R477, R478). -/
def armed (source : Nat) (s : State) : Bool :=
  if source = 0 then false
  else if source ≤ 4 then fld s.sec.tampCfg (source - 1) 1 != 0
  else if source = 6 then false
  else storeHolds s && ((source != 7 && source != 8) || tamperAwake s)

/-- TAMPER_DETECTED (R477 to R481): a source of R477 that hardware detects trips, its filter past. -/
def execTamperDetected (dt : Nat) (source : Fin 10) (s : State) : Host.Outcome State Fault Refusal :=
  let s := advance dt s
  let n := source.val
  .next (if armed n s && !bit s.sec.active (n - 1) then tamperResponse n (setSec (fun x => { x with active := x.active + 2 ^ (n - 1) }) s) else s)

/-- TAMPER_SOURCE_CLEAR (R478, R480 step 5): a source's condition no longer holds. -/
def execTamperSourceClear (dt : Nat) (source : Fin 10) (s : State) : Host.Outcome State Fault Refusal :=
  let s := advance dt s
  let n := source.val
  .next (if n != 0 && bit s.sec.active (n - 1) then latchTamper (setSec (fun x => { x with active := x.active - 2 ^ (n - 1) }) s) else s)

/-- The reconciliation of the tamper epoch at power-up, the VBAT domain's marker first (R458, R490). SEC_TAMPER waits for the event
ring (R481). -/
def reconcileTamper (s : State) : State :=
  let lost := !s.sec.marker
  let s := if lost then setSec (fun x => { x with tampCfg := x.tampCellar, marker := true }) s else s
  let trip := if lost then storeHolds s else decide (s.sec.eVbat < s.sec.eFuse)
  let s := if trip then
      let ts : TamperState := if s.sec.tamper = .exhausted then .exhausted else .tripped
      zeroKeys (setSec (fun x => { x with eVbat := x.eFuse + 1, lastSource := 6, lastTime := s.rtc.ns, lastRtc := true, tamper := ts, fuseDue := some (6, false) }) s)
    else if lost then setSec (fun x => { x with eVbat := x.eFuse }) s else s
  latchTamper (blowFuses s)

/-- SEC_TAMPER of a tamper whose fuses were blown at power-up is recorded once the ring takes records (R481). -/
def recordLateTamper (s : State) : State := blowAndRecord s

/-! ### Debug (R485, R486) -/

/-- An active module of a pair sends the resign frame; it lets go 100 ms later if its standby was heard within 50 ms (R34, R561). -/
def resign (s : State) : State :=
  if !(feedsTwin s && s.win.role == .active) then s
  else
    let heard := match s.twin.beatHeard with | none => false | some t => decide (s.tb.now ≤ t + 50000000)
    let s := sendTwin 0x02 0 (le 4 (if s.win.st = .fatal then s.win.fatalCode.toNat else 0) ++ le 1 (s.win.debug).code ++ zeros 3) s
    { s with sys := { s.sys with resignAt := if heard then some s.tb.now else none } }

/-- DEBUG_EXPIRY (R486): FIELD ends at NOT_AFTER. -/
def execDebugExpiry (dt : Nat) (s : State) : Host.Outcome State Fault Refusal :=
  let s := advance dt s
  .next (if keeperUp s && decide (s.sec.notAfter ≤ s.zone) then closeField s else s)

/-! ### Firmware images as the boot ROM judges them (R462, R463) -/

/-- SECURITY_VERSION of an image. -/
def imageVersion (f : FwSlot) : Nat := if f.factory then 0 else fld f.header 7 1

/-- An image passes R462. -/
def bootable (f : FwSlot) (s : State) : Bool :=
  if f.factory then s.sec.minVersion == 0
  else
    let h := f.header
    h.length == 256 && fld h 0 4 == 0x57465246 && f.body.length == fld h 0x0C 4 &&
      Config.sha384 (slice h 0x40 96) == Config.vendorImageKeyDigest && headerSigned h && slice h 0x10 48 == Config.sha384 f.body &&
      decide (s.sec.minVersion ≤ fld h 7 1) && fld h 6 1 == s.sys.steppingLetter

/-- The bytes of an image. -/
def imageBytes (f : FwSlot) : Bytes := if f.factory then Config.factoryImage else f.header ++ f.body

/-! ### Commands (R490, R491) -/

/-- The security status, 64 bytes. -/
def secStatus (s : State) : Bytes :=
  let x := s.sec
  let p := pendingRoll s
  le 1 (tamperCode x.tamper) ++ le 1 x.lastSource ++ le 2 x.active ++ le 1 (bitAt 0 x.twinKeyMissing + bitAt 1 p.isSome) ++ zeros 3 ++ le 4 x.eFuse ++
    le 1 (64 - x.eFuse) ++ le 1 x.minVersion ++ le 1 x.securityVersion ++ zeros 1 ++ le 8 x.updateCounter ++ le 8 (slotMask 1 s) ++
    le 8 (slotMask 2 s) ++ le 4 x.keyEpoch ++ le 4 ((p.map (·.next)).getD 0) ++ le 8 ((p.map (·.switch)).getD 0) ++ le 8 x.lastTime

/-- Sec-Get-Status. -/
def cmdSecGetStatus : Command := { code := 0x0301, standby := true, len := lenIs 0, body := fun _ s => (s, .ok (secStatus s)) }

/-- Sec-Get-Certificate (R460). -/
def cmdSecGetCertificate : Command :=
  { code := 0x0302, standby := true, len := lenIs 4, reserved := resv [(1, 3)]
    range := fun c _ => [inRange c.payload 0 1 0 1]
    body := fun c s => let d := Config.certificate (fld c.payload 0 1); (s, .ok (le 2 d.length ++ zeros 2 ++ d)) }

/-- DIGEST of the active program image; 0 for none. -/
def programDigest (s : State) : Bytes := match s.prog.image with | none => zeros 48 | some i => slice i (digestOffset i) 48

/-- DIGEST of the active model; 0 for none. -/
def modelDigest (s : State) : Bytes := match s.model.active with | none => zeros 48 | some m => m.digest

/-- The attestation report, 256 bytes (R461). -/
def attestReport (nonce : Bytes) (s : State) : Bytes :=
  let x := s.sec
  le 4 0x41535246 ++ le 2 1 ++ zeros 2 ++ nonce ++ identityKeyId ++ identBytes s ++ fit 48 (Config.sha384 (imageBytes (fwSlot s.win.imageSlot s))) ++
    le 1 x.securityVersion ++ le 1 x.minVersion ++ le 1 s.win.imageSlot ++ le 1 (tamperCode x.tamper) ++ le 1 (s.win.debug).code ++ zeros 3 ++ le 4 x.eFuse ++
    le 4 x.keyEpoch ++ le 8 x.updateCounter ++ le 8 (slotMask 1 s) ++ modelDigest s ++ programDigest s ++ le 8 s.zone ++ le 1 s.tb.state ++ zeros 7

/-- Sec-Attest (R461). -/
def cmdSecAttest : Command :=
  { code := 0x0303, standby := true, len := lenIs 32
    body := fun c s =>
      let r := attestReport c.payload s
      (s, .ok (r ++ fit 96 (Config.ecdsaSign identityPrivate (Config.sha384 r)))) }

/-- FINGERPRINT: the first 8 bytes of the digest of a slot's public key, 0 for secret material. -/
def fingerprint (k : KeySlot) : Bytes :=
  if k.state != 1 then zeros 8
  else if k.type = 3 then fit 8 (Config.sha384 k.material)
  else if k.type = 2 then fit 8 (Config.sha384 (fit 96 (Config.ecPublic k.material)))
  else zeros 8

/-- Sec-List-Slots. -/
def cmdSecListSlots : Command :=
  { code := 0x0304, standby := true, len := lenIs 0
    body := fun _ s =>
      (s, .ok ((List.range 64).flatMap (fun n =>
        let k := keySlot n s
        le 1 n ++ le 1 k.state ++ le 1 k.type ++ le 1 k.owner ++ le 2 k.usage ++ zeros 2 ++ fingerprint k))) }

/-- The refusals of key commands that rest on the state alone: TAMPERED, then those of VENDOR (R486, R488). -/
def keyRefusal (s : State) : Option Nat :=
  if s.win.st = .tampered then some 0x20 else if s.win.debug = .vendor then some 0x0C else none

/-- Sec-Install-Authority (R467). -/
def cmdSecInstallAuthority : Command :=
  { code := 0x0305, standby := true, hostOnly := true, len := lenIs 96
    state := fun _ s => match keyRefusal s with | some r => some r | none => if (keySlot 0 s).state = 0 then none else some 0x27
    body := fun c s =>
      let i := wrap 0 s.sec.bank 3 0 1 c.payload s
      let s := setBank s.sec.bank (tabSet (bankOf s.sec.bank s) 0 i) s
      let s := setSec (fun x => { x with slots := tabSet x.slots 0 (loadedSlot 0 3 0 1 c.payload s) }) s
      (s, .ok (fit 8 (Config.sha384 c.payload))) }

/-- An entry of a key update message. -/
def kuEntry (b : Bytes) (i : Nat) : Bytes := slice b (0xA0 + 112 * i) 112

/-- The decrypted material of a key update's entries, where the GCM tag passes (R468). -/
def kuOpen (b : Bytes) : Option Bytes :=
  let n := fld b 6 2
  let z := Config.ecdh identityPrivate (slice b 0x40 96)
  let es := (List.range n).map (kuEntry b)
  Config.gcmOpen (kdf z "FRS6-KUPD" (b.take 0x40) 256) (slice b 0x18 8 ++ slice b 0x20 4) (b.take 0xA0 ++ es.flatMap (fun e => e.take 16))
    (es.flatMap (fun e => slice e 16 96)) (slice b (0xA0 + 112 * n) 16)

/-- An entry fits its slot's role (R469 step 7). -/
def kuFits (e material : Bytes) : Bool :=
  let slot := fld e 0 1
  let r := slotRole slot
  decide (slot ≤ 63) &&
    (if fld e 1 1 = 1 then fld e 2 1 == r.1 && fld e 3 1 == r.2.1 && (fld e 4 2 &&& r.2.2 == fld e 4 2) && fld e 6 1 == typeLength r.1
      else if fld e 1 1 = 2 then slot != 0 && fld e 2 1 == 0 && fld e 3 1 == 0 && fld e 4 2 == 0 && fld e 6 1 == 0 && allZero material
      else false)

/-- The checks of R469 in their order: the reason of the first failure, or the decrypted material. -/
def kuCheck (b : Bytes) (s : State) : Nat ⊕ Bytes :=
  let n := fld b 6 2
  let signed := b.take (0xA0 + 112 * n + 16)
  let k0 := keySlot 0 s
  let es := (List.range n).map (kuEntry b)
  if slice b 8 16 ≠ identityKeyId then .inl 0x21
  else if fld b 0x20 4 ≠ epochE s then .inl 0x22
  else if fld b 0x18 8 ≤ s.sec.updateCounter then .inl 0x23
  else if k0.state = 0 then .inl 0x26
  else if k0.state = 2 ∨ !slotSound 0 k0 s then .inl 0x29
  else if !Config.ecdsaVerify k0.material signed (b.drop (0xA0 + 112 * n + 16)) then .inl 0x24
  else match kuOpen b with
    | none => .inl 0x25
    | some m =>
      let slots := es.map (fun e => fld e 0 1)
      if (es.zip (List.range n)).all (fun (x : Bytes × Nat) => kuFits x.1 (slice m (96 * x.2) 96)) && slots.Nodup then .inr m else .inl 0x28

/-- The bank not in force after a key update's entries: what a WRITE names, nothing where an ERASE names it, else the present image
carried across (R469). -/
def kuBank (b m : Bytes) (s : State) : Tab SlotImage :=
  let n := fld b 6 2
  let other := 1 - s.sec.bank
  let es := ((List.range n).map (fun i => (kuEntry b i, slice m (96 * i) 96)))
  (List.range 64).filterMap (fun k =>
    match es.find? (fun (e : Bytes × Bytes) => fld e.1 0 1 == k) with
    | some e =>
      if fld e.1 1 1 = 1 then some (k, wrap k other (fld e.1 2 1) (fld e.1 3 1) (fld e.1 4 2) (e.2.take (fld e.1 6 1)) s) else none
    | none => (match tabGet? (bankOf s.sec.bank s) k with
      | none => none
      | some i => (match unwrap k s.sec.bank i s with
        | some x => some (k, wrap k other i.type i.owner i.usage x s)
        | none => some (k, i))))

/-- Sec-Key-Update (R468, R469): the checks and the writes into the bank not in force. -/
def cmdSecKeyUpdate : Command :=
  { code := 0x0306, standby := true
    len := fun b l => decide (1 ≤ fld b 6 2 ∧ fld b 6 2 ≤ 64) && l == 272 + 112 * fld b 6 2
    reserved := fun b => [(0x24, 4), (0x30, 16)] ++ (List.range (fld b 6 2)).map (fun i => (0xA0 + 112 * i + 7, 9))
    state := fun _ s => match keyRefusal s with
      | some r => some r
      | none => if s.win.power = .holdup then some 0x06 else startRefusal 0x0306 s
    range := fun c _ => [chk (fld c.payload 0 4 == 0x4450554B) 0, chk (fld c.payload 4 2 == 1) 4]
    body := fun c s =>
      let b := c.payload
      startOp c (fld b 6 2) s (fun n s =>
        match kuCheck b s with
        | .inl r => opFail n r (if r = 0x29 ∧ (keySlot 0 s).state = 1 then faultSlot 0 s else s)
        | .inr m =>
          let mask := ((List.range (fld b 6 2)).map (fun i => 2 ^ fld (kuEntry b i) 0 1)).sum
          let u : KeyUpdate := { entry := n, counter := fld b 0x18 8, written := mask, bank := kuBank b m s }
          progressTo n (fld b 6 2) (setSec (fun x => { x with update := some u }) s)) }

/-- KEY_UPDATE_COMMIT (R470): the durable write of the commit record. -/
def execKeyUpdateCommit (dt : Nat) (s : State) : Host.Outcome State Fault Refusal :=
  let s := advance dt s
  .next (match s.sec.update with
    | none => s
    | some u =>
      let other := 1 - s.sec.bank
      let s := setBank other u.bank s
      let s := setSec (fun x => { x with bank := other, updateCounter := u.counter, commitSeq := (x.commitSeq + 1) % 2 ^ 32, update := none }) s
      let s := if s.sec.tamper = .none && s.win.debug != .vendor then loadKeys s else s
      opDone u.entry (le 8 u.counter ++ le 8 u.written) (emit 0x0304 [(u.counter : Int), (u.written : Int)] s))

/-- Sec-Enrol-Node (R474). -/
def cmdSecEnrolNode : Command :=
  { code := 0x0307, len := lenIs 104, reserved := resv [(2, 2)]
    state := fun _ s => match keyRefusal s with | some r => some r | none => if s.win.power = .holdup then some 0x06 else none
    range := fun c s =>
      let k := fld c.payload 4 4
      [inRange c.payload 0 2 1 0xFFFD, chk (k == s.sec.keyEpoch || (pendingRoll s).any (fun r => r.next == k)) 4]
    body := fun c s =>
      match useSlot 1 8 s with
      | (s, .inl r) => (s, refuse r)
      | (s, .inr master) =>
        let id := slice c.payload 0 2 ++ slice c.payload 4 4
        let d := draw 48 s
        let z := Config.ecdh d.1 (slice c.payload 8 96)
        let e := Config.gcmSeal (kdf z "FFP-ENROL" id 256) (zeros 12) id (nodeKey master (fld c.payload 0 2) (fld c.payload 4 4))
        (d.2, .ok (fit 96 (Config.ecPublic d.1) ++ fit 32 e.1 ++ fit 16 e.2)) }

/-- Sec-Set-Key-Epoch (R473): in a pair answered once the standby has acknowledged the item. -/
def cmdSecSetKeyEpoch : Command :=
  { code := 0x0308, len := lenIs 16
    state := fun _ s => if s.win.st = .tampered then some 0x20 else match s.sec.roll with | some r => if r.old.isSome then some 0x0A else none | none => none
    range := fun c s =>
      [(decide (s.sec.keyEpoch < fld c.payload 0 4), 0x33, 0), inRange c.payload 4 4 10 86400, chk (decide (s.zone + 10 ^ 9 ≤ fld c.payload 8 8)) 8]
    body := fun c s =>
      let r : Rollover := { next := fld c.payload 0 4, overlap := fld c.payload 4 4, switch := fld c.payload 8 8 }
      let s := setSec (fun x => { x with roll := some r }) s
      match replicate 0x16 true (epochItem s) s with
      | (s, some i) => (setSec (fun x => { x with epochWait := x.epochWait ++ [(c.mbox, i)] }) s, .deferred)
      | (s, none) => (s, .ok []) }

/-- Sec-Get-Tamper-Config. -/
def cmdSecGetTamperConfig : Command := { code := 0x0309, standby := true, len := lenIs 0, body := fun _ s => (s, .ok s.sec.tampCfg) }

/-- Sec-Set-Tamper-Config (R479, R490): a change of a MODE that is not OFF runs the tamper response with source DISARM. -/
def cmdSecSetTamperConfig : Command :=
  { code := 0x030A, standby := true, len := lenIs 8, reserved := resv [(4, 4)]
    range := fun c _ => (List.range 4).map (fun i => inRange c.payload i 1 0 2)
    body := fun c s =>
      let old := s.sec.tampCfg
      let off := (List.range 4).filter (fun i => fld c.payload i 1 == 0 && bit s.sec.active i)
      let disarm := (List.range 4).any (fun i => fld old i 1 != 0 && fld c.payload i 1 != fld old i 1)
      let s := setSec (fun x => { x with tampCfg := c.payload, tampCellar := c.payload, active := x.active - (off.map (2 ^ ·)).sum }) s
      (if disarm then tamperResponse 0x0A s else latchTamper s, .ok []) }

/-- Sec-Rearm (R483). -/
def cmdSecRearm : Command :=
  { code := 0x030B, standby := true, len := lenIs 0
    state := fun _ s => match s.sec.tamper with
      | .none => some 0x2C
      | .tripped => some 0x2B
      | .exhausted => some 0x30
      | .latched => if s.sec.fuseDue.isSome then some 0x06 else none
    body := fun _ s =>
      let s := eraseStore s
      let s := setSec (fun x => { x with keyEpoch := 1, roll := none, tamper := .none }) s
      let s := if s.win.st = .tampered then setModState .ready s else s
      (emit 0x0302 [(epochE s : Int)] s, .ok (le 4 (epochE s))) }

/-- Sec-Get-Debug-Challenge (R485). -/
def cmdSecGetDebugChallenge : Command :=
  { code := 0x030C, standby := true, len := lenIs 0
    body := fun _ s =>
      let d := draw 32 s
      let e := s.zone + 300 * 10 ^ 9
      (setSec (fun x => { x with challenge := some (d.1, e) }) d.2, .ok (d.1 ++ le 8 e)) }

/-- A token's fields match and its signature verifies (R485). -/
def tokenFits (b challenge : Bytes) (s : State) : Bool :=
  let level := fld b 6 1
  let na := fld b 0x40 8
  let key : Option Bytes := if level = 2 then (if Config.sha384 Config.vendorDebugKey = Config.vendorDebugKeyDigest then some Config.vendorDebugKey else none)
    else if keyLoaded 0 s && slotSound 0 (keySlot 0 s) s then some (keySlot 0 s).material else none
  fld b 0 4 == 0x54474244 && fld b 4 2 == 1 && (level == 1 || level == 2) && slice b 8 16 == identityKeyId && fld b 0x18 4 == epochE s &&
    slice b 0x20 32 == challenge && decide (s.zone < na) && decide (na ≤ s.zone + 86400 * 10 ^ 9) &&
    (match key with | none => false | some k => Config.ecdsaVerify k (b.take 0x60) (slice b 0x60 96))

/-- Entry to VENDOR (R39, R486): the register is zeroed before the Keeper can be halted, and the resign frame is sent. -/
def enterVendor (s : State) : State := resign (yieldRow 3 4 128 (zeroKeys { s with win := { s.win with debug := .vendor } }))

/-- Sec-Open-Debug (R485, R486): a challenge serves one use. -/
def cmdSecOpenDebug : Command :=
  { code := 0x030D, standby := true, len := lenIs 192, reserved := resv [(7, 1), (0x1C, 4), (0x48, 24)]
    state := fun _ s => match s.sec.challenge with | none => some 0x2E | some c => if s.zone < c.2 then none else some 0x2E
    body := fun c s =>
      let ch := match s.sec.challenge with | none => [] | some x => x.1
      let level := fld c.payload 6 1
      if !tokenFits c.payload ch s then (setSec (fun x => { x with challenge := none }) s, refuse 0x2D)
      else if level = 1 ∧ s.win.debug = .vendor then (s, refuse 0x06)
      else
        let s := setSec (fun x => { x with challenge := none, notAfter := fld c.payload 0x40 8 }) s
        let s := if level = 2 then enterVendor s else { s with win := { s.win with debug := .field } }
        (emit 0x0305 [(level : Int), 0] s, .ok (le 8 s.zone)) }

/-- Sec-Close-Debug (R486). -/
def cmdSecCloseDebug : Command :=
  { code := 0x030E, standby := true, len := lenIs 0
    state := fun _ s => if s.win.debug = .vendor then some 0x06 else none
    body := fun _ s => (closeField s, .ok []) }

/-- Sec-Raise-Min-Version (R463). -/
def cmdSecRaiseMinVersion : Command :=
  { code := 0x030F, standby := true, len := lenIs 4, reserved := resv [(1, 3)]
    range := fun c s => [(decide (s.sec.minVersion ≤ fld c.payload 0 1 ∧ fld c.payload 0 1 ≤ s.sec.securityVersion), 0x2F, 0)]
    body := fun c s =>
      let v := fld c.payload 0 1
      let s := if v = s.sec.minVersion then s else emit 0x0307 [(v : Int)] (setSec (fun x => { x with minVersion := v }) s)
      (s, .ok (le 1 (b2n (bootable (fwSlot (1 - s.win.imageSlot) s) s)) ++ zeros 3)) }

/-- Sec-Put-Server-Chain (R476). -/
def cmdSecPutServerChain : Command :=
  { code := 0x0310, standby := true, len := lenCounted 4 2 2, reserved := resv [(1, 1)]
    state := fun _ s => if s.win.st = .tampered then some 0x20 else none
    range := fun c _ => [inRange c.payload 0 1 1 2, inRange c.payload 2 2 0 8000]
    body := fun c s =>
      let der := slice c.payload 4 (fld c.payload 2 2)
      let k := keySlot 4 s
      if k.state = 2 then (s, refuse 0x29)
      else if k.state = 1 ∧ Config.certKey der = Config.ecPublic k.material then (setSec (fun x => { x with chain := some (fld c.payload 0 1, der) }) s, .ok [])
      else (s, refuse 0x31) }

/-- Sec-Zeroise (R477). -/
def cmdSecZeroise : Command :=
  { code := 0x0311, standby := true, len := lenIs 4
    range := fun c _ => [(fld c.payload 0 4 == 0x4F52455A, 0x32, 0)]
    body := fun _ s => (tamperResponse 0x0B s, .ok []) }

/-- Sec-Sign (R465, R490). -/
def cmdSecSign : Command :=
  { code := 0x0312, standby := true, len := lenIs 52, reserved := resv [(1, 3)]
    state := fun _ s => keyRefusal s
    range := fun c _ => [inRange c.payload 0 1 4 63]
    body := fun c s =>
      if fld c.payload 0 1 = 4 then (s, refuseAt 0x2A 0)
      else match useSlot (fld c.payload 0 1) 2 s with
        | (s, .inl r) => (s, refuseAt r 0)
        | (s, .inr d) => (s, .ok (fit 96 (Config.ecdsaSign d (slice c.payload 4 48)))) }

/-! ### The rows of the Ferosh command set: one exchange each -/

/-- SEC_GET_STATUS (R491). -/
def execSecGetStatus (dt : Nat) (r : Request) (s : State) : Host.Outcome State Fault Refusal :=
  runCommand cmdSecGetStatus dt r s

/-- SEC_GET_CERTIFICATE (R460). -/
def execSecGetCertificate (dt : Nat) (r : Request) (s : State) : Host.Outcome State Fault Refusal :=
  runCommand cmdSecGetCertificate dt r s

/-- SEC_ATTEST (R461). -/
def execSecAttest (dt : Nat) (r : Request) (s : State) : Host.Outcome State Fault Refusal :=
  runCommand cmdSecAttest dt r s

/-- SEC_LIST_SLOTS (R490). -/
def execSecListSlots (dt : Nat) (r : Request) (s : State) : Host.Outcome State Fault Refusal :=
  runCommand cmdSecListSlots dt r s

/-- SEC_INSTALL_AUTHORITY (R467). -/
def execSecInstallAuthority (dt : Nat) (r : Request) (s : State) : Host.Outcome State Fault Refusal :=
  runCommand cmdSecInstallAuthority dt r s

/-- SEC_KEY_UPDATE (R469). -/
def execSecKeyUpdate (dt : Nat) (r : Request) (s : State) : Host.Outcome State Fault Refusal :=
  runCommand cmdSecKeyUpdate dt r s

/-- SEC_ENROL_NODE (R474). -/
def execSecEnrolNode (dt : Nat) (r : Request) (s : State) : Host.Outcome State Fault Refusal :=
  runCommand cmdSecEnrolNode dt r s

/-- SEC_SET_KEY_EPOCH (R473). -/
def execSecSetKeyEpoch (dt : Nat) (r : Request) (s : State) : Host.Outcome State Fault Refusal :=
  runCommand cmdSecSetKeyEpoch dt r s

/-- SEC_GET_TAMPER_CONFIG (R490). -/
def execSecGetTamperConfig (dt : Nat) (r : Request) (s : State) : Host.Outcome State Fault Refusal :=
  runCommand cmdSecGetTamperConfig dt r s

/-- SEC_SET_TAMPER_CONFIG (R479). -/
def execSecSetTamperConfig (dt : Nat) (r : Request) (s : State) : Host.Outcome State Fault Refusal :=
  runCommand cmdSecSetTamperConfig dt r s

/-- SEC_REARM (R483). -/
def execSecRearm (dt : Nat) (r : Request) (s : State) : Host.Outcome State Fault Refusal :=
  runCommand cmdSecRearm dt r s

/-- SEC_GET_DEBUG_CHALLENGE (R485). -/
def execSecGetDebugChallenge (dt : Nat) (r : Request) (s : State) : Host.Outcome State Fault Refusal :=
  runCommand cmdSecGetDebugChallenge dt r s

/-- SEC_OPEN_DEBUG (R485). -/
def execSecOpenDebug (dt : Nat) (r : Request) (s : State) : Host.Outcome State Fault Refusal :=
  runCommand cmdSecOpenDebug dt r s

/-- SEC_CLOSE_DEBUG (R486). -/
def execSecCloseDebug (dt : Nat) (r : Request) (s : State) : Host.Outcome State Fault Refusal :=
  runCommand cmdSecCloseDebug dt r s

/-- SEC_RAISE_MIN_VERSION (R463). -/
def execSecRaiseMinVersion (dt : Nat) (r : Request) (s : State) : Host.Outcome State Fault Refusal :=
  runCommand cmdSecRaiseMinVersion dt r s

/-- SEC_PUT_SERVER_CHAIN (R476). -/
def execSecPutServerChain (dt : Nat) (r : Request) (s : State) : Host.Outcome State Fault Refusal :=
  runCommand cmdSecPutServerChain dt r s

/-- SEC_ZEROISE (R477). -/
def execSecZeroise (dt : Nat) (r : Request) (s : State) : Host.Outcome State Fault Refusal :=
  runCommand cmdSecZeroise dt r s

/-- SEC_SIGN (R490). -/
def execSecSign (dt : Nat) (r : Request) (s : State) : Host.Outcome State Fault Refusal :=
  runCommand cmdSecSign dt r s

end Sys2Proof.Machine
end

