-- ==== Sys2Proof/Machine/Clocks.lean ====
section
/-! DEFINITION. Clocks (chapter 17): the sources and their qualification, the monitors, the reference and CM multiplexers, SYS_PLL,
the gate tree, CLKOUT and the commands of the Clocks class; and the link changes of the ports, which feed the SyncE sources. -/

namespace Sys2Proof.Machine
open Sys2Proof

/-- An update of the clocks. -/
def setClk (f : Clocks → Clocks) (s : State) : State := { s with clocks := f s.clocks }

/-- A source. -/
def clkSource (x : Nat) (s : State) : ClockSource := tabGet {} s.clocks.sources x

/-- An update of a source. -/
def setClkSource (x : Nat) (f : ClockSource → ClockSource) (s : State) : State :=
  setClk (fun c => { c with sources := tabSet c.sources x (f (tabGet {} c.sources x)) }) s

/-- A source is QUALIFIED. -/
def isQualified (x : Nat) (s : State) : Bool := (clkSource x s).state == 2

/-- A multiplexer: 0 the reference, else the CM multiplexer. -/
def mux (m : Nat) (s : State) : Mux := if m = 0 then s.clocks.ref else s.clocks.cm

/-- An update of a multiplexer. -/
def setMux (m : Nat) (f : Mux → Mux) (s : State) : State :=
  setClk (fun c => if m = 0 then { c with ref := f c.ref } else { c with cm := f c.cm }) s

/-- The order of a multiplexer: REF_LIST with the TCXO last (R505), or TCXO, REFIN if CM_USE_REFIN, RC8M (R502). -/
def muxOrder (m : Nat) (s : State) : List Nat :=
  let flags := fld s.clocks.cfg 0x04 1
  if m = 0 then ((slice s.clocks.cfg 0 4).map (·.toNat)).filter (fun x => x != 0 && x != 1) ++ [1]
  else [1] ++ (if bit flags 4 then [2] else []) ++ [5]

/-- WTR_S in ns. -/
def wtrNs (s : State) : Nat := fld s.clocks.cfg 0x06 2 * 1000000000

/-- The period of a source in ns; 0 where it is not a multiplexer's. -/
def periodNs (x : Nat) : Nat := match x with | 1 => 40 | 2 => 100 | 3 | 4 => 8 | 5 => 125 | _ => 0

/-- SOURCE_STATE (R500, R515). -/
def sourceEvent (x : Nat) (s : State) : State :=
  emit 0x0201 [(x : Int), ((clkSource x s).state : Int), ((clkSource x s).trip : Int)] s

/-- A source changes STATE. -/
def sourceTo (x st : Nat) (f : ClockSource → ClockSource) (s : State) : State :=
  sourceEvent x (setClkSource x (fun c => { f c with state := st }) s)

/-- CLOCK_DEGRADED follows what calls for it, with its event: RC8M has tripped, a fallback found no source, SYS_PLL runs from RC8M,
or the TCXO failed before a first use (R500, R503, R506, R545; log 30). -/
def followDegraded (s : State) : State :=
  let c := s.clocks
  let d := (clkSource 5 s).state != 2 || c.ref.lost || c.cm.lost || (c.pll == 3 && c.cm.source == 5) ||
    (!c.cm.used && (clkSource 1 s).state == 3)
  if d = c.degraded then s else emit 0x0205 [(b2n (!d) : Nat)] (setClk (fun c => { c with degraded := d }) s)

/-- SYS_PLL enters a state. -/
def pllTo (st : Nat) (s : State) : State := setClk (fun c => { c with pll := st, pllFrom := s.tb.now }) s

/-- A multiplexer changes source (R501): the switch is recorded, and a forced one counted. -/
def switchTo (m new cause : Nat) (s : State) : State :=
  let x := mux m s
  if x.source = new then s
  else
    let s := setMux m (fun x => { x with source := new, stopped := 0, lost := false, used := x.used || new != 5 }) s
    let s := emit 0x0202 [(m : Int), (x.source : Int), (new : Int), (cause : Int)] (setClk (fun c => { c with refSwitches := (c.refSwitches + 1) % 2 ^ 32 }) s)
    let s := if x.stopped = 0 then s
      else emit 0x0203 [(m : Int), (x.stopped : Int)] (setClk (fun c => { c with forced := true, forcedSwitches := (c.forcedSwitches + 1) % 2 ^ 32 }) s)
    if m = 0 then pllTo 1 s else setClk (fun c => { c with rcBridge := false }) s

/-- A hold ends, with its duration up to the end of the switch that ends it (R501, R503). -/
def endHold (m switchNs : Nat) (s : State) : State :=
  match (mux m s).held with
  | none => s
  | some (y, t) => emit 0x0204 [(m : Int), (y : Int), 1, ((s.tb.now - t + switchNs : Nat) : Int)] (setClk (fun c => if m = 0 then c else { c with rcBridge := false }) (setMux m (fun x => { x with held := none }) s))

/-- The time a switch takes: 2 cycles of each source, or 4 of the new one where the old one has stopped (R501). -/
def switchNs (old new stopped : Nat) : Nat := if stopped != 0 then 4 * periodNs new else 2 * periodNs old + 2 * periodNs new

/-- The sources below one in an order; all of them where the order does not name it. -/
def below (order : List Nat) (x : Nat) : List Nat :=
  if order.contains x then (order.dropWhile (· != x)).drop 1 else order

/-- The fallback of a multiplexer whose source, or whose awaited source, has gone (R503). -/
def fallBack (m x cause : Nat) (s : State) : State :=
  let held := (mux m s).held.isSome
  let ready := fun y => y == 5 || (clkSource y s).state == 1 || (clkSource y s).state == 2
  match (below (muxOrder m s) x).find? ready with
  | none =>
    let s := setMux m (fun q => { q with source := if m = 0 then 0 else 5, lost := true }) (endHold m 0 s)
    if m = 0 ∧ s.clocks.pll ≠ 0 ∧ s.clocks.pll ≠ 3 then pllTo 3 s else s
  | some y =>
    if y = 5 ∨ isQualified y s then
      if y = 5 ∧ held then setMux m (fun q => { q with lost := true }) (endHold m 0 s)
      else switchTo m y cause (endHold m (switchNs (mux m s).source y (mux m s).stopped) s)
    else
      let s := if m = 0 then (if s.clocks.pll = 3 then s else pllTo 3 (setMux m (fun q => { q with source := 0 }) s))
        else setClk (fun c => { c with rcBridge := true }) (switchTo m 5 cause s)
      let from_ := match (mux m s).held with | none => s.tb.now | some h => h.2
      emit 0x0204 [(m : Int), (y : Int), 0, 0] (setMux m (fun q => { q with held := some (y, from_) }) s)

/-- A source leaves use: each multiplexer that uses or awaits it falls back. -/
def dropSource (x cause : Nat) (s : State) : State :=
  let awaits := fun (m : Nat) (t : State) => match (mux m t).held with | none => false | some h => h.1 == x
  let one := fun (t : State) (m : Nat) => if (mux m t).source == x || awaits m t then fallBack m x cause t else t
  followDegraded ([0, 1].foldl one s)

/-- The first QUALIFIED source of a multiplexer's order. -/
def bestSource (m : Nat) (s : State) : Option Nat := (muxOrder m s).find? (fun y => isQualified y s)

/-- A source has qualified: a hold that awaits it or a source below it ends, and a multiplexer without a better source takes it
(R502, R503, R505). -/
def takeSource (x m : Nat) (s : State) : State :=
  let order := muxOrder m s
  if !order.contains x then s
  else
    let q := mux m s
    match q.held with
    | some (z, _) =>
      if order.idxOf x ≤ order.idxOf z then
        let y := (bestSource m s).getD x
        switchTo m y 0 (endHold m (switchNs q.source y q.stopped) s)
      else s
    | none =>
      if m = 0 then
        if q.source = 0 then switchTo m ((bestSource m s).getD x) (if s.clocks.pll = 0 then 2 else 0) s else s
      else if q.source = 5 ∧ (x = 2 ∨ !q.used) then switchTo m x (if q.used then 0 else 2) s
      else s

/-- The shortest time in which a qualification count can complete: its nominal time less the widest window, 5 % (R496, R500; log 30). -/
def countNs (x : Nat) (s : State) : Nat :=
  let n := match x with
    | 1 => if s.clocks.oscInUse.1 = 1 then s.clocks.oscInUse.2 * 100000 else 2621440
    | 2 => 6553600
    | 3 | 4 => 524288
    | 6 => 2000000000
    | _ => 0
  n * 95 / 100

/-- The qualification limit (R496, R498). -/
def limitNs (x : Nat) (s : State) : Option Nat :=
  match x with
  | 1 => some (50000000 + if s.clocks.oscInUse.1 = 1 then s.clocks.oscInUse.2 * 100000 else 0)
  | 2 | 3 | 4 => some 1000000000
  | 6 => some 10000000000
  | _ => none

/-- SOURCE_QUALIFIED (R497, R498, R503): the count or the start delay completes, with the measured offset; a TCXO that the missing-edge
detector reports STOPPED at the end of its delay starts the delay again. -/
def execSourceQualified (dt : Nat) (source : Fin 8) (offset : Int) (stopped : Bool) (s : State) : Host.Outcome State Fault Refusal :=
  let s := advance dt s
  let x := source.val
  let c := clkSource x s
  let delay := x == 1 && s.clocks.oscInUse.1 == 1
  .next (if x = 0 ∨ x = 5 ∨ s.power.off ∨ c.state ≠ 1 ∨ s.tb.now < c.countFrom + countNs x s then s
    else if delay && stopped then setClkSource x (fun c => { c with countFrom := s.tb.now }) s
    else
      let s := if x = 1 then setClk (fun k => { k with compat := delay, tcxoQualUs := if k.cm.used then k.tcxoQualUs else (s.tb.now - c.since) / 1000 }) s else s
      let s := sourceTo x 2 (fun c => { c with offset := max (-32768) (min 32767 offset), qualAt := s.tb.now }) s
      followDegraded (takeSource x 1 (takeSource x 0 s)))

/-- The greatest offset the frequency monitor lets pass, in 0.01 ppm (R500). -/
def freqWindow (x : Nat) (s : State) : Nat :=
  if s.clocks.pll = 2 ∧ s.clocks.ref.source ≠ x then (if x = 1 then 5000 else 10000)
  else if x = 1 ∨ s.clocks.cm.source = 5 then 5000000 else 10000

/-- A clock island's period below half its nominal value runs the tamper response while CLOCK is armed (R477, R500). -/
def clockTamper (s : State) : State :=
  if armed 8 s && !bit s.sec.active 7 then tamperResponse 8 (setSec (fun x => { x with active := x.active + 128 }) s) else s

/-- A monitor trips a source (R500): out of use at once, back to QUALIFYING, or to DISABLED where its PHY has no link (R497). The
running count starts again; the limit runs on from its start. -/
def tripSource (x trip : Nat) (s : State) : State :=
  let fresh := (clkSource x s).state == 2
  let st := if trip = 4 then 0 else 1
  let s := sourceTo x st (fun c => { c with trip := trip, countFrom := s.tb.now, since := if fresh then s.tb.now else c.since, valid := c.valid && trip != 4 }) s
  let mark := fun (t : State) (m : Nat) => if trip = 1 ∧ (mux m t).source = x then setMux m (fun q => { q with stopped := x }) t else t
  dropSource x 0 ([0, 1].foldl mark s)

/-- SOURCE_TRIP (R500, R504). -/
def execSourceTrip (dt : Nat) (source : Fin 8) (trip : ClockTrip) (s : State) : Host.Outcome State Fault Refusal :=
  let s := advance dt s
  let x := source.val
  let st := (clkSource x s).state
  .next (if x = 0 ∨ s.power.off ∨ (st ≠ 1 ∧ st ≠ 2) then s
    else match trip with
      | .stopped => tripSource x 1 s
      | .freq o => if x = 5 ∨ o.natAbs ≤ freqWindow x s then s else tripSource x 2 (setClkSource x (fun c => { c with offset := max (-32768) (min 32767 o) }) s)
      | .fast => clockTamper (tripSource x 3 s)
      | .linkDown => if x = 3 ∨ x = 4 then tripSource x 4 s else s)

/-- QUALIFICATION_LIMIT (R497, R503): every source whose limit has passed before its count completed becomes FAILED. -/
def execQualificationLimit (dt : Nat) (s : State) : Host.Outcome State Fault Refusal :=
  let s := advance dt s
  let due := fun (x : Nat) => (clkSource x s).state == 1 && (match limitNs x s with | none => false | some l => decide ((clkSource x s).since + l ≤ s.tb.now))
  .next (if s.power.off then s
    else ([1, 2, 3, 4, 6].filter due).foldl (fun t x => dropSource x 0 (sourceTo x 3 (fun c => { c with failedAt := s.tb.now }) t)) s)

/-- SOURCE_RETRY (R497): a FAILED source is tried again 1 s later; the TCXO after XTO has been off for 10 ms. -/
def execSourceRetry (dt : Nat) (s : State) : Host.Outcome State Fault Refusal :=
  let s := advance dt s
  let due := fun (x : Nat) => (clkSource x s).state == 3 && decide ((clkSource x s).failedAt + 1000000000 ≤ s.tb.now)
  .next (if s.power.off then s
    else ([1, 2, 3, 4, 6].filter due).foldl (fun t x =>
      let at_ := s.tb.now + (if x = 1 then 10000000 else 0)
      followDegraded (sourceTo x 1 (fun c => { c with since := at_, countFrom := at_ }) t)) s)

/-- A source has been QUALIFIED for WTR_S without a trip. -/
def restored (x : Nat) (s : State) : Bool := isQualified x s && decide ((clkSource x s).qualAt + wtrNs s ≤ s.tb.now)

/-- WTR_REVERT (R502, R505): the CM multiplexer returns to the TCXO, and with REVERTIVE SYS_PLL to a higher source. -/
def execWtrRevert (dt : Nat) (s : State) : Host.Outcome State Fault Refusal :=
  let s := advance dt s
  .next (if s.power.off then s
    else
      let s := if s.clocks.cm.source ≠ 1 ∧ s.clocks.cm.held.isNone ∧ restored 1 s then switchTo 1 1 1 s else s
      let order := muxOrder 0 s
      let above := order.takeWhile (· != s.clocks.ref.source)
      let s := if s.clocks.ref.source ≠ 0 ∧ bit (fld s.clocks.cfg 0x04 1) 0 ∧ s.clocks.ref.held.isNone then
          (match above.find? (fun x => restored x s) with | none => s | some x => switchTo 0 x 1 s)
        else s
      followDegraded s)

/-- PLL_LOCKED (R505): due at least 1 s after the reference was selected. -/
def execPllLocked (dt : Nat) (s : State) : Host.Outcome State Fault Refusal :=
  let s := advance dt s
  .next (if !s.power.off && s.clocks.pll == 1 && decide (s.clocks.pllFrom + 1000000000 ≤ s.tb.now) then pllTo 2 s else s)

/-! ### Enabling sources; start, STANDBY and return (R496, R497, R507) -/

/-- A source is enabled and has what it needs to start: the flags of the configuration, and for SyncE the PHY's SYNCE_VALID. -/
def sourceWanted (x : Nat) (s : State) : Bool :=
  let flags := fld s.clocks.cfg 0x04 1
  match x with
  | 1 | 6 => true
  | 2 => bit flags 1 && !inStandby s
  | 3 | 4 => bit flags (x - 1) && (clkSource x s).valid && !inStandby s
  | 7 => !s.win.qspi && !inStandby s
  | _ => false

/-- The sources follow what is enabled: a newly enabled one starts its count, a disabled one leaves use. -/
def followSources (cause : Nat) (s : State) : State :=
  [1, 2, 3, 4, 6, 7].foldl (fun t x =>
    let on := (clkSource x t).state != 0
    if sourceWanted x t && !on then sourceTo x 1 (fun c => { c with since := t.tb.now, countFrom := t.tb.now }) t
    else if !sourceWanted x t && on then dropSource x cause (sourceTo x 0 (fun c => c) t)
    else t) s

/-- The multiplexers follow a changed order: a source or an awaited source that the order no longer names is left, and the CM
multiplexer takes REFIN where RC8M stands in for it (R502, R503, R505). -/
def followOrder (s : State) : State :=
  let one := fun (t : State) (m : Nat) =>
    let order := muxOrder m t
    let q := mux m t
    let awaited := match q.held with | none => false | some h => !order.contains h.1
    if (q.source != 0 && !order.contains q.source) || awaited then
      match bestSource m t with
      | some y => switchTo m y 2 (endHold m (switchNs q.source y 0) t)
      | none => fallBack m 0 2 (setMux m (fun q => { q with held := none }) t)
    else if m = 0 ∧ q.source = 0 ∧ q.held.isNone then (match bestSource m t with | none => t | some y => switchTo m y 2 t)
    else if m = 1 ∧ q.source = 5 ∧ q.held.isNone ∧ order.contains 2 ∧ isQualified 2 t then switchTo m 2 2 t
    else t
  followDegraded ([0, 1].foldl one s)

/-- The clocks as a power-up finds them: RC8M on the CM island, XTO switched on, SYS_PLL in FREE_RUN, and the start record read,
an invalid one taken as COUNT with its event (R499, R502, R505, R545). -/
def clocksStart (s : State) : State :=
  let bad := !s.clocks.oscValid || (s.clocks.osc.1 == 1 && s.clocks.osc.2 == 0)
  let s := if bad then emit 0x0206 [0] s else s
  let c := s.clocks
  { s with clocks := { cfg := c.cfg, osc := c.osc, oscValid := c.oscValid, oscInUse := if bad then (0, 0) else c.osc, gates := c.gates, sources := [(5, { state := 2 }), (1, { state := 1, since := s.tb.now, countFrom := s.tb.now }), (6, { state := 1, since := s.tb.now, countFrom := s.tb.now })] } }

/-- Entry to STANDBY (R507): REFIN and SyncE off, SYS_PLL on the TCXO, and every gate off but CM, SYS_PLL, time base and RTC. -/
def clocksStandby (s : State) : State :=
  let s := followSources 2 (setClk (fun c => { c with gatesBefore := c.gates, gates := 0x20007 }) s)
  followDegraded (if s.clocks.ref.source ≠ 1 ∧ isQualified 1 s then switchTo 0 1 2 s else s)

/-- Return from STANDBY (R507): the configured sources start again and the gates are as before entry. -/
def clocksWake (s : State) : State := gateFollow (followSources 2 (setClk (fun c => { c with gates := c.gatesBefore }) s))

/-! ### Port links (R218, R219, R221, R255) -/

/-- PORT_LINK_CHANGE (R218, R497): port status follows the PHY, and an uplink's SyncE source its SYNCE_VALID. -/
def execPortLinkChange (dt : Nat) (port : Fin 11) (link : PortLink) (s : State) : Host.Outcome State Fault Refusal :=
  let s := advance dt s
  let p := port.val
  .next (if p = 0 ∨ !switchUp s ∨ (3 ≤ p ∧ !t1lEnabled p s) ∨ (Machine.port p s).link = 3 then s
    else
      let up := link.up && !(link.amplitude && decide (3 ≤ p))
      let s := setPort p (fun q => { q with link := b2n up, reason := if up then 0 else if link.amplitude && decide (3 ≤ p) then 2 else 1, polarity := up && link.polarity }) s
      if p = 1 ∨ p = 2 then
        let valid := up && link.synce
        if valid then followSources 0 (setClkSource (p + 2) (fun c => { c with valid := true }) s)
        else if (clkSource (p + 2) s).state = 0 then setClkSource (p + 2) (fun c => { c with valid := false }) s
        else tripSource (p + 2) 4 s
      else s)

/-! ### The Clocks class (R513, R514) -/

/-- Clk-Get-Config. -/
def cmdClkGetConfig : Command :=
  { code := 0x0201, standby := true, len := lenIs 0, body := fun _ s => (s, .ok s.clocks.cfg) }

/-- The frequency of a CLKOUT_SEL choice in Hz; 0 for OFF. -/
def clkoutHz (sel : Nat) : Nat :=
  match sel with
  | 1 => 25000000 | 2 => 10000000 | 3 | 4 | 8 => 125000000 | 5 => 8000000 | 6 => 32768 | 9 => 4096000 | _ => 0

/-- A REF_LIST that R513 refuses with BAD_LIST: twice a source, RC8M, RTC or PCIE_REFCLK, or one whose enable flag is clear. -/
def badList (b : Bytes) : Bool :=
  let l := ((slice b 0 4).map (·.toNat)).filter (· != 0)
  let f := fld b 0x04 1
  l != l.eraseDups || l.any (fun x => x == 5 || x == 6 || x == 7 || (x == 2 && !bit f 1) || (x == 3 && !bit f 2) || (x == 4 && !bit f 3))

/-- CLKOUT, low while OFF, while its source is not QUALIFIED, in STANDBY and in OFF (R511): its source, 0 for low. -/
def clkoutSource (s : State) : Nat :=
  let sel := fld s.clocks.cfg 0x08 1
  if s.power.off || inStandby s || (1 ≤ sel && sel ≤ 6 && !isQualified sel s) then 0 else sel

/-- The switch of the CLKOUT multiplexer at a change of CLKOUT_SEL (R501, R511). -/
def clkoutSwitch (old new : Nat) (s : State) : State :=
  if old = new then s
  else
    let c := clkSource old s
    let forced := decide (1 ≤ old ∧ old ≤ 6) && c.state != 2 && c.trip == 1
    let s := emit 0x0202 [2, (old : Int), (new : Int), 2] (setClk (fun c => { c with refSwitches := (c.refSwitches + 1) % 2 ^ 32 }) s)
    if forced then emit 0x0203 [2, (old : Int)] (setClk (fun c => { c with forced := true, forcedSwitches := (c.forcedSwitches + 1) % 2 ^ 32 }) s) else s

/-- Clk-Set-Config (R511 to R513). -/
def cmdClkSetConfig : Command :=
  { code := 0x0202, standby := true, len := lenIs 32, reserved := fun b => flagResv b 4 1 5 ++ [(0x05, 1)] ++ flagResv b 9 1 1 ++ [(0x0C, 20)]
    range := fun c _ =>
      let b := c.payload
      let sel := fld b 0x08 1
      let align := fld b 0x09 1
      [chk ((List.range 4).all (fun i => decide (fld b i 1 ≤ 7))) 0, inRange b 0x06 2 0 3600,
        chk (decide (sel ≤ 6) || sel == 8 || sel == 9) 8,
        chk (align != 1 || (sel == 8 && 125000000 % (fld b 0x0A 2 + 1) == 0)) (if sel == 8 then 0x0A else 8)]
    body := fun c s =>
      let b := c.payload
      if badList b then (s, refuseAt 0x23 0)
      else if 62500000 * (fld b 0x0A 2 + 1) < clkoutHz (fld b 0x08 1) then (s, refuseAt 0x22 0x0A)
      else
        let s := clkoutSwitch (fld s.clocks.cfg 0x08 1) (fld b 0x08 1) s
        (followOrder (followSources 2 (setClk (fun k => { k with cfg := b }) s)), .ok []) }

/-- Clock status, 64 bytes (R514). -/
def clockStatus (s : State) : Bytes :=
  let c := s.clocks
  let src := fun (x : Nat) => let q := clkSource x s; le 1 q.state ++ le 1 q.trip ++ le 2 (q.offset % 65536).toNat
  le 1 c.ref.source ++ le 1 c.pll ++ le 1 c.cm.source ++ zeros 1 ++
    le 2 (bitAt 0 (c.ref.held.isSome || c.cm.held.isSome) + bitAt 1 c.rcBridge + bitAt 2 c.forced + bitAt 3 c.degraded + bitAt 4 c.compat) ++
    zeros 2 ++ zeros 4 ++ [1, 2, 3, 4, 5, 6, 7].flatMap src ++ le 4 c.refSwitches ++ le 4 c.forcedSwitches ++
    le 4 (if c.pll = 3 then (s.tb.now - c.pllFrom) / 1000000 else 0) ++ le 4 c.tcxoQualUs ++ le 4 c.gates ++ zeros 4

/-- Clk-Get-Status: FORCED_SWITCH is cleared by the read. -/
def cmdClkGetStatus : Command :=
  { code := 0x0203, standby := true, len := lenIs 0
    body := fun _ s => (setClk (fun c => { c with forced := false }) s, .ok (clockStatus s)) }

/-- A node the host cannot turn off. -/
def gateProtected (n : Nat) : Bool := n ≤ 3 || n == 17

/-- The gate of a node is on. -/
def gateIsOn (n : Nat) (s : State) : Bool := bit s.clocks.gates n

/-- Clk-Get-Gates. -/
def cmdClkGetGates : Command :=
  { code := 0x0204, standby := true, len := lenIs 0
    body := fun _ s =>
      (s, .ok ((List.range 18).flatMap (fun n =>
        le 1 n ++ le 1 (b2n (gateIsOn n s)) ++
          le 1 (bitAt 0 (gateProtected n) + bitAt 1 (blockInUse n s) + bitAt 2 (bit s.clocks.hostOff n)) ++ le 1 ((gateParent n).getD 0xFF)))) }

/-- The node that keeps one from being turned off: its first child that is on, or itself while its block is in use (R509). -/
def busyNode (n : Nat) (s : State) : Option Nat :=
  match (List.range 18).find? (fun m => gateParent m == some n && gateIsOn m s) with
  | some m => some m
  | none => if blockInUse n s then some n else none

/-- Clk-Set-Gate (R509). -/
def cmdClkSetGate : Command :=
  { code := 0x0205, standby := true, len := lenIs 4, reserved := resv [(2, 2)]
    range := fun c _ => [inRange c.payload 0 1 0 17, inRange c.payload 1 1 0 1]
    body := fun c s =>
      let n := fld c.payload 0 1
      let none_ := [0xFF, 0, 0, 0]
      if fld c.payload 1 1 = 1 then (gateOn n s, .ok none_)
      else if gateProtected n then (s, .err 0x21 32 (le 1 ((busyNode n s).getD n) ++ zeros 3))
      else match busyNode n s with
        | some m => (s, .err 0x20 32 (le 1 m ++ zeros 3))
        | none => (setClk (fun c => { c with gates := c.gates - bitAt n (bit c.gates n), hostOff := setBit c.hostOff n }) s, .ok none_) }

/-- Clk-Get-Osc-Start. -/
def cmdClkGetOscStart : Command :=
  { code := 0x0206, standby := true, len := lenIs 0
    body := fun _ s => (s, .ok (le 1 s.clocks.osc.1 ++ zeros 1 ++ le 2 s.clocks.osc.2 ++ le 1 (b2n s.clocks.oscValid) ++ zeros 3)) }

/-- Clk-Set-Osc-Start (R499): for the next start-up that powers the TCXO. -/
def cmdClkSetOscStart : Command :=
  { code := 0x0207, standby := true, len := lenIs 4, reserved := resv [(1, 1)]
    range := fun c _ => [inRange c.payload 0 1 0 1, chk (if fld c.payload 0 1 = 0 then fld c.payload 2 2 == 0 else fld c.payload 2 2 != 0) 2]
    body := fun c s => (setClk (fun k => { k with osc := (fld c.payload 0 1, fld c.payload 2 2), oscValid := true }) s, .ok []) }

/-! ### The rows of the Ferosh command set: one exchange each -/

/-- CLK_GET_CONFIG (R514). -/
def execClkGetConfig (dt : Nat) (r : Request) (s : State) : Host.Outcome State Fault Refusal :=
  runCommand cmdClkGetConfig dt r s

/-- CLK_SET_CONFIG (R513). -/
def execClkSetConfig (dt : Nat) (r : Request) (s : State) : Host.Outcome State Fault Refusal :=
  runCommand cmdClkSetConfig dt r s

/-- CLK_GET_STATUS (R514). -/
def execClkGetStatus (dt : Nat) (r : Request) (s : State) : Host.Outcome State Fault Refusal :=
  runCommand cmdClkGetStatus dt r s

/-- CLK_GET_GATES (R514). -/
def execClkGetGates (dt : Nat) (r : Request) (s : State) : Host.Outcome State Fault Refusal :=
  runCommand cmdClkGetGates dt r s

/-- CLK_SET_GATE (R509). -/
def execClkSetGate (dt : Nat) (r : Request) (s : State) : Host.Outcome State Fault Refusal :=
  runCommand cmdClkSetGate dt r s

/-- CLK_GET_OSC_START (R514). -/
def execClkGetOscStart (dt : Nat) (r : Request) (s : State) : Host.Outcome State Fault Refusal :=
  runCommand cmdClkGetOscStart dt r s

/-- CLK_SET_OSC_START (R499). -/
def execClkSetOscStart (dt : Nat) (r : Request) (s : State) : Host.Outcome State Fault Refusal :=
  runCommand cmdClkSetOscStart dt r s

end Sys2Proof.Machine
end

