-- ==== Sys2Proof/Machine/Elec.lean ====
section
/-! DEFINITION. Electrical metering: line cycles, supervision, periodic saves and the class's commands (R257 to R280). -/

namespace Sys2Proof.Machine
open Sys2Proof

/-! ### Line cycles (R261 to R266) -/

/-- RMS of a voltage over the cycle in 2⁻³⁶ V. -/
def rmsFix (sum m : Nat) : Nat := isqrt (sum * 2 ^ 40 / max 1 m)

/-- The largest deviation of three values from their mean, in percent of the mean (R265). -/
def unbalance (l : List Nat) : Rat :=
  let t := l.sum
  if t = 0 then 0 else mkRat ((l.map (fun (r : Nat) => (3 * (r : Int) - (t : Int)).natAbs)).foldl max 0 * 100 : Nat) t

/-- MISSING_NEUTRAL is judged on the cycle's sums (R265). -/
def judgeNeutral (f : Nat) (s : State) : State :=
  let r := feedRec s.elec.cfg f
  let x := feed f s
  if wiring r ≠ 1 then s
  else
    let m := x.part.samples
    let uln := unbalance (x.part.v2.map (fun y => rmsFix y m))
    let ull := unbalance (x.part.vll2.map (fun y => rmsFix y m))
    let vnom := f32Rat (fld r 0x0C 4)
    let high := x.part.v2.all (fun y => decide (vnom * vnom / 100 < mkRat y (m * 2 ^ 32)))
    let pct : Rat := fld r 0x0A 1
    let towards := if x.noNeutral then decide (uln < pct / 2) else decide (pct < uln) && decide (ull < 2) && high
    if !towards then setFeed f { x with neutralRun := 0 } s
    else if x.neutralRun + 1 < 10 then setFeed f { x with neutralRun := x.neutralRun + 1 } s
    else emitItems 0x0D04 [item f, item (b2n x.noNeutral), BitVec.ofNat 64 (toF64 uln), BitVec.ofNat 64 (toF64 ull)] (setFeed f { x with neutralRun := 0, noNeutral := !x.noNeutral } s)

/-- The sequence a cycle's angles show: forward, reverse, or neither (R264). -/
def sequenceOf (angles : List Nat) : Option Bool :=
  let low := fun (k : Nat) => f32In (angles.getD k 0) (-150) (-90)
  let high := fun (k : Nat) => f32In (angles.getD k 0) 90 150
  if low 1 && high 2 then some false else if high 1 && low 2 then some true else none

/-- PHASE_SEQ_REVERSED is judged; a cycle that shows neither sequence keeps the one judged before (R264). -/
def judgeSequence (f : Nat) (angles : List Nat) (s : State) : State :=
  let r := feedRec s.elec.cfg f
  let x := feed f s
  if wiring r ≠ 1 || (vChannels r).any (fun c => (tabGet {} s.elec.vchan c).lost) then s
  else match (sequenceOf angles).or x.sequence with
    | none => s
    | some rev =>
      let x := { x with sequence := some rev }
      let wrong := rev != bit (fld r 7 1) 0
      if wrong = x.seqRev then setFeed f { x with seqRun := 0 } s
      else if x.seqRun + 1 < 10 then setFeed f { x with seqRun := x.seqRun + 1 } s
      else emit 0x0D03 [f, b2n rev] (setFeed f { x with seqRun := 0, seqRev := wrong } s)

/-- OVERRANGE of the cycle that closes: the channels' status bits, and an event for each that follows a clean cycle (R257, R276). -/
def judgeOverrange (f : Nat) (s : State) : State :=
  let r := feedRec s.elec.cfg f
  let clip := (feed f s).part.clip
  let word := s.elec.vOver + s.elec.iOver * 256
  (vChannels r ++ iChannels r).foldl (fun t c =>
    let was := bit word c
    let now := clip.contains c
    let t := if now && !was then emit 0x0D05 [c] t else t
    let w := (t.elec.vOver + t.elec.iOver * 256) &&& (2 ^ 24 - 1 - 2 ^ c)
    let w := w + bitAt c now
    { t with elec := { t.elec with vOver := w % 256, iOver := w / 256 } }) s

/-- Channels of a feed's set have had an accepted crossing (R262). -/
def noteCrossed (r : Bytes) (l : List Nat) (s : State) : State :=
  l.foldl (fun t c => if (vChannels r).contains c then { t with elec := { t.elec with vchan := tabSet t.elec.vchan c { tabGet {} t.elec.vchan c with lastCross := t.tb.now } } } else t) s

/-- A line cycle closes: supervision, P_TOTAL, and the latch at the LATCH_N-th cycle (R263 to R268). -/
def closeCycle (f : Nat) (d : FeedData) (cut : Cut) (s : State) : State :=
  let r := feedRec s.elec.cfg f
  let s := addFeed f d s
  let s := judgeSequence f d.angles (judgeNeutral f (judgeOverrange f s))
  let s := noteCrossed r d.crossed s
  let x := feed f s
  let pw := if x.part.samples = 0 then x.power else some (toF32 (mkRat x.part.totals.1 (x.part.samples * 2 ^ 32)), s.zone)
  let x := { x with part := {}, overrange := x.part.clip != [], power := pw, cycles := x.cycles + 1, timerCycles := x.timerCycles + b2n x.timer }
  let s := setFeed f x s
  if fld r 4 2 ≤ x.cycles then latchFeed f d.latchAngles cut s else s

/-- A crossing gives a cycle within 35 Hz to 75 Hz of the last one (R261). -/
def crossingFits (x : Feed) (pos : Nat) : Bool :=
  match x.last with
  | none => true
  | some l => decide (l < pos) && decide ((pos - l) * 75 ≥ 32000 * 65536) && decide ((pos - l) * 35 ≤ 32000 * 65536)

/-- LINE_CYCLE_END (R263): a positive-going crossing of the feed's reference channel, here and now. The first crossing only opens a
cycle; the samples before it count. -/
def execLineCycleEnd (dt feed : Nat) (data : FeedData) (cut : Cut) (s : State) : Host.Outcome State Fault Refusal :=
  let s := applyIdleFeeds (advance dt s)
  let x := Sys2Proof.Machine.feed feed s
  .next (if 5 ≤ feed || wiring (feedRec s.elec.cfg feed) == 0 || !s.elec.running || x.timer || allLost feed s then s
    else if !crossingFits x (samplePos s) then s
    else
      let pos := samplePos s
      let fst := if x.first.isNone then some pos else x.first
      let s := setFeed feed { x with last := some pos, first := fst } s
      if x.last.isNone then noteCrossed (feedRec s.elec.cfg feed) data.crossed (addFeed feed data s) else closeCycle feed data cut s)

/-- Samples of the timer cycle that runs (R262). -/
def timerLength (r : Bytes) (n : Nat) : Nat := if fld r 6 1 = 60 then (if n % 3 = 2 then 534 else 533) else 640

/-- TIMER_CYCLE_END (R262): due once the running timer cycle's samples have passed. -/
def execTimerCycleEnd (dt feed : Nat) (data : FeedData) (cut : Cut) (s : State) : Host.Outcome State Fault Refusal :=
  let s := applyIdleFeeds (advance dt s)
  let x := Sys2Proof.Machine.feed feed s
  let n := timerLength (feedRec s.elec.cfg feed) x.timerCount
  .next (if 5 ≤ feed || !x.timer || !s.elec.running || decide (sampleCount s < x.timerFrom + n) then s
    else closeCycle feed data cut (setFeed feed { x with timerFrom := x.timerFrom + n, timerCount := x.timerCount + 1 } s))

/-- Enabled feeds whose set holds a voltage channel. -/
def feedsOn (c : Nat) (s : State) : List Nat :=
  (List.range 5).filter (fun f => wiring (feedRec s.elec.cfg f) != 0 && (vChannels (feedRec s.elec.cfg f)).contains c)

/-- A channel is the reference of a feed: the first of its set that is not ZC_LOST (R261). -/
def isReference (f c : Nat) (s : State) : Bool := (vChannels (feedRec s.elec.cfg f)).find? (fun k => !(tabGet {} s.elec.vchan k).lost) == some c

/-- ZC_TIMEOUT (R262): due ZC_TIMEOUT_MS after the channel's last accepted crossing; a feed whose channels are all lost goes to
timer cycles, and one that loses its reference opens its next cycle at a crossing of the next channel (R261). -/
def execZcTimeout (dt channel : Nat) (s : State) : Host.Outcome State Fault Refusal :=
  let s := advance dt s
  let c := tabGet {} s.elec.vchan channel
  .next (match feedsOn channel s with
    | [] => s
    | f :: fs =>
      if c.lost || !s.elec.running || decide (s.tb.now < c.lastCross + fld (feedRec s.elec.cfg f) 8 2 * 1000000) then s
      else
        let before := s
        let s := emit 0x0D01 [channel, 0] { s with elec := { s.elec with vchan := tabSet s.elec.vchan channel { c with lost := true } } }
        (f :: fs).foldl (fun t g =>
          if allLost g t && !(feed g t).timer then
            emit 0x0D02 [g, 0] (setFeed g { feed g t with timer := true, timerFrom := sampleCount t, timerCount := 0, last := none } t)
          else if isReference g channel before && !(feed g t).timer then setFeed g { feed g t with last := none } t
          else t) s)

/-- ZC_RETURNED (R262): three consecutive accepted crossings on a lost channel; its feeds leave timer cycles. -/
def execZcReturned (dt channel : Nat) (s : State) : Host.Outcome State Fault Refusal :=
  let s := advance dt s
  let c := tabGet {} s.elec.vchan channel
  .next (if !c.lost then s
    else
      let s := emit 0x0D01 [channel, 1] { s with elec := { s.elec with vchan := tabSet s.elec.vchan channel { lost := false, lastCross := s.tb.now } } }
      (feedsOn channel s).foldl (fun t g => if (feed g t).timer then emit 0x0D02 [g, 1] (setFeed g { feed g t with timer := false } t) else t) s)

/-- PERIODIC_SAVE (R271): due at each zone-time instant that is a multiple of 60 s. -/
def execPeriodicSave (dt : Nat) (cut : Cut) (s : State) : Host.Outcome State Fault Refusal :=
  let s := applyIdleFeeds (advance dt s)
  let n := s.zone / 60000000000
  .next (if s.elec.running && decide (s.elec.lastSave < n) then saveMeters 1 cut { s with elec := { s.elec with lastSave := n } } else s)

/-! ### Commands (R277 to R279) -/

/-- Elec-Get-Config. -/
def cmdElecGetConfig : Command :=
  { code := 0x0D01, standby := true, len := lenIs 0
    body := fun _ s =>
      (s, .ok (s.elec.cfg ++ le 1 (b2n s.elec.pend.isSome) ++ zeros 7 ++ (match s.elec.pend with | none => zeros 864 | some (b, _) => b))) }

/-- The range checks of a channel record. -/
def channelRange (b : Bytes) (c : Nat) : List (Bool × Nat × Nat) :=
  let o := 16 + 32 * c
  let k := fld b o 1
  [chk (if c < 8 then decide (k ≤ 1) else k == 0 || decide (2 ≤ k ∧ k ≤ 4)) o, inRange b (o + 1) 1 0 (if c < 8 then 0 else 5),
    chk (f32In (fld b (o + 4) 4) (dec 1 6) 1000000000) (o + 4), chk (f32In (fld b (o + 8) 4) (dec 9 1) (dec 11 1)) (o + 8),
    chk (decide (-262144 ≤ sfld b (o + 12) 4 ∧ sfld b (o + 12) 4 ≤ 262144)) (o + 12),
    chk (if k = 4 then fld b (o + 16) 4 == 0x42480000 || fld b (o + 16) 4 == 0x42700000 else fld b (o + 16) 4 % 2 ^ 31 == 0) (o + 16)]

/-- The range checks of a feed record. -/
def feedRange (b : Bytes) (f : Nat) : List (Bool × Nat × Nat) :=
  let o := 784 + 16 * f
  let n := fld b (o + 3) 1
  let i := fld b (o + 2) 1
  [inRange b o 1 0 2, inRange b (o + 2) 1 0 13, chk (n == 0xFF || (decide (n ≤ 15) && !(decide (i ≤ n) && decide (n ≤ i + 2)))) (o + 3),
    inRange b (o + 4) 2 1 65535, chk (fld b (o + 6) 1 == 50 || fld b (o + 6) 1 == 60) (o + 6), inRange b (o + 8) 2 20 1000,
    inRange b (o + 10) 1 2 50, chk (f32In (fld b (o + 12) 4) 1 1000000) (o + 12)]

/-- The enabled feeds of a configuration. -/
def enabledFeeds (b : Bytes) : List Nat := (List.range 5).filter (fun f => wiring (feedRec b f) != 0)

/-- The field of a feed whose wiring is not one of R258's: a voltage set beyond MV7, or a neutral channel in 3P3W (R280). -/
def badWiring (b : Bytes) : Option Nat :=
  (enabledFeeds b).findSome? (fun f =>
    let o := 784 + 16 * f
    let w := fld b o 1
    if (if w = 2 then 6 else 5) < fld b (o + 1) 1 then some (o + 1) else if w == 2 && fld b (o + 3) 1 != 0xFF then some (o + 3) else none)

/-- The field by which a feed shares a channel with an earlier feed against R259. -/
def feedsClash (b : Bytes) (f g : Nat) : Option Nat :=
  let a := feedRec b f
  let c := feedRec b g
  let shareV := (vChannels a).any (fun x => (vChannels c).contains x)
  if shareV && !(wiring a == wiring c && fld a 1 1 == fld c 1 1) then some (784 + 16 * g + 1)
  else match (iChannels c).find? (fun x => (iChannels a).contains x) with
    | none => none
    | some x => some (784 + 16 * g + (if x = 8 + fld c 3 1 then 3 else 2))

/-- The field of the first feed that breaks R259 with a feed before it. -/
def sharedFeed (b : Bytes) : Option Nat :=
  (enabledFeeds b).findSome? (fun g => ((enabledFeeds b).filter (· < g)).findSome? (fun f => feedsClash b f g))

/-- The field of the first feed that names a channel of KIND NONE. -/
def feedNoChannel (b : Bytes) : Option Nat :=
  (enabledFeeds b).findSome? (fun f =>
    let r := feedRec b f
    let o := 784 + 16 * f
    let none_ := fun (c : Nat) => fld (chanRec b c) 0 1 == 0
    if (vChannels r).any none_ then some (o + 1)
    else ((iChannels r).find? none_).map (fun c => if c = 8 + fld r 3 1 then o + 3 else o + 2))

/-- APPLY_TIME lies less than 1 s ahead where the pair asks for more (R278, R304). -/
def applyTooSoon (b : Bytes) (s : State) : Bool := s.win.role != .single && decide (fld b 0 8 < s.zone + 1000000000)

/-- Elec-Set-Config (R277, R278). -/
def cmdElecSetConfig : Command :=
  { code := 0x0D02, standby := true, len := lenIs 864
    reserved := fun b => [(8, 8)] ++ (List.range 24).flatMap (fun c =>
        (if 2 ≤ fld (chanRec b c) 2 1 then [(18 + 32 * c, 1)] else []) ++ [(19 + 32 * c, 1), (36 + 32 * c, 12)]) ++
      (List.range 5).flatMap (fun f => (if 2 ≤ fld (feedRec b f) 7 1 then [(791 + 16 * f, 1)] else []) ++ [(795 + 16 * f, 1)])
    range := fun c _ => (List.range 24).flatMap (channelRange c.payload) ++ (List.range 5).flatMap (feedRange c.payload)
    body := fun c s =>
      let b := c.payload
      match badWiring b, sharedFeed b, feedNoChannel b with
      | some o, _, _ => (s, refuseAt 0x21 o)
      | none, some o, _ => (s, refuseAt 0x20 o)
      | none, none, some o => (s, refuseAt 0x0A o)
      | none, none, none =>
        if applyTooSoon b s then (s, refuseAt 0x22 0)
        else (applyIdleFeeds { s with elec := { s.elec with pend := some (b, List.range 5) } }, .ok []) }

/-- A read of a DISABLED feed is refused before its first latch. -/
def feedDisabled (f : Nat) (s : State) : Bool := wiring (feedRec s.elec.cfg f) == 0 && (feed f s).latched.isNone

/-- Elec-Read-Values: a feed that has not latched since its start reads as zeros (log 16). -/
def cmdElecReadValues : Command :=
  { code := 0x0D03, standby := true, len := lenIs 4, reserved := resv [(1, 3)], range := fun c _ => [inRange c.payload 0 1 0 4]
    body := fun c s =>
      let f := fld c.payload 0 1
      if feedDisabled f s then (s, refuseAt 0x23 0)
      else (s, .ok (match (feed f s).latched with | some b => b | none => le 1 f ++ le 1 (wiring (feedRec s.elec.cfg f)) ++ zeros 158)) }

/-- FLAGS of a feed's latch set, with REGISTERS_LOST as it stands (R268, R273, R279; log 44). -/
def setFlags (f : Nat) (s : State) : Nat :=
  (match (feed f s).latched with | none => 0 | some b => fld b 2 2 % 64) + bitAt 6 (feed f s).lost

/-- The registers a reading gives: the latch set's, and on a standby the registers of record at its latest latch (R274). -/
def readRegs (tol : Nat) (standby : Bool) (latched : List Reg) (snaps : List (Nat × List Reg)) (repl : Option (Nat × List Reg)) : List Reg :=
  if standby then ofRecord tol latched snaps repl else latched

/-- Elec-Read-Registers. -/
def cmdElecReadRegisters : Command :=
  { code := 0x0D04, standby := true, len := lenIs 4, reserved := resv [(1, 3)], range := fun c _ => [inRange c.payload 0 1 0 4]
    body := fun c s =>
      let f := fld c.payload 0 1
      let x := feed f s
      if feedDisabled f s then (s, refuseAt 0x23 0)
      else (s, .ok (le 1 f ++ zeros 3 ++ le 4 x.latchSeq ++ le 8 x.latchTime ++ le 2 (setFlags f s) ++ zeros 14 ++
        (readRegs 31250 (s.win.role == .standby) x.latchedRegs x.snaps x.repl).flatMap Reg.bytes)) }

/-- Elec-Get-Status. -/
def cmdElecGetStatus : Command :=
  { code := 0x0D05, standby := true, len := lenIs 0
    body := fun _ s =>
      let n := newest (·.ok) s.elec
      let last := match n with | none => zeros 13 | some r => le 8 r.cutTime ++ le 4 r.seq ++ le 1 r.kind
      let zc := ((List.range 8).map (fun c => bitAt c (tabGet {} s.elec.vchan c).lost)).sum
      (s, .ok (le 8 (sampleCount s) ++ last ++ zeros 3 ++ (List.range 5).flatMap (fun f => le 2 (setFlags f s)) ++ zeros 2 ++
        le 1 zc ++ le 1 s.elec.vOver ++ le 2 s.elec.iOver ++ le 4 s.elec.unsaved ++ le 4 s.elec.offs ++ le 8 s.elec.lastGap.1 ++ le 8 s.elec.lastGap.2)) }

/-- Elec-Acknowledge-Loss (R273). -/
def cmdElecAcknowledgeLoss : Command :=
  { code := 0x0D06, len := lenIs 4, reserved := resv [(1, 3)], range := fun c _ => [inRange c.payload 0 1 0 4]
    body := fun c s =>
      let f := fld c.payload 0 1
      if (feed f s).lost then (setFeed f { feed f s with lost := false } s, .ok []) else (s, refuseAt 0x24 0) }

/-! ### The rows of the Ferosh command set: one exchange each -/

/-- ELEC_GET_CONFIG (R279). -/
def execElecGetConfig (dt : Nat) (r : Request) (s : State) : Host.Outcome State Fault Refusal :=
  runCommand cmdElecGetConfig dt r s

/-- ELEC_SET_CONFIG (R278). -/
def execElecSetConfig (dt : Nat) (r : Request) (s : State) : Host.Outcome State Fault Refusal :=
  runCommand cmdElecSetConfig dt r s

/-- ELEC_READ_VALUES (R279). -/
def execElecReadValues (dt : Nat) (r : Request) (s : State) : Host.Outcome State Fault Refusal :=
  runCommand cmdElecReadValues dt r s

/-- ELEC_READ_REGISTERS (R279). -/
def execElecReadRegisters (dt : Nat) (r : Request) (s : State) : Host.Outcome State Fault Refusal :=
  runCommand cmdElecReadRegisters dt r s

/-- ELEC_GET_STATUS (R279). -/
def execElecGetStatus (dt : Nat) (r : Request) (s : State) : Host.Outcome State Fault Refusal :=
  runCommand cmdElecGetStatus dt r s

/-- ELEC_ACKNOWLEDGE_LOSS (R273). -/
def execElecAcknowledgeLoss (dt : Nat) (r : Request) (s : State) : Host.Outcome State Fault Refusal :=
  runCommand cmdElecAcknowledgeLoss dt r s

end Sys2Proof.Machine
end

