-- ==== Sys2Proof/Machine/ProgramCmd.lean ====
section
/-! DEFINITION. The commands of the Program class (R361 to R364). -/

namespace Sys2Proof.Machine
open Sys2Proof

/-- A command that needs an active image. -/
def needsProgram (s : State) : Option Nat := if s.prog.image.isSome then none else some 0x20

/-- Program-Put-Image (R361). -/
def cmdProgramPutImage : Command :=
  { code := 0x0C01, standby := true, len := lenCounted 8 4 2, reserved := resv [(6, 2)]
    range := fun c _ => [inRange c.payload 4 2 1 8152]
    body := fun c s =>
      let off := fld c.payload 0 4
      let data := c.payload.drop 8
      if off ≠ 0 ∧ off ≠ s.prog.staged.length then (s, refuseAt 0x22 0)
      else
        let n := (if off = 0 then [] else s.prog.staged) ++ data
        if 6291456 < n.length then (s, refuseAt 0x09 4)
        else (setProg (fun p => { p with staged := n }) s, .ok (le 4 n.length)) }

/-- The image change a commit makes is told to the standby with the image's digest (R358; log 18). -/
def sendChange (mode : Nat) (img : Bytes) (s : State) : State := (replicate 0x12 true (le 1 4 ++ le 1 mode ++ img.drop (digestOffset img)) s).1

/-- Program-Commit-Image (R340, R355, R356): a load is complete at once, a change at its switch. -/
def cmdProgramCommitImage : Command :=
  { code := 0x0C02, len := lenIs 4, reserved := resv [(1, 3)], range := fun c _ => [inRange c.payload 0 1 0 1]
    body := fun c s =>
      let mode := fld c.payload 0 1
      let img := s.prog.staged
      let st := progState s
      if mode = 0 ∧ st ≠ 0 ∧ st ≠ 1 then (s, refuse 0x23)
      else if mode = 1 ∧ st ≠ 2 then (s, refuse 0x24)
      else if s.prog.change.isSome then (s, refuse 0x06)
      else match imageBad img s with
      | some off => (s, .err 0x21 0xFFFF (le 4 off))
      | none =>
        if (directory img).any (ownershipBad (directory img) s) then (s, refuse 0x25)
        else
          let s := sendChange mode img s
          if mode = 1 then (setProg (fun p => { p with change := some { image := img, from_ := s.tb.now, mbox := c.mbox } }) s, .deferred)
          else
            let r := placeImage img s
            let clear := fun (x : Task) => { x with overruns := 0, skipped := 0, execLast := 0, execMax := 0 }
            (setProg (fun p => { p with req := 1, discarded := 0, queue := [], timers := [], tasks := p.tasks.map (fun e => (e.1, clear e.2)) }) r.1, .ok r.2) }

/-- Program-Get-Info: header, task table and digest of the active image. -/
def cmdProgramGetInfo : Command :=
  { code := 0x0C03, standby := true, len := lenIs 0, state := fun _ s => needsProgram s
    body := fun _ s => let i := progImage s; (s, .ok (slice i 0 144 ++ slice i (digestOffset i) 48)) }

/-- Program-Set-Mode (R350 to R352). -/
def cmdProgramSetMode : Command :=
  { code := 0x0C04, len := lenIs 4, reserved := resv [(2, 2)], state := fun _ s => needsProgram s
    range := fun c _ => [inRange c.payload 0 1 1 3, inRange c.payload 1 1 0 2]
    body := fun c s =>
      let mode := fld c.payload 0 1
      let kind := fld c.payload 1 1
      let done := fun (t : State) => (t, Reply.ok (le 8 s.zone))
      if mode = 1 then done (if s.prog.req = 1 then s else stopProgram 1 s)
      else if mode = 3 then
        if s.win.debug = .closed then (s, refuse 0x0C)
        else if s.prog.req = 3 then done s
        else done (noteNoProgram (sendMode (setProg (fun p => { p with req := 3, holdAt := some s.tb.now }) s)))
      else if kind = 2 ∧ s.prog.req ≠ 3 ∧ !s.prog.hot ∧ s.prog.req ≠ 2 then (s, refuse 0x2A)
      else if s.prog.req = 2 then done s
      else done (runProgram kind s) }

/-- The local instant of a cyclic task's next input instant. -/
def nextInstant (t : Nat) (s : State) : Nat :=
  let g := taskGrid (progImage s) t
  let n := s.tb.now / 100000 + 1
  (n + (g.2 % g.1 + g.1 - n % g.1) % g.1) * 100000

/-- Program-Step (R352): one cycle of a task at its next input instant. -/
def cmdProgramStep : Command :=
  { code := 0x0C05, len := lenIs 4, reserved := resv [(1, 3)]
    state := fun _ s => if s.prog.image.isNone then some 0x20 else if s.win.debug = .closed then some 0x0C else if progState s ≠ 3 then some 0x29 else none
    range := fun c s => [chk (decide (fld c.payload 0 1 ≤ 3) && taskOn (progImage s) (fld c.payload 0 1)) 0]
    body := fun c s =>
      let t := fld c.payload 0 1
      (setTask t { task t s with step := true, from_ := 0, lastIn := s.tb.now / 100000 } s, .ok (le 8 (zoneAt (nextInstant t s) s))) }

/-- Program-Get-Status, 96 bytes (R363). -/
def cmdProgramGetStatus : Command :=
  { code := 0x0C06, standby := true, len := lenIs 0
    body := fun _ s =>
      let p := s.prog
      let i := progImage s
      let tasks := (List.range 5).flatMap (fun t => let x := task t s; le 2 x.overruns ++ le 2 x.skipped ++ le 4 x.execLast ++ le 4 x.execMax)
      (s, .ok (le 1 (progState s) ++ le 1 p.cause ++ le 1 p.req ++ le 1 (programCaravans s) ++ le 4 (fld i 8 4) ++ le 4 (fld i 12 4) ++ le 2 p.forces.length ++
        zeros 2 ++ tasks ++ le 1 p.trap.1 ++ le 1 p.trap.2.1 ++ zeros 2 ++ le 4 p.trap.2.2.1 ++ le 4 p.trap.2.2.2 ++ le 4 p.discarded ++ zeros 4)) }

/-- The record of a variable in Program-Read-Vars: an INPUT as latched, an OUTPUT as written, MEMORY and RETAINED as they stand. -/
def varRecord (e : Bytes) (s : State) : Bytes :=
  let id := varId e
  let i := tabGet { value := zeros (eSize e), quality := 8, age := 0 } s.prog.inputs id
  let v := if eClass e = 0 then i.value else if eClass e = 1 then tabGet (getVar s.prog.mem e) s.prog.outputs id else getVar s.prog.mem e
  let q := if eClass e = 0 then (i.quality, min 0xFFFF (i.age / 1000000)) else (0, 0)
  le 8 id ++ fit 8 v ++ le 1 q.1 ++ le 1 (b2n (tabGet? s.prog.forces id).isSome) ++ le 2 q.2 ++ zeros 4

/-- Program-Read-Vars. -/
def cmdProgramReadVars : Command :=
  { code := 0x0C07, len := fun b l => l == 4 + 8 * fld b 0 2, reserved := resv [(2, 2)], state := fun _ s => needsProgram s
    range := fun c _ => [inRange c.payload 0 2 1 339]
    body := fun c s =>
      let n := fld c.payload 0 2
      let ids := (List.range n).map (fun i => fld c.payload (4 + 8 * i) 8)
      let dir := progDir s
      match ids.zipIdx.find? (fun e => (entryOf dir e.1).isNone) with
      | some e => (s, refuseAt 0x0B (4 + 8 * e.2))
      | none => (s, .ok (le 2 n ++ zeros 2 ++ ids.flatMap (fun v => match entryOf dir v with | some e => varRecord e s | none => []))) }

/-- The force list as bytes: COUNT, reserved, VAR_ID and VALUE of each. -/
def forceBytes (s : State) : Bytes := le 2 s.prog.forces.length ++ zeros 2 ++ s.prog.forces.flatMap (fun f => le 8 f.1 ++ fit 8 f.2)

/-- The force list is sent to the standby (R358; log 18). -/
def sendForces (s : State) : State := (replicate 0x12 true (le 1 2 ++ forceBytes s) s).1

/-- Program-Set-Force (R354). -/
def cmdProgramSetForce : Command :=
  { code := 0x0C08, len := lenIs 16, state := fun _ s => needsProgram s
    body := fun c s =>
      let v := fld c.payload 0 8
      match entryOf (progDir s) v with
      | none => (s, refuseAt 0x0B 0)
      | some e =>
        if eType e = 0x0D ∨ entryGuard e then (s, refuseAt 0x27 0)
        else if (tabGet? s.prog.forces v).isNone ∧ 256 ≤ s.prog.forces.length then (s, refuse 0x28)
        else (sendForces (setProg (fun p => { p with forces := tabSet p.forces v (slice c.payload 8 (eSize e)) }) s), .ok []) }

/-- Program-Release-Force (R354): 0 releases all. -/
def cmdProgramReleaseForce : Command :=
  { code := 0x0C09, len := lenIs 8
    body := fun c s =>
      let v := fld c.payload 0 8
      let left := if v = 0 then [] else tabErase s.prog.forces v
      let n := s.prog.forces.length - left.length
      (if n = 0 then s else sendForces (setProg (fun p => { p with forces := left }) s), .ok (le 2 n ++ zeros 2)) }

/-- Program-List-Forces. -/
def cmdProgramListForces : Command :=
  { code := 0x0C0A, standby := true, len := lenIs 0, body := fun _ s => (s, .ok (forceBytes s)) }

/-- Program-Get-Config. -/
def cmdProgramGetConfig : Command :=
  { code := 0x0C0B, standby := true, len := lenIs 0, body := fun _ s => (s, .ok s.prog.cfg) }

/-- Program-Set-Config (R362). -/
def cmdProgramSetConfig : Command :=
  { code := 0x0C0C, len := lenIs 16, reserved := resv [(8, 8)], range := fun c _ => [inRange c.payload 0 4 100 60000, inRange c.payload 4 4 10 3600]
    body := fun c s => (setProg (fun p => { p with cfg := c.payload }) s, .ok []) }

/-! ### The rows of the Ferosh command set: one exchange each -/

/-- PROGRAM_PUT_IMAGE (R361). -/
def execProgramPutImage (dt : Nat) (r : Request) (s : State) : Host.Outcome State Fault Refusal :=
  runCommand cmdProgramPutImage dt r s

/-- PROGRAM_COMMIT_IMAGE (R340). -/
def execProgramCommitImage (dt : Nat) (r : Request) (s : State) : Host.Outcome State Fault Refusal :=
  runCommand cmdProgramCommitImage dt r s

/-- PROGRAM_GET_INFO (R361). -/
def execProgramGetInfo (dt : Nat) (r : Request) (s : State) : Host.Outcome State Fault Refusal :=
  runCommand cmdProgramGetInfo dt r s

/-- PROGRAM_SET_MODE (R350). -/
def execProgramSetMode (dt : Nat) (r : Request) (s : State) : Host.Outcome State Fault Refusal :=
  runCommand cmdProgramSetMode dt r s

/-- PROGRAM_STEP (R352). -/
def execProgramStep (dt : Nat) (r : Request) (s : State) : Host.Outcome State Fault Refusal :=
  runCommand cmdProgramStep dt r s

/-- PROGRAM_GET_STATUS (R363). -/
def execProgramGetStatus (dt : Nat) (r : Request) (s : State) : Host.Outcome State Fault Refusal :=
  runCommand cmdProgramGetStatus dt r s

/-- PROGRAM_READ_VARS (R361). -/
def execProgramReadVars (dt : Nat) (r : Request) (s : State) : Host.Outcome State Fault Refusal :=
  runCommand cmdProgramReadVars dt r s

/-- PROGRAM_SET_FORCE (R354). -/
def execProgramSetForce (dt : Nat) (r : Request) (s : State) : Host.Outcome State Fault Refusal :=
  runCommand cmdProgramSetForce dt r s

/-- PROGRAM_RELEASE_FORCE (R354). -/
def execProgramReleaseForce (dt : Nat) (r : Request) (s : State) : Host.Outcome State Fault Refusal :=
  runCommand cmdProgramReleaseForce dt r s

/-- PROGRAM_LIST_FORCES (R361). -/
def execProgramListForces (dt : Nat) (r : Request) (s : State) : Host.Outcome State Fault Refusal :=
  runCommand cmdProgramListForces dt r s

/-- PROGRAM_GET_CONFIG (R362). -/
def execProgramGetConfig (dt : Nat) (r : Request) (s : State) : Host.Outcome State Fault Refusal :=
  runCommand cmdProgramGetConfig dt r s

/-- PROGRAM_SET_CONFIG (R362). -/
def execProgramSetConfig (dt : Nat) (r : Request) (s : State) : Host.Outcome State Fault Refusal :=
  runCommand cmdProgramSetConfig dt r s

end Sys2Proof.Machine
end

