-- ==== Sys2Proof/Machine/Time.lean ====
section
/-! DEFINITION. Zone time, its servo and sources (R223 to R233, R255) and the real-time clock (R432 to R443, R453). -/

namespace Sys2Proof.Machine
open Sys2Proof

/-! ### The real-time clock -/

/-- One RTC tick in ns, rounded up. -/
def rtcTickNs : Int := 30518

/-- The instant A of an alarm in RTC ticks (R440). -/
def Alarm.at (a : Alarm) : Nat := a.seconds * 32768 + a.subsec

/-- The module's own time base runs: ACTIVE, QUIET or STANDBY (R434). -/
def timeBaseRuns (s : State) : Bool := !s.power.off && !s.boot.held && s.win.power != .holdup

/-- The periodic wake's multiples between two RTC times, the first exclusive (R442). -/
def wakesBetween (p a b : Nat) : Nat := if p = 0 then 0 else b / (128 * p) - a / (128 * p)

/-- A wake source becomes true: it is latched while STANDBY has been entered (R524, R526). -/
def latchWake (bitNo : Nat) (s : State) : State :=
  { s with power := { s.power with standby := s.power.standby.map (fun e => { e with wakes := setBit e.wakes bitNo }) } }

/-- An alarm fires: FIRED, the wake it gives, its next instance, and its ALARM event, kept in the VBAT domain while the module is
in STANDBY or OFF (R440, R443). -/
def fireAlarm (i : Nat) (skipped : Bool) (missed : Nat) (s : State) : State :=
  let a := tabGet {} s.rtc.alarms i
  let per := a.repeatS * 32768
  let nxt := if a.repeatS = 0 then a.at else a.at + ((s.rtc.ticks - a.at) / per + 1) * per
  let a' : Alarm := { a with fired := true, skipped := a.skipped || skipped, missed := (a.missed + missed) % 2 ^ 16, enable := a.repeatS != 0, seconds := nxt / 32768, subsec := nxt % 32768 }
  let s := { s with rtc := { s.rtc with alarms := tabSet s.rtc.alarms i a' } }
  if s.power.off || inStandby s then
    let t := if s.power.off then s.rtc.ns else s.zone
    let s := { s with rtc := { s.rtc with offFires := s.rtc.offFires ++ [(i, missed, skipped, t)] } }
    if a.wake then latchWake 0 s else s
  else emit 0x1001 [i, b2n skipped, missed, 0] s

/-- The RTC is set other than by its own counting: a forward adjustment fires each alarm whose instances it passes over once, and
the periodic wake once (R441, R442). -/
def adjustRtc (new : Nat) (s : State) : State :=
  let old := s.rtc.ticks
  let counted := wakesBetween s.rtc.wakePeriod s.rtc.wakeSeen old
  let fwd := b2n (decide (0 < wakesBetween s.rtc.wakePeriod old new))
  let r := { s.rtc with ticks := new, part := 0, wakeSeen := new, wakeCount := if inStandby s then s.rtc.wakeCount else (s.rtc.wakeCount + counted + fwd) % 2 ^ 32 }
  let s := { s with rtc := r }
  let s := if 0 < counted + fwd then latchWake 1 s else s
  (List.range 4).foldl (fun t i =>
    let a := tabGet {} t.rtc.alarms i
    if a.enable ∧ old < a.at ∧ a.at ≤ new then
      let n := if a.repeatS = 0 then 1 else (new - a.at) / (a.repeatS * 32768) + 1
      fireAlarm i (!(n == 1 && a.at == new)) (n - 1) t
    else t) s

/-- OSC_STOPPED clears (R435). -/
def clearOscStopped (s : State) : State :=
  if s.rtc.oscStopped then emit 0x1002 [1] { s with rtc := { s.rtc with oscStopped := false } } else s

/-- The RTC is compared with zone time and set to it where they differ by more than one tick (R434). -/
def syncRtc (s : State) : State :=
  if !timeBaseRuns s then s
  else
    let d : Int := (s.zone : Int) - s.rtc.ns
    if d.natAbs ≤ rtcTickNs.natAbs then { s with rtc := { s.rtc with syncedAt := some s.tb.now } }
    else
      let old := s.rtc.ns
      let s := adjustRtc (s.zone * 32768 / 10 ^ 9) s
      let ch : Int := (s.rtc.ns : Int) - old
      let s := if 1000000 < ch.natAbs then emit 0x1003 [ch, 0] s else s
      if s.tb.state = 2 then clearOscStopped s else s

/-- RTC_SYNC (R434): due once a zone-time second has begun since the last check. -/
def execRtcSync (dt : Nat) (s : State) : Host.Outcome State Fault Refusal :=
  let s := advance dt s
  let sec := s.zone / 10 ^ 9
  .next (if timeBaseRuns s && s.rtc.lastSync != some sec then syncRtc { s with rtc := { s.rtc with lastSync := some sec } } else s)

/-- CAL_UPDATE (R433): the error measured over 1,024 s of LOCKED, in whole units, is added to CAL and clamped. -/
def execCalUpdate (dt : Nat) (error : Int) (s : State) : Host.Outcome State Fault Refusal :=
  let s := advance dt s
  .next (if s.tb.state != 2 then { s with rtc := { s.rtc with calStart := none } }
    else match s.rtc.calStart with
      | none => { s with rtc := { s.rtc with calStart := some s.tb.now } }
      | some t =>
        if t + 1024 * 10 ^ 9 ≤ s.tb.now then
          { s with rtc := { s.rtc with cal := max (-511) (min 511 (s.rtc.cal + error)), calStart := some s.tb.now } }
        else s)

/-- ALARM (R440): due at the first tick at or after the alarm's instant while it is enabled. -/
def execAlarm (dt index : Nat) (s : State) : Host.Outcome State Fault Refusal :=
  let s := advance dt s
  let a := tabGet {} s.rtc.alarms index
  .next (if index < 4 ∧ a.enable ∧ a.at ≤ s.rtc.ticks then fireAlarm index false 0 s else s)

/-- PERIODIC_WAKE (R442): the multiples reached since the last look are firings; each is a wake source in STANDBY and counted in
WAKE_COUNT otherwise. -/
def execPeriodicWake (dt : Nat) (s : State) : Host.Outcome State Fault Refusal :=
  let s := advance dt s
  let n := wakesBetween s.rtc.wakePeriod s.rtc.wakeSeen s.rtc.ticks
  let t := { s with rtc := { s.rtc with wakeSeen := s.rtc.ticks } }
  .next (if n = 0 then s
    else if inStandby s then latchWake 1 t
    else { t with rtc := { t.rtc with wakeCount := (t.rtc.wakeCount + n) % 2 ^ 32 } })

/-- LEAP (R436): due once the RTC has reached LEAP_TIME. -/
def execLeap (dt : Nat) (s : State) : Host.Outcome State Fault Refusal :=
  let s := advance dt s
  .next (if s.rtc.leapTime != 0 && decide (s.rtc.leapTime ≤ s.rtc.ticks / 32768) then
    emit 0x1005 [s.rtc.leapOffset, s.rtc.leapNew] { s with rtc := { s.rtc with leapOffset := s.rtc.leapNew, leapTime := 0 } }
    else s)

/-- OSC_STOPPED (R435): no crystal edge for 4 ms; the counter stands still from then on. -/
def execOscStopped (dt : Nat) (s : State) : Host.Outcome State Fault Refusal :=
  let s := advance dt s
  let t := { s with rtc := { s.rtc with halted := true, oscStopped := true } }
  .next (if s.rtc.oscStopped then t else emit 0x1002 [0] t)

/-- VBAT_LOW (R435). -/
def execVbatLow (dt : Nat) (low : Bool) (s : State) : Host.Outcome State Fault Refusal :=
  let s := advance dt s
  .next (if s.rtc.vbatLow = low then s else emit 0x1004 [b2n (!low)] { s with rtc := { s.rtc with vbatLow := low } })

/-- FREEZE_TIMEOUT (R437): 1 ms without a read within a read sequence releases the shadows. -/
def execFreezeTimeout (dt : Nat) (s : State) : Host.Outcome State Fault Refusal :=
  let s := advance dt s
  .next { s with rtc := { s.rtc with freezeTimeout := true } }

/-- Days since 1970-01-01 as year, month and day of the Gregorian calendar. -/
def civil (days : Nat) : Nat × Nat × Nat :=
  let z := days + 719468
  let era := z / 146097
  let doe := z % 146097
  let yoe := (doe - doe / 1460 + doe / 36524 - doe / 146096) / 365
  let doy := doe - (365 * yoe + yoe / 4 - yoe / 100)
  let mp := (5 * doy + 2) / 153
  let m := if mp < 10 then mp + 3 else mp - 9
  (yoe + era * 400 + b2n (decide (m ≤ 2)), m, doy - (153 * mp + 2) / 5 + 1)

/-- The leap offset in effect at a TAI second: LEAP_NEW from LEAP_TIME on (R436). -/
def leapAt (r : Rtc) (sec : Nat) : Int := if r.leapTime ≠ 0 ∧ r.leapTime ≤ sec then r.leapNew else r.leapOffset

/-- The calendar fields of a TAI second: YEAR, MONTH, DAY, HOUR, MINUTE, SECOND, WEEKDAY; all 0 outside 2000 to 2399, and
23:59:60 in the second an inserted leap second occupies (R436). -/
def calendar (r : Rtc) (sec : Nat) : List Nat :=
  let inserted := r.leapTime != 0 && r.leapNew == r.leapOffset + 1 && sec + 1 == r.leapTime
  let utc : Int := (sec : Int) - leapAt r sec - b2n inserted
  let u := utc.toNat
  let d := civil (u / 86400)
  if utc < 0 ∨ d.1 < 2000 ∨ 2399 < d.1 then [0, 0, 0, 0, 0, 0, 0]
  else [d.1, d.2.1, d.2.2, u % 86400 / 3600, u % 3600 / 60, u % 60 + b2n inserted, (u / 86400 + 3) % 7 + 1]

/-- Rtc-Get-Time (R437, R453). FREEZE_TIMEOUT is cleared by the read. -/
def cmdRtcGetTime : Command :=
  { code := 0x1001, standby := true, len := lenIs 0
    body := fun _ s =>
      let r := s.rtc
      let sec := r.ticks / 32768
      let cal := calendar r sec
      let synced := match r.syncedAt with | none => false | some t => decide (s.tb.now ≤ t + 2 * 10 ^ 9)
      let fl := bitAt 0 r.oscStopped + bitAt 1 r.vbatLow + bitAt 2 synced + bitAt 3 (r.leapTime != 0) + bitAt 4 r.freezeTimeout
      ({ s with rtc := { r with freezeTimeout := false } },
        .ok (le 8 (sec % 2 ^ 48) ++ le 2 (r.ticks % 32768) ++ leInt 2 (leapAt r sec) ++ le 2 (cal.getD 0 0) ++
          ((cal.drop 1).map (fun v => BitVec.ofNat 8 v)) ++ le 2 fl ++ leInt 2 r.cal ++ le 8 s.zone ++ zeros 8)) }

/-- LEAP_TIME − LEAP_NEW falls on a UTC midnight, and LEAP_NEW differs from LEAP_OFFSET by exactly 1 (R436). -/
def leapSound (r : Rtc) (new : Int) (time : Nat) : Bool :=
  (new == r.leapOffset + 1 || new == r.leapOffset - 1) && ((time : Int) - new) % 86400 == 0

/-- Rtc-Stage (R438): only the fields MASK names are judged and staged. -/
def cmdRtcStage : Command :=
  { code := 0x1002, len := lenIs 36, reserved := resv [(2, 2), (16, 4), (30, 2)]
    range := fun c s =>
      let b := c.payload
      let m := fld b 0 2
      [inRange b 0 2 0 15, chk (!bit m 0 || decide (fld b 4 8 < 2 ^ 48)) 4, chk (!bit m 0 || decide (fld b 12 2 ≤ 32767)) 12,
        (!bit m 1 || fld b 20 8 == 0 || leapSound s.rtc (sfld b 14 2) (fld b 20 8), 0x23, 14),
        chk (!bit m 2 || decide (-511 ≤ sfld b 28 2 ∧ sfld b 28 2 ≤ 511)) 28, chk (!bit m 3 || decide (fld b 32 4 ≤ 16777215)) 32]
    body := fun c s =>
      let b := c.payload
      let m := fld b 0 2
      let sh := s.rtc.shadow
      let sh : RtcShadow :=
        { time := if bit m 0 then some (fld b 4 8, fld b 12 2) else sh.time
          leap := if bit m 1 then some (sfld b 14 2, fld b 20 8) else sh.leap
          cal := if bit m 2 then some (sfld b 28 2) else sh.cal
          wake := if bit m 3 then some (fld b 32 4) else sh.wake }
      ({ s with rtc := { s.rtc with shadow := sh } }, .ok []) }

/-! ### Steps of zone time -/

/-- Zone time is stepped to a value in ns; the RTC is checked against it at once (R227, R434). -/
def stepZone (t : Nat) (s : State) : State :=
  let d : Int := (t : Int) - s.zone
  syncRtc (emit 0x0804 [d] { s with tb := { s.tb with zone32 := t * 2 ^ 32, stepped := true } })

/-- TIME_STATE changes (R229). -/
def setTimeState (n : Nat) (s : State) : State :=
  if s.tb.state = n then s
  else emit 0x0805 [n]
    { s with tb := { s.tb with state := n, holdoverAt := if n = 3 then some s.tb.now else none, holdoverOver := false, everLocked := s.tb.everLocked || n == 2 } }

/-- The host's staged fields apply together at the RTC tick of the commit (R438, R439). -/
def applyShadow (s : State) : State :=
  let sh := s.rtc.shadow
  let s := { s with rtc := { s.rtc with shadow := {} } }
  let s := match sh.leap with | none => s | some (n, t) => { s with rtc := { s.rtc with leapNew := n, leapTime := t } }
  let s := match sh.cal with | none => s | some c => { s with rtc := { s.rtc with cal := c } }
  let s := match sh.wake with | none => s | some w => { s with rtc := { s.rtc with wakePeriod := w, wakeSeen := s.rtc.ticks } }
  match sh.time with
  | none => s
  | some (sec, sub) =>
    let old := s.rtc.ns
    let s := adjustRtc (sec * 32768 + sub) s
    let s := clearOscStopped (emit 0x1003 [(s.rtc.ns : Int) - old, 1] s)
    stepZone s.rtc.ns s

/-- Rtc-Commit (R439). -/
def cmdRtcCommit : Command :=
  { code := 0x1003, len := lenIs 0
    state := fun _ s =>
      if s.rtc.shadow = {} then some 0x21
      else if s.rtc.shadow.time.isSome && fld s.tb.cfg 0 1 != 2 then some 0x20 else none
    body := fun _ s => let t := applyShadow s; (t, .ok (le 8 t.zone)) }

/-- Rtc-Discard (R439). -/
def cmdRtcDiscard : Command :=
  { code := 0x1004, len := lenIs 0, body := fun _ s => ({ s with rtc := { s.rtc with shadow := {} } }, .ok []) }

/-- Rtc-Set-Alarm (R440). -/
def cmdRtcSetAlarm : Command :=
  { code := 0x1005, len := lenIs 20, reserved := resv [(2, 2), (14, 2)]
    range := fun c _ =>
      let b := c.payload
      [inRange b 0 1 0 3, inRange b 1 1 0 3, chk (decide (fld b 4 8 < 2 ^ 48)) 4, inRange b 12 2 0 32767, inRange b 16 4 0 2592000]
    body := fun c s =>
      let b := c.payload
      let a : Alarm := { enable := bit (fld b 1 1) 0, wake := bit (fld b 1 1) 1, repeatS := fld b 16 4, seconds := fld b 4 8, subsec := fld b 12 2 }
      let o := tabGet {} s.rtc.alarms (fld b 0 1)
      if a.at ≤ s.rtc.ticks then (s, refuse 0x22)
      else ({ s with rtc := { s.rtc with alarms := tabSet s.rtc.alarms (fld b 0 1) { a with fired := o.fired, skipped := o.skipped, missed := o.missed } } }, .ok []) }

/-- The 24 bytes of an alarm (R453). -/
def Alarm.bytes (a : Alarm) : Bytes :=
  le 1 (bitAt 0 a.enable + bitAt 1 a.wake + bitAt 2 a.fired + bitAt 3 a.skipped) ++ le 1 0 ++ le 2 a.missed ++ le 4 a.repeatS ++
    le 8 a.seconds ++ le 2 a.subsec ++ zeros 6

/-- Rtc-Get-Alarms (R453): FIRED, SKIPPED and MISSED are cleared as they are read. -/
def cmdRtcGetAlarms : Command :=
  { code := 0x1006, standby := true, len := lenIs 0
    body := fun _ s =>
      let b := (List.range 4).flatMap (fun i => (tabGet {} s.rtc.alarms i).bytes)
      ({ s with rtc := { s.rtc with alarms := s.rtc.alarms.map (fun e => (e.1, { e.2 with fired := false, skipped := false, missed := 0 })) } },
        .ok (b ++ le 4 s.rtc.wakeCount)) }

/-! ### The servo (R229 to R231) -/

/-- INCR within ±500 ppm of 8 ns (R224). -/
def clampIncr (v : Nat) : Nat := max ((7996 * 2 ^ 32 + 999) / 1000) (min (8004 * 2 ^ 32 / 1000) v)

/-- STEP_THRESHOLD_NS. -/
def stepThreshold (s : State) : Nat := fld s.tb.cfg 4 4

/-- One measured offset (the source's time less zone time) reaches the servo: it steps, holds a pending step, or slews INCR and
judges LOCKED (R229, R231). -/
def servo (offset : Int) (s : State) : State :=
  let s := { s with tb := { s.tb with offset := offset, lastSync := s.tb.now } }
  if stepThreshold s < offset.natAbs ∧ !s.tb.stepped then
    setTimeState 1 (stepZone ((s.zone : Int) + offset).toNat { s with tb := { s.tb with inBand := 0 } })
  else if s.tb.fault then s
  else if stepThreshold s < offset.natAbs then
    setTimeState 3 (emit 0x0803 [offset] { s with tb := { s.tb with pendingStep := offset, fault := true, inBand := 0 } })
  else
    let n := if offset.natAbs ≤ 100 then min 16 (s.tb.inBand + 1) else 0
    let incr := clampIncr (Config.servoIncr s.tb.servoCount offset)
    setTimeState (if n = 16 then 2 else 1)
      { s with tb := { s.tb with inBand := n, incr := incr, servoCount := s.tb.servoCount + 1 } }

/-- ASYMMETRY_NS of an uplink (R232). -/
def uplinkAsymmetry (uplink : Nat) (s : State) : Int := sfld s.tb.cfg (if uplink = 0 then 0x10 else 0x14) 4

/-- SYNC (R231): a Sync of the configured domain on an uplink, with its time t1 at the source after corrections; it reaches the
servo where its uplink is the source chosen. -/
def execSync (dt uplink domain t1 : Nat) (s : State) : Host.Outcome State Fault Refusal :=
  let s := advance dt s
  .next (if !timeBaseRuns s || domain != fld s.tb.cfg 1 1 then s
    else
      let s := { s with net := { s.net with uplinkValid := s.tb.now } }
      if fld s.tb.cfg 0 1 = 0 ∧ s.tb.source = uplink + 1 then
        servo ((t1 : Int) + s.tb.meanPath + uplinkAsymmetry uplink s - s.zone) s
      else s)

/-- The better of the two uplinks' masters: 1 uplink A, 2 uplink B, 0 none (R229). -/
def chooseSource (m : Tab Master) : Nat :=
  match tabGet? m 0, tabGet? m 1 with
  | none, none => 0
  | some _, none => 1
  | none, some _ => 2
  | some a, some b => if a.rank ≤ b.rank then 1 else 2

/-- The source chosen changes: LOCKED is judged anew on it, without a step (R229). -/
def setSource (n : Nat) (s : State) : State :=
  if s.tb.source = n then s
  else
    let s := { s with tb := { s.tb with source := n, inBand := 0, lastSync := s.tb.now } }
    if n = 0 then (if s.tb.everLocked then setTimeState 3 s else s)
    else if s.tb.fault then s else setTimeState 1 s

/-- SYNC_TIMEOUT (R229): no Sync of the source for 4 Sync intervals, or an Announce timeout of it. -/
def execSyncTimeout (dt : Nat) (announce : Bool) (s : State) : Host.Outcome State Fault Refusal :=
  let s := advance dt s
  .next (if s.tb.source = 0 then s
    else if announce && s.tb.source != 3 then
      let m := tabErase s.tb.masters (s.tb.source - 1)
      setSource (chooseSource m) { s with tb := { s.tb with masters := m } }
    else if s.tb.lastSync + 4 * s.tb.syncInterval ≤ s.tb.now then
      let s := { s with tb := { s.tb with inBand := 0 } }
      if s.tb.state = 2 ∨ (s.tb.state = 1 ∧ s.tb.everLocked) then setTimeState 3 s else s
    else s)

/-- HOLDOVER_LIMIT (R229): HOLDOVER_LIMIT_S of HOLDOVER lower the class announced. -/
def execHoldoverLimit (dt : Nat) (s : State) : Host.Outcome State Fault Refusal :=
  let s := advance dt s
  .next (match s.tb.holdoverAt with
    | none => s
    | some t =>
      if s.tb.state = 3 ∧ t + fld s.tb.cfg 8 4 * 10 ^ 9 ≤ s.tb.now then { s with tb := { s.tb with holdoverOver := true } } else s)

/-- The clock class announced on the T1L ports (R229). -/
def announcedClass (s : State) : Nat :=
  match s.tb.state with
  | 1 => if s.tb.everLocked then 7 else 248
  | 2 => (match tabGet? s.tb.masters (s.tb.source - 1) with | some m => m.clockClass | none => Config.ppsClockClass)
  | 3 => if s.tb.holdoverOver then 248 else 7
  | _ => 248

/-- A message is sent on every T1L port whose T1L_ENABLE bit is 1 (R221, R228). -/
def sendT1l (type : Nat) (s : State) : State :=
  (List.range 8).foldl (fun t i => if bit (fld t.net.cfg 0x14 1) i then send (.ptp (3 + i) type) t else t) s

/-- An interval has run out since an instant, or none has begun. -/
def since (last : Option Nat) (interval now : Nat) : Bool :=
  match last with
  | none => true
  | some t => decide (t + interval ≤ now)

/-- T1L_SYNC_TRANSMIT (R228): Sync every 2^T1L_LOG_SYNC s with its Follow_Up, Announce every 1 s; a STANDBY sends none. -/
def execT1lSyncTransmit (dt : Nat) (s : State) : Host.Outcome State Fault Refusal :=
  let s := advance dt s
  .next (if !serving s || s.win.role == .standby then s
    else
      let iv := 10 ^ 9 / 2 ^ (sfld s.tb.cfg 3 1).natAbs
      let s := if since s.tb.t1lSync iv s.tb.now then sendT1l 8 (sendT1l 0 { s with tb := { s.tb with t1lSync := some s.tb.now } }) else s
      if since s.tb.t1lAnnounce (10 ^ 9) s.tb.now then sendT1l 11 { s with tb := { s.tb with t1lAnnounce := some s.tb.now } } else s)

/-- PPS_IN_EDGE (R226, R230): captured to 0.25 ns; under PPS_HOST an armed Time-Set applies, or the edge disciplines the phase. -/
def execPpsInEdge (dt : Nat) (s : State) : Host.Outcome State Fault Refusal :=
  let s := advance dt s
  .next (if !timeBaseRuns s then s
    else
      let s := { s with tb := { s.tb with captures := (s.tb.zone32 / 2 ^ 30 * 2 ^ 30 :: s.tb.captures).take 16 } }
      if fld s.tb.cfg 0 1 != 1 then s
      else
        let s := { s with tb := { s.tb with source := 3, lastSync := s.tb.now } }
        match s.tb.armed with
        | some sec => setTimeState 1 (stepZone (sec * 10 ^ 9) { s with tb := { s.tb with armed := none, inBand := 0 } })
        | none =>
          let f : Nat := s.zone % 10 ^ 9
          servo (if f < 500000000 then -(f : Int) else 10 ^ 9 - (f : Int)) s)

/-- PPS_OUT_EDGE (R226): at each zone-time second, when PPS_OUT_MODE lets it be driven. -/
def execPpsOutEdge (dt : Nat) (s : State) : Host.Outcome State Fault Refusal :=
  let s := advance dt s
  let sec := s.zone / 10 ^ 9
  let m := fld s.tb.cfg 0x0E 1
  .next (if timeBaseRuns s && s.tb.ppsOut != some sec then
    let s := { s with tb := { s.tb with ppsOut := some sec } }
    if m == 2 || (m == 1 && (s.tb.state == 2 || s.tb.state == 3)) then send (.pps sec) s else s
    else s)

/-- A leap offset taken from the grandmaster while PTP_UPLINK is LOCKED (R436). -/
def takeLeap (utc : Option Int) (leap61 leap59 : Bool) (s : State) : State :=
  if fld s.tb.cfg 0 1 = 0 ∧ s.tb.state = 2 then
    let s := match utc with | none => s | some u => { s with rtc := { s.rtc with leapOffset := u } }
    if leap61 || leap59 then
      let new := s.rtc.leapOffset + (if leap61 then 1 else -1)
      let day := (((s.rtc.ticks / 32768 : Nat) : Int) - s.rtc.leapOffset) / 86400 + 1
      { s with rtc := { s.rtc with leapNew := new, leapTime := (day * 86400 + new).toNat } }
    else s
  else s

/-- A Pdelay_Req is answered on an uplink under the peer-to-peer mechanism, and on an enabled T1L port unless the role is STANDBY (R228). -/
def answersPdelay (port : Nat) (s : State) : Bool :=
  if port = 1 ∨ port = 2 then fld s.tb.cfg 2 1 == 1
  else decide (3 ≤ port ∧ port ≤ 10) && bit (fld s.net.cfg 0x14 1) (port - 3) && s.win.role != .standby

/-- PTP_MESSAGE (R228, R229, R232, R436): Announce on an uplink updates the choice of source and the leap data, a delay message
the mean path, and a Pdelay_Req is answered. -/
def execPtpMessage (dt port domain : Nat) (msg : PtpMsg) (s : State) : Host.Outcome State Fault Refusal :=
  let s := advance dt s
  .next (if !timeBaseRuns s || domain != fld s.tb.cfg 1 1 then s
    else
      let up := port == 1 || port == 2
      let s := if up then { s with net := { s.net with uplinkValid := s.tb.now } } else s
      match msg with
      | .announce rank cls utc l61 l59 =>
        if !up then s
        else
          let m : Master := { rank := rank, clockClass := cls, utc := utc, leap61 := l61, leap59 := l59, at_ := s.tb.now }
          let s := { s with tb := { s.tb with masters := tabSet s.tb.masters (port - 1) m } }
          let s := if fld s.tb.cfg 0 1 = 0 then setSource (chooseSource s.tb.masters) s else s
          if s.tb.source = port then takeLeap utc l61 l59 s else s
      | .delay d =>
        let p := tabGet {} s.net.ports port
        let s := { s with net := { s.net with ports := tabSet s.net.ports port { p with meanPath := d } } }
        if up && s.tb.source == port then { s with tb := { s.tb with meanPath := d } } else s
      | .followUp => s
      | .pdelayReq => if answersPdelay port s then send (.ptp port 10) (send (.ptp port 3) s) else s)

/-! ### Time commands (R253 to R255) -/

/-- Time-Get (R253, R255). -/
def cmdTimeGet : Command :=
  { code := 0x0807, standby := true, len := lenIs 0
    body := fun _ s =>
      let t := s.tb
      let hs := match t.holdoverAt with | none => 0 | some a => (t.now - a) / 10 ^ 9
      (s, .ok (le 8 (s.zone / 10 ^ 9 % 2 ^ 48) ++ le 4 (s.zone % 10 ^ 9) ++ le 2 (t.zone32 % 2 ^ 32 / 2 ^ 16) ++ le 1 t.state ++ le 1 t.source ++
        leInt 4 t.offset ++ le 4 t.meanPath ++ le 4 (t.incr % 2 ^ 32) ++ le 1 (t.incr / 2 ^ 32) ++ le 1 (announcedClass s) ++ zeros 2 ++
        leInt 8 t.pendingStep ++ le 4 hs ++ le 4 (bitAt 0 t.fault + bitAt 1 t.stepped))) }

/-- Time-Get-Config (R253). -/
def cmdTimeGetConfig : Command :=
  { code := 0x0808, standby := true, len := lenIs 0, body := fun _ s => (s, .ok s.tb.cfg) }

/-- A signed field within bounds, with BAD_VALUE. -/
def inRangeS (b : Bytes) (off size : Nat) (lo hi : Int) : Bool × Nat × Nat :=
  chk (decide (lo ≤ sfld b off size ∧ sfld b off size ≤ hi)) off

/-- Time-Set-Config (R254): at once; a change of TIME_SOURCE returns TIME_STATE to ACQUIRING, or to FREE_RUN, without a step. -/
def cmdTimeSetConfig : Command :=
  { code := 0x0809, len := lenIs 32, reserved := resv [(0x0F, 1), (0x1C, 4)]
    range := fun c _ =>
      let b := c.payload
      [inRange b 0 1 0 2, inRange b 1 1 0 127, inRange b 2 1 0 1, inRangeS b 3 1 (-4) 0, inRange b 4 4 1000 1000000000,
        inRange b 8 4 60 86400, inRange b 0x0C 2 1 500, inRange b 0x0E 1 0 2, inRangeS b 0x10 4 (-100000) 100000,
        inRangeS b 0x14 4 (-100000) 100000, inRangeS b 0x18 4 (-100000) 100000]
    body := fun c s =>
      let src := fld c.payload 0 1
      let t := { s with tb := { s.tb with cfg := c.payload } }
      if fld s.tb.cfg 0 1 = src then (t, .ok [])
      else
        let n := if src = 0 then chooseSource t.tb.masters else if src = 1 then 3 else 0
        let t := { t with tb := { t.tb with source := n, inBand := 0, armed := none, lastSync := t.tb.now } }
        (setTimeState (if src = 2 then 0 else 1) t, .ok []) }

/-- Time-Set (R227, R230, R255). -/
def cmdTimeSet : Command :=
  { code := 0x080A, len := lenIs 16, reserved := resv [(12, 4)]
    state := fun _ s => if fld s.tb.cfg 0 1 = 0 then some 0x22 else none
    range := fun c s =>
      [chk (decide (fld c.payload 0 8 < 2 ^ 48)) 0,
        chk (decide (fld c.payload 8 4 < 10 ^ 9) && (fld s.tb.cfg 0 1 == 2 || fld c.payload 8 4 == 0)) 8]
    body := fun c s =>
      let t := fld c.payload 0 8 * 10 ^ 9 + fld c.payload 8 4
      if fld s.tb.cfg 0 1 = 2 then (stepZone t s, .ok (le 8 t))
      else ({ s with tb := { s.tb with armed := some (fld c.payload 0 8) } }, .ok (le 8 t)) }

/-- Time-Step (R231, R255). -/
def cmdTimeStep : Command :=
  { code := 0x080B, len := lenIs 0
    state := fun _ s => if s.tb.pendingStep = 0 then some 0x23 else if !s.car.slots.isEmpty then some 0x0A else none
    body := fun _ s =>
      let d := s.tb.pendingStep
      let t := stepZone ((s.zone : Int) + d).toNat { s with tb := { s.tb with pendingStep := 0, fault := false, inBand := 0 } }
      (setTimeState 1 t, .ok (leInt 8 d)) }

/-- A PPS_IN capture as Time-Read-Captures gives it (R253). -/
def captureBytes (z : Nat) : Bytes :=
  let ns := z / 2 ^ 32
  le 8 (ns / 10 ^ 9 % 2 ^ 48) ++ le 4 (ns % 10 ^ 9) ++ le 2 (z % 2 ^ 32 / 2 ^ 16) ++ zeros 2

/-- Time-Read-Captures (R253). -/
def cmdTimeReadCaptures : Command :=
  { code := 0x080C, standby := true, len := lenIs 0
    body := fun _ s => (s, .ok (le 1 s.tb.captures.length ++ zeros 3 ++ fit 256 (s.tb.captures.flatMap captureBytes))) }

/-! ### The rows of the Ferosh command set: one exchange each -/

/-- RTC_GET_TIME (R437). -/
def execRtcGetTime (dt : Nat) (r : Request) (s : State) : Host.Outcome State Fault Refusal :=
  runCommand cmdRtcGetTime dt r s

/-- RTC_STAGE (R438). -/
def execRtcStage (dt : Nat) (r : Request) (s : State) : Host.Outcome State Fault Refusal :=
  runCommand cmdRtcStage dt r s

/-- RTC_COMMIT (R439). -/
def execRtcCommit (dt : Nat) (r : Request) (s : State) : Host.Outcome State Fault Refusal :=
  runCommand cmdRtcCommit dt r s

/-- RTC_DISCARD (R439). -/
def execRtcDiscard (dt : Nat) (r : Request) (s : State) : Host.Outcome State Fault Refusal :=
  runCommand cmdRtcDiscard dt r s

/-- RTC_SET_ALARM (R440). -/
def execRtcSetAlarm (dt : Nat) (r : Request) (s : State) : Host.Outcome State Fault Refusal :=
  runCommand cmdRtcSetAlarm dt r s

/-- RTC_GET_ALARMS (R453). -/
def execRtcGetAlarms (dt : Nat) (r : Request) (s : State) : Host.Outcome State Fault Refusal :=
  runCommand cmdRtcGetAlarms dt r s

/-- TIME_GET (R253). -/
def execTimeGet (dt : Nat) (r : Request) (s : State) : Host.Outcome State Fault Refusal :=
  runCommand cmdTimeGet dt r s

/-- TIME_GET_CONFIG (R253). -/
def execTimeGetConfig (dt : Nat) (r : Request) (s : State) : Host.Outcome State Fault Refusal :=
  runCommand cmdTimeGetConfig dt r s

/-- TIME_SET_CONFIG (R254). -/
def execTimeSetConfig (dt : Nat) (r : Request) (s : State) : Host.Outcome State Fault Refusal :=
  runCommand cmdTimeSetConfig dt r s

/-- TIME_SET (R255). -/
def execTimeSet (dt : Nat) (r : Request) (s : State) : Host.Outcome State Fault Refusal :=
  runCommand cmdTimeSet dt r s

/-- TIME_STEP (R255). -/
def execTimeStep (dt : Nat) (r : Request) (s : State) : Host.Outcome State Fault Refusal :=
  runCommand cmdTimeStep dt r s

/-- TIME_READ_CAPTURES (R253). -/
def execTimeReadCaptures (dt : Nat) (r : Request) (s : State) : Host.Outcome State Fault Refusal :=
  runCommand cmdTimeReadCaptures dt r s

end Sys2Proof.Machine
end

