-- ==== Sys2Proof/Machine/Io.lean ====
section
/-! DEFINITION. Field I/O and the operator panel: inputs, outputs, terminal blocks, keys, LEDs, the service port's lead and the
class's commands (R405 to R431). -/

namespace Sys2Proof.Machine
open Sys2Proof

/-- The field I/O runs: the plant has started in either role, and the module is neither in STANDBY nor OFF. -/
def fieldRuns (s : State) : Bool := s.boot.plant && !s.power.off && !s.boot.held && s.win.power != .standby

/-! ### Digital inputs (R405 to R408) -/

/-- DI_LEVEL_ACCEPTED (R406): a pad voltage in mV, with VDO in mV, has held for a time in µs; due once that is FILTER_US. -/
def execDiLevelAccepted (dt : Nat) (input : Fin 32) (mv vdo : Int) (held : Nat) (s : State) : Host.Outcome State Fault Refusal :=
  let s := advance dt s
  let r := diRec s.io.cfg input.val
  .next (if !fieldRuns s || decide (held < fld r 2 2) then s
    else match judgePad r mv vdo with
      | .between => s
      | b => acceptBand input.val b (s.zone - held * 1000) s)

/-- DI_OUT_OF_BAND (R405): in WIRE_CHECK a value outside every band has held for 100 ms. -/
def execDiOutOfBand (dt : Nat) (input : Fin 32) (mv vdo : Int) (held : Nat) (s : State) : Host.Outcome State Fault Refusal :=
  let s := advance dt s
  let r := diRec s.io.cfg input.val
  .next (if fieldRuns s && fld r 0 1 == 1 && judgePad r mv vdo == .between && decide (100000 ≤ held) then acceptBand input.val .between 0 s else s)

/-- DI_STUCK (R407): due once the state has been 1 for STUCK_S. -/
def execDiStuck (dt : Nat) (input : Fin 32) (s : State) : Host.Outcome State Fault Refusal :=
  let s := advance dt s
  let n := input.val
  let limit := fld (diRec s.io.cfg n) 4 2
  .next (match (di n s).highFrom with
    | none => s
    | some t =>
      if limit ≠ 0 ∧ t + limit * 1000000000 ≤ s.tb.now then judgeIlocks (ioChange 0 n (fun u => setDi n { di n u with stuck := true } u) s) else s)

/-- CHATTER_WINDOW_END (R408): a whole CHATTER_WINDOW holds at most one edge. -/
def execChatterWindowEnd (dt : Nat) (input : Fin 32) (s : State) : Host.Outcome State Fault Refusal :=
  let s := advance dt s
  let n := input.val
  let d := di n s
  let recent := d.edges.filter (fun e => decide (s.tb.now < e.1 + chatterNs (diRec s.io.cfg n)))
  .next (if d.chatter.isSome ∧ recent.length ≤ 1 then
      judgeIlocks (ioChange 0 n (fun u => setDi n { di n u with chatter := none, edges := recent } u) s)
    else s)

/-! ### Analogue inputs (R409, R410) -/

/-- The fault of a window's mean, in µA or µV (R410): a mean below −0.5 mA is REVERSED. -/
def ainFault (mode : Nat) (mean : Int) (moved : Bool) : Nat :=
  if mode = 1 then (if mean < -500 then 4 else if mean < 3600 then 1 else if 21000 < mean then 2 else 0)
  else if moved then 1 else if 11000000 < mean then 2 else if mean < -300000 then 4 else 0

/-- AIN_WINDOW (R409): due at each multiple of AVG_MS; the mean of the window in µA or µV, and whether the pad moved by more than
1 V during injection. -/
def execAinWindow (dt : Nat) (input : Fin 16) (mean : Int) (moved : Bool) (s : State) : Host.Outcome State Fault Refusal :=
  let s := advance dt s
  let n := input.val
  let r := ainRec s.io.cfg n
  let mode := fld r 0 1
  let a := tabGet {} s.io.ain n
  let k := s.tb.now / (max 1 (fld r 2 2) * 1000000)
  .next (if !fieldRuns s || mode == 0 || decide (k ≤ a.last) then s
    else
      let x : Rat := if mode = 1 then mkRat (min 25000 mean) 1000 else mkRat mean 1000000
      let a' : Ain := { value := toF32 x, stamp := some s.zone, fault := ainFault mode (if mode = 1 then min 25000 mean else mean) moved, last := k }
      ioChange 2 n (fun u => { u with io := { u.io with ain := tabSet u.io.ain n a' } }) s)

/-! ### Outputs (R411 to R413) -/

/-- DO_OVERLOAD (R411): above 0.7 A for 5 ms, or a junction above 160 °C: off, to be retried, or latched off once retries are spent. -/
def execDoOverload (dt : Nat) (output : Fin 24) (hot : Bool) (s : State) : Host.Outcome State Fault Refusal :=
  let s := advance dt s
  let n := output.val
  .next (if !(dout n s).on then s
    else ioChange 1 n (fun u =>
      let d := dout n u
      let spent := decide (fld (doRec u.io.cfg n) 1 1 ≤ d.retries)
      setDout n { d with on := false, trip := if hot then 5 else 2, latched := spent, offAt := if spent then none else some u.tb.now } u) s)

/-- A digital output takes its target's value again. -/
def redrive (n : Nat) (s : State) : State :=
  if driving s && s.win.power != .standby then driveDout n (decide ((target 2 n s).value ≠ 0)) s else s

/-- DO_RETRY (R411): due RETRY_MS after the switch-off. -/
def execDoRetry (dt : Nat) (output : Fin 24) (s : State) : Host.Outcome State Fault Refusal :=
  let s := advance dt s
  let n := output.val
  .next (match (dout n s).offAt with
    | none => s
    | some t =>
      if s.tb.now < t + fld (doRec s.io.cfg n) 2 2 * 1000000 then s
      else ioChange 1 n (fun u => let d := dout n u; redrive n (setDout n { d with offAt := none, trip := 0, retries := d.retries + 1 } u)) s)

/-- DO_OPEN_TEST (R412): due every 100 ms; the load current in µA while on, and the pad in mV before and during the injection while
off. A standby's tests do not run (R421). -/
def execDoOpenTest (dt : Nat) (output : Fin 24) (current before during : Int) (s : State) : Host.Outcome State Fault Refusal :=
  let s := advance dt s
  let n := output.val
  let k := s.tb.now / 100000000
  .next (if k ≤ (dout n s).lastTest ∨ !fieldRuns s ∨ s.win.role = .standby then s
    else ioChange 1 n (fun u =>
      let d := dout n u
      let test := if !bit (fld (doRec u.io.cfg n) 0 1) 0 then 0
        else if d.on then (if current < 5000 then 1 else 0)
        else if 4000 < before then 3 else if 4000 < during then 1 else 0
      setDout n { d with reversed := decide (before < -1000), test := test, lastTest := k } u) s)

/-- AOUT_FAULT (R413): an analogue output is judged by its current in µA, its pad in mV and the time in ms the current has held. -/
def execAoutFault (dt : Nat) (output : Fin 8) (current pad : Int) (held : Nat) (s : State) : Host.Outcome State Fault Refusal :=
  let s := advance dt s
  let n := output.val
  let set := f32Val (tabGet 0 s.io.aout n)
  let code := if pad < -500 then 4
    else if 20000 ≤ current ∧ 10 ≤ held then 2
    else if set + 1 < mkRat pad 1000 then 3
    else if bit (fld (aoutRec s.io.cfg n) 0 1) 0 ∧ 1 ≤ set ∧ current < 100 then 1 else 0
  .next (if !fieldRuns s || s.win.role == .standby then s
    else ioChange 3 n (fun u => { u with io := { u.io with aoutFault := tabSet u.io.aoutFault n code } }) s)

/-! ### Terminal blocks (R418, R419) -/

/-- BLOCK_REMOVAL_WINDOW (R418): due REMOVAL_WINDOW_MS after the first open indication. -/
def execBlockRemovalWindow (dt : Nat) (blk : Fin 16) (s : State) : Host.Outcome State Fault Refusal := .next (endSpan blk.val (advance dt s))

/-- BLOCK_REINSERT (R419): due REINSERT_MS after the last open indication. -/
def execBlockReinsert (dt : Nat) (blk : Fin 16) (s : State) : Host.Outcome State Fault Refusal := .next (reinsert blk.val (advance dt s))

/-! ### Keys (R422, R423) -/

/-- A key. -/
def key (n : Nat) (s : State) : Key := tabGet {} s.panel.keys n

/-- A key changed. -/
def setKey (n : Nat) (k : Key) (s : State) : State := { s with panel := { s.panel with keys := tabSet s.panel.keys n k } }

/-- A key's measurement: the delta over the baseline, whether it is touched, and the baseline that follows (R422). Signals are in
2⁻¹⁶ % of the key's calibrated touch signal. -/
def measureKey (cfg : Bytes) (now : Nat) (raw : Int) (k : Key) : Key :=
  let thr : Int := (fld cfg 8 1 * 65536 : Nat)
  let base := k.base.getD raw
  let delta := raw - base
  let touched := if k.touched then decide (8 * thr ≤ 10 * delta) else decide (thr < delta)
  let neg := if delta < -thr then (match k.negFrom with | none => some now | some t => some t) else none
  let afresh := match neg with | none => false | some t => decide (t + 1000000000 ≤ now)
  let base' := if afresh then raw else if touched then base else base + delta / 6000
  { k with base := some base', delta := if afresh then 0 else delta, touched := touched, negFrom := if afresh then none else neg }

/-- A touch is judged at its release, at LONG_MS or at STUCK_S (R423). -/
def judgeTouch (n : Nat) (raw : Int) (was : Key) (s : State) : State :=
  let cfg := s.panel.cfg
  let k := key n s
  let now := s.tb.now
  let ms := fun off => fld cfg off 2 * 1000000
  let age := now - was.since
  if k.touched ∧ !was.touched then setKey n { k with since := now, longDone := false, discarded := s.panel.blanked, stuck := false } s
  else if k.touched then
    if !k.stuck ∧ fld cfg 4 2 * 1000000000 ≤ age then emit 0x0F04 [n, 3] (setKey n { k with stuck := true } s)
    else if !k.stuck ∧ !k.discarded ∧ !k.longDone ∧ ms 2 ≤ age then emit 0x0F04 [n, 2] (setKey n { k with longDone := true, longs := (k.longs + 1) % 65536, longBit := true } s)
    else s
  else if was.touched then
    if was.stuck then setKey n { k with stuck := false, base := some raw, delta := 0 } s
    else if was.discarded ∨ was.longDone then s
    else if age < ms 0 then setKey n { k with brushes := (k.brushes + 1) % 65536 } s
    else emit 0x0F04 [n, 1] (setKey n { k with presses := (k.presses + 1) % 65536, pressBit := true } s)
  else s

/-- KEY_MEASUREMENT (R422): due every 5 ms; the signals of the keys. More than MAX_KEYS keys touched at once discard every touch in
progress, and no key gives an event until all have been released; a STUCK key is ignored (R423). -/
def execKeyMeasurement (dt : Nat) (signals : List Int) (s : State) : Host.Outcome State Fault Refusal :=
  let s := advance dt s
  let i := s.tb.now / 5000000
  .next (if i ≤ s.panel.lastMeas ∨ !fieldRuns s then s
    else
      let cfg := s.panel.cfg
      let on := (List.range 8).filter (fun n => bit (fld cfg 7 1) n)
      let raw := fun n => signals.getD n 0
      let before := s
      let s := { s with panel := { s.panel with lastMeas := i } }
      let s := on.foldl (fun t n => setKey n (measureKey cfg t.tb.now (raw n) (key n t)) t) s
      let touched := on.filter (fun n => (key n s).touched && !(key n before).stuck)
      let covered := decide (fld cfg 6 1 < touched.length)
      let fresh := covered && !before.panel.blanked
      let s := if fresh then emit 0x0F04 [touched.headD 0, 4] { s with panel := { s.panel with covered := (s.panel.covered + 1) % 2 ^ 32, blanked := true } } else s
      let s := if fresh then on.foldl (fun t n => setKey n { key n t with discarded := true } t) s else s
      let s := on.foldl (fun t n => judgeTouch n (raw n) { key n before with discarded := (key n before).discarded || fresh } t) s
      if touched = [] then { s with panel := { s.panel with blanked := false } } else s)

/-! ### LEDs (R425) -/

/-- The mode of an LED: the host's setting, or the exchange entry's binary32 truncated to 0 to 3. -/
def ledMode (n : Nat) (s : State) : Nat :=
  let r := slice s.panel.cfg (0x10 + 4 * n) 4
  if fld r 1 1 = 0 then (tabGet (0, 0) s.panel.leds n).1
  else
    let v := exchangeEntry (fld r 2 2) s
    if f32Finite v && decide (0 ≤ f32Rat v) && decide (f32Rat v < 4) then (f32Rat v).num.natAbs / (f32Rat v).den else 0

/-- An LED is lit at this instant of zone time. -/
def ledLit (n : Nat) (s : State) : Bool :=
  let host := fld s.panel.cfg (0x11 + 4 * n) 1 == 0
  (!host || (tabGet (0, 0) s.panel.leds n).2 != 0) &&
    (match ledMode n s with
      | 1 => true
      | 2 => decide (s.zone % 1000000000 < 500000000)
      | 3 => decide (s.zone % 250000000 < 125000000)
      | _ => false)

/-- LED_FAULT (R425): the current in µA and the forward voltage in mV of an LED. -/
def execLedFault (dt : Nat) (led : Fin 8) (current forward : Nat) (s : State) : Host.Outcome State Fault Refusal :=
  let s := advance dt s
  let n := led.val
  let put := fun (v : Nat) (b : Bool) => if b then setBit v n else v - bitAt n (bit v n)
  .next (if !ledLit n s || !fieldRuns s then s
    else { s with panel := { s.panel with ledOpen := put s.panel.ledOpen (current == 0), ledShort := put s.panel.ledShort (current != 0 && decide (forward < 1000)) } })

/-! ### The service port's lead (R426, R427) -/

/-- USB_ATTACH (R426): VBUS and Rp on one CC pin have held for a time in ms; due at 200 ms, 2 s while UNSTABLE. In STANDBY with
USB_WAKE it is a wake source. -/
def execUsbAttach (dt : Nat) (cc2 : Bool) (held : Nat) (s : State) : Host.Outcome State Fault Refusal :=
  let s := advance dt s
  .next (if s.power.off ∨ s.panel.attached ∨ held < (if s.panel.unstable then 2000 else 200) then s
    else
      let s := gateFollow (emit 0x0F05 [1, b2n cc2] { s with panel := { s.panel with attached := true, orientation := cc2 } })
      if inStandby s && bit (fld s.panel.cfg 9 1) 0 then latchWake 2 s else s)

/-- USB_DETACH (R426, R427): a condition has failed for a time in ms; due at 20 ms. The third detach within 10 s gives UNSTABLE. -/
def execUsbDetach (dt held : Nat) (s : State) : Host.Outcome State Fault Refusal :=
  let s := advance dt s
  .next (if s.power.off ∨ !s.panel.attached ∨ held < 20 then s
    else
      let ds := s.tb.now :: s.panel.detaches.filter (fun t => decide (s.tb.now ≤ t + 10000000000))
      let enters := !s.panel.unstable && decide (3 ≤ ds.length)
      let o := b2n s.panel.orientation
      let s := emit 0x0F05 [0, o] (sessionOps .usb { s with panel := { s.panel with attached := false, detaches := ds.take 8, unstable := s.panel.unstable || enters } })
      if enters then emit 0x0F05 [2, o] s else s)

/-- USB_STABLE (R426): due 60 s after the last detach. -/
def execUsbStable (dt : Nat) (s : State) : Host.Outcome State Fault Refusal :=
  let s := advance dt s
  .next (match s.panel.detaches.head? with
    | none => s
    | some t => if s.panel.unstable && decide (t + 60000000000 ≤ s.tb.now) then { s with panel := { s.panel with unstable := false } } else s)

/-! ### The class's commands (R428 to R431) -/

/-- The reserved fields of an I/O configuration, by offset. -/
def ioReserved (b : Bytes) : List (Nat × Nat) :=
  [(4, 12)] ++ (List.range 32).flatMap (fun n => flagResv b (0x11 + 8 * n) 1 1) ++
    (List.range 16).flatMap (fun n => [(0x111 + 8 * n, 1), (0x114 + 8 * n, 4)]) ++ (List.range 24).flatMap (fun n => flagResv b (0x190 + 4 * n) 1 2) ++
    (List.range 8).flatMap (fun n => flagResv b (0x1F0 + 4 * n) 1 2 ++ [(0x1F1 + 4 * n, 1)]) ++ (List.range 16).map (fun n => (0x21F + 16 * n, 1)) ++
    (List.range 8).flatMap (fun n => flagResv b (0x312 + 16 * n) 1 3 ++ [(0x313 + 16 * n, 1), (0x31D + 16 * n, 1)])

/-- The ranges of an I/O configuration, by offset (R429). -/
def ioRanges (b : Bytes) : List (Bool × Nat × Nat) :=
  [inRange b 0 2 20 1000, inRange b 2 2 100 10000] ++
    (List.range 32).flatMap (fun n =>
      let o := 0x10 + 8 * n
      [inRange b o 1 0 1, inRange b (o + 2) 2 1 20000, chk (fld b (o + 6) 1 != 1) (o + 6), inRange b (o + 7) 1 1 255]) ++
    (List.range 16).flatMap (fun n => let o := 0x110 + 8 * n; [inRange b o 1 0 2, inRange b (o + 2) 2 1 1000]) ++
    (List.range 24).flatMap (fun n => let o := 0x190 + 4 * n; [inRange b (o + 1) 1 0 10, inRange b (o + 2) 2 10 60000]) ++
    (List.range 8).flatMap (fun n => let o := 0x1F0 + 4 * n; [inRange b (o + 2) 2 0 10000]) ++
    (List.range 16).flatMap (fun n =>
      let o := 0x210 + 16 * n
      let p := fld b (o + 0x0E) 1
      [chk (decide (fld b (o + 4) 4 < 2 ^ 24)) (o + 4), chk (p == 0xFF || (decide (p ≤ 31) && bit (fld b o 4) p)) (o + 0x0E)]) ++
    (List.range 8).flatMap (fun n =>
      let o := 0x310 + 16 * n
      [inRange b o 1 0 1, inRange b (o + 1) 1 0 31, chk (decide (fld b (o + 4) 4 < 2 ^ 24)) (o + 4),
        chk (decide (fld b (o + 8) 4 < 2 ^ 24) && fld b (o + 4) 4 &&& fld b (o + 8) 4 == 0) (o + 8), inRange b (o + 0x0E) 2 0 10000])

/-- The offset of a block mask that shares a channel with an earlier block (R417). -/
def blockOverlap (b : Bytes) : Option Nat :=
  let fields : List (Nat × Nat) := [(0, 4), (4, 4), (8, 2), (0x0A, 2), (0x0C, 1), (0x0D, 1)]
  let pairs := (List.range 16).flatMap (fun n => fields.map (fun f => (n, f)))
  (pairs.find? (fun e => (List.range e.1).any (fun m => fld (blockRec b m) e.2.1 e.2.2 &&& fld (blockRec b e.1) e.2.1 e.2.2 != 0))).map
    (fun e => 0x210 + 16 * e.1 + e.2.1)

/-- An enabled interlock that conflicts with an earlier enabled one (R416). -/
def ilockConflict (b : Bytes) : Option Nat :=
  let on := (List.range 8).filter (fun n => fld (ilockRec b n) 0 1 == 1)
  on.find? (fun n =>
    let r := ilockRec b n
    on.any (fun m =>
      let q := ilockRec b m
      decide (m < n) && (fld r 4 4 &&& fld q 8 4 != 0 || fld r 8 4 &&& fld q 4 4 != 0 || (fld r 0x0C 1 &&& fld q 0x0C 1 != 0 && fld r 0x0E 2 != fld q 0x0E 2))))

/-- A presence input is an interlock's or an axis's limit input (R418). -/
def presenceUsed (b : Bytes) (s : State) : Option Nat :=
  let ilocks := ((List.range 8).filter (fun n => fld (ilockRec b n) 0 1 == 1)).map (fun n => fld (ilockRec b n) 1 1)
  let limits := s.motion.axes.flatMap (fun e => [fld e.2.record 0x27 1, fld e.2.record 0x28 1])
  (List.range 16).find? (fun n => let p := fld (blockRec b n) 0x0E 1; p != 0xFF && (ilocks.contains p || limits.contains p))

/-- Io-Get-Config. -/
def cmdIoGetConfig : Command := { code := 0x0F01, standby := true, len := lenIs 0, body := fun _ s => (s, .ok s.io.cfg) }

/-- Io-Set-Config (R416 to R418, R429): in effect at the next 100 µs tick. -/
def cmdIoSetConfig : Command :=
  { code := 0x0F02, len := lenIs 912, reserved := ioReserved, range := fun c _ => ioRanges c.payload
    body := fun c s =>
      let b := c.payload
      match ilockConflict b with
      | some n => (s, refuseAt 0x21 (0x310 + 16 * n))
      | none =>
        match (List.range 8).find? (fun n => ilockOn n s && ilockRec b n != ilockRec s.io.cfg n) with
        | some n => (s, refuseAt 0x22 (0x310 + 16 * n))
        | none =>
          match blockOverlap b with
          | some off => (s, refuseAt 0x23 off)
          | none =>
            match presenceUsed b s with
            | some n => (s, refuseAt 0x0A (0x21E + 16 * n))
            | none => ({ s with io := { s.io with pend := some (b, (s.tb.now / 100000 + 1) * 100000) } }, .ok []) }

/-- The I/O status, 192 bytes (R430). -/
def ioStatus (s : State) : Bytes :=
  let mask := fun (n : Nat) (p : Nat → Bool) => ((List.range n).map (fun k => bitAt k (p k))).sum
  let codes := fun (kind n : Nat) => (List.range n).flatMap (fun k => le 1 (shownCode kind k s))
  le 4 (mask 32 (fun k => (di k s).value)) ++ le 4 (mask 24 (fun k => (dout k s).on)) ++ le 2 (mask 16 (fun k => (block k s).removed)) ++
    le 1 (mask 8 (fun k => ilockOn k s)) ++ le 1 (bitAt 0 s.panel.attached + bitAt 1 s.panel.orientation + bitAt 2 s.panel.unstable) ++
    codes 0 32 ++ codes 1 24 ++ codes 2 16 ++ codes 3 8 ++ le 4 s.io.suppressed ++ (List.range 16).flatMap (fun k => le 4 (tabGet {} s.io.ain k).value) ++
    (List.range 8).flatMap (fun k => le 4 (tabGet 0 s.io.aout k))

/-- Io-Get-Status. -/
def cmdIoGetStatus : Command := { code := 0x0F03, standby := true, len := lenIs 0, body := fun _ s => (s, .ok (ioStatus s)) }

/-- Io-Read-Counters. -/
def cmdIoReadCounters : Command :=
  { code := 0x0F04, standby := true, len := lenIs 0
    body := fun _ s => (s, .ok ((List.range 32).flatMap (fun k => le 4 (di k s).rises ++ le 4 (toF32 (diFrequency (di k s) s.tb.now))))) }

/-- Io-Set-Output (R428): a LOCAL value from the first 100 µs tick at least 1 ms later. -/
def cmdIoSetOutput : Command :=
  { code := 0x0F05, len := lenIs 8, reserved := resv [(2, 2)]
    range := fun c _ =>
      let b := c.payload
      let k := fld b 0 1
      let v := fld b 4 4
      [inRange b 0 1 0 1, inRange b 1 1 0 (if k = 0 then 23 else 7), chk (if k = 0 then v % 2 ^ 31 == 0 || v == 0x3F800000 else f32In v 0 10) 4]
    body := fun c s =>
      let k := fld c.payload 0 1
      let i := fld c.payload 1 1
      if (loopOwner (2 - k) i s).isSome || (bindsTo (progDir s) (bindKind (2 - k)) i).any (fun e => !entryGuard e) then (s, refuseAt 0x20 1)
      else
        let t := (s.tb.now + 1000000 + 99999) / 100000 * 100000
        let w : OutWrite := { kind := k, index := i, value := fld c.payload 4 4, due := t }
        ({ s with io := { s.io with writes := s.io.writes ++ [w] } }, .ok (le 8 (zoneAt t s))) }

/-- Io-Clear-Output (R411, R430). -/
def cmdIoClearOutput : Command :=
  { code := 0x0F06, len := lenIs 4, reserved := resv [(1, 3)], range := fun c _ => [inRange c.payload 0 1 0 23]
    body := fun c s =>
      let n := fld c.payload 0 1
      let d := dout n s
      if !d.latched then (s, refuseAt 0x0B 0)
      else if d.reversed ∨ d.test = 3 then (s, refuseAt 0x24 0)
      else (ioChange 1 n (fun u => redrive n (setDout n { dout n u with latched := false, trip := 0, retries := 0 } u)) s, .ok []) }

/-- Io-Reset-Interlock (R415, R430). -/
def cmdIoResetInterlock : Command :=
  { code := 0x0F07, len := lenIs 4, reserved := resv [(1, 3)], range := fun c _ => [inRange c.payload 0 1 0 7]
    body := fun c s =>
      let n := fld c.payload 0 1
      let r := ilockRec s.io.cfg n
      if fld r 0 1 = 1 ∧ ilockActive r s then (s, refuseAt 0x22 0)
      else if ilockOn n s then
        let t := emit 0x0F03 [n, 1] { s with io := { s.io with ilocks := tabSet s.io.ilocks n { on := false } } }
        (resolveAll t, .ok [])
      else (s, .ok []) }

/-- Panel-Get-Config. -/
def cmdPanelGetConfig : Command := { code := 0x0F08, standby := true, len := lenIs 0, body := fun _ s => (s, .ok s.panel.cfg) }

/-- Panel-Set-Config (R429). -/
def cmdPanelSetConfig : Command :=
  { code := 0x0F09, len := lenIs 64, reserved := fun b => flagResv b 9 1 1 ++ [(0x0A, 6), (0x30, 16)]
    range := fun c _ =>
      let b := c.payload
      [inRange b 0 2 20 500, chk (decide (500 ≤ fld b 2 2 ∧ fld b 2 2 ≤ 10000 ∧ fld b 0 2 < fld b 2 2)) 2, inRange b 4 2 5 600, inRange b 6 1 1 8,
        inRange b 8 1 20 90] ++
        (List.range 8).flatMap (fun n => let o := 0x10 + 4 * n; [inRange b o 1 2 20, inRange b (o + 1) 1 0 1, inRange b (o + 2) 2 0 1023])
    body := fun c s => ({ s with panel := { s.panel with cfg := c.payload } }, .ok []) }

/-- Panel-Get-Keys: DELTA_PCT is the last delta, 0 to 255. -/
def cmdPanelGetKeys : Command :=
  { code := 0x0F0A, standby := true, len := lenIs 0
    body := fun _ s =>
      let mask := fun (p : Key → Bool) => ((List.range 8).map (fun k => bitAt k (p (key k s)))).sum
      (s, .ok (le 1 (mask (·.touched)) ++ le 1 (mask (·.stuck)) ++ le 1 s.panel.ledOpen ++ le 1 s.panel.ledShort ++ le 4 s.panel.covered ++
        (List.range 8).flatMap (fun n => let k := key n s; le 2 k.presses ++ le 2 k.longs ++ le 2 k.brushes ++ le 1 (min 255 (k.delta / 65536).toNat) ++ zeros 1))) }

/-- Panel-Set-Leds (R425, R430): an entry that changes an LED of SOURCE EXCHANGE is refused. -/
def cmdPanelSetLeds : Command :=
  { code := 0x0F0B, len := lenIs 16
    range := fun c _ => (List.range 8).map (fun n => inRange c.payload (2 * n) 1 0 3)
    body := fun c s =>
      let want := fun n => (fld c.payload (2 * n) 1, fld c.payload (2 * n + 1) 1)
      match (List.range 8).find? (fun n => fld s.panel.cfg (0x11 + 4 * n) 1 == 1 && want n != tabGet (0, 0) s.panel.leds n) with
      | some n => (s, refuseAt 0x25 (2 * n))
      | none => ({ s with panel := { s.panel with leds := (List.range 8).foldl (fun t n => tabSet t n (want n)) s.panel.leds } }, .ok []) }

/-! ### The rows of the Ferosh command set: one exchange each -/

/-- IO_GET_CONFIG (R430). -/
def execIoGetConfig (dt : Nat) (r : Request) (s : State) : Host.Outcome State Fault Refusal :=
  runCommand cmdIoGetConfig dt r s

/-- IO_SET_CONFIG (R429). -/
def execIoSetConfig (dt : Nat) (r : Request) (s : State) : Host.Outcome State Fault Refusal :=
  runCommand cmdIoSetConfig dt r s

/-- IO_GET_STATUS (R430). -/
def execIoGetStatus (dt : Nat) (r : Request) (s : State) : Host.Outcome State Fault Refusal :=
  runCommand cmdIoGetStatus dt r s

/-- IO_READ_COUNTERS (R430). -/
def execIoReadCounters (dt : Nat) (r : Request) (s : State) : Host.Outcome State Fault Refusal :=
  runCommand cmdIoReadCounters dt r s

/-- IO_SET_OUTPUT (R428). -/
def execIoSetOutput (dt : Nat) (r : Request) (s : State) : Host.Outcome State Fault Refusal :=
  runCommand cmdIoSetOutput dt r s

/-- IO_CLEAR_OUTPUT (R411). -/
def execIoClearOutput (dt : Nat) (r : Request) (s : State) : Host.Outcome State Fault Refusal :=
  runCommand cmdIoClearOutput dt r s

/-- IO_RESET_INTERLOCK (R415). -/
def execIoResetInterlock (dt : Nat) (r : Request) (s : State) : Host.Outcome State Fault Refusal :=
  runCommand cmdIoResetInterlock dt r s

/-- PANEL_GET_CONFIG (R430). -/
def execPanelGetConfig (dt : Nat) (r : Request) (s : State) : Host.Outcome State Fault Refusal :=
  runCommand cmdPanelGetConfig dt r s

/-- PANEL_SET_CONFIG (R430). -/
def execPanelSetConfig (dt : Nat) (r : Request) (s : State) : Host.Outcome State Fault Refusal :=
  runCommand cmdPanelSetConfig dt r s

/-- PANEL_GET_KEYS (R430). -/
def execPanelGetKeys (dt : Nat) (r : Request) (s : State) : Host.Outcome State Fault Refusal :=
  runCommand cmdPanelGetKeys dt r s

/-- PANEL_SET_LEDS (R425). -/
def execPanelSetLeds (dt : Nat) (r : Request) (s : State) : Host.Outcome State Fault Refusal :=
  runCommand cmdPanelSetLeds dt r s

end Sys2Proof.Machine
end

