-- ==== Sys2Proof/Machine/Motion.lean ====
section
/-! DEFINITION. The motion unit: faults, limits, homing, standstill, configuration and the class's commands (R365 to R384). -/

namespace Sys2Proof.Machine
open Sys2Proof

/-! ### Faults (R374) -/

/-- The code of a driver condition (R374). -/
def driverCode : DriverFault → Nat
  | .warm => 4 | .hot => 5 | .overcurrent => 6 | .openPhase => 7 | .vmotLow => 8

/-- The axis comes to rest at a position; HOLD_DELAY_MS and the record of a standstill count from here. -/
def restAt (now : Nat) (p : Int) (a : Axis) : Axis := { a with pos := p, ramp := none, restAt := now, recorded := false, dirty := true }

/-- At rest after a fault whose action is DECEL the axis is FAULTED (R374). -/
def enterFaulted (a : Axis) : Axis :=
  let a := { a with faulted := true, fault := a.faultPend, homed := a.homed && a.faultPend != 2 }
  { a with pos := if a.faultPend = 1 then a.encPos else a.pos, faultPend := 0, dirty := true }

/-- A fault arises (R374): it ends a homing run; DECEL runs the motion out, DISABLE removes drive at once. A fault that finds the
axis FAULTED or on its way there changes nothing unless it disables. -/
def axisFault (n f : Nat) (s : State) : State :=
  let now := s.tb.now
  let a := axis n s
  if fld a.record 0 1 = 0 ∨ s.win.role = .standby ∨ a.faulted ∨ (a.faultPend ≠ 0 ∧ f < 5) then s
  else
    let a := { a with fault := f, faultPend := f, homed := a.homed && a.homing == 0, homing := 0, stalls := if f = 1 then (a.stalls + 1) % 2 ^ 32 else a.stalls, dirty := true }
    let a := if 5 ≤ f then
        enterFaulted { restAt now (a.posAt now) { a with homed := a.homed && !a.moving } with current := 3 }
      else if a.moving then stopAxis now a
      else enterFaulted a
    emit 0x0B01 [n, f] (setAxis n a s)

/-- The cause of a fault appears or ends. -/
def setCause (f : Nat) (on : Bool) (a : Axis) : Axis :=
  { a with causes := if on then f :: a.causes.filter (· != f) else a.causes.filter (· != f) }

/-! ### Configuration in force (R376, R382) -/

/-- A record takes effect at a standstill; a change of STROKE_USTEPS, MICROSTEP, STEPS_PER_REV or INVERT_DIR unhomes (R376). -/
def applyAxis (now : Nat) (r : Bytes) (a : Axis) : Axis :=
  let same := fld r 4 4 == fld a.record 4 4 && fld r 2 1 == fld a.record 2 1 && fld r 0x30 2 == fld a.record 0x30 2 && bit (fld r 1 1) 0 == bit (fld a.record 1 1) 0
  let off := fld r 0 1 == 0
  let woke := !off && fld a.record 0 1 == 0
  { a with
    record := r, pend := none, homed := a.homed && same, dirty := true, restAt := if woke then now else a.restAt
    current := if off then 3 else if woke then (if fld r 0x1C 4 = 0 then 1 else 0) else a.current }

/-- A waiting record takes effect once the axis stands (R382). -/
def applyPend (now : Nat) (a : Axis) : Axis :=
  match a.pend with
  | none => a
  | some r => if a.moving then a else applyAxis now r a

/-! ### Homing (R376) -/

/-- HOME_METHOD. -/
def method (a : Axis) : Nat := fld a.record 3 1

/-- HOME_SPEED. -/
def homeSpeed (a : Axis) : Nat := fld a.record 0x38 4

/-- A homing run has ended: POSITION 0, homed, and the encoder agrees. -/
def homeDone (now : Nat) (a : Axis) : Axis :=
  { restAt now 0 a with homing := 0, homed := true, restored := false, target := 0, enc := 0 }

/-- Stage 4: HOME_BACKOFF microsteps away from where the axis is; method 4 returns to the index. -/
def homeBackOff (now speed : Nat) (a : Axis) : Axis :=
  let goal := if method a = 4 then a.indexPos else a.posAt now + fld a.record 0x3C 4
  if goal = a.posAt now ∧ !a.moving then homeDone now a else rampTo now speed goal { a with homing := 4 }

/-- Stage 3 of method 1: away from the switch. -/
def homeMoveOff (now : Nat) (a : Axis) : Axis :=
  rampTo now (homeSpeed a / 8) (a.posAt now + (stroke a * 6 / 5 : Nat)) { a with homing := 3 }

/-- Axis-Home begins (R376): the encoder is set to agree, and the search moves towards 0. -/
def homeStart (now : Nat) (a : Axis) : Axis :=
  let a := { a with homed := false, restored := false, enc := encCount a.record (a.posAt now), stallRun := 0, dirty := true }
  let p := a.posAt now
  let goal := fun (f : Nat) => p - (stroke a * f / 10 : Nat)
  match method a with
  | 0 => homeDone now a
  | 1 => if a.lowOn then homeMoveOff now a else rampTo now (homeSpeed a) (goal 12) { a with homing := 1 }
  | 2 => rampTo now (homeSpeed a) (-2147483648) { a with homing := 1 }
  | 3 => rampTo now (homeSpeed a) (goal 11) { a with homing := 1 }
  | _ => rampTo now (homeSpeed a / 8) (goal 12) { a with homing := 1 }

/-- The homing stage that follows a rest; a search that ends without its mark gives STALL. -/
def homeNext (n : Nat) (s : State) : State :=
  let now := s.tb.now
  let a := axis n s
  match a.homing, method a with
  | 1, 3 => setAxis n (homeBackOff now (homeSpeed a) a) s
  | 1, _ => axisFault n 1 s
  | 2, 4 => setAxis n (homeBackOff now (homeSpeed a / 8) a) s
  | 2, _ => setAxis n (homeMoveOff now a) s
  | 3, _ => axisFault n 1 s
  | _, _ => setAxis n (homeDone now a) s

/-! ### Events of the axes -/

/-- An axis whose ramp has ended is at rest: FAULTED, the next homing stage, or a waiting record follows (R369, R374, R376, R382). -/
def motionEnd (n : Nat) (s : State) : State :=
  let a := axis n s
  match a.ramp with
  | none => s
  | some r =>
    if s.tb.now < r.end_ then s
    else
      let a := restAt r.end_ (match r.goal with | some g => g | none => a.posAt s.tb.now) a
      if a.faultPend ≠ 0 then setAxis n (applyPend s.tb.now (enterFaulted a)) s
      else if a.homing ≠ 0 then homeNext n (setAxis n a s)
      else setAxis n (applyPend s.tb.now a) s

/-- AXIS_MOTION_END (R369): due once the ramp has run out. -/
def execAxisMotionEnd (dt : Nat) (ax : Fin 8) (s : State) : Host.Outcome State Fault Refusal :=
  .next (motionEnd ax.val (advance dt s))

/-- An axis is judged for a stall: neither DISABLED, REPLICA, HALTED, FAULTED nor UNHOMED, and no fault is running out. -/
def stallJudged (n : Nat) (s : State) : Bool :=
  let m := axisMode n s
  let a := axis n s
  fld a.record 0x26 1 != 0 && (m == 9 || m == 1 || m == 2 || m == 4 || m == 5) && (a.homed || a.homing != 0) && a.faultPend == 0

/-- The counts of a sample enter the encoder's count (R373); a homing search of method 4 stops at the index (R376). -/
def countEncoder (e : EncSample) (s : State) : State :=
  let now := s.tb.now
  let a := axis e.axis.val s
  let d := fun (v : Int) => if bit (fld a.record 1 1) 1 then -v else v
  if fld a.record 0x26 1 = 0 then s
  else
    let at_ := e.index.map (fun i => { a with enc := a.enc + d i }.encPos)
    let a := { a with enc := a.enc + d e.count }
    match at_ with
    | some p => if a.homing = 1 ∧ method a = 4 ∧ fld a.record 0x26 1 = 2 then setAxis e.axis.val (stopAxis now { a with homing := 2, indexPos := p }) s else setAxis e.axis.val a s
    | none => setAxis e.axis.val a s

/-- A stall ends the search of method 2 and is no fault there; elsewhere it is STALL (R373, R374, R376). -/
def stalled (n : Nat) (s : State) : State :=
  let a := axis n s
  let now := s.tb.now
  if a.homing = 1 ∧ method a = 2 then setAxis n (homeBackOff now (homeSpeed a) (restAt now a.encPos { a with stallRun := 0 })) s
  else axisFault n 1 (setAxis n { a with stallRun := 0 } s)

/-- The check of one axis: DEVIATION, its maximum, and STALL_FILTER checks in excess in a row (R373). -/
def checkStall (s : State) (n : Nat) : State :=
  let a := axis n s
  let dev := (a.posAt s.tb.now - a.encPos).natAbs
  if fld a.record 0x26 1 = 0 then s
  else
    let a := { a with devMax := max a.devMax (if a.homed || a.homing != 0 then dev else 0) }
    let run := if decide (fld a.record 0x34 4 < dev) && stallJudged n s then a.stallRun + 1 else 0
    let s := setAxis n { a with stallRun := run } s
    if run ≠ 0 ∧ fld a.record 0x32 2 ≤ run then stalled n s else s

/-- STALL_CHECK (R373): the encoders count; the deviations are judged at each 100 µs. -/
def execStallCheck (dt : Nat) (samples : List EncSample) (s : State) : Host.Outcome State Fault Refusal :=
  let s := samples.foldl (fun t e => countEncoder e t) (advance dt s)
  let n := s.tb.now / 100000
  .next (if n ≤ s.motion.lastCheck then s
    else (List.range 8).foldl checkStall { s with motion := { s.motion with lastCheck := n } })

/-- ENC_ERROR (R373). -/
def execEncError (dt : Nat) (ax : Fin 8) (what : EncEvent) (s : State) : Host.Outcome State Fault Refusal :=
  let s := advance dt s
  let a := axis ax.val s
  .next (if fld a.record 0x26 1 = 0 then s
    else match what with
      | .illegal => axisFault ax.val 2 s
      | .openInput => axisFault ax.val 2 (setAxis ax.val (setCause 2 true a) s)
      | .restored => setAxis ax.val (setCause 2 false a) s)

/-- A limit switch's accepted level changes (R375, R376). -/
def limitSwitch (n : Nat) (high : Bool) (s : State) : State :=
  let now := s.tb.now
  let a := axis n s
  let k := fld a.record (if high then 0x28 else 0x27) 1
  let on := k != 0xFF && (di k s).value
  let p := a.posAt now
  let window : Int := fld a.record 0x34 4
  let near := if high then decide (((stroke a : Int) - p).natAbs ≤ window.natAbs) else decide (p.natAbs ≤ window.natAbs)
  if on = (if high then a.highOn else a.lowOn) ∨ fld a.record 0 1 = 0 then s
  else
    let a := if high then { a with highOn := on } else { a with lowOn := on }
    let mark := !high && method a == 1
    if !on then
      let a := if high then { a with atHigh := false } else { a with atLow := false }
      setAxis n (if mark && a.homing == 3 then homeBackOff now (homeSpeed a / 8) a else a) s
    else if mark && a.homing == 1 then setAxis n (stopAxis now { a with homing := 2 }) s
    else if near then
      let v := a.velAt now
      let a := if high then { a with atHigh := true } else { a with atLow := true }
      setAxis n (if (high && decide (0 < v)) || (!high && decide (v < 0)) then stopAxis now a else a) s
    else axisFault n 3 (setAxis n a s)

/-- LIMIT_SWITCH (R375): the accepted level of a limit input is taken. -/
def execLimitSwitch (dt : Nat) (ax : Fin 8) (high : Bool) (s : State) : Host.Outcome State Fault Refusal :=
  .next (limitSwitch ax.val high (advance dt s))

/-- DRIVER_FAULT (R374): a driver condition appears or ends. -/
def execDriverFault (dt : Nat) (ax : Fin 8) (fault : DriverFault) (present : Bool) (s : State) : Host.Outcome State Fault Refusal :=
  let s := advance dt s
  let s := setAxis ax.val (setCause (driverCode fault) present (axis ax.val s)) s
  .next (if present then axisFault ax.val (driverCode fault) s else s)

/-- HOLD_DELAY (R372): due HOLD_DELAY_MS after the last step of an axis at rest. -/
def execHoldDelay (dt : Nat) (ax : Fin 8) (s : State) : Host.Outcome State Fault Refusal :=
  let s := advance dt s
  let a := axis ax.val s
  .next (if !a.moving && decide (a.current ≤ 1) && decide (a.restAt + fld a.record 0x24 2 * 1000000 ≤ s.tb.now) then
      setAxis ax.val { a with current := if fld a.record 0x22 2 = 0 then 3 else 2 } s
    else s)

/-- The saved record of an axis: POSITION, homed, MOVING (R378). -/
def saveAxis (now : Nat) (a : Axis) : Axis := { a with saved := some (a.posAt now, a.homed, a.moving), recorded := true }

/-- Every axis's record is written (R378, R379). -/
def saveAxes (s : State) : State :=
  { s with motion := { s.motion with axes := s.motion.axes.map (fun e => (e.1, saveAxis s.tb.now e.2)) } }

/-- STANDSTILL_RECORD (R378): due after 1 s at rest, once a standstill. -/
def execStandstillRecord (dt : Nat) (ax : Fin 8) (s : State) : Host.Outcome State Fault Refusal :=
  let s := advance dt s
  let a := axis ax.val s
  .next (if !a.moving && !a.recorded && decide (a.restAt + 1000000000 ≤ s.tb.now) then setAxis ax.val (saveAxis s.tb.now a) s else s)

/-- An axis is moving (R379). -/
def anyMoving (s : State) : Bool := s.motion.axes.any (fun e => e.2.moving)

/-- Axes at entry to HOLDUP: those no GUARD writer holds run out (R378). -/
def axesHoldup (s : State) : State :=
  { s with motion := { s.motion with axes := s.motion.axes.map (fun e => if axisGuarded e.1 s then e else (e.1, stopAxis s.tb.now e.2)) } }

/-- Axes at start-up: a record with MOVING 0 restores a homed axis; the encoder is set to agree (R380). -/
def restoreAxes (s : State) : State :=
  let one := fun (a : Axis) =>
    let a := { a with ramp := none, fault := 0, faulted := false, faultPend := 0, homing := 0, stopped := false, unmet := false, clamped := false, stallRun := 0, req := 9, causes := [], restAt := s.tb.now, recorded := true, current := if fld a.record 0 1 = 0 then 3 else if fld a.record 0x1C 4 = 0 then 1 else 0 }
    match a.saved with
    | some (p, true, false) => { a with pos := p, target := p, homed := true, restored := true, enc := encCount a.record p }
    | _ => { a with homed := false, restored := false, pos := 0, target := 0, enc := 0 }
  { s with motion := { s.motion with axes := s.motion.axes.map (fun e => (e.1, one e.2)) } }

/-- Axes at takeover (R381): homed from the replicated POSITION where the encoder agrees, or without one where the replicated
state was at rest. -/
def takeoverAxes (s : State) : State :=
  let one := fun (a : Axis) =>
    let agrees := if fld a.record 0x26 1 = 0 then !a.replMoving else decide ((a.pos - a.encPos).natAbs ≤ fld a.record 0x34 4)
    { a with homed := a.homed && agrees, target := a.pos, ramp := none, restAt := s.tb.now, recorded := false, current := if fld a.record 0 1 = 0 then 3 else if fld a.record 0x1C 4 = 0 then 1 else 0 }
  { s with motion := { s.motion with axes := s.motion.axes.map (fun e => (e.1, one e.2)) } }

/-! ### The Motion class (R382 to R384) -/

/-- The ranges of an axis record, by offset (R382). -/
def axisRanges (r : Bytes) : List (Bool × Nat × Nat) :=
  let di := fun off => chk (decide (fld r off 1 ≤ 31) || fld r off 1 == 0xFF) off
  [inRange r 0 1 0 1, inRange r 2 1 0 8, inRange r 3 1 0 4, inRange r 4 4 256 16777216, inRange r 8 4 256 1024000,
    inRange r 0x0C 4 256 1000000000, inRange r 0x10 4 256 1000000000, inRange r 0x14 4 (fld r 0x10 4) 1000000000,
    chk (fld r 0x18 4 == 0 || (decide (1000 ≤ fld r 0x18 4) && decide (fld r 0x18 4 ≤ 4000000000))) 0x18, inRange r 0x1C 4 0 (fld r 8 4),
    inRange r 0x20 2 50 1000, inRange r 0x22 2 0 (fld r 0x20 2), inRange r 0x24 2 0 60000, inRange r 0x26 1 0 2, di 0x27, di 0x28,
    chk (if fld r 0x26 1 = 0 then fld r 0x2C 4 == 0 else decide (4 ≤ fld r 0x2C 4) && decide (fld r 0x2C 4 ≤ 65536)) 0x2C,
    inRange r 0x30 2 4 1000, inRange r 0x32 2 1 1000, inRange r 0x34 4 256 65536, inRange r 0x38 4 256 (fld r 8 4), inRange r 0x3C 4 0 65536]

/-- A record asks for a homing method it lacks the means for, or for a limit input another axis uses (R382). -/
def axisConflict (n : Nat) (r : Bytes) (s : State) : Bool :=
  let enc := fld r 0x26 1
  let latest := fun k => let a := axis k s; a.pend.getD a.record
  let dis := fun (b : Bytes) => [fld b 0x27 1, fld b 0x28 1].filter (· != 0xFF)
  (fld r 3 1 == 2 && enc == 0) || (fld r 3 1 == 4 && enc != 2) ||
    (List.range 8).any (fun k => k != n && (dis (latest k)).any (fun d => (dis r).contains d))

/-- Axis-Get-Config (R383). -/
def cmdAxisGetConfig : Command :=
  { code := 0x0B01, standby := true, len := lenIs 4, reserved := resv [(1, 3)], range := fun c _ => [inRange c.payload 0 1 0 7]
    body := fun c s => (s, .ok (axis (fld c.payload 0 1) s).record) }

/-- Axis-Set-Config (R382, R383): in effect at the next standstill. -/
def cmdAxisSetConfig : Command :=
  { code := 0x0B02, len := lenIs 68, reserved := fun b => [(1, 3)] ++ flagResv b 5 1 2 ++ [(0x2D, 3)]
    range := fun c _ => inRange c.payload 0 1 0 7 :: (axisRanges (c.payload.drop 4)).map (fun f => (f.1, f.2.1, f.2.2 + 4))
    body := fun c s =>
      let n := fld c.payload 0 1
      let r := slice c.payload 4 64
      if caravanHolds (0x30000000 + n) s then (s, refuse 0x22)
      else if axisConflict n r s then (s, refuse 0x0A)
      else (setAxis n (applyPend s.tb.now { axis n s with pend := some r }) s, .ok []) }

/-- Axis-Set-Mode (R370, R377, R383): in effect at its taking; STOP ends a homing run. -/
def cmdAxisSetMode : Command :=
  { code := 0x0B03, len := lenIs 4, reserved := resv [(2, 2)]
    range := fun c _ => [inRange c.payload 0 1 0 7, chk (fld c.payload 1 1 == 1 || fld c.payload 1 1 == 2 || fld c.payload 1 1 == 9) 1]
    body := fun c s =>
      let n := fld c.payload 0 1
      let m := fld c.payload 1 1
      let a := { axis n s with req := m, dirty := true }
      (setAxis n (if m = 2 ∧ !axisGuarded n s then stopAxis s.tb.now { a with homing := 0 } else a) s, .ok (le 8 s.zone)) }

/-- Axis-Move (R383, R384): the target of an axis in MANUAL; where the axis has no other writer it is its LOCAL value. -/
def cmdAxisMove : Command :=
  { code := 0x0B04, len := lenIs 8, reserved := resv [(1, 3)]
    range := fun c _ => [inRange c.payload 0 1 0 7, chk (f32In (fld c.payload 4 4) 0 1) 4]
    body := fun c s =>
      let n := fld c.payload 0 1
      let a := axis n s
      if !a.homed then (s, refuse 0x23)
      else if axisMode n s ≠ 1 then (s, refuse 0x20)
      else
        let v := fld c.payload 4 4
        let owned := (loopOwner 3 n s).isSome || (bindsTo (progDir s) 0x45 n).any (fun e => !entryGuard e)
        let s := if owned then s else setTarget 3 n { target 3 n s with local_ := some v, value := f32Val v } s
        (setAxis n (startMove s.tb.now (roundAway (f32Val v * (stroke a : Rat))) { a with dirty := true }) s, .ok (le 8 s.zone)) }

/-- Axis-Home (R376, R383): an axis that a fault, ENABLE or the power state keeps from moving is refused with STATE_REFUSED. -/
def cmdAxisHome : Command :=
  { code := 0x0B05, len := lenIs 4, reserved := resv [(1, 3)], range := fun c _ => [inRange c.payload 0 1 0 7]
    body := fun c s =>
      let n := fld c.payload 0 1
      let a := axis n s
      let m := axisMode n s
      if axisGuarded n s then (s, refuse 0x0A)
      else if m = 0 ∨ m = 6 ∨ m = 7 ∨ a.faultPend ≠ 0 then (s, refuse 0x06)
      else (setAxis n (homeStart s.tb.now a) s, .ok (le 8 s.zone)) }

/-- Axis-Clear-Fault (R374). -/
def cmdAxisClearFault : Command :=
  { code := 0x0B06, len := lenIs 4, reserved := resv [(1, 3)], range := fun c _ => [inRange c.payload 0 1 0 7]
    body := fun c s =>
      let n := fld c.payload 0 1
      let a := axis n s
      if !a.faulted then (s, .ok [])
      else if a.causes.contains a.fault then (s, refuse 0x21)
      else
        let mode := if a.current = 3 then (if fld a.record 0x1C 4 = 0 then 1 else 0) else a.current
        (setAxis n { a with faulted := false, fault := 0, target := a.pos, restAt := s.tb.now, current := mode } s, .ok []) }

/-- An axis status record (R383). -/
def axisStatus (n : Nat) (s : State) : Bytes :=
  let a := axis n s
  let now := s.tb.now
  let flags := bitAt 0 a.homed + bitAt 1 a.restored + bitAt 2 a.moving + bitAt 3 (a.atLow || a.atHigh) + bitAt 4 a.clamped + bitAt 5 a.unmet
  le 1 n ++ le 1 (axisMode n s) ++ le 1 a.fault ++ le 1 a.current ++ le 2 flags ++ zeros 2 ++ leInt 4 (a.posAt now) ++ leInt 4 a.encPos ++
    leInt 4 a.target ++ leInt 4 (a.velAt now) ++ le 4 a.devMax ++ le 4 a.stalls

/-- Axis-Read-Status (R383): the read clears TARGET_CLAMPED and DEVIATION_MAX (R366). -/
def cmdAxisReadStatus : Command :=
  { code := 0x0B07, standby := true, len := lenIs 0
    body := fun _ s =>
      let p := (List.range 8).flatMap (fun n => axisStatus n s)
      ({ s with motion := { s.motion with axes := s.motion.axes.map (fun e => (e.1, { e.2 with clamped := false, devMax := 0 })) } }, .ok p) }

/-! ### The rows of the Ferosh command set: one exchange each -/

/-- AXIS_GET_CONFIG (R383). -/
def execAxisGetConfig (dt : Nat) (r : Request) (s : State) : Host.Outcome State Fault Refusal :=
  runCommand cmdAxisGetConfig dt r s

/-- AXIS_SET_CONFIG (R382). -/
def execAxisSetConfig (dt : Nat) (r : Request) (s : State) : Host.Outcome State Fault Refusal :=
  runCommand cmdAxisSetConfig dt r s

/-- AXIS_SET_MODE (R383). -/
def execAxisSetMode (dt : Nat) (r : Request) (s : State) : Host.Outcome State Fault Refusal :=
  runCommand cmdAxisSetMode dt r s

/-- AXIS_MOVE (R383). -/
def execAxisMove (dt : Nat) (r : Request) (s : State) : Host.Outcome State Fault Refusal :=
  runCommand cmdAxisMove dt r s

/-- AXIS_HOME (R376). -/
def execAxisHome (dt : Nat) (r : Request) (s : State) : Host.Outcome State Fault Refusal :=
  runCommand cmdAxisHome dt r s

/-- AXIS_CLEAR_FAULT (R374). -/
def execAxisClearFault (dt : Nat) (r : Request) (s : State) : Host.Outcome State Fault Refusal :=
  runCommand cmdAxisClearFault dt r s

/-- AXIS_READ_STATUS (R383). -/
def execAxisReadStatus (dt : Nat) (r : Request) (s : State) : Host.Outcome State Fault Refusal :=
  runCommand cmdAxisReadStatus dt r s

end Sys2Proof.Machine
end

