-- ==== Sys2Proof/Machine/Recorder.lean ====
section
/-! DEFINITION. The event recorder: records, snapshots, triggers, the staging queue, the ring and its commands (R444 to R455). -/

namespace Sys2Proof.Machine
open Sys2Proof

/-- The recorder changed. -/
def setRec (f : Recorder → Recorder) (s : State) : State := { s with recorder := f s.recorder }

/-- The recorder takes ticks and writes: it is powered and has checked its ring; a KEEPER restart leaves it running (R449, R451). -/
def recorderRuns (s : State) : Bool := s.recorder.ready && !s.power.off && !s.boot.held && s.power.standby.isNone

/-! ### Records (R444, R445) -/

/-- The 256 bytes of a record (R444). -/
def EvRec.bytes (r : EvRec) : Bytes :=
  let b := le 4 r.seq ++ le 1 r.kind ++ le 1 r.flags ++ le 2 r.code ++ le 8 r.time ++ le 2 r.boot ++ le 1 r.data.length ++ le 1 r.items ++
    le 2 r.suppressed ++ le 2 r.absent ++ le 4 r.trigGen ++ zeros 4 ++ fit 216 r.data ++ zeros 4
  b ++ le 4 (crc32c b)

/-- FLAGS [2] TIME_NOT_LOCKED. -/
def notLocked (locked : Bool) : Nat := bitAt 2 (!locked)

/-- A record without its SEQ. -/
def blankRec (kind flags code time : Nat) (data : Bytes) (items : Nat) (s : State) : EvRec :=
  { seq := 0, kind := kind, flags := flags, code := code, time := time, boot := s.recorder.boot % 65536, data := data, items := items }

/-- The bytes of items. -/
def itemBytes (l : List (BitVec 64)) : Bytes := l.flatMap (fun v => le 8 v.toNat)

/-- The parts of at most 27 items of an event (R445). -/
def itemParts (l : List (BitVec 64)) : List (List (BitVec 64)) :=
  if l = [] then [[]] else (List.range ((l.length + 26) / 27)).map (fun i => (l.drop (27 * i)).take 27)

/-- The records of an event: those after the first carry CONTINUED, those before the last MORE. -/
def eventRecords (e : Event) (s : State) : List EvRec :=
  let p := itemParts e.items
  (p.zip (List.range p.length)).map (fun (x : List (BitVec 64) × Nat) =>
    blankRec 1 (bitAt 0 (x.2 != 0) + bitAt 1 (x.2 + 1 != p.length) + notLocked e.locked) e.code e.time (itemBytes x.1) x.1.length s)

/-! ### The staging queue (R449) -/

/-- Accepted Event-Mark and Event-Fire commands whose SEQ is still to be assigned: each keeps its place (log 27). -/
def promised (s : State) : Nat := s.recorder.marks.length + s.recorder.fires.length

/-- Places for records other than the GAP record's. -/
def hasPlace (kept : Nat) (s : State) : Bool := decide (s.recorder.queue.length + kept < 255)

/-- A record enters the staging queue and takes the next SEQ. -/
def queueRec (r : EvRec) (s : State) : State :=
  setRec (fun q =>
    let queue := q.queue ++ [{ r with seq := q.nextSeq % 2 ^ 32 }]
    { q with queue := queue, nextSeq := q.nextSeq + 1, queuePeak := max q.queuePeak queue.length }) s

/-- A record that finds the queue full receives no SEQ and is counted for a GAP record. -/
def missRec (time : Nat) (s : State) : State :=
  setRec (fun q => { q with gap := some (match q.gap with | none => (1, time, time) | some (n, a, _) => (n + 1, a, time)) }) s

/-- A record is offered to the queue while `kept` places are promised: its SEQ, where it takes one. -/
def enterRec (kept : Nat) (r : EvRec) (s : State) : State × Option Nat :=
  if hasPlace kept s then (queueRec r s, some (s.recorder.nextSeq % 2 ^ 32)) else (missRec r.time s, none)

/-- The GAP record due is queued. -/
def queueGap (s : State) : State :=
  match s.recorder.gap with
  | none => s
  | some (n, a, b) =>
    let r := blankRec 1 (notLocked (s.tb.state == 2)) 0x1101 s.zone (itemBytes ([(n : Int), a, b, 0].map item)) 4 s
    setRec (fun q => { q with gap := none, gapRecords := (q.gapRecords + 1) % 2 ^ 32, newCodes := q.newCodes ++ [0x1101] }) (queueRec r s)

/-! ### Snapshots (R446, R448) -/

/-- An item of a source: its 64 bits (R445) and the number it stands for; none where it is absent. -/
abbrev Item := Option (BitVec 64 × Option Rat)

/-- An integer item. -/
def intItem (v : Int) : Item := some (item v, some (v : Rat))

/-- The number of a binary64: none for NaN, and beyond every finite one for an infinity. -/
def f64Num (v : Nat) : Option Rat :=
  if f64Finite v then some (f64Rat v)
  else if v % 2 ^ 52 ≠ 0 then none
  else some (if v < 2 ^ 63 then 2 ^ 1100 else -(2 ^ 1100 : Rat))

/-- A binary32 item. -/
def f32Item (v : Nat) : Item := some (BitVec.ofNat 64 (f32to64 v), f64Num (f32to64 v))

/-- A variable's first 8 bytes, with the number its type gives them. -/
def varItem (e : Bytes) (s : State) : Item :=
  let b := fit 8 (getVar s.prog.mem e)
  let t := eType e
  let n : Option Rat := if t = 0x0A then f64Num (f32to64 (fld b 0 4)) else if t = 0x0B then f64Num (leNat b)
    else if t = 0 then some (leNat b : Rat) else if typeSigned t then some (sfld b 0 (typeSize t) : Rat) else some (fld b 0 (typeSize t) : Rat)
  some (BitVec.ofNat 64 (leNat b), n)

/-- The item a selector names, from the latest value its source has produced (R446, R448). -/
def selected (sel : Bytes) (time : Nat) (s : State) : Item :=
  let f := fld sel 1 1
  let i := fld sel 4 4
  match fld sel 0 1 with
  | 0x01 => intItem time
  | 0x02 =>
    let l := loopSlot i s
    if lKind l.record = 0 ∨ l.fresh then none
    else intItem ([l.pv, l.sp, l.spr, l.y, appliedOf i s, (loopMode i s : Int), (loopFlags i s : Int)].getD f 0)
  | 0x03 => (match entryOf (progDir s) (fld sel 8 8) with | none => none | some e => varItem e s)
  | 0x04 => if (di i s).known then intItem (if f = 0 then b2n (di i s).value else (di i s).rises) else none
  | 0x05 => (match tabGet? s.io.ain i with | none => none | some a => if a.stamp.isSome then f32Item a.value else none)
  | 0x06 => if f = 0 then intItem (b2n (dout i s).on) else f32Item (tabGet 0 s.io.aout i)
  | 0x07 => (match (feed i s).latched with | none => none | some b => f32Item (fld b (4 * f) 4))
  | 0x08 => (match (pair i s).latched with | none => none | some b => f32Item (fld b (4 * f) 4))
  | 0x09 =>
    let a := axis i s
    intItem ([a.posAt s.tb.now, a.encPos, a.target, a.velAt s.tb.now, (axisMode i s : Int), (a.fault : Int)].getD f 0)
  | 0x0A => (match canReading (canObj (i / 256 % 4) (i % 256) s) with | none => none | some x => f32Item x.raw)
  | 0x0B => intItem (if f = 0 then (s.win.stateWord : Int) else if f = 1 then (s.tb.state : Int) else s.tb.offset)
  | _ => none

/-- A selector lies within the item kind table (R446). -/
def selectorFits (sel : Bytes) : Bool :=
  let f := fld sel 1 1
  let i := fld sel 4 4
  let k := fld sel 0 1
  (k == 0x03 || fld sel 8 8 == 0) &&
    (match k with
      | 0x01 => f == 0 && i == 0
      | 0x02 => decide (f ≤ 6 ∧ i < 512)
      | 0x03 => f == 0 && i == 0
      | 0x04 => decide (f ≤ 1 ∧ i < 32)
      | 0x05 => decide (f = 0 ∧ i < 16)
      | 0x06 => decide ((f = 0 ∧ i < 24) ∨ (f = 1 ∧ i < 8))
      | 0x07 => decide (5 ≤ f ∧ f ≤ 37 ∧ i < 5)
      | 0x08 => decide (5 ≤ f ∧ f ≤ 11 ∧ i < 8)
      | 0x09 => decide (f ≤ 5 ∧ i < 8)
      | 0x0A => decide (f = 0 ∧ i < 1024)
      | 0x0B => decide (f ≤ 2 ∧ i = 0)
      | _ => false)

/-! ### Triggers (R446, R447) -/

/-- A trigger. -/
def trigger (n : Nat) (s : State) : Trigger := tabGet {} s.recorder.triggers n

/-- A trigger changed. -/
def setTrigger (n : Nat) (t : Trigger) (s : State) : State := setRec (fun q => { q with triggers := tabSet q.triggers n t }) s

/-- The selector of an item of a definition. -/
def itemSel (d : Bytes) (k : Nat) : Bytes := slice d (0x30 + 16 * k) 16

/-- A LEVEL crossing upward of a value over a threshold, mirrored for FALLING: the armed state that follows, and whether it fires. -/
def crossing (armed : Option Bool) (w t h : Rat) : Option Bool × Bool :=
  match armed with
  | none => (if w < t then some true else none, false)
  | some true => if t ≤ w then (some false, true) else (some true, false)
  | some false => (some (decide (w < t - h)), false)

/-- A trigger's own condition at an instant: its watching state and whether it fires (R447). `last` and `k` are the ms of the
instants before and now; `codes` are the codes of the events queued. -/
def judgeTrigger (codes : List Nat) (last k : Nat) (t : Trigger) (s : State) : Trigger × Bool :=
  let d := t.defn
  let watch : Option Rat := match selected (slice d 0x20 16) s.zone s with | none => none | some x => x.2
  match fld d 0 1 with
  | 1 => (t, codes.any (fun c => c &&& fld d 6 2 == fld d 4 2 &&& fld d 6 2))
  | 2 =>
    (match watch, f64Num (fld d 8 8) with
      | some w, some th =>
        let h := (f64Num (fld d 0x10 8)).getD 0
        let up := if bit (fld d 1 1) 0 then crossing t.armedRise w th h else (t.armedRise, false)
        let dn := if bit (fld d 1 1) 1 then crossing t.armedFall (-w) (-th) h else (t.armedFall, false)
        ({ t with armedRise := up.1, armedFall := dn.1 }, up.2 || dn.2)
      | _, _ => (t, false))
  | 3 =>
    (match watch with
      | none => (t, false)
      | some w => (match t.lastValue with
        | none => ({ t with lastValue := some w }, false)
        | some v => if (f64Num (fld d 0x10 8)).getD 0 < absRat (w - v) then ({ t with lastValue := some w }, true) else (t, false)))
  | 4 => (t, decide (last / fld d 0x18 4 < k / fld d 0x18 4))
  | _ => (t, false)

/-- The record of a trigger's snapshot (R448). -/
def snapshot (n : Nat) (t : Trigger) (time : Nat) (s : State) : EvRec :=
  let sels := (List.range (min 16 (fld t.defn 2 1))).map (itemSel t.defn)
  let vals := sels.map (fun e => selected e time s)
  let bytes := vals.flatMap (fun (v : Item) => le 8 (match v with | none => 0x7FF8000000000000 | some x => x.1.toNat))
  let absent := (vals.zip (List.range 16)).map (fun (x : Item × Nat) => bitAt x.2 x.1.isNone)
  { blankRec 2 (notLocked (s.tb.state == 2)) n time bytes sels.length s with suppressed := min 65535 t.suppressed, absent := absent.sum, trigGen := t.gen }

/-- One trigger at an instant: it fires at most once, by its condition or by an Event-Fire, and each Event-Fire that named it is
answered. A firing within HOLDOFF_MS of its previous record is counted; ONE_SHOT sets KIND to OFF after the first record. -/
def runTrigger (codes : List Nat) (last k time : Nat) (s : State) (n : Nat) : State :=
  let t := trigger n s
  let mine := s.recorder.fires.filter (fun f => f.2 == n)
  let rest := s.recorder.fires.filter (fun f => f.2 != n)
  if fld t.defn 0 1 = 0 ∧ mine = [] then s
  else
    let kept := s.recorder.marks.length + rest.length
    let j := if t.since ≤ k then judgeTrigger codes last k t s else (t, false)
    let fires := fld t.defn 0 1 != 0 && (j.2 || mine != [])
    let held := match j.1.lastRecord with | none => false | some a => decide (time < a + fld t.defn 0x1C 4 * 1000000)
    let s := setRec (fun q => { q with fires := rest }) (setTrigger n j.1 s)
    let r : State × Option Nat :=
      if !fires then (s, none)
      else if held then (setTrigger n { j.1 with suppressed := j.1.suppressed + 1 } s, none)
      else
        let e := enterRec kept (snapshot n j.1 time s) s
        match e.2 with
        | none => e
        | some q =>
          let d := if bit (fld t.defn 1 1) 2 then patch t.defn 0 (le 1 0) else t.defn
          (setTrigger n { j.1 with suppressed := 0, lastRecord := some time, defn := d } e.1, some q)
    let seq := r.2.getD (Config.unrecordedSeq s.recorder.nextSeq)
    mine.foldl (fun u f => finish f.1 (.ok (le 4 seq)) u) r.1

/-- The mark at the head of the span is queued and answered. -/
def runMark (s : State) : State :=
  match s.recorder.marks with
  | [] => s
  | m :: rest =>
    let e := enterRec rest.length (blankRec 3 (notLocked (s.tb.state == 2)) 0 m.2.1 m.2.2 0 s) (setRec (fun q => { q with marks := rest }) s)
    finish m.1 (.ok (le 4 (e.2.getD (Config.unrecordedSeq s.recorder.nextSeq)))) e.1

/-- Events in ascending code, within one code in order of arising (R448). -/
def insertEvent (e : Event) : List Event → List Event
  | [] => [e]
  | x :: t => if x.code ≤ e.code then x :: insertEvent e t else e :: x :: t

/-- An event's records are queued. -/
def enterEvent (s : State) (e : Event) : State := (eventRecords e s).foldl (fun u r => (enterRec (promised u) r u).1) s

/-- RECORDER_TICK (R447, R448): at a 1 ms tick-count instant, the events of the span, then the triggers that fire, then the marks. -/
def execRecorderTick (dt : Nat) (s : State) : Host.Outcome State Fault Refusal :=
  let s := advance dt s
  let k := s.tb.now / 1000000
  let last := s.recorder.lastTick
  .next (if !recorderRuns s ∨ k ≤ last then s
    else
      let span := s.recorder.span.foldl (fun l e => insertEvent e l) []
      let codes := s.recorder.newCodes
      let s := setRec (fun q => { q with span := [], newCodes := [], lastTick := k }) s
      let before := s.recorder.nextSeq
      let s := span.foldl enterEvent s
      let codes := codes ++ ((s.recorder.queue.filter (fun r => r.kind == 1)).drop ((s.recorder.queue.filter (fun r => r.kind == 1)).length - (s.recorder.nextSeq - before))).map (·.code)
      let s := (List.range 128).foldl (runTrigger codes last k (zoneAt (k * 1000000) s)) s
      (s.recorder.marks).foldl (fun u _ => runMark u) s)

/-! ### The ring (R449 to R451) -/

/-- A record stands in its slot. -/
def putSlot (r : EvRec) (q : Recorder) : Recorder :=
  { q with ring := tabSet q.ring (r.seq % 8192) r, badSlots := q.badSlots.filter (· != r.seq % 8192) }

/-- The last-gasp commit stands before the recorder at the Cellar write port (R42, R450). -/
def gaspPending (s : State) : Bool := (s.win.power == .holdup || s.boot.pinAt.isSome) && !s.power.gaspOk

/-- RING_WRITE (R449): the oldest queued record is written to its slot; then a GAP record that is due takes the free place. -/
def execRingWrite (dt : Nat) (s : State) : Host.Outcome State Fault Refusal :=
  let s := advance dt s
  .next (if !recorderRuns s || gaspPending s then s
    else match s.recorder.queue with
      | [] => s
      | r :: rest => queueGap (setRec (fun q => putSlot r { q with queue := rest, nextWrite := q.nextWrite + 1 }) s))

/-- The oldest SEQ of the ring before a SEQ, counted on past 2³². -/
def oldestSeq (next : Nat) : Nat := max 1 (next - 8192)

/-- The slot due under a SEQ holds another record or fails its CRC (R451). -/
def corruptAt (n : Nat) (q : Recorder) : Bool :=
  q.badSlots.contains (n % 8192) || (match tabGet? q.ring (n % 8192) with | none => true | some r => r.seq != n % 2 ^ 32)

/-- The record read under a SEQ (R451). -/
def readSeq (n : Nat) (q : Recorder) : EvRec :=
  let bad : EvRec := { seq := n % 2 ^ 32, kind := 4, flags := 0, code := 0, time := 0, boot := 0, data := [], items := 0 }
  if corruptAt n q then bad else (tabGet? q.ring (n % 8192)).getD bad

/-- The highest SEQ of a slot whose CRC passes, taken next to the SEQ kept (signed 32-bit difference, R444), counted on past 2³². -/
def highestValid (q : Recorder) : Nat :=
  (q.ring.filter (fun e => !q.badSlots.contains e.1)).foldl (fun m e =>
    let d := toSigned 32 ((e.2.seq + 2 ^ 32 - q.nextSeq % 2 ^ 32) % 2 ^ 32)
    max m ((q.nextSeq : Int) + d).toNat) 0

/-- The records still queued and the events without a SEQ are lost; the VBAT record keeps their number and TIMEs (R450). -/
def loseQueue (s : State) : State :=
  let q := s.recorder
  let times := q.queue.map (·.time) ++ (match q.gap with | none => [] | some (n, a, b) => a :: List.replicate (n - 1) b) ++
    q.span.flatMap (fun e => List.replicate (itemParts e.items).length e.time) ++ q.marks.map (·.2.1)
  let lost : Option (Nat × Nat × Nat) := match times.head?, times.getLast?, q.lost with
    | some _, some z, some (n, a, _) => some (n + times.length, a, z)
    | some a, some z, none => some (times.length, a, z)
    | _, _, l => l
  setRec (fun q => { q with ready := false, queue := [], span := [], marks := [], fires := [], gap := none, newCodes := [], lost := lost }) s

/-- The check of the ring at start-up: the next SEQ, RING_RESTORED, the GAP record for what was lost and the events kept from
STANDBY; `kept` says that the VBAT domain's validity marker holds (R450, R451). -/
def restoreRing (kept : Bool) (s : State) : State :=
  let q := s.recorder
  let best := highestValid q
  let next := max (best + 1) (max q.nextWrite (if kept then q.nextSeq else 0))
  let low := oldestSeq next
  let corrupt := ((List.range (next - low)).filter (fun i => corruptAt (low + i) q)).length
  let old := if kept then q.standbyEvents else []
  let had := q.lost.isSome
  let s := setRec (fun q => { q with ready := true, nextSeq := next, nextWrite := next, corruptSlots := corrupt, queuePeak := 0, lost := none, standbyEvents := [], lastTick := s.tb.now / 1000000 }) s
  let s := emit 0x1102 [corrupt, (best % 2 ^ 32 : Nat)] s
  let s := match q.lost, kept with
    | some (n, a, b), true => emit 0x1101 [(n : Int), a, b, 1] s
    | _, _ => s
  setRec (fun q => { q with span := q.span ++ old, gapRecords := (q.gapRecords + b2n (kept && had)) % 2 ^ 32 }) s

/-- The events kept in the VBAT domain are recorded at the return to ACTIVE (R450). -/
def releaseStandbyEvents (s : State) : State := setRec (fun q => { q with span := q.span ++ q.standbyEvents, standbyEvents := [] }) s

/-! ### Commands (R452, R454) -/

/-- Event-Read. -/
def cmdEventRead : Command :=
  { code := 0x1101, standby := true, len := lenIs 8, reserved := resv [(6, 2)]
    range := fun c _ => [inRange c.payload 4 2 1 31]
    body := fun c s =>
      let q := s.recorder
      let next := q.nextWrite
      let low := oldestSeq next
      let from_ := fld c.payload 0 4
      let ahead := toSigned 32 ((from_ + 2 ^ 32 - next % 2 ^ 32) % 2 ^ 32)
      if 0 ≤ ahead then (s, .ok (le 4 low ++ le 4 next ++ le 4 from_ ++ zeros 4))
      else
        let first := max low ((next : Int) + ahead).toNat
        let n := min (fld c.payload 4 2) (next - first)
        (s, .ok (le 4 low ++ le 4 next ++ le 4 first ++ le 2 n ++ zeros 2 ++ (List.range n).flatMap (fun i => (readSeq (first + i) q).bytes))) }

/-- Event-Get-Trigger. -/
def cmdEventGetTrigger : Command :=
  { code := 0x1102, standby := true, len := lenIs 4, reserved := resv [(1, 3)]
    range := fun c _ => [inRange c.payload 0 1 0 127]
    body := fun c s => let t := trigger (fld c.payload 0 1) s; (s, .ok (le 4 t.gen ++ t.defn)) }

/-- The ranges of a trigger definition that starts at payload offset 4 (R446). -/
def triggerRange (b : Bytes) : List (Bool × Nat × Nat) :=
  let d := b.drop 4
  let k := fld d 0 1
  let watch := if k = 2 ∨ k = 3 then [(selectorFits (slice d 0x20 16), 0x20, 0x24)] else []
  let h := fld d 0x10 8
  [inRange b 4 1 0 5, inRange b 6 1 0 16, chk (match f64Num h with | none => false | some x => f64Finite h && decide (0 ≤ x)) 0x14,
    chk (if k = 4 then decide (100 ≤ fld d 0x18 4 ∧ fld d 0x18 4 ≤ 86400000) else fld d 0x18 4 == 0) 0x1C, inRange b 0x20 4 0 86400000] ++ watch ++
    (List.range (min 16 (fld d 2 1))).map (fun i => (selectorFits (itemSel d i), 0x20, 0x34 + 16 * i))

/-- Event-Set-Trigger: the definition takes effect at the next 1 ms instant (R446). -/
def cmdEventSetTrigger : Command :=
  { code := 0x1103, standby := true, len := lenIs 308
    reserved := fun b => [(1, 3)] ++ flagResv b 5 1 3 ++ [(7, 1), (0x26, 2)] ++ (List.range 16).map (fun i => (0x36 + 16 * i, 2))
    range := fun c _ => inRange c.payload 0 1 0 127 :: triggerRange c.payload
    body := fun c s =>
      let n := fld c.payload 0 1
      let g := ((trigger n s).gen + 1) % 2 ^ 32
      (setTrigger n { defn := c.payload.drop 4, gen := g, since := s.tb.now / 1000000 + 1 } s, .ok (le 4 g)) }

/-- No place is free other than the one kept for GAP (R454). -/
def queueFull (s : State) : Option Nat := if recorderRuns s && hasPlace (promised s) s then none else some 0x22

/-- Event-Fire: answered at the instant that assigns the SEQ (R448). -/
def cmdEventFire : Command :=
  { code := 0x1104, standby := true, len := lenIs 4, reserved := resv [(1, 3)]
    state := fun _ s => queueFull s
    range := fun c _ => [inRange c.payload 0 1 0 127]
    body := fun c s =>
      let n := fld c.payload 0 1
      if fld (trigger n s).defn 0 1 = 0 then (s, refuseAt 0x21 0)
      else (setRec (fun q => { q with fires := q.fires ++ [(c.mbox, n)] }) s, .deferred) }

/-- Event-Mark: answered at the instant that assigns the SEQ (R448). -/
def cmdEventMark : Command :=
  { code := 0x1105, standby := true, len := lenCounted 4 0 1, reserved := resv [(1, 3)]
    state := fun _ s => queueFull s
    range := fun c _ => [inRange c.payload 0 1 0 216]
    body := fun c s => (setRec (fun q => { q with marks := q.marks ++ [(c.mbox, s.zone, slice c.payload 4 (fld c.payload 0 1))] }) s, .deferred) }

/-- Event-Get-Status. -/
def cmdEventGetStatus : Command :=
  { code := 0x1106, standby := true, len := lenIs 0
    body := fun _ s =>
      let q := s.recorder
      (s, .ok (le 4 (oldestSeq q.nextWrite) ++ le 4 q.nextWrite ++ le 2 q.queue.length ++ le 2 q.queuePeak ++ le 4 q.gapRecords ++ le 4 q.corruptSlots ++
        le 2 q.boot ++ zeros 10)) }

/-! ### The rows of the Ferosh command set: one exchange each -/

/-- EVENT_READ (R452). -/
def execEventRead (dt : Nat) (r : Request) (s : State) : Host.Outcome State Fault Refusal :=
  runCommand cmdEventRead dt r s

/-- EVENT_GET_TRIGGER (R454). -/
def execEventGetTrigger (dt : Nat) (r : Request) (s : State) : Host.Outcome State Fault Refusal :=
  runCommand cmdEventGetTrigger dt r s

/-- EVENT_SET_TRIGGER (R446). -/
def execEventSetTrigger (dt : Nat) (r : Request) (s : State) : Host.Outcome State Fault Refusal :=
  runCommand cmdEventSetTrigger dt r s

/-- EVENT_FIRE (R447). -/
def execEventFire (dt : Nat) (r : Request) (s : State) : Host.Outcome State Fault Refusal :=
  runCommand cmdEventFire dt r s

/-- EVENT_MARK (R448). -/
def execEventMark (dt : Nat) (r : Request) (s : State) : Host.Outcome State Fault Refusal :=
  runCommand cmdEventMark dt r s

/-- EVENT_GET_STATUS (R454). -/
def execEventGetStatus (dt : Nat) (r : Request) (s : State) : Host.Outcome State Fault Refusal :=
  runCommand cmdEventGetStatus dt r s

end Sys2Proof.Machine
end

