-- ==== Sys2Proof/Machine/Mbus.lean ====
section
/-! DEFINITION. The M-Bus master: line, polling cycle, exchanges, decoding and the commands of chapter 13 that concern it
(R396 to R403). -/

namespace Sys2Proof.Machine
open Sys2Proof

/-! ### Decoding (R398, R399) -/

/-- UNIT and the power of ten of a VIF, none outside the decoded ranges. -/
def vifScale (v : Nat) : Option (Nat × Int) :=
  let n : Int := v % 8
  let m : Int := v % 4
  if v < 0x08 then some (1, n - 3) else if v < 0x10 then some (2, n) else if v < 0x18 then some (3, n - 6) else if v < 0x20 then some (4, n - 3)
  else if 0x28 ≤ v ∧ v < 0x30 then some (5, n - 3) else if 0x38 ≤ v ∧ v < 0x40 then some (6, n - 6) else if 0x58 ≤ v ∧ v < 0x60 then some (7, m - 3)
  else if 0x60 ≤ v ∧ v < 0x64 then some (8, m - 3) else if 0x68 ≤ v ∧ v < 0x6C then some (9, m - 3) else none

/-- Data bytes of a data field code, none for variable length. -/
def dataLength (code : Nat) : Option Nat :=
  [some 0, some 1, some 2, some 3, some 4, some 4, some 6, some 8, some 0, some 1, some 2, some 3, some 4, none, some 6, some 0].getD code (some 0)

/-- Bytes after LVAR of a variable length field (log 23). -/
def lvarLength (l : Nat) : Nat :=
  if l < 0xC0 then l else if l < 0xD0 then l - 0xC0 else if l < 0xE0 then l - 0xD0 else if l < 0xF0 then l - 0xE0
  else if l < 0xF5 then 4 * (l - 0xEC) else if l = 0xF5 then 48 else 64

/-- Packed decimal digits, least significant byte first; the top digit 0xF is a minus sign (log 23). -/
def bcdValue (b : Bytes) : Int :=
  let ds := b.reverse.flatMap (fun x => [x.toNat / 16, x.toNat % 16])
  let neg := ds.headD 0 == 15
  let ds := if neg then ds.drop 1 else ds
  if ds.any (fun d => decide (9 < d)) then Config.mbusBcd b
  else
    let v : Nat := ds.foldl (fun a d => 10 * a + d) 0
    if neg then -(v : Int) else v

/-- The decoded number of a data field, scaled by a power of ten, as binary64. -/
def mbusValue (code : Nat) (b : Bytes) (e : Int) : Nat :=
  let k : Rat := if 0 ≤ e then ((10 ^ e.toNat : Nat) : Rat) else mkRat 1 (10 ^ (-e).toNat)
  if code = 5 then
    let v := leNat b
    if f32Finite v then toF64 (f32Rat v * k) else f32to64 v
  else if 9 ≤ code then toF64 ((bcdValue b : Rat) * k)
  else toF64 ((toSigned (8 * b.length) (leNat b) : Rat) * k)

/-- Extension bytes while bit 7 of the byte before is set. -/
def extensions : Nat → Bool → Bytes → Bytes × Bytes
  | 0, _, b => ([], b)
  | _, false, b => ([], b)
  | _, true, [] => ([], [])
  | fuel + 1, true, x :: t => let r := extensions fuel (bit x.toNat 7) t; (x :: r.1, r.2)

/-- Storage number, tariff and subunit of a DIF and its extensions. -/
def difNumbers (dif : Nat) (ext : Bytes) : Nat × Nat × Nat :=
  ext.zipIdx.foldl (fun a e =>
    let x := e.1.toNat
    (a.1 + bits x 3 0 * 2 ^ (1 + 4 * e.2), a.2.1 + bits x 5 4 * 4 ^ e.2, a.2.2 + bits x 6 6 * 2 ^ e.2)) (bits dif 6 6, 0, 0)

/-- The records of a telegram's data, and whether it ends with DIF 0x1F. -/
def decodeRecords (status time : Nat) : Nat → Bytes → List MbusRec × Bool
  | 0, _ => ([], false)
  | _, [] => ([], false)
  | fuel + 1, d :: t =>
    let dif := d.toNat
    if dif = 0x2F then decodeRecords status time fuel t
    else if dif % 16 = 15 then ([], dif == 0x1F)
    else
      let x := extensions 10 (bit dif 7) t
      match x.2 with
      | [] => ([], false)
      | v :: u =>
        let y := extensions 10 (bit v.toNat 7) u
        let vif := v.toNat % 128
        let rest := if vif = 0x7C then y.2.drop (1 + (y.2.headD 0).toNat) else y.2
        let code := dif % 16
        let var := dataLength code == none
        let n := match dataLength code with | some n => n | none => 1 + lvarLength (rest.headD 0).toNat
        if rest.length < n then ([], false)
        else
          let more := decodeRecords status time fuel (rest.drop n)
          if code = 0 ∨ code = 8 then more
          else
            let sc := vifScale vif
            let unsup := var || sc.isNone || v.toNat == 0xFB || v.toNat == 0xFD
            let nums := difNumbers dif x.1
            let fn := bits dif 5 4
            let u : Nat × Int := if unsup then (0, 0) else sc.getD (0, 0)
            ({ unit := u.1, function := fn, flags := bitAt 0 (fn == 3 || status % 4 != 0 || unsup) + bitAt 1 unsup, storage := nums.1 % 65536,
               tariff := nums.2.1 % 256, subunit := nums.2.2 % 256, time := time,
               value := if var then 0x7FF8000000000000 else mbusValue code (rest.take n) u.2 } :: more.1, more.2)

/-- A reply is good (R397 item 5): a long frame whose characters, length, checksum and parities are right. -/
def replyGood (r : MbusReply) : Bool :=
  let b := r.bytes
  let l := fld b 1 1
  r.whole && !r.collision && decide (b.length = l + 6) && decide (3 ≤ l) && fld b 0 1 == 0x68 && fld b 3 1 == 0x68 && fld b 2 1 == l && fld b (l + 5) 1 == 0x16 &&
    ((slice b 4 l).map (·.toNat)).sum % 256 == fld b (l + 4) 1

/-! ### Slaves and line -/

/-- The M-Bus master changed. -/
def setMbus (f : Mbus → Mbus) (s : State) : State := { s with buses := { s.buses with mbus := f s.buses.mbus } }

/-- A slave. -/
def slave (a : Nat) (s : State) : MbusSlave := tabGet {} s.buses.mbus.slaves a

/-- A slave changed. -/
def setSlave (a : Nat) (x : MbusSlave) (s : State) : State := setMbus (fun m => { m with slaves := tabSet m.slaves a x }) s

/-- A slave's entry in the list. -/
def slaveEntry (m : Mbus) (slot : Nat) : Bytes := slice m.cfg (16 + 4 * slot) 4

/-- Bits per second of a baud code. -/
def baudOf (code : Nat) : Nat := [300, 600, 1200, 2400, 4800, 9600].getD code 300

/-- The baud rate of a position in the list. -/
def slaveBaud (m : Mbus) (slot : Nat) : Nat := let c := fld (slaveEntry m slot) 1 1; baudOf (if c = 0xFF then fld m.cfg 1 1 else c)

/-- A good reply is decoded and stored (R398, R399): a chain's first telegram replaces the slave's records. -/
def storeReply (addr : Nat) (b : Bytes) (s : State) : State :=
  let x := slave addr s
  let ci := fld b 6 1
  let l := fld b 1 1
  let h := if ci = 0x72 then 12 else 4
  let head := slice b 7 h
  let st := fld head (h - 3) 1
  let fits := (ci == 0x72 || ci == 0x7A) && decide (3 + h ≤ l) && bits (fld head (h - 2) 2) 12 8 == 0
  let dec := if fits then decodeRecords st s.zone 256 (slice b (7 + h) (l - 3 - h)) else ([], false)
  let old := if x.chain = 0 then [] else x.records
  let more := dec.2 && decide (x.chain + 1 < fld s.buses.mbus.cfg 6 1)
  let y := { x with silent := false, nke := x.nke || x.silent, fcb := !x.fcb, status := if fits then st else 0, unsupported := !fits, time := s.zone, records := (old ++ dec.1).take 256, chain := if more then x.chain + 1 else 0 }
  let s := setMbus (fun m => { m with telegrams := (m.telegrams + 1) % 2 ^ 32 }) (setSlave addr y s)
  if x.silent then emit 0x0905 [addr, 1] s else s

/-- The current and voltage the line monitor gives: no current unless the master powers the line (R400). -/
def lineMeasure (s : State) : Nat × Nat :=
  let v := Config.mbusLine s.tb.now
  (if s.buses.mbus.line = 1 then v.1 % 65536 else 0, v.2 % 65536)

/-- LINE changes, with an event (R396, R404). -/
def setLine (v : Nat) (s : State) : State :=
  if s.buses.mbus.line = v then s
  else
    let s := setMbus (fun m => { m with line := v }) s
    emit 0x0904 [v, (lineMeasure s).1] s

/-- What the master was doing is abandoned; a Mbus-Transact that waits has no reply. -/
def mbusAbandon (s : State) : State :=
  let w := s.buses.mbus.transacts
  let s := setMbus (fun m => { m with exch := none, next := 0, transacts := [] }) s
  w.foldl (fun t x => finish x.mbox (.ok (zeros 4)) t) s

/-- The line's power goes: the exchange is abandoned and no cycle runs (R401). -/
def mbusOff (line : Nat) (s : State) : State := setLine line (setMbus (fun m => { m with running := false }) (mbusAbandon s))

/-- Line power comes: SND_NKE goes to every slave before its next request (R397, R400). -/
def mbusOn (s : State) : State :=
  setLine 1 (setMbus (fun m => { m with faults := m.faults - m.faults % 2, slaves := m.slaves.map (fun e => (e.1, { e.2 with nke := true, chain := 0 })) }) s)

/-- The line as the configuration, the role and the power state have it (R400, R401). -/
def mbusFollow (s : State) : State :=
  let on := fld s.buses.mbus.cfg 0 1 == 1
  if !busesUp s || s.win.power == .holdup || !on then mbusOff 0 s
  else if s.win.role = .standby then mbusOff 3 s
  else if s.buses.mbus.line = 1 ∨ s.buses.mbus.line = 2 then s else mbusOn s

/-! ### Exchanges (R397, R402) -/

/-- A short frame: its control and address fields. -/
def shortFrame (c a : Nat) : Bytes := [0x10, BitVec.ofNat 8 c, BitVec.ofNat 8 a, BitVec.ofNat 8 (c + a), 0x16]

/-- Bit times in ns. -/
def bitTimes (n baud : Nat) : Nat := n * 1000000000 / baud

/-- A request of an exchange goes out, after some idle bit times: SND_NKE where it is due, else REQ_UD2 with the slave's FCB. -/
def sendRequest (x : MbusExchange) (idle : Nat) (s : State) : State :=
  let m := s.buses.mbus
  let v := slave x.addr s
  let baud := slaveBaud m x.slot
  let c := if v.nke then 0x40 else if v.fcb then 0x7B else 0x5B
  let x := { x with nke := v.nke, sent := s.tb.now + bitTimes (idle + 55) baud }
  send (.mbus (shortFrame c x.addr)) (setMbus (fun m => { m with exch := some x }) s)

/-- The line is idle: a waiting Mbus-Transact goes first, then the next slave of a running cycle; after the last the cycle ends. -/
def mbusNext (s : State) : State :=
  let m := s.buses.mbus
  if m.line ≠ 1 ∨ m.exch.isSome then s
  else match m.transacts with
    | t :: rest =>
      if t.sent.isSome then s
      else
        let sent := s.tb.now + bitTimes (11 * t.telegram.length) (baudOf (fld m.cfg 1 1))
        send (.mbus t.telegram) (setMbus (fun m => { m with transacts := { t with sent := some sent } :: rest }) s)
    | [] =>
      if !m.running then s
      else if m.next < fld m.cfg 3 1 then
        let a := fld (slaveEntry m m.next) 0 1
        let s := setSlave a { slave a s with chain := 0 } s
        sendRequest { slot := m.next, addr := a, tries := 0, telegrams := 0, sent := 0, nke := false } 0 (setMbus (fun m => { m with next := m.next + 1 }) s)
      else setMbus (fun m => { m with running := false, cycleMs := (s.tb.now - m.cycleFrom) / 1000000 % 2 ^ 32 }) s

/-- The cycle restarts from the first slave once the Keeper is READY again (R401). -/
def mbusResume (s : State) : State := mbusNext s

/-- MBUS_CYCLE_INSTANT (R397, R403): due at each instant of the CYCLE_S grid; a waiting configuration takes effect, and a cycle
starts unless one still runs. -/
def execMbusCycleInstant (dt : Nat) (s : State) : Host.Outcome State Fault Refusal :=
  let s := advance dt s
  let grid := fun (t : State) => t.zone / (max 1 (fld t.buses.mbus.cfg 4 2) * 1000000000)
  .next (if !busesUp s ∨ grid s ≤ s.buses.mbus.lastCycle then s
    else
      let s := match s.buses.mbus.pend with
        | none => s
        | some c =>
          let s := setMbus (fun m => { m with cfg := c, pend := none, next := if m.running then min m.next (fld c 3 1) else 0 }) s
          mbusFollow s
      let s := setMbus (fun m => { m with lastCycle := grid s }) s
      if s.buses.mbus.line ≠ 1 ∨ s.buses.mbus.running ∨ !serving s then s
      else mbusNext (setMbus (fun m => { m with running := true, next := 0, cycleStart := s.zone, cycleFrom := s.tb.now }) s))

/-- The limit in which a reply to a telegram must begin. -/
def replyLimit (sent baud : Nat) : Nat := sent + bitTimes 330 baud + 50000000

/-- An attempt has failed: the request is repeated, or after the last the slave becomes SILENT (R397 items 6 and 7). -/
def attemptFailed (x : MbusExchange) (s : State) : State :=
  let s := setMbus (fun m => { m with errors := (m.errors + 1) % 2 ^ 32 }) s
  if x.tries < fld s.buses.mbus.cfg 2 1 then sendRequest { x with tries := x.tries + 1 } 33 s
  else
    let v := slave x.addr s
    let s := setMbus (fun m => { m with exch := none }) (setSlave x.addr { v with silent := true, chain := 0 } s)
    mbusNext (if v.silent then s else emit 0x0905 [x.addr, 0] s)

/-- SND_NKE has been answered or its answer has not come: the slave's FCB starts at 1 and REQ_UD2 follows. -/
def nkeDone (x : MbusExchange) (s : State) : State :=
  sendRequest x 0 (setSlave x.addr { slave x.addr s with nke := false, fcb := true } s)

/-- A reply to the exchange in progress. -/
def exchangeReply (x : MbusExchange) (r : MbusReply) (s : State) : State :=
  let baud := slaveBaud s.buses.mbus x.slot
  if replyLimit x.sent baud + r.began < s.tb.now then s
  else if x.nke then nkeDone x s
  else
    let s := setMbus (fun m => { m with faults := if r.collision then setBit m.faults 1 else m.faults }) s
    if !replyGood r then attemptFailed x s
    else
      let s := storeReply x.addr r.bytes s
      if (slave x.addr s).chain ≠ 0 then sendRequest { x with tries := 0, telegrams := x.telegrams + 1 } 0 s
      else mbusNext (setMbus (fun m => { m with exch := none }) s)

/-- The Mbus-Transact whose telegram is out gets its answer. -/
def transactDone (reply : Bytes) (s : State) : State :=
  match s.buses.mbus.transacts with
  | t :: rest => mbusNext (finish t.mbox (.ok (le 2 reply.length ++ zeros 2 ++ reply)) (setMbus (fun m => { m with transacts := rest }) s))
  | [] => s

/-- MBUS_REPLY (R398): a reply has ended on the segment; a standby's listen receiver stores a good one (R400). -/
def execMbusReply (dt : Nat) (reply : MbusReply) (s : State) : Host.Outcome State Fault Refusal :=
  let s := advance dt s
  let m := s.buses.mbus
  .next (if m.line = 3 then (if replyGood reply then storeReply (fld reply.bytes 5 1) reply.bytes s else s)
    else if m.line ≠ 1 then s
    else match m.exch, m.transacts with
      | some x, _ => exchangeReply x reply s
      | none, { sent := some t, .. } :: _ => if replyLimit t (baudOf (fld m.cfg 1 1)) + reply.began < s.tb.now then s else transactDone reply.bytes s
      | none, _ => s)

/-- MBUS_REPLY_TIMEOUT (R397): due when no reply has begun within its limit. A Mbus-Transact is answered without a reply then, or
2 s after it was taken (R402). -/
def execMbusReplyTimeout (dt : Nat) (s : State) : Host.Outcome State Fault Refusal :=
  let s := advance dt s
  let m := s.buses.mbus
  .next (match m.exch, m.transacts with
    | some x, _ =>
      if s.tb.now < replyLimit x.sent (slaveBaud m x.slot) then s else if x.nke then nkeDone x s else attemptFailed x s
    | none, t :: _ =>
      let late := match t.sent with | some u => decide (replyLimit u (baudOf (fld m.cfg 1 1)) ≤ s.tb.now) | none => false
      if late || decide (t.from_ + 2000000000 ≤ s.tb.now) then transactDone [] s else s
    | none, [] => s)

/-- MBUS_OVERCURRENT (R396): the line current, in mA, has exceeded 500 mA for 20 ms. -/
def execMbusOvercurrent (dt ma : Nat) (s : State) : Host.Outcome State Fault Refusal :=
  let s := advance dt s
  .next (if s.buses.mbus.line ≠ 1 then s
    else
      let s := setMbus (fun m => { m with running := false, line := 2, faults := setBit m.faults 0, offAt := s.tb.now }) (mbusAbandon s)
      emit 0x0904 [2, ma] s)

/-- MBUS_POWER_RETRY (R396): due every 10 s while the line is off by OVERCURRENT. -/
def execMbusPowerRetry (dt : Nat) (s : State) : Host.Outcome State Fault Refusal :=
  let s := advance dt s
  .next (if s.buses.mbus.line = 2 ∧ s.buses.mbus.offAt + 10000000000 ≤ s.tb.now then mbusOn s else s)

/-! ### Commands (R402, R403) -/

/-- Mbus-Get-Config. -/
def cmdMbusGetConfig : Command :=
  { code := 0x090A, standby := true, len := lenIs 0, body := fun _ s => (s, .ok s.buses.mbus.cfg) }

/-- Mbus-Set-Config (R403). -/
def cmdMbusSetConfig : Command :=
  { code := 0x090B, len := lenIs 1016, reserved := fun _ => (7, 9) :: (List.range 250).map (fun i => (18 + 4 * i, 2))
    range := fun c _ =>
      let b := c.payload
      [inRange b 0 1 0 1, inRange b 1 1 0 5, inRange b 2 1 0 5, inRange b 3 1 0 250,
        chk (decide (10 ≤ fld b 4 2 ∧ fld b 4 2 ≤ 3600) && 86400 % fld b 4 2 == 0) 4, inRange b 6 1 1 4] ++
        (List.range 250).flatMap (fun i =>
          let o := 16 + 4 * i
          [chk (if i < fld b 3 1 then decide (1 ≤ fld b o 1 ∧ fld b o 1 ≤ 250) else fld b o 1 == 0) o, chk (decide (fld b (o + 1) 1 ≤ 5) || fld b (o + 1) 1 == 0xFF) (o + 1)])
    body := fun c s =>
      let b := c.payload
      let addr := fun i => fld b (16 + 4 * i) 1
      match (List.range (fld b 3 1)).find? (fun i => (List.range i).any (fun j => addr j == addr i)) with
      | some i => (s, refuseAt 0x0A (16 + 4 * i))
      | none => (setMbus (fun m => { m with pend := some b }) s, .ok []) }

/-- A record entry (R403); an index that holds no record gives zeros. -/
def recordEntry (i : Nat) (r : Option MbusRec) : Bytes :=
  le 1 i ++ (match r with
    | none => zeros 23
    | some r => le 1 r.unit ++ le 1 r.function ++ le 1 r.flags ++ le 2 r.storage ++ le 1 r.tariff ++ le 1 r.subunit ++ le 8 r.value ++ le 8 r.time)

/-- Mbus-Read-Records. -/
def cmdMbusReadRecords : Command :=
  { code := 0x090C, standby := true, len := lenIs 4, reserved := resv [(3, 1)]
    range := fun c _ => [inRange c.payload 0 1 1 250, inRange c.payload 2 1 1 255, chk (decide (fld c.payload 1 1 + fld c.payload 2 1 ≤ 256)) 1]
    body := fun c s =>
      let b := c.payload
      let x := slave (fld b 0 1) s
      (s, .ok (le 1 (fld b 0 1) ++ le 1 x.status ++ le 2 x.records.length ++ le 2 (bitAt 0 x.silent + bitAt 1 x.unsupported) ++ zeros 2 ++ le 8 x.time ++
        (List.range (fld b 2 1)).flatMap (fun i => let k := fld b 1 1 + i; recordEntry k x.records[k]?))) }

/-- Mbus-Get-Status: COLLISION ends with the read. -/
def cmdMbusGetStatus : Command :=
  { code := 0x090D, standby := true, len := lenIs 0
    body := fun _ s =>
      let m := s.buses.mbus
      let addrs := (List.range (fld m.cfg 3 1)).map (fun i => fld (slaveEntry m i) 0 1)
      let silent := (addrs.filter (fun a => (slave a s).silent)).length
      (setMbus (fun m => { m with faults := m.faults % 2 }) s,
        .ok (le 1 m.line ++ le 1 m.faults ++ zeros 2 ++ le 2 (lineMeasure s).1 ++ le 2 (lineMeasure s).2 ++ le 8 m.cycleStart ++ le 4 m.cycleMs ++
          le 2 (addrs.length - silent) ++ le 2 silent ++ le 4 m.telegrams ++ le 4 m.errors)) }

/-- Mbus-Transact (R402): the telegram goes out between two exchanges; the answer comes with the reply. -/
def cmdMbusTransact : Command :=
  { code := 0x090E, len := lenCounted 4 0 2, reserved := resv [(2, 2)], state := fun _ s => if s.buses.mbus.line = 1 then none else some 0x25
    range := fun c _ => [inRange c.payload 0 2 5 261]
    body := fun c s =>
      let t : MbusTransact := { mbox := c.mbox, telegram := c.payload.drop 4, from_ := s.tb.now }
      (mbusNext (setMbus (fun m => { m with transacts := m.transacts ++ [t] }) s), .deferred) }

/-! ### The rows of the Ferosh command set: one exchange each -/

/-- MBUS_GET_CONFIG (R402). -/
def execMbusGetConfig (dt : Nat) (r : Request) (s : State) : Host.Outcome State Fault Refusal :=
  runCommand cmdMbusGetConfig dt r s

/-- MBUS_SET_CONFIG (R403). -/
def execMbusSetConfig (dt : Nat) (r : Request) (s : State) : Host.Outcome State Fault Refusal :=
  runCommand cmdMbusSetConfig dt r s

/-- MBUS_READ_RECORDS (R402). -/
def execMbusReadRecords (dt : Nat) (r : Request) (s : State) : Host.Outcome State Fault Refusal :=
  runCommand cmdMbusReadRecords dt r s

/-- MBUS_GET_STATUS (R402). -/
def execMbusGetStatus (dt : Nat) (r : Request) (s : State) : Host.Outcome State Fault Refusal :=
  runCommand cmdMbusGetStatus dt r s

/-- MBUS_TRANSACT (R402). -/
def execMbusTransact (dt : Nat) (r : Request) (s : State) : Host.Outcome State Fault Refusal :=
  runCommand cmdMbusTransact dt r s

end Sys2Proof.Machine
end

