-- ==== Sys2Proof/Machine/Therm.lean ====
section
/-! DEFINITION. Heat and cold metering: integration steps, flow inputs and the class's commands (R281 to R306). -/

namespace Sys2Proof.Machine
open Sys2Proof

/-- A pair's part of the pending configuration is due. -/
def pairDue (p : Nat) (s : State) : Bool :=
  match s.therm.pend with
  | none => false
  | some (b, w) => w.contains p && decide (fld b 0 8 ≤ s.zone)

/-- The pending configuration changes STEP_MS or LATCH_STEPS. -/
def gridChange (s : State) : Bool :=
  match s.therm.pend with
  | none => false
  | some (b, _) => slice b 8 4 != slice s.therm.cfg 8 4

/-- The step just closed is a boundary of the new grid too, at or after APPLY_TIME (R304). -/
def gridDue (s : State) : Bool :=
  match s.therm.pend with
  | none => false
  | some (b, _) => gridChange s && decide (fld b 0 8 ≤ s.zone) && (s.zone % (fld b 8 2 * 1000000) == 0 || s.zone % (fld b 8 2 * 1000000) < stepNs s)

/-- Disabled pairs take their part once APPLY_TIME has come, where the grid does not change (log 15). -/
def applyIdlePairs (s : State) : State :=
  if gridChange s then s
  else (List.range 8).foldl (fun t p => if pairDue p t && fld (pairRec t.therm.cfg p) 0 1 == 0 then applyPair p t else t) s

/-- The pairs latch at the LATCH_STEPS-th step and take what is due (R294, R304). -/
def latchPairs (cut : Cut) (s : State) : State :=
  let grid := gridDue s
  if s.therm.sinceLatch < fld s.therm.cfg 0x0A 2 && !grid then s
  else
    let due := fun (p : Nat) => grid || (!gridChange s && pairDue p s)
    let ps := (List.range 8).filter (fun p => fld (pairRec s.therm.cfg p) 0 1 == 1)
    let s := ps.foldl (fun t p => latchPair p (due p) t) { s with therm := { s.therm with sinceLatch := 0 } }
    let ch := (if grid then List.range 8 else ps).filter due
    if ch = [] then s
    else
      let s := ch.foldl (fun t p => applyPair p t) s
      let s := if grid then { s with therm := { s.therm with stepDue := some (s.tb.now + (nextGrid (stepNs s) s.zone - s.zone)) } } else s
      saveMeters 3 { cut with therm := none } (applyIdlePairs s)

/-- THERMAL_STEP (R291): due at each multiple of STEP_MS, on the tick count. -/
def execThermalStep (dt : Nat) (data : ThermData) (cut : Cut) (s : State) : Host.Outcome State Fault Refusal :=
  let s := applyIdlePairs (advance dt s)
  .next (match s.therm.stepDue with
    | none => s
    | some t =>
      if !s.elec.running || decide (s.tb.now < t) then s
      else
        let before := s
        let s := scanBlocks before <| closeStep data { s with therm := { s.therm with stepDue := some (t + ((s.tb.now - t) / max 1 (stepNs s) + 1) * stepNs s) } }
        latchPairs cut s)

/-- FLOW_PULSE (R285, R287): a pulse of a width in µs; its rising edge lies here and now. -/
def execFlowPulse (dt input width : Nat) (s : State) : Host.Outcome State Fault Refusal :=
  let s := advance dt s
  let r := flowRec s.therm.cfg input
  let x := tabGet {} s.therm.flows input
  let gap := match x.lastEdge with | none => 10 ^ 9 | some t => s.tb.now - t
  .next (if 8 ≤ input || fld r 0 1 != 1 || decide (width < fld r 2 2) || !s.elec.running then s
    else
      let y := { x with found := if gap < 100000 then 3 else x.found }
      let y := if gap < 80000 then y else { y with pulses := y.pulses + 1, lastEdge := some s.tb.now }
      { s with therm := { s.therm with flows := tabSet s.therm.flows input y } })

/-- BUS_READING (R286): a new reading of a cumulative counter, binary32. -/
def execBusReading (dt input value : Nat) (s : State) : Host.Outcome State Fault Refusal :=
  let s := advance dt s
  let r := flowRec s.therm.cfg input
  let x := tabGet {} s.therm.flows input
  let now := s.zone / 10 ^ 9 % 2 ^ 32
  let y : FlowIn := { x with base := some (value, now), heard := s.tb.now, found := if x.timedOut then 4 else x.found, timedOut := false }
  let put := fun (y : FlowIn) => { s with therm := { s.therm with flows := tabSet s.therm.flows input y } }
  .next (if 8 ≤ input || decide (fld r 0 1 < 3) || !s.elec.running || !f32Finite value then s
    else match x.base with
      | none => put y
      | some (v, t) =>
        if f32Rat value < f32Rat v then put { y with found := if y.found = 4 then 4 else 5 }
        else put { y with credit := y.credit + floorNat (f32Rat (fld r 4 4) * (f32Rat value - f32Rat v) * 1000000 * 2 ^ 32), span := y.span + (now + 2 ^ 32 - t) % 2 ^ 32 })

/-- BUS_TIMEOUT (R287): due BUS_TIMEOUT_S after the last reading. -/
def execBusTimeout (dt input : Nat) (s : State) : Host.Outcome State Fault Refusal :=
  let s := advance dt s
  let r := flowRec s.therm.cfg input
  let x := tabGet {} s.therm.flows input
  .next (if input < 8 ∧ 3 ≤ fld r 0 1 ∧ x.heard + fld r 0x10 2 * 10 ^ 9 ≤ s.tb.now then
      { s with therm := { s.therm with flows := tabSet s.therm.flows input { x with timedOut := true } } }
    else s)

/-! ### Commands (R303 to R305) -/

/-- Therm-Get-Config. -/
def cmdThermGetConfig : Command :=
  { code := 0x0E01, standby := true, len := lenIs 0
    body := fun _ s =>
      (s, .ok (s.therm.cfg ++ le 1 (b2n s.therm.pend.isSome) ++ zeros 7 ++ (match s.therm.pend with | none => zeros 784 | some (b, _) => b))) }

/-- A sensor type allows an excitation (R281). -/
def excitationFits (sensor ex : Nat) : Bool :=
  match sensor with
  | 0 => decide (ex ≤ 3)
  | 1 => ex == 2 || ex == 3
  | 2 => ex == 1 || ex == 2
  | _ => ex == 0 || ex == 1

/-- The range checks of an RTD channel record. -/
def rtdRange (b : Bytes) (n : Nat) : List (Bool × Nat × Nat) :=
  let o := 16 + 16 * n
  [inRange b o 1 0 3, chk (excitationFits (fld b o 1) (fld b (o + 1) 1)) (o + 1), chk (f32In (fld b (o + 4) 4) (dec (-1) 2) (dec 1 2)) (o + 4),
    chk (f32In (fld b (o + 8) 4) (dec 99 2) (dec 101 2)) (o + 8), chk (f32In (fld b (o + 12) 4) (dec (-5) 1) (dec 5 1)) (o + 12)]

/-- The range checks of a flow record. -/
def flowRange (b : Bytes) (n : Nat) : List (Bool × Nat × Nat) :=
  let o := 272 + 32 * n
  let m := fld b o 1
  let k := fld b (o + 4) 4
  let src := fld b (o + 12) 4
  [inRange b o 1 0 4, inRange b (o + 2) 2 10 50000, chk (f32In k (dec 1 6) (if m = 1 ∨ m = 2 then 10 else 1000000)) (o + 4),
    chk (if m = 2 then f32In (fld b (o + 8) 4) 0 (f32Rat k / 10) else fld b (o + 8) 4 % 2 ^ 31 == 0) (o + 8),
    chk (if m = 3 then sourceOk 6 src else if m = 4 then sourceOk 5 src else src == 0) (o + 12), inRange b (o + 16) 2 10 3600,
    chk (f32In (fld b (o + 20) 4) (dec 1 2) 100000) (o + 20)]
where
  /-- SOURCE fits the layouts of SOURCE_KIND 0x06 and 0x05. -/
  sourceOk (kind v : Nat) : Bool :=
    if kind = 6 then decide (1 ≤ v % 256 ∧ v % 256 ≤ 250 ∧ v < 2 ^ 16) else decide (v < 2 ^ 10)

/-- The range checks of a pair record. -/
def pairRange (b : Bytes) (g : Tab Bytes) (p : Nat) : List (Bool × Nat × Nat) :=
  let o := 528 + 32 * p
  let m := fld b (o + 3) 1
  [inRange b o 1 0 1, inRange b (o + 1) 1 0 7, inRange b (o + 2) 1 0 1,
    chk (m == 0 || (decide (m ≤ 15) && bit (fld (tabGet (zeros 64) g m) 0 4) 0)) (o + 3), chk (f32In (fld b (o + 4) 4) 0 2500000) (o + 4),
    chk (f32In (fld b (o + 8) 4) 0 1) (o + 8), chk (f32In (fld b (o + 12) 4) 1 150) (o + 12)]

/-- The enabled pairs of a configuration. -/
def enabledPairs (b : Bytes) : List Nat := (List.range 8).filter (fun p => fld (pairRec b p) 0 1 == 1)

/-- Therm-Set-Config (R303, R304). -/
def cmdThermSetConfig : Command :=
  { code := 0x0E02, standby := true, len := lenIs 784
    reserved := fun b => [(12, 4)] ++ (List.range 16).map (fun n => (18 + 16 * n, 2)) ++
      (List.range 8).flatMap (fun n => (if 2 ≤ fld (flowRec b n) 1 1 then [(273 + 32 * n, 1)] else []) ++ [(290 + 32 * n, 2), (296 + 32 * n, 8)]) ++
      (List.range 8).flatMap (fun p => (if 2 ≤ fld (pairRec b p) 0x10 1 then [(544 + 32 * p, 1)] else []) ++ [(545 + 32 * p, 15)])
    range := fun c s =>
      let b := c.payload
      let st := fld b 8 2
      [chk (decide (500 ≤ st ∧ st ≤ 10000) && st % 500 == 0 && 60000 % st == 0) 8, inRange b 10 2 1 65535] ++
        (List.range 16).flatMap (rtdRange b) ++ (List.range 8).flatMap (flowRange b) ++ (List.range 8).flatMap (pairRange b s.therm.glycol)
    body := fun c s =>
      let b := c.payload
      let bad := (enabledPairs b).find? (fun p => fld (rtdRec b (2 * p)) 0 1 == 0 || fld (rtdRec b (2 * p + 1)) 0 1 == 0 || fld (flowRec b (fld (pairRec b p) 1 1)) 0 1 == 0)
      let dup := (enabledPairs b).find? (fun p => (enabledPairs b).any (fun q => decide (q < p) && fld (pairRec b q) 1 1 == fld (pairRec b p) 1 1))
      match bad with
      | some p => (s, refuseAt 0x0A (528 + 32 * p))
      | none =>
        match dup with
        | some p => (s, refuseAt 0x20 (529 + 32 * p))
        | none =>
          if (List.range 8).any (fun n => fld (flowRec b n) 0 1 == 4 && !canInputFits 5 (fld (flowRec b n) 12 4) s) then (s, refuse 0x0A)
          else if applyTooSoon b s then (s, refuseAt 0x22 0)
          else (applyIdlePairs { s with therm := { s.therm with pend := some (b, List.range 8) } }, .ok []) }

/-- A read of a disabled pair is refused before its first latch. -/
def pairDisabled (p : Nat) (s : State) : Bool := fld (pairRec s.therm.cfg p) 0 1 == 0 && (pair p s).latched.isNone

/-- Therm-Read-Values. -/
def cmdThermReadValues : Command :=
  { code := 0x0E03, standby := true, len := lenIs 4, reserved := resv [(1, 3)], range := fun c _ => [inRange c.payload 0 1 0 7]
    body := fun c s =>
      let p := fld c.payload 0 1
      if pairDisabled p s then (s, refuseAt 0x23 0)
      else (s, .ok (match (pair p s).latched with | some b => b | none => le 1 p ++ zeros 63)) }

/-- FLAGS of a pair's latch set, with REGISTERS_LOST as it stands (R294, R296, R305; log 44). -/
def setPairFlags (p : Nat) (s : State) : Nat :=
  match (pair p s).latched with
  | none => bitAt 6 (pair p s).lost
  | some b => fld b 2 2 % 64 + bitAt 6 (pair p s).lost + fld b 2 2 / 128 % 2 * 128

/-- Therm-Read-Registers. -/
def cmdThermReadRegisters : Command :=
  { code := 0x0E04, standby := true, len := lenIs 4, reserved := resv [(1, 3)], range := fun c _ => [inRange c.payload 0 1 0 7]
    body := fun c s =>
      let p := fld c.payload 0 1
      let x := pair p s
      if pairDisabled p s then (s, refuseAt 0x23 0)
      else (s, .ok (le 1 p ++ zeros 3 ++ le 4 x.latchSeq ++ le 8 x.latchTime ++ le 2 (setPairFlags p s) ++ zeros 14 ++
        (readRegs 0 (s.win.role == .standby) x.latchedRegs x.snaps x.repl).flatMap Reg.bytes)) }

/-- Therm-Get-Status. -/
def cmdThermGetStatus : Command :=
  { code := 0x0E05, standby := true, len := lenIs 0
    body := fun _ s =>
      let last := match newest (·.tok) s.elec with | none => zeros 13 | some r => le 8 r.cutTime ++ le 4 r.seq ++ le 1 r.kind
      let ch := ((List.range 16).map (fun n => bitAt n (tabGet {} s.therm.chans n).faultStep)).sum
      let fl := ((List.range 8).map (fun n => bitAt n ((tabGet {} s.therm.flows n).fault != 0))).sum
      (s, .ok (le 8 s.therm.stepCount ++ last ++ zeros 3 ++ (List.range 8).flatMap (fun p => le 2 (setPairFlags p s)) ++ le 2 ch ++ le 1 fl ++ zeros 1 ++
        le 4 s.therm.unsaved ++ le 4 s.therm.offs ++ zeros 4 ++ le 8 s.therm.lastGap.1 ++ le 8 s.therm.lastGap.2 ++ zeros 8)) }

/-- Therm-Read-Channels. -/
def cmdThermReadChannels : Command :=
  { code := 0x0E06, standby := true, len := lenIs 0
    body := fun _ s =>
      (s, .ok (le 8 s.therm.stepTime ++ (List.range 16).flatMap (fun n =>
        let c := tabGet {} s.therm.chans n
        le 4 c.resistance ++ le 4 c.temperature ++ le 1 (if c.faultStep then c.fault else 0) ++ zeros 1 ++ le 2 c.lead ++ zeros 4))) }

/-- A quadratic stays within bounds from T_MIN to T_MAX: at both ends, and at its vertex where that lies between (R290). -/
def quadWithin (a b c lo hi least most : Rat) : Bool :=
  let ok := fun (t : Rat) => decide (least ≤ poly2 a b c t) && decide (poly2 a b c t ≤ most)
  let v := if c = 0 then lo else -b / (2 * c)
  ok lo && ok hi && (!(decide (lo ≤ v) && decide (v ≤ hi)) || ok v)

/-- A glycol entry is named by an enabled pair, a pending configuration or the active model (R290). -/
def glycolInUse (n : Nat) (s : State) : Bool :=
  let names := fun (b : Bytes) => (enabledPairs b).any (fun p => fld (pairRec b p) 3 1 == n)
  names s.therm.cfg || (match s.therm.pend with | none => false | some (b, _) => names b) ||
    (match s.model.active with | none => false | some m => bit (fld m.header 6 2) 1 && fld m.header 0x24 2 == n)

/-- Therm-Put-Glycol (R289, R290). -/
def cmdThermPutGlycol : Command :=
  { code := 0x0E07, len := lenIs 68
    reserved := fun b => [(1, 3)] ++ (if 2 ≤ fld b 4 4 then [(4, 4)] else []) ++ [(52, 16)]
    range := fun c _ =>
      let b := c.payload
      let v := fun (o : Nat) => f32Rat (fld b (4 + o) 4)
      let fin := fun (o : Nat) => f32Finite (fld b (4 + o) 4)
      [inRange b 0 1 1 15, chk (f32In (fld b 8 4) (-50) 150) 8, chk (f32In (fld b 12 4) (-50) 200 && decide (v 4 < v 8)) 12] ++
        (List.range 9).map (fun k => chk (fin (0x0C + 4 * k)) (0x10 + 4 * k)) ++
        [chk (quadWithin (v 0x0C) (v 0x10) (v 0x14) (v 4) (v 8) 800 1300) 0x10, chk (quadWithin (v 0x18) (v 0x1C) (v 0x20) (v 4) (v 8) 2000 4500) 0x1C]
    body := fun c s =>
      let n := fld c.payload 0 1
      if glycolInUse n s then (s, refuseAt 0x21 0)
      else ({ s with therm := { s.therm with glycol := tabSet s.therm.glycol n (slice c.payload 4 64) } }, .ok []) }

/-- Therm-Get-Glycol. -/
def cmdThermGetGlycol : Command :=
  { code := 0x0E08, standby := true, len := lenIs 4, reserved := resv [(1, 3)], range := fun c _ => [inRange c.payload 0 1 1 15]
    body := fun c s => (s, .ok (tabGet (zeros 64) s.therm.glycol (fld c.payload 0 1))) }

/-- Therm-Acknowledge-Loss (R296). -/
def cmdThermAcknowledgeLoss : Command :=
  { code := 0x0E09, len := lenIs 4, reserved := resv [(1, 3)], range := fun c _ => [inRange c.payload 0 1 0 7]
    body := fun c s =>
      let p := fld c.payload 0 1
      if (pair p s).lost then (setPair p { pair p s with lost := false } s, .ok []) else (s, refuseAt 0x24 0) }

/-! ### The rows of the Ferosh command set: one exchange each -/

/-- THERM_GET_CONFIG (R305). -/
def execThermGetConfig (dt : Nat) (r : Request) (s : State) : Host.Outcome State Fault Refusal :=
  runCommand cmdThermGetConfig dt r s

/-- THERM_SET_CONFIG (R304). -/
def execThermSetConfig (dt : Nat) (r : Request) (s : State) : Host.Outcome State Fault Refusal :=
  runCommand cmdThermSetConfig dt r s

/-- THERM_READ_VALUES (R305). -/
def execThermReadValues (dt : Nat) (r : Request) (s : State) : Host.Outcome State Fault Refusal :=
  runCommand cmdThermReadValues dt r s

/-- THERM_READ_REGISTERS (R305). -/
def execThermReadRegisters (dt : Nat) (r : Request) (s : State) : Host.Outcome State Fault Refusal :=
  runCommand cmdThermReadRegisters dt r s

/-- THERM_GET_STATUS (R305). -/
def execThermGetStatus (dt : Nat) (r : Request) (s : State) : Host.Outcome State Fault Refusal :=
  runCommand cmdThermGetStatus dt r s

/-- THERM_READ_CHANNELS (R305). -/
def execThermReadChannels (dt : Nat) (r : Request) (s : State) : Host.Outcome State Fault Refusal :=
  runCommand cmdThermReadChannels dt r s

/-- THERM_PUT_GLYCOL (R290). -/
def execThermPutGlycol (dt : Nat) (r : Request) (s : State) : Host.Outcome State Fault Refusal :=
  runCommand cmdThermPutGlycol dt r s

/-- THERM_GET_GLYCOL (R305). -/
def execThermGetGlycol (dt : Nat) (r : Request) (s : State) : Host.Outcome State Fault Refusal :=
  runCommand cmdThermGetGlycol dt r s

/-- THERM_ACKNOWLEDGE_LOSS (R296). -/
def execThermAcknowledgeLoss (dt : Nat) (r : Request) (s : State) : Host.Outcome State Fault Refusal :=
  runCommand cmdThermAcknowledgeLoss dt r s

end Sys2Proof.Machine
end

