-- ==== Sys2Proof/Machine/Twin.lean ====
section
/-! DEFINITION. The pair: heartbeats, loss and takeover, replicated items on the standby, the handshake and role resolution
(R32 to R35, R250 to R252, R553 to R557). -/

namespace Sys2Proof.Machine
open Sys2Proof

/-- The twin link changed. -/
def setTwin (f : Twin → Twin) (s : State) : State := { s with twin := f s.twin }

/-- The twin link is served: the module is powered, past step 7 of its start, and neither held nor in HOLDUP or STANDBY (R534, R539). -/
def twinUp (s : State) : Bool := keeperUp s && (s.win.power == .active || s.win.power == .quiet)

/-! ### Roles (R33, R34, R553) -/

/-- A module that stops driving the plant: solve and replan end, tasks halt, outputs, axes and bus transmitters are let go (R33, R561). -/
def letGo (s : State) : State := mbusFollow (outputsOff (haltTasks (abandonReplan (abandonSolve s))))

/-- The role is resolved. -/
def resolved (s : State) : State :=
  { s with twin := { s.twin with resolve := 3 }, boot := { s.boot with resolvedAt := some (s.boot.resolvedAt.getD s.tb.now) } }

/-- The module runs without a partner. -/
def becomeSingle (s : State) : State :=
  resolved (setRole .single (setTwin (fun t => { t with unpaired := false }) { s with sys := { s.sys with released := false, resignAt := none } }))

/-- The module takes the STANDBY role. -/
def becomeStandby (s : State) : State :=
  let was := driving s
  let s := setRole .standby { s with sys := { s.sys with released := false, resignAt := none } }
  resolved (if was then letGo s else s)

/-- The link's keys and what waited for the partner are dropped; the next handshake is tried in 1 s (R553, R557). -/
def dropLink (s : State) : State :=
  setTwin (fun t => { t with keyed := false, joined := false, unacked := [], lostAt := none, nonce := none, hello := none, reply := none, confirmed := false, beatHeard := none, beatSent := none, retryAt := some (s.tb.now + 1000000000) }) s

/-- TWIN_LOSS is set and recorded: 0 active lost, 1 standby lost, 2 twin link lost (R34, R56). -/
def twinLoss (what : Nat) (s : State) : State := emit 0x0003 [(what : Int)] (raise 8 s)

/-- The STANDBY role unpaired (R553). -/
def becomeUnpaired (s : State) : State := setTwin (fun t => { t with unpaired := true, announceHeard := s.tb.now }) (becomeStandby (dropLink s))

/-- Everything that waited for the standby goes on without it (R32, R34, R102). -/
def releaseWaiters (s : State) : State := epochAcked none (modelProceed (planReleased (carReleased s)))

/-- The active module declares the standby lost: it continues alone (R34). -/
def standbyLost (s : State) : State := releaseWaiters (becomeSingle (dropLink (twinLoss 1 s)))

/-! ### The handshake (R554 to R557) -/

/-- CLAIM of this module. -/
def myClaim (s : State) : Nat :=
  if s.twin.resolve ≠ 3 then 0 else if s.win.role = .standby then 2 else if driving s then 1 else 0

/-- A HELLO payload (R554). -/
def helloPayload (peerNonce : Bytes) (s : State) : Bytes :=
  le 8 s.sys.serial ++ fit 32 (s.twin.nonce.getD []) ++ fit 32 peerNonce ++ le 1 (myClaim s) ++ le 1 s.boot.lastRole.code ++ le 1 (tamperCode s.sec.tamper) ++
    le 1 (bitAt 0 (safeStart s) + bitAt 1 (keyLoaded 2 s)) ++ le 1 s.sys.steppingLetter ++ le 1 s.sys.steppingDigit ++ le 1 s.sys.fwMajor ++ le 1 s.sys.fwMinor ++
    le 4 s.net.senderEpoch ++ le 4 (crc32c s.elec.cfg) ++ le 4 (crc32c s.therm.cfg) ++ zeros 4 ++ le 8 s.zone ++ modelDigest s ++ programDigest s

/-- A HELLO goes out with a fresh nonce. -/
def sendHello (s : State) : State :=
  let d := draw 32 s
  let s := setTwin (fun t => { t with nonce := some d.1, helloSent := some s.tb.now }) d.2
  send (.twin 0x20 0 (helloPayload [] s)) s

/-- A handshake begins. -/
def beginHandshake (s : State) : State :=
  gateFollow (sendHello (setTwin (fun t => { t with hello := none, reply := none, confirmed := false, retryAt := some (s.tb.now + 1000000000) }) s))

/-- HELLO_TIMER (R554): every 10 ms until a HELLO has been received. -/
def execHelloTimer (dt : Nat) (s : State) : Host.Outcome State Fault Refusal :=
  let s := advance dt s
  .next (if twinUp s && s.twin.nonce.isSome && s.twin.hello.isNone && (match s.twin.helloSent with | none => true | some t => decide (t + 10000000 ≤ s.tb.now)) then sendHello s else s)

/-- HELLO (R554): answered with HELLO_REPLY; a module in service that has no link takes it as the start of a handshake. -/
def execHello (dt : Nat) (data : Bytes) (s : State) : Host.Outcome State Fault Refusal :=
  let s := advance dt s
  .next (if !twinUp s || s.twin.resolve == 0 || s.twin.keyed || data.length != 200 then s
    else
      let s := if s.twin.nonce.isNone then beginHandshake s else s
      let s := setTwin (fun t => { t with hello := some data, resolve := if t.resolve = 2 then 1 else t.resolve }) s
      send (.twin 0x21 0 (helloPayload (slice data 8 32) s)) s)

/-- This module wins against the partner's payload: CLAIM, LAST_ROLE, then SERIAL (R555). -/
def wins (mine theirs : Bytes) : Bool :=
  let run := fun (b : Bytes) => fld b 0x48 1 == 1
  let last := fun (b : Bytes) => fld b 0x49 1 != 2
  if run mine != run theirs then run mine
  else if run mine then decide (fld mine 0 8 < fld theirs 0 8)
  else if last mine != last theirs then last mine
  else decide (fld mine 0 8 < fld theirs 0 8)

/-- MISMATCH of two payloads (R556). -/
def mismatchOf (a b : Bytes) : Nat :=
  let d := fun (off n : Nat) => slice a off n != slice b off n
  let any := fun (off k : Nat) => bit (fld a off 1) k || bit (fld b off 1) k
  bitAt 0 (d 0x4C 2) + bitAt 1 (d 0x4E 2) + bitAt 2 (d 0x68 48) + bitAt 3 (d 0x98 48) + bitAt 4 (d 0x54 4) + bitAt 5 (d 0x58 4) +
    bitAt 6 (fld a 0x4A 1 != 0 || fld b 0x4A 1 != 0) + bitAt 7 (any 0x4B 0) + bitAt 8 (!bit (fld a 0x4B 1) 1 || !bit (fld b 0x4B 1) 1)

/-- A refused handshake (R475, R553, R556): the winner takes or keeps SINGLE and the loser the STANDBY role unpaired; a module without
TWIN_KEY that is not running as the active one drives nothing while its partner is live (log 28). -/
def refuseJoin (mism : Nat) (peer : Bytes) (s : State) : State :=
  let noKey := !keyLoaded 2 s
  let running := myClaim s == 1
  let s := emit 0x0009 [(mism : Int), (fld peer 0 8 : Int)] (setTwin (fun t => { t with mismatch := mism }) (setSec (fun x => { x with twinKeyMissing := noKey }) s))
  if s.twin.wantActive && (!noKey || running) then becomeSingle (dropLink s) else becomeUnpaired s

/-- HELLO_REPLY (R555, R556): the exchange is complete; the roles are decided, a losing running module resigns, and HELLO_CONFIRM goes
out under the new send key with SEQ 1. Without TWIN_KEY on either module the handshake is refused. -/
def execHelloReply (dt : Nat) (data : Bytes) (s : State) : Host.Outcome State Fault Refusal :=
  let s := advance dt s
  .next (if !twinUp s || s.twin.keyed || s.twin.confirmed || data.length != 200 || s.twin.nonce.isNone || some (slice data 0x28 32) != s.twin.nonce then s
    else
      let mine := helloPayload [] s
      let win := wins mine data
      let mism := mismatchOf mine data
      let s := setTwin (fun t => { t with reply := some data, wantActive := win }) s
      let s := if !win && fld mine 0x48 1 == 1 && fld data 0x48 1 == 1 then
          letGo { abortAll 4 s with sys := { (abortAll 4 s).sys with released := true } } else s
      if bit mism 8 then refuseJoin mism data s
      else
        let s := setTwin (fun t => { t with confirmed := true, txSeq := 1 }) s
        sendTwin 0x22 0 (le 1 (b2n (mism != 0)) ++ le 1 (if win then 1 else 2) ++ zeros 2 ++ le 4 mism) s)

/-- The full copy an active module sends at a join: every item of R32 except the model tables (R557). -/
def fullCopy (s : State) : State :=
  let s := s.car.slots.foldl (fun t e => (replicate 0x10 true (journalItem e.1 e.2) t).1) s
  let s := (List.range 5).foldl (fun t f => let x := feed f t; (replicate 0x11 true (energyBytes false f x.latchTime x.latchedRegs) t).1) s
  let s := (List.range 8).foldl (fun t p => let x := pair p t; (replicate 0x11 true (energyBytes true p x.latchTime x.latchedRegs) t).1) s
  let lines := (s.prog.retained.map (fun c => c.1 / 64)).eraseDups
  let s := (replicate 0x12 true (le 1 1 ++ lines.flatMap (fun n => le 4 n ++ Memory.read s.prog.retained (64 * n) 64)) s).1
  let s := sendMode (sendForces s)
  let dirty := fun (t : State) => { t with
    loops := { t.loops with slots := t.loops.slots.map (fun e => (e.1, { e.2 with dirty := true })) }
    motion := { t.motion with axes := t.motion.axes.map (fun e => (e.1, { e.2 with dirty := true })) } }
  let s := replicatePlant (dirty s)
  let s := match s.opt.plan with | none => s | some p => (replicate 0x13 true (planItem p (optInputs s)) s).1
  let s := match s.solver.pub, s.solver.thermal with
    | some p, some th => (replicate 0x14 false (modelStateItem p s.solver.thermTo th) s).1
    | _, _ => s
  (replicate 0x16 true (epochItem s) s).1

/-- The join is complete on the active module once the standby has acknowledged every item (R557 step 3). -/
def tryJoined (s : State) : State :=
  if feedsTwin s && !s.twin.joined && s.twin.unacked.isEmpty then
    emit 0x0008 [1, (fld (s.twin.reply.getD []) 0 8 : Int)] (setRole .active (setTwin (fun t => { t with joined := true }) s))
  else s

/-- A HEARTBEAT goes out. -/
def sendBeat (s : State) : State :=
  let b := le 1 s.win.role.code ++ le 1 s.win.st.code ++ le 1 (b2n s.win.oasis) ++ le 1 s.tb.state ++ le 4 s.net.senderEpoch ++ le 8 s.zone
  sendTwin 0x01 0 b (setTwin (fun t => { t with beatSent := some s.tb.now }) s)

/-- HELLO_CONFIRM (R556, R557): both confirmations verify and carry no MISMATCH, and the pair joins; else the handshake is refused.
The standby replaces its journal and retained data by what it will receive. -/
def execHelloConfirm (dt : Nat) (head : TwinHead) (data : Bytes) (s : State) : Host.Outcome State Fault Refusal :=
  let s := advance dt s
  .next (match s.twin.reply with
    | none => s
    | some peer =>
      if !twinUp s || s.twin.keyed || !s.twin.confirmed then s
      else
        let mism := (mismatchOf (helloPayload [] s) peer) ||| fld data 4 4
        if !head.tagOk then refuseJoin mism peer (setTwin (fun t => { t with badFrames := t.badFrames + 1 }) s)
        else if mism ≠ 0 ∨ fld data 0 1 ≠ 0 then refuseJoin mism peer s
        else
          let s := setTwin (fun t => { t with keyed := true, joined := false, lastValid := s.tb.now, rxSeq := head.seq, unacked := [], received := [], nonce := none, hello := none, confirmed := false, retryAt := none, unpaired := false, mismatch := 0, lostAt := none, txSeq := 2 }) s
          let s := resolved (setSec (fun x => { x with twinKeyMissing := false }) s)
          if s.twin.wantActive then tryJoined (fullCopy (sendBeat { s with sys := { s.sys with released := false, resignAt := none } }))
          else
            let s := if s.boot.plant && s.win.role != .standby then letGo s else s
            sendBeat { s with car := { s.car with slots := [] }, prog := { s.prog with retained := [], retPend := [], forces := [] } })

/-- TWIN_RETRY (R553, R556): every 1 s a module whose handshake was refused, or that is unpaired, tries again. -/
def execTwinRetry (dt : Nat) (s : State) : Host.Outcome State Fault Refusal :=
  let s := advance dt s
  .next (match s.twin.retryAt with
    | none => s
    | some t => if twinUp s && !s.twin.keyed && s.twin.resolve != 0 && decide (t ≤ s.tb.now) then beginHandshake s else s)

/-! ### Heartbeats and loss (R34) -/

/-- TWIN_HEARTBEAT_TIMER (R34): every 10 ms. -/
def execTwinHeartbeatTimer (dt : Nat) (s : State) : Host.Outcome State Fault Refusal :=
  let s := advance dt s
  .next (if twinUp s && s.twin.keyed && (match s.twin.beatSent with | none => true | some t => decide (t + 10000000 ≤ s.tb.now)) then sendBeat s else s)

/-- A standby follows the active module's Oasis mode and SENDER_EPOCH (R38, R237). -/
def followActive (data : Bytes) (s : State) : State :=
  let oasis := fld data 2 1 != 0
  let s := { s with net := { s.net with senderEpoch := fld data 4 4 }, twin := { s.twin with partnerEpoch := fld data 4 4 } }
  if oasis = s.win.oasis then s
  else setOasis oasis { s with opt := { s.opt with oasisPhase := b2n oasis, oasisEntry := if oasis then s.zone else s.opt.oasisEntry } }

/-- HEARTBEAT (R34, R557): the partner is live; a standby that hears its partner ACTIVE has joined. -/
def execHeartbeat (dt : Nat) (head : TwinHead) (data : Bytes) (s : State) : Host.Outcome State Fault Refusal :=
  .next (match receiveTwin head (advance dt s) with
    | (s, false) => s
    | (s, true) =>
      let s := setTwin (fun t => { t with beatHeard := some s.tb.now }) s
      if s.twin.wantActive then s
      else
        let s := followActive data s
        if s.twin.joined || fld data 0 1 != Role.active.code then s
        else emit 0x0008 [2, (fld (s.twin.reply.getD []) 0 8 : Int)] (becomeStandby (setTwin (fun t => { t with joined := true }) s)))

/-- TWIN_SILENCE (R34, R557): due 50 ms after the last valid twin frame. Before the join is complete both modules return to R553. -/
def execTwinSilence (dt : Nat) (s : State) : Host.Outcome State Fault Refusal :=
  let s := advance dt s
  .next (if !s.twin.keyed || !keeperUp s || decide (s.tb.now < s.twin.lastValid + 50000000) || s.twin.lostAt.isSome then s
    else if !s.twin.joined then releaseWaiters (setTwin (fun t => { t with resolve := if s.win.role = .standby then 3 else 0, waitFrom := s.tb.now }) (dropLink s))
    else if s.twin.wantActive then standbyLost s
    else setTwin (fun t => { t with lostAt := some (s.tb.now, true) }) (twinLoss 0 s))

/-- RESIGN (R34): the active is declared lost without listening. -/
def execResign (dt : Nat) (head : TwinHead) (s : State) : Host.Outcome State Fault Refusal :=
  .next (match receiveTwin head (advance dt s) with
    | (s, false) => s
    | (s, true) =>
      if s.twin.wantActive || !s.twin.joined || s.twin.lostAt.isSome then s
      else setTwin (fun t => { t with lostAt := some (s.tb.now, false) }) (twinLoss 0 s))

/-- The new active module enables its outputs from the replicated state and announces itself (R34 steps 3 to 5, R208, R237, R358). -/
def takeOver (cut : Cut) (s : State) : State :=
  let s := becomeSingle (setTwin (fun t => { t with retryAt := some (s.tb.now + 1000000000) }) (dropLink s))
  let s := { s with net := { s.net with senderEpoch := (s.net.senderEpoch + 1) % 2 ^ 32, seqLow := 0 } }
  let s := emit 0x0004 [(s.net.senderEpoch : Int)] s
  let s := takeoverMeters cut (takeoverCaravans (send .neighbour s))
  let s := mbusFollow (takeoverCan (takeoverAxes s))
  let s := if s.prog.req = 2 ∧ s.prog.image.isSome then runProgram 0 s else s
  announce (resolveAll s)

/-- TAKEOVER (R34, R484): due 100 ms after the active was declared lost; a module whose tamper state is not NONE never takes over. -/
def execTakeover (dt : Nat) (cut : Cut) (s : State) : Host.Outcome State Fault Refusal :=
  let s := advance dt s
  .next (match s.twin.lostAt with
    | none => s
    | some (t, _) =>
      if !keeperUp s || decide (s.tb.now < t + 100000000) then s
      else if s.sec.tamper != .none then becomeUnpaired s
      else takeOver cut s)

/-- What a module does on hearing node 0x0000 on an uplink: a listening standby stays standby and reports twin-link loss; a module
waiting for its partner takes the STANDBY role unpaired (R34, R246, R553). -/
def hearActive (f : FfpFrame) (s : State) : State :=
  if f.src ≠ 0 ∨ (f.port ≠ 1 ∧ f.port ≠ 2) then s
  else
    let s := setTwin (fun t => { t with announceHeard := s.tb.now, partnerEpoch := fld f.body 0 4 }) s
    match s.twin.lostAt with
    | some (_, true) => becomeUnpaired (twinLoss 2 s)
    | _ => if s.twin.resolve = 2 then becomeUnpaired (if safeStart s then s else twinLoss 2 s) else s

/-- ANNOUNCE (R246). -/
def execAnnounce (dt : Nat) (frame : FfpFrame) (s : State) : Host.Outcome State Fault Refusal :=
  .next (onFrame 0x06 frame (hearActive frame) (advance dt s))

/-! ### Items (R32, R251, R252) -/

/-- The standby has acknowledged an item as durable. -/
def itemDurable (item : Nat) (s : State) : State :=
  let s := setTwin (fun t => { t with unacked := t.unacked.filter (fun i => i.id != item) }) s
  tryJoined (epochAcked (some item) (modelProceed (planAcked item (carAcked item s))))

/-- TWIN_ACK (R252): RESULT 1 declares the standby lost; of the model tables it ends the load instead (R105). -/
def execTwinAck (dt : Nat) (head : TwinHead) (data : Bytes) (s : State) : Host.Outcome State Fault Refusal :=
  .next (match receiveTwin head (advance dt s) with
    | (s, false) => s
    | (s, true) =>
      if !s.twin.wantActive || !(s.twin.unacked.any (fun i => i.id == fld data 0 4)) then s
      else if fld data 5 1 = 0 then itemDurable (fld data 0 4) s
      else match s.model.load with
        | some l => if fld data 4 1 = 0x15 then loadFail l.entry (0x2D, 0, noRow, 0xFFFF, noRow) (itemDurable (fld data 0 4) s) else standbyLost s
        | none => standbyLost s)

/-- TWIN_ACK_TIMEOUT (R252): 5 ms after its last fragment an unacknowledged item is sent again in full. -/
def execTwinAckTimeout (dt : Nat) (s : State) : Host.Outcome State Fault Refusal :=
  let s := advance dt s
  .next (if !feedsTwin s || !twinUp s then s
    else
      let due := fun (i : TwinItem) => decide (i.sent + 5000000 ≤ s.tb.now)
      let l := s.twin.unacked.filter due
      let t := setTwin (fun t => { t with unacked := t.unacked.map (fun i => if due i then { i with sent := s.tb.now } else i) }) s
      l.foldl (fun u i => sendTwin i.type i.id i.data u) t)

/-- The standby's copy of a journal slot (R206, R207). -/
def storeJournal (data : Bytes) (s : State) : State :=
  let e := ofJournal data
  let id := e.2.id % 2 ^ 32
  let s := { s with car := { s.car with nextId := max s.car.nextId (id + 1) } }
  if e.2.state = 4 ∨ e.2.state = 5 then { s with car := { s.car with slots := tabErase s.car.slots e.1, ended := (e.2 :: s.car.ended).take 64 } }
  else { s with car := { s.car with slots := tabSet s.car.slots e.1 e.2 } }

/-- JOURNAL (R251). -/
def execJournal (dt : Nat) (head : TwinHead) (data : Bytes) (s : State) : Host.Outcome State Fault Refusal :=
  .next (takeItem 0x10 head (storeJournal data) (advance dt s))

/-- The registers an ENERGY item carries. -/
def itemRegs (n : Nat) (b : Bytes) : List Reg :=
  (chunks 16 n b).map (fun e => { value := BitVec.ofNat 64 (fld e 0 8), residue := BitVec.ofNat 32 (fld e 8 4), wrap := BitVec.ofNat 16 (fld e 12 2) })

/-- A replicated latch is kept (R274, R299). -/
def storeEnergy (data : Bytes) (s : State) : State :=
  let i := fld data 1 1
  if fld data 0 1 = 0 then (if i < 5 then setFeed i { feed i s with repl := some (fld data 8 8, itemRegs 16 (data.drop 16)) } s else s)
  else if i < 8 then setPair i { pair i s with repl := some (fld data 8 8, itemRegs 8 (data.drop 16)) } s
  else s

/-- ENERGY (R274). -/
def execEnergy (dt : Nat) (head : TwinHead) (data : Bytes) (s : State) : Host.Outcome State Fault Refusal :=
  .next (takeItem 0x11 head (storeEnergy data) (advance dt s))

/-- A replicated loop slot (R326). -/
def storeLoop (s : State) (b : Bytes) : State :=
  let n := fld b 0 2
  let y := sfld b 135 4
  setLoop n { loopSlot n s with record := slice b 2 128, req := fld b 130 1, local_ := fld b 131 4, applied := y, y := y } s

/-- A replicated axis (R381). -/
def storeAxis (s : State) (b : Bytes) : State :=
  let n := fld b 0 1
  let f := fld b 69 1
  let v := fld b 70 4
  let s := setAxis n { axis n s with record := slice b 1 64, pos := sfld b 65 4, target := sfld b 65 4, homed := bit f 0, replMoving := bit f 1 } s
  setTarget 3 n { target 3 n s with local_ := if v = qNaN then none else some v } s

/-- Retained data, forces, mode, image change, switch and plant data of a RETAINED item (R326, R358, R381; log 18). -/
def storeRetained (data : Bytes) (s : State) : State :=
  let b := data.drop 1
  match fld data 0 1 with
  | 1 =>
    let ls := (chunks 68 (b.length / 68) b).map (fun e => (fld e 0 4, e.drop 4))
    setProg (fun p => { p with retained := ls.foldl (fun m e => Memory.write m (64 * e.1) e.2) p.retained, mem := ls.foldl (fun m e => Memory.write m (64 * e.1) e.2) p.mem }) s
  | 2 => setProg (fun p => { p with forces := (chunks 16 (fld b 0 2) (b.drop 4)).foldl (fun t e => tabSet t (fld e 0 8) (slice e 8 8)) [] }) s
  | 3 => setProg (fun p => { p with req := fld b 0 1, startKind := fld b 1 1 }) s
  | 4 =>
    let img := s.prog.staged
    if fld b 0 1 = 1 then setProg (fun p => { p with change := some { image := img, from_ := s.tb.now, mbox := 32 } }) s
    else (placeImage img s).1
  | 5 => switchImage s
  | 6 =>
    let n := fld b 0 2
    let a := b.drop (2 + 139 * n)
    (chunks 74 (fld a 0 1) (a.drop 1)).foldl storeAxis ((chunks 139 n (b.drop 2)).foldl storeLoop s)
  | _ => s

/-- An item names an image change whose digest is not the staged image's (R358 step 3). -/
def wrongImage (data : Bytes) (s : State) : Bool :=
  fld data 0 1 == 4 && data.drop 2 != s.prog.staged.drop (digestOffset s.prog.staged)

/-- A standby that cannot store an item answers RESULT 1 and does not apply it (R251, R252). -/
def refuseItem (type : Nat) (head : TwinHead) (s : State) : State :=
  match receiveTwin head s with
  | (s, false) => s
  | (s, true) => if s.twin.wantActive then s else ackItem type head.item 1 s

/-- RETAINED (R358). -/
def execRetained (dt : Nat) (head : TwinHead) (data : Bytes) (s : State) : Host.Outcome State Fault Refusal :=
  let s := advance dt s
  .next (if wrongImage data s && !s.twin.received.contains head.item then refuseItem 0x12 head s else takeItem 0x12 head (storeRetained data) s)

/-- PLAN (R182). -/
def execPlan (dt : Nat) (head : TwinHead) (data : Bytes) (s : State) : Host.Outcome State Fault Refusal :=
  .next (takeItem 0x13 head (takePlan data) (advance dt s))

/-- MODEL_STATE (R148): no acknowledgement. -/
def execModelState (dt : Nat) (head : TwinHead) (data : Bytes) (s : State) : Host.Outcome State Fault Refusal :=
  .next (match receiveTwin head (advance dt s) with
    | (s, false) => s
    | (s, true) => if s.twin.wantActive then s else takeModelState data s)

/-- The copy a MODEL_TABLES item makes: a header, rows, or the activation instant (R100). -/
def storeTables (data : Bytes) (s : State) : State :=
  if data.length = 64 then { s with model := { s.model with replica := some { header := data } } }
  else match s.model.replica with
    | none => s
    | some m =>
      if data.length = 8 then
        let slot := 1 - s.model.slot
        let t := { s.model with replica := none, pending := some { image := m, slot := slot, tA := leNat data, entry := none } }
        { s with model := if slot = 0 then { t with slot0 := some m } else { t with slot1 := some m } }
      else { s with model := { s.model with replica := some (m.add (fld data 2 1) (putRows data)) } }

/-- The copy with its last rows fails the standby's own validation (R100 step 2). -/
def modelRefused (data : Bytes) (s : State) : Bool :=
  let t := storeTables data s
  data.length != 64 && data.length != 8 &&
    (match t.model.replica with
      | none => true
      | some m => m.count == fld m.header 0x38 4 && (validate m (generation s.model.active) s).isSome)

/-- MODEL_TABLES (R100). -/
def execModelTables (dt : Nat) (head : TwinHead) (data : Bytes) (s : State) : Host.Outcome State Fault Refusal :=
  let s := advance dt s
  .next (if modelRefused data s && !s.twin.received.contains head.item then refuseItem 0x15 head s else takeItem 0x15 head (storeTables data) s)

/-- The standby's key epoch and rollover (R473): a switch leaves the former epoch accepted until the overlap ends. -/
def storeEpoch (data : Bytes) (s : State) : State :=
  let k := fld data 0 4
  let old := s.sec.keyEpoch
  let ov := fld data 8 4
  let sw := fld data 16 8
  let r : Option Rollover := if fld data 4 4 ≠ 0 then some { next := fld data 4 4, switch := sw, overlap := ov }
    else if old ≠ k ∧ ov ≠ 0 then some { next := k, switch := sw, overlap := ov, old := some old } else none
  setSec (fun x => { x with keyEpoch := k, roll := r }) s

/-- KEY_EPOCH (R473). -/
def execKeyEpoch (dt : Nat) (head : TwinHead) (data : Bytes) (s : State) : Host.Outcome State Fault Refusal :=
  .next (takeItem 0x16 head (storeEpoch data) (advance dt s))

/-! ### Letting go after a resign (R561) -/

/-- RESIGN_RELEASE (R561): 100 ms after the resign frame the module releases its outputs, axes and bus transmitters and stops speaking as
node 0x0000. -/
def execResignRelease (dt : Nat) (s : State) : Host.Outcome State Fault Refusal :=
  let s := advance dt s
  .next (match s.sys.resignAt with
    | none => s
    | some t =>
      if s.tb.now < t + 100000000 then s
      else mbusFollow (outputsOff { s with sys := { s.sys with resignAt := none, released := true } }))

end Sys2Proof.Machine
end

