-- ==== Sys2Proof/Machine/Reset.lean ====
section
/-! DEFINITION. What a reset clears and what it keeps (R544), and the last-gasp data set (R535). -/

namespace Sys2Proof.Machine
open Sys2Proof

/-! ### The last-gasp commit (R271, R378, R535) -/

/-- Pending retained data becomes durable (R357, R535). -/
def saveRetained (s : State) : State :=
  { s with prog := { s.prog with retained := s.prog.retPend.foldl (fun m e => Memory.write m (64 * e.1) e.2) s.prog.retained, retPend := [] } }

/-- Metering is cut and counts no further until it is restored (R271, R526). -/
def cutMeters (cut : Cut) (s : State) : State :=
  let s := saveMeters 2 cut s
  { s with elec := { s.elec with running := false } }

/-- The data set of R535. -/
def lastGasp (cut : Cut) (s : State) : State := saveRetained (saveAxes (carLastGasp (cutMeters cut s)))

/-! ### What a reset leaves (R544) -/

/-- A configuration that was accepted and not yet in effect is durable, and is the one a start restores (R535; log 31). -/
def accepted {α : Type} (cfg : Bytes) (pend : Option (Bytes × α)) : Bytes := match pend with | none => cfg | some p => p.1

/-- OASIS, its cause and its entry time as the Cellar keeps them (R552). -/
def keepOasis (s : State) : State :=
  if s.boot.plant || s.win.role == .standby then
    { s with boot := { s.boot with oasisKept := if s.win.oasis then some (s.opt.oasisCause, s.opt.oasisEntry) else none } }
  else s

/-- The Attic header once the DRAM part is lost (R81). -/
def headerNoDram (h : Bytes) : Bytes :=
  if h.length != 256 then h else let b := patch (h.take 252) 6 (le 2 (fld h 6 2 - fld h 6 2 % 2)); b ++ le 4 (crc32c b)

/-- The host window after a reset: what the Cellar keeps, and the strap (R55). -/
def resetWindow (w : Window) : Window :=
  { qspi := w.qspi, atticValid := w.atticValid, atticIncomplete := w.atticIncomplete, fatalCode := w.fatalCode }

/-- The System class after a reset; `dram` says that DRAM keeps its contents. -/
def resetSystem (dram : Bool) (y : System) : System :=
  { nextSession := y.nextSession, grade := y.grade, serial := y.serial, steppingLetter := y.steppingLetter, steppingDigit := y.steppingDigit,
    fwMajor := y.fwMajor, fwMinor := y.fwMinor, fwPatch := y.fwPatch, slot0 := y.slot0, slot1 := y.slot1, free := y.free,
    atticHeader := if dram then y.atticHeader else headerNoDram y.atticHeader, dumps := y.dumps, atticTrace := y.atticTrace }

/-- The recorder after a reset: the ring, the definitions and the VBAT record stay (R446, R449, R450). -/
def resetRecorder (q : Recorder) : Recorder :=
  { ring := q.ring, badSlots := q.badSlots, nextSeq := q.nextSeq, nextWrite := q.nextWrite, boot := q.boot,
    triggers := q.triggers.map (fun e => (e.1, { defn := e.2.defn, gen := e.2.gen })), standbyEvents := q.standbyEvents, lost := q.lost }

/-- The solver after a reset: counters and cells cleared, the published state with DRAM (R544). -/
def resetSolver (dram : Bool) (v : Solver) : Solver :=
  let c : Solver := { cfg := accepted v.cfg v.pend }
  if dram then { c with pub := v.pub, prev := v.prev, sens := v.sens, hydro := v.hydro, thermal := v.thermal, thermTo := v.thermTo, history := v.history, flatNext := v.flatNext }
  else c

/-- The optimiser after a reset: the plan and the series with DRAM (R544, R552). -/
def resetOptimiser (dram : Bool) (o : Optimiser) : Optimiser :=
  let c : Optimiser := { cfg := accepted o.cfg o.pend, curves := o.curves, storeModels := o.storeModels }
  if dram then { c with plan := o.plan, series := o.series, solved := o.solved, stalePlan := o.stalePlan, repl := o.repl } else c

/-- A loop slot after a reset: its record, requested mode and LOCAL set-point (R324). -/
def resetLoop (l : Loop) : Loop :=
  { record := match l.pend with | some p => p.1 | none => l.record
    req := match l.reqPend with | some p => p.1 | none => l.req
    local_ := match l.localPend with | some p => p.1 | none => l.local_ }

/-- An axis after a reset: its record, its saved record and the count of its stalls; the bridge is off (R382, R378). -/
def resetAxis (now : Nat) (a : Axis) : Axis :=
  { record := a.pend.getD a.record, saved := a.saved, stalls := a.stalls, restAt := now }

/-- A CAN controller after a reset: its configuration and objects (R402). -/
def resetCan (c : CanBus) : CanBus := { cfg := c.cfg, objs := c.objs.map (fun e => (e.1, { record := e.2.record })) }

/-- A reset of every part but the Cellar, the VBAT domain, the fuses and the RTC; `dram` says that DRAM keeps its contents, as at
every reset that is not a loss of power (R543, R544). The elapsed-time count and the counts that name free values run on. -/
def resetBlock (dram : Bool) (s : State) : State :=
  let s := loseQueue (keepOasis s)
  { pending := s.pending
    out := s.out
    tb := { now := s.tb.now, zone32 := s.tb.zone32, cfg := s.tb.cfg, servoCount := s.tb.servoCount }
    win := resetWindow s.win
    sys := resetSystem dram s.sys
    rtc := { s.rtc with shadow := {}, syncedAt := none, lastSync := none, calStart := none }
    recorder := resetRecorder s.recorder
    model := { s.model with load := none, replica := none, pending := s.model.pending.map (fun p => { p with entry := none }) }
    solver := resetSolver dram s.solver
    opt := resetOptimiser dram s.opt
    car := { slots := s.car.slots, ended := if dram then s.car.ended else [], nextId := s.car.nextId, cfg := s.car.cfg }
    net := { cfg := accepted s.net.cfg s.net.pend, senderEpoch := s.net.senderEpoch }
    twin := {}
    elec := { cfg := accepted s.elec.cfg s.elec.pend, feeds := s.elec.feeds, sampleBase := s.elec.sampleBase, saveSeq := s.elec.saveSeq, bufA := s.elec.bufA,
              bufB := s.elec.bufB, unsaved := s.elec.unsaved, offs := s.elec.offs, lastGap := s.elec.lastGap }
    therm := { cfg := accepted s.therm.cfg s.therm.pend, pairs := s.therm.pairs, stepCount := s.therm.stepCount, glycol := s.therm.glycol,
               unsaved := s.therm.unsaved, offs := s.therm.offs, lastGap := s.therm.lastGap }
    loops := { slots := s.loops.slots.map (fun e => (e.1, resetLoop e.2)), lastTick := s.loops.lastTick, lastRepl := s.loops.lastRepl }
    prog := { image := s.prog.image, retained := s.prog.retained, req := s.prog.req, startKind := s.prog.startKind, forces := s.prog.forces, cfg := s.prog.cfg }
    motion := { axes := s.motion.axes.map (fun e => (e.1, resetAxis s.tb.now e.2)), lastCheck := s.motion.lastCheck }
    buses := { can := s.buses.can.map (fun e => (e.1, resetCan e.2)), mbus := { cfg := s.buses.mbus.pend.getD s.buses.mbus.cfg } }
    io := { cfg := accepted s.io.cfg s.io.pend }
    panel := { cfg := s.panel.cfg }
    sec := { s.sec with slots := [], update := none, epochWait := [], challenge := none, notAfter := 0, twinKeyMissing := false }
    clocks := { s.clocks with hostOff := 0, gates := 0x3FFFF }
    power := { cfg := s.power.cfg, vin := s.power.vin, vinOver := s.power.vinOver, vdoLow := s.power.vdoLow, vdoUnder6 := s.power.vdoUnder6,
               vmotLow := s.power.vmotLow, holdReady := s.power.holdReady, holdupEntry := s.power.holdupEntry, holdupMv := s.power.holdupMv,
               gaspOk := s.power.gaspOk, gasp := s.power.gasp, tail := s.power.tail, holdupDue := s.power.holdupDue, uvLow := s.power.uvLow,
               resetTime := s.power.resetTime, govStep := s.power.govStep }
    boot := { straps := s.boot.straps, kind := s.boot.kind, t0 := s.tb.now, preferred := s.boot.preferred, trial := s.boot.trial,
              lastRole := s.boot.lastRole, oasisKept := s.boot.oasisKept, basisKept := s.boot.basisKept } }

/-- The module is held in a PIN or CORE_UV reset (R542, R558, R529). -/
def holdReset (kind : ResetKind) (s : State) : State :=
  let s := resetBlock true s
  { s with boot := { s.boot with held := true, kind := kind } }

/-- The rails have fallen: the module is OFF (R521, R544). -/
def powerOff (s : State) : State :=
  let s := resetBlock false s
  { s with power := { s.power with off := true } }

/-- A start from power begins (R543 to R545 step 1). -/
def powerOn (kind : ResetKind) (s : State) : State :=
  let s := resetBlock false s
  { s with boot := { s.boot with kind := kind } }

/-- A PIN reset is requested: at once in STANDBY, ignored in HOLDUP and OFF, else once the last-gasp commit has ended (R558). -/
def requestPin (s : State) : State :=
  if s.power.off || s.boot.held || s.boot.pinAt.isSome || s.win.power == .holdup then s
  else if s.win.power = .standby then holdReset .pin s
  else { s with power := { s.power with gaspOk := false }, boot := { s.boot with pinAt := some s.tb.now } }

/-- The trial of a firmware image ends: PREFERRED is the other slot, BOOT_FALLBACK, and a start as on a PIN reset (R548). -/
def endTrial (s : State) : State :=
  let s := emit 0x000A [(s.boot.preferred : Int), 2] { s with boot := { s.boot with preferred := 1 - s.boot.preferred, trial := false } }
  requestPin s

end Sys2Proof.Machine
end

