-- ==== Sys2Proof/Machine/Power.lean ====
section
/-! DEFINITION. Supplies, power states and hold-up (chapter 18): supervision of VIN, VDO and VMOT, QUIET and STANDBY, the pace
governor, the hold-up sequence, the measurement of C_HOLD and the commands of the Power class. -/

namespace Sys2Proof.Machine
open Sys2Proof

/-- An update of the power block. -/
def setPow (f : Power → Power) (s : State) : State := { s with power := f s.power }

/-- The rails stand and the module is in ACTIVE or QUIET. -/
def awake (s : State) : Bool := !s.power.off && (s.win.power == .active || s.win.power == .quiet)

/-! ### Hold-up (R517, R533 to R537) -/

/-- Entry to HOLDUP at t_H, from ACTIVE, QUIET or the entry to STANDBY (R533 step 2, R534, R39 row 4). -/
def enterHoldup (vin hold : Nat) (s : State) : State :=
  let s := setPow (fun p => { p with vin := false, standby := none, returnAt := none, charging := false, measuring := false, measureWait := none, holdupEntry := s.zone, holdupMv := (vin, hold), gaspOk := false, holdupDue := true }) s
  let s := raise 9 (setPower .holdup { s with boot := { s.boot with pinAt := none } })
  let s := axesHoldup (haltTasks (abandonReplan (abandonSolve (yieldRow 4 10 16 s))))
  resolveAll (mbusFollow (closeField (abortUpdate (abortAll 6 s))))

/-- VIN_LOW (R517, R533): VIN, or the open input switch, has lain below 16 V without a break for a time in ns; due at 2 ms. A core that
is held in a reset cannot hold anything up, and the module is OFF (log 32). -/
def execVinLow (dt vin hold held : Nat) (s : State) : Host.Outcome State Fault Refusal :=
  let s := advance dt s
  let entering := match s.power.standby with | none => false | some e => decide (s.tb.now < e.from_ + 20000000)
  .next (if s.power.off ∨ held < 2000000 ∨ (16000 ≤ vin ∧ !s.power.vinOver) then s
    else if s.win.power = .holdup then setPow (fun p => { p with vin := false }) s
    else if s.boot.held then powerOff (setPow (fun p => { p with vin := false }) s)
    else if s.win.power = .standby ∧ !entering then s
    else enterHoldup vin hold s)

/-- VIN_OVERVOLTAGE (R517): VIN above 34 V opens the input switch. -/
def execVinOvervoltage (dt vin : Nat) (s : State) : Host.Outcome State Fault Refusal :=
  let s := advance dt s
  .next (if s.power.off ∨ s.power.vinOver ∨ vin ≤ 34000 then s else emit 0x0106 [0, 0] (setPow (fun p => { p with vinOver := true }) s))

/-- LAST_GASP_COMPLETE (R533 step 3, R535, R558): the data set is durable, with the commit's duration and bytes; a requested PIN reset
takes effect. -/
def execLastGaspComplete (dt : Nat) (cut : Cut) (micros bytes : Nat) (s : State) : Host.Outcome State Fault Refusal :=
  let s := advance dt s
  .next (if !gaspPending s then s
    else
      let s := if s.boot.restored then lastGasp cut s else s
      if s.boot.pinAt.isSome then holdReset .pin s
      else setPow (fun p => { p with gaspOk := true, gasp := (micros, bytes) }) s)

/-- ORDERLY_POWER_DOWN (R533 step 5, R536): due with the queue empty after the commit, or with HOLD at 12 V. -/
def execOrderlyPowerDown (dt hold : Nat) (s : State) : Host.Outcome State Fault Refusal :=
  let s := advance dt s
  let q := s.recorder
  let empty := s.power.gaspOk && q.queue.isEmpty && q.span.isEmpty && q.gap.isNone
  .next (if s.power.off ∨ s.win.power ≠ .holdup ∨ (!empty ∧ 12000 < hold) then s
    else
      let s := setPow (fun p => { p with tail := q.queue.length }) (zeroKeys s)
      if s.power.vin then powerOn .holdup s else powerOff s)

/-! ### VDO and VMOT (R518, R374, R415) -/

/-- VDO_LOW (R518): VDO has lain below 16 V for a time in ns; due at 2 ms. Below 6 V no DO can be held on (R415). -/
def execVdoLow (dt mv held : Nat) (s : State) : Host.Outcome State Fault Refusal :=
  let s := advance dt s
  .next (if s.power.off ∨ held < 2000000 ∨ 16000 ≤ mv then s
    else
      let s := if s.power.vdoLow then s else emit 0x0106 [1, 0] s
      resolveAll (setPow (fun p => { p with vdoLow := true, vdoUnder6 := decide (mv < 6000) }) s))

/-- VMOT_LOW (R518, R374): VMOT below 10.5 V (R586); every enabled axis takes the fault. -/
def execVmotLow (dt mv : Nat) (s : State) : Host.Outcome State Fault Refusal :=
  let s := advance dt s
  .next (if s.power.off ∨ s.power.vmotLow ∨ 10500 ≤ mv then s
    else
      let s := emit 0x0106 [2, 0] (setPow (fun p => { p with vmotLow := true }) s)
      (List.range 8).foldl (fun t n => axisFault n 8 (setAxis n (setCause 8 true (axis n t)) t)) s)

/-- SUPPLY_RESTORED (R518): VDO above 17 V, or VMOT above 11 V (R586). -/
def execSupplyRestored (dt : Nat) (vmot : Bool) (mv : Nat) (s : State) : Host.Outcome State Fault Refusal :=
  let s := advance dt s
  .next (if s.power.off then s
    else if vmot then
      if !s.power.vmotLow ∨ mv ≤ 11000 then s
      else (List.range 8).foldl (fun t n => setAxis n (setCause 8 false (axis n t)) t) (emit 0x0106 [2, 1] (setPow (fun p => { p with vmotLow := false }) s))
    else
      let s := setPow (fun p => { p with vdoUnder6 := decide (mv < 6000) }) s
      resolveAll (if !s.power.vdoLow ∨ mv ≤ 17000 then s else emit 0x0106 [1, 1] (setPow (fun p => { p with vdoLow := false }) s)))

/-! ### The pace governor (R528, R529) -/

/-- The entry level of a step, mV of sag. -/
def stepSag (k : Nat) : Nat := 10 + 20 * k

/-- GOVERNOR_STEP_ENTRY (R528): VCORE in mV crosses entry levels; each step crossed counts one entry. -/
def execGovernorStepEntry (dt mv : Nat) (s : State) : Host.Outcome State Fault Refusal :=
  let s := advance dt s
  let g := s.power.govStep
  let top := ([4, 3, 2, 1].find? (fun k => decide (stepSag k ≤ 750 - mv))).getD 0
  .next (if s.power.off ∨ top ≤ g then s
    else
      let n := (List.range 4).map (fun i => (s.power.govEntries.getD i 0 + b2n (decide (g < i + 1 ∧ i + 1 ≤ top))) % 65536)
      let s := setPow (fun p => { p with govStep := top, govEntries := n }) s
      let quiet : Bool := match s.power.govRecorded with | none => true | some t => decide (t + 1000000000 ≤ s.tb.now)
      if decide (3 ≤ top) && quiet then emit 0x0103 [(top : Int), (mv : Int)] (setPow (fun p => { p with govRecorded := some s.tb.now }) s) else s)

/-- GOVERNOR_STEP_EXIT (R528): the sag has lain below a level for a time in ns; each step whose entry level less 10 mV is above it is
left after 10 µs. -/
def execGovernorStepExit (dt mv held : Nat) (s : State) : Host.Outcome State Fault Refusal :=
  let s := advance dt s
  .next (if s.power.off ∨ held < 10000 then s
    else
      let kept := ([4, 3, 2, 1].find? (fun k => decide (k ≤ s.power.govStep) && decide (stepSag k - 10 ≤ 750 - mv))).getD 0
      setPow (fun p => { p with govStep := kept }) s)

/-- CORE_UNDERVOLTAGE (R529, R559): VCORE, at its lowest `mv`, has lain below 0.63 V for a time in ns; due at 10 µs. Below 0.55 V the
tamper response runs first while VOLTAGE is armed (R42, R477). -/
def execCoreUndervoltage (dt mv held : Nat) (s : State) : Host.Outcome State Fault Refusal :=
  let s := advance dt s
  .next (if s.power.off ∨ s.power.standby.isSome ∨ 630 ≤ mv ∨ held < 10000 then s
    else if s.boot.held ∧ s.boot.kind = .coreUv then setPow (fun p => { p with uvLow := min p.uvLow mv }) s
    else
      let s := if mv < 550 ∧ armed 7 s ∧ !bit s.sec.active 6 then tamperResponse 7 (setSec (fun x => { x with active := x.active + 64 }) s) else s
      let rtc := s.rtc.ns
      holdReset .coreUv (setPow (fun p => { p with uvLow := mv, resetTime := some rtc }) s))

/-! ### STANDBY (R523 to R527) -/

/-- A wake source is enabled (R525). -/
def wakeEnabled (k : Nat) (s : State) : Bool :=
  match k with
  | 0 => s.rtc.alarms.any (fun e => e.2.enable && e.2.wake)
  | 1 => s.rtc.wakePeriod != 0
  | 2 => bit (fld s.panel.cfg 9 1) 0
  | 3 => fld s.power.cfg 0 4 != 0
  | _ => fld s.power.cfg 4 1 == 1

/-- The conditions that keep the module from STANDBY, bits 0 to 6 (R523). -/
def standbyBlockers (s : State) : Nat :=
  let il := fun (n : Nat) => let r := ilockRec s.io.cfg n; fld r 0 1 == 1 && (fld r 8 4 != 0 || (fld r 0x0C 1 != 0 && fld r 0x0E 2 != 0))
  bitAt 0 (anyCommitted s) + bitAt 1 (s.loops.slots.any (fun e => lKind e.2.record != 0 && lGuard e.2.record)) +
    bitAt 2 (progState s == 2 && (progDir s).any (fun e => fld e 8 1 == 1 && entryGuard e)) + bitAt 3 (anyMoving s) +
    bitAt 4 (s.win.debug == .vendor) + bitAt 5 (anyRunning s) + bitAt 6 ((List.range 8).any il)

/-- Entry to STANDBY, all its steps at its taking; the host port is served up to step 4 (R524, R379, R401, R507; log 32). -/
def enterStandby (cut : Cut) (s : State) : State :=
  let s := setPower .standby (setPow (fun p => { p with standby := some { from_ := s.tb.now }, returnAt := none, wakeCause := 0 }) s)
  let s := outputsOff (haltTasks (closeField (abortAll 6 (abandonReplan (abandonSolve s)))))
  let s := saveAxes (cutMeters cut (mbusFollow s))
  let s := endAllTls (zeroKeys s)
  let s := [1, 2, 3, 4, 5, 6, 7, 8, 9, 10].foldl (fun t p => if portUp p t then setPort p (fun q => { q with link := 0, reason := 1 }) t else t) s
  let s := [3, 4].foldl (fun t x => setClkSource x (fun c => { c with valid := false }) t) s
  clocksStandby s

/-- The loops begin from SAFE_OUTPUT; SP_R takes PV at the first sample (R526, R550). -/
def loopsFresh (s : State) : State :=
  let one := fun (l : Loop) =>
    let y := lSafe l.record
    let z : Loop := { record := l.record, req := l.req, local_ := l.local_, y := y, stage := if lKind l.record = 2 then y.toNat else 0, stageAt := s.tb.now, dirty := true }
    z
  { s with loops := { s.loops with slots := s.loops.slots.map (fun e => (e.1, one e.2)) } }

/-- ALARM events of alarms that fired in STANDBY or OFF (R443). -/
def releaseAlarms (s : State) : State :=
  let l := s.rtc.offFires
  l.foldl (fun t e => emitEvent { code := 0x1001, time := e.2.2.2, items := [item e.1, item (b2n e.2.2.1 : Nat), item e.2.1, item 1] } t) { s with rtc := { s.rtc with offFires := [] } }

/-- Metering resumes from the registers in place, with METER_OFF from the cut to the first new sample (R526). -/
def resumeMeters (s : State) : State :=
  let s := match newest (·.ok) s.elec with | none => s | some r => meterOff r.cutTime s.zone s
  let due := s.tb.now + (nextGrid (stepNs s) s.zone - s.zone)
  let s := freshSampling s
  { s with elec := { s.elec with running := true, lastSave := s.zone / 60000000000 }, therm := { s.therm with stepFrom := s.tb.now, stepDue := some due } }

/-- The wake (R526, R466, R481, R507): rails, keys, clocks, metering, loops and the program as they resume in ACTIVE. -/
def wakeUp (cause : Nat) (s : State) : State :=
  let s := setPower .active (setPow (fun p => { p with standby := none, wakeCause := cause }) s)
  let s := clocksWake s
  let s := if s.sec.tamper = .none then epochCatchUp (loadKeys s) else if s.win.st = .ready then setModState .tampered s else s
  let s := releaseAlarms (releaseStandbyEvents (recordLateTamper s))
  let s := resumeMeters (emit 0x0105 [(cause : Int)] s)
  let s := loopsFresh { s with net := { s.net with uplinkValid := s.tb.now } }
  let s := (List.range 4).foldl (fun t b => canStart b t) s
  let s := mbusFollow (if s.prog.req = 2 ∧ s.prog.image.isSome ∧ driving s then runProgram 2 s else s)
  resolveAll s

/-- WAKE (R525, R526): digital inputs that changed and the host's pin are judged with it; the wake takes effect once the entry's
step 4 is complete, for every source latched. -/
def execWake (dt : Nat) (di : BitVec 32) (host : Bool) (s : State) : Host.Outcome State Fault Refusal :=
  let s := advance dt s
  .next (match s.power.standby with
    | none => s
    | some _ =>
      let s := if (di &&& BitVec.ofNat 32 (fld s.power.cfg 0 4)) != 0 then latchWake 3 s else s
      let s := if host && wakeEnabled 4 s then latchWake 4 s else s
      match s.power.standby with
      | none => s
      | some e => if e.wakes = 0 ∨ s.tb.now < e.from_ + 20000000 then s else wakeUp e.wakes s)

/-- VIN_LOST_IN_STANDBY (R527): VIN below 16 V for a time in ns; due at 2 ms, once the entry is complete. -/
def execVinLostInStandby (dt vin held : Nat) (s : State) : Host.Outcome State Fault Refusal :=
  let s := advance dt s
  .next (match s.power.standby with
    | none => s
    | some e =>
      if s.power.off ∨ 16000 ≤ vin ∨ held < 2000000 ∨ s.tb.now < e.from_ + 20000000 then s
      else powerOff (setPow (fun p => { p with vin := false }) s))

/-! ### The hold-up capacitor (R530, R532) -/

/-- HOLD_READY (R530): HOLD, in mV, has crossed 40 V. -/
def execHoldReady (dt hold : Nat) (s : State) : Host.Outcome State Fault Refusal :=
  let s := advance dt s
  .next (if s.power.off then s else setPow (fun p => { p with holdReady := decide (40000 ≤ hold) }) s)

/-- A measurement is due: the first of the start-up, the periodic one, or a commanded one (R532). -/
def measureDue (s : State) : Bool :=
  let h := fld s.power.cfg 6 2
  !s.power.measuredOnce || s.power.measureWait.isSome || (h != 0 && decide (s.power.measureFrom + h * 3600000000000 ≤ s.tb.now))

/-- HOLD_MEASUREMENT (R532): due with HOLD at 45 V; the charger stops and the discharge begins. -/
def execHoldMeasurement (dt hold : Nat) (s : State) : Host.Outcome State Fault Refusal :=
  let s := advance dt s
  .next (if !awake s ∨ s.boot.held ∨ s.power.measuring ∨ !s.power.charging ∨ hold < 45000 ∨ !measureDue s then s
    else setPow (fun p => { p with measuring := true, measuredOnce := true, charging := false, measureFrom := s.tb.now }) s)

/-- C_HOLD in µF and E_AVAIL in mJ of a discharge of a duration in ns, exact (R532). -/
def holdFigures (ns : Nat) : Rat × Rat :=
  let c : Rat := (ns : Rat) / 30000
  (c, c * 846450 / 1000000)

/-- HOLD_MEASUREMENT_END (R532): due with HOLD at 42 V. C_HOLD and E_AVAIL are given to the nearest unit (log 32). -/
def execHoldMeasurementEnd (dt hold : Nat) (s : State) : Host.Outcome State Fault Refusal :=
  let s := advance dt s
  .next (if !s.power.measuring ∨ 42000 < hold then s
    else
      let f := holdFigures (s.tb.now - s.power.measureFrom)
      let c := min 65535 (roundAway f.1).toNat
      let e := min (2 ^ 32 - 1) (roundAway f.2).toNat
      let weak := decide (f.1 < 800 ∨ f.2 < 300)
      let was := s.power.holdWeak
      let wait := s.power.measureWait
      let s := setPow (fun p => { p with measuring := false, charging := true, cHold := c, eAvail := e, measureTime := s.zone, holdWeak := weak, measureWait := none }) s
      let s := if weak = was then s else emit 0x0104 [(c : Int), (e : Int), (b2n (!weak) : Nat)] s
      match wait with
      | none => s
      | some k => finish k (.ok (le 2 c ++ zeros 2 ++ le 4 e)) s)

/-! ### The Power class (R538, R539) -/

/-- Power status, 64 bytes (R539). -/
def powerStatus (s : State) : Bytes :=
  let p := s.power
  le 1 s.win.power.code ++ le 1 p.govStep ++
    le 2 (bitAt 0 p.holdReady + bitAt 1 p.holdWeak + bitAt 2 p.vmotLow + bitAt 3 p.vdoLow + bitAt 4 p.vinOver + bitAt 5 (p.measuring || p.measureWait.isSome)) ++
    (List.range 6).flatMap (fun k => le 2 (Config.supplyMv k s.tb.now).toNat) ++ le 2 p.cHold ++ zeros 2 ++ le 4 p.eAvail ++ le 8 p.measureTime ++
    le 8 p.holdupEntry ++ p.govEntries.flatMap (le 2) ++ le 1 p.wakeCause ++ le 1 (b2n p.gaspOk) ++ le 2 p.tail ++ zeros 12

/-- Power-Get-Status. -/
def cmdPowerGetStatus : Command :=
  { code := 0x0101, standby := true, len := lenIs 0, body := fun _ s => (s, .ok (powerStatus s)) }

/-- Power-Set-State (R521 to R523); `cut` is what metering measured up to a STANDBY entry's cut. -/
def cmdPowerSetState (cut : Cut) : Command :=
  { code := 0x0102, standby := true, len := lenIs 4, reserved := resv [(1, 3)]
    range := fun c _ => [inRange c.payload 0 1 0 2]
    body := fun c s =>
      let now := Reply.ok (le 8 s.zone)
      let t := fld c.payload 0 1
      if s.win.power = .holdup ∨ s.win.power = .standby then (s, if t = 2 ∧ s.win.power = .standby then now else .err 0x06 0xFFFF (le 4 0))
      else if t = 0 then
        if s.win.power = .active then (s, now)
        else
          let at_ := s.power.returnAt.getD (nextEpoch s)
          (setPow (fun p => { p with returnAt := some at_ }) s, .ok (le 8 at_))
      else if t = 1 then
        if s.win.power = .quiet then (setPow (fun p => { p with returnAt := none }) s, now)
        else (setPower .quiet (abandonReplan (abandonSolve s)), now)
      else
        let b := standbyBlockers s
        let deaf := !(List.range 5).any (fun k => wakeEnabled k s)
        if b ≠ 0 then (s, .err 0x06 0xFFFF (le 4 (b + bitAt 7 deaf)))
        else if deaf then (s, refuseAt 0x20 0)
        else (enterStandby cut (finish c.mbox now s), .deferred) }

/-- Power-Get-Config. -/
def cmdPowerGetConfig : Command :=
  { code := 0x0103, standby := true, len := lenIs 0, body := fun _ s => (s, .ok s.power.cfg) }

/-- Power-Set-Config (R538). -/
def cmdPowerSetConfig : Command :=
  { code := 0x0104, standby := true, len := lenIs 16, reserved := resv [(5, 1), (8, 8)]
    range := fun c _ => [inRange c.payload 4 1 0 1, inRange c.payload 6 2 0 168]
    body := fun c s => (setPow (fun p => { p with cfg := c.payload }) s, .ok []) }

/-- Power-Measure-Holdup (R532, R539). -/
def cmdPowerMeasureHoldup : Command :=
  { code := 0x0105, standby := true, len := lenIs 0
    body := fun c s =>
      if !s.power.holdReady then (s, refuse 0x21)
      else if s.power.measuring || s.power.measureWait.isSome then (s, refuse 0x22)
      else (setPow (fun p => { p with measureWait := some c.mbox }) s, .deferred) }

/-- POWER_SET_STATE (R521). -/
def execPowerSetState (dt : Nat) (r : Request) (cut : Cut) (s : State) : Host.Outcome State Fault Refusal :=
  runCommand (cmdPowerSetState cut) dt r s

/-! ### The rows of the Ferosh command set: one exchange each -/

/-- POWER_GET_STATUS (R539). -/
def execPowerGetStatus (dt : Nat) (r : Request) (s : State) : Host.Outcome State Fault Refusal :=
  runCommand cmdPowerGetStatus dt r s

/-- POWER_GET_CONFIG (R539). -/
def execPowerGetConfig (dt : Nat) (r : Request) (s : State) : Host.Outcome State Fault Refusal :=
  runCommand cmdPowerGetConfig dt r s

/-- POWER_SET_CONFIG (R538). -/
def execPowerSetConfig (dt : Nat) (r : Request) (s : State) : Host.Outcome State Fault Refusal :=
  runCommand cmdPowerSetConfig dt r s

/-- POWER_MEASURE_HOLDUP (R532). -/
def execPowerMeasureHoldup (dt : Nat) (r : Request) (s : State) : Host.Outcome State Fault Refusal :=
  runCommand cmdPowerMeasureHoldup dt r s

end Sys2Proof.Machine
end

