-- ==== Sys2Proof/Machine/Epoch.lean ====
section
/-! DEFINITION. The epoch instant (R25, R27, R29, R109): the order in which the configurations that wait for it, the return from
QUIET, the model swap and the solve take effect (log 25). -/

namespace Sys2Proof.Machine
open Sys2Proof

/-- The return from QUIET takes effect; the solve resumes from the last published state (R112, R522). -/
def returnActive (s : State) : State :=
  match s.power.returnAt with
  | none => s
  | some t =>
    if s.zone < t then s
    else
      let s := setPower .active (setPow (fun p => { p with returnAt := none }) s)
      { s with solver := { s.solver with iter := none } }

/-- The swap of a committed model whose activation instant has come (R98, R103); not in SAFE_START (R551). -/
def swapDue (t0 : Nat) (s : State) : State :=
  match s.model.pending with
  | none => s
  | some p =>
    if p.tA ≤ t0 ∧ !safeStart s then
      let old := s.model.active
      optSwap old p.image (solverSwap old p.image (swapModel p s))
    else s

/-- EPOCH_INSTANT (R29, R109): due as zone time passes an epoch instant. A solve still running makes the epoch a skipped one (R28). -/
def execEpochInstant (dt : Nat) (s : State) : Host.Outcome State Fault Refusal :=
  let s := advance dt s
  let len := epochNs s
  let n := s.zone / max 1 len
  .next (if !keeperUp s ∨ !awake s ∨ n ≤ s.solver.lastEpoch then s
    else
      let t0 := n * len
      let s := returnActive (applyNetConfig (applySolverConfig { s with solver := { s.solver with lastEpoch := n } }))
      let s := if s.solver.optCell then replaceCell { s with solver := { s.solver with optCell := false } } else s
      if s.solver.run.isSome then skipEpoch t0 s
      else
        let s := swapDue t0 s
        match s.model.active with
        | none => s
        | some m => if solverRuns s then startSolve t0 m { s with opt := { s.opt with suspended := true } } else s)

end Sys2Proof.Machine
end

