-- ==== Sys2Proof/Machine/Startup.lean ====
section
/-! DEFINITION. Start-up, resets, role resolution, plant start, firmware trials, and fatal errors (chapters 19 and 02: R541 to R562,
R71, R79 to R81). Steps 1 to 7 of a start are made at one instant, with what the start finds as an operand (log 31). -/

namespace Sys2Proof.Machine
open Sys2Proof

/-- An update of the start-up state. -/
def setBoot (f : Boot → Boot) (s : State) : State := { s with boot := f s.boot }

/-- The code of a reset kind (R543). -/
def ResetKind.code : ResetKind → Nat
  | .powerOn => 1 | .holdup => 2 | .pin => 3 | .coreUv => 4 | .keeper => 5

/-! ### Image slot choice (R541, R547) -/

/-- The slot that the straps force. -/
def forcedSlot (s : State) : Option Nat := if s.boot.straps / 2 = 2 then some 0 else if s.boot.straps / 2 = 1 then some 1 else none

/-- The slot that runs: the slot, or the boot failure cause; with whether a fallback was made. -/
def chooseSlot (s : State) : Nat ⊕ (Nat × Bool) :=
  match forcedSlot s with
  | some n => if bootable (fwSlot n s) s then .inr (n, false) else .inl 2
  | none =>
    let p := s.boot.preferred
    if bootable (fwSlot p s) s then .inr (p, false)
    else if bootable (fwSlot (1 - p) s) s then .inr (1 - p, true)
    else .inl 1

/-- The image of a slot runs: IMAGE_SLOT and the versions it names; the BOOT counter of event records advances (R545 step 4, R444). -/
def runImage (n : Nat) (fallback : Bool) (s : State) : State :=
  let f := fwSlot n s
  let h := f.header
  let v : Nat × Nat × Nat := if f.factory then (4, 1, 0) else (fld h 8 1, fld h 9 1, fld h 0x0A 2)
  let s := { s with win := { s.win with imageSlot := n }, sys := { s.sys with fwMajor := v.1, fwMinor := v.2.1, fwPatch := v.2.2 } }
  let s := setRec (fun q => { q with boot := (q.boot + 1) % 65536 }) (setSec (fun x => { x with securityVersion := imageVersion f }) s)
  if fallback then emit 0x000A [((1 - n : Nat) : Int), 1] s else s

/-! ### What a start reads (R545, R549, R594) -/

/-- The contents of the VBAT domain are lost (R458, R519, R435). -/
def loseVbat (s : State) : State :=
  let s := setSec (fun x => { x with marker := false, tampCfg := zeros 8 }) s
  let s := setPow (fun p => { p with holdupEntry := 0, holdupDue := false, uvLow := 0, resetTime := none }) s
  let s := setRec (fun q => { q with standbyEvents := [], lost := none }) s
  { s with rtc := {}, therm := { s.therm with pairs := s.therm.pairs.map (fun e => (e.1, { e.2 with fsExceeded := false })) } }

/-- A housekeeping record that cannot be read back takes its default (R594). -/
def defaultRecord (r : HouseRecord) (s : State) : State :=
  match r with
  | .power => setPow (fun p => { p with cfg := ({} : Power).cfg }) s
  | .clocks => setClk (fun c => { c with cfg := ({} : Clocks).cfg }) s
  | .boot => setBoot (fun b => { b with preferred := 0, trial := false }) s
  | .role => setBoot (fun b => { b with lastRole := .single }) s
  | .oasis => setBoot (fun b => { b with oasisKept := none, basisKept := none }) s
  | .model => { s with model := { s.model with active := none, pending := none } }
  | .solver => { s with solver := { s.solver with cfg := ({} : Solver).cfg } }
  | .optimiser => { s with opt := { s.opt with cfg := ({} : Optimiser).cfg } }
  | .curves => { s with opt := { s.opt with curves := [] } }
  | .stores => { s with opt := { s.opt with storeModels := [] } }
  | .caravans => { s with car := { s.car with cfg := ({} : CaravanUnit).cfg } }
  | .caravanCounter => { s with car := { s.car with nextId := 1 } }
  | .network => { s with net := { s.net with cfg := ({} : Net).cfg } }
  | .time => { s with tb := { s.tb with cfg := ({} : TimeBase).cfg } }
  | .senderEpoch => { s with net := { s.net with senderEpoch := 0 } }
  | .elec => { s with elec := { s.elec with cfg := ({} : Elec).cfg } }
  | .therm => { s with therm := { s.therm with cfg := ({} : Therm).cfg } }
  | .glycol => { s with therm := { s.therm with glycol := [] } }
  | .loop n => { s with loops := { s.loops with slots := tabErase s.loops.slots n.val } }
  | .program => setProg (fun p => { p with cfg := ({} : Program).cfg }) s
  | .forces => setProg (fun p => { p with forces := [] }) s
  | .axis n => setAxis n.val { axis n.val s with record := ({} : Axis).record } s
  | .position n => setAxis n.val { axis n.val s with saved := none } s
  | .can b => setCan b.val {} s
  | .mbus => { s with buses := { s.buses with mbus := {} } }
  | .io => { s with io := {} }
  | .panel => { s with panel := { s.panel with cfg := ({} : Panel).cfg } }
  | .triggers => setRec (fun q => { q with triggers := [] }) s
  | .eventSeq => setRec (fun q => { q with nextWrite := 1 }) s
  | .keyEpoch => setSec (fun x => { x with keyEpoch := 1, roll := none }) s

/-- The model's index of a housekeeping record, which names its free record number. -/
def recordIndex : HouseRecord → Nat
  | .power => 0 | .clocks => 1 | .boot => 2 | .role => 3 | .oasis => 4 | .model => 5 | .solver => 6 | .optimiser => 7 | .curves => 8 | .stores => 9
  | .caravans => 10 | .caravanCounter => 11 | .network => 12 | .time => 13 | .senderEpoch => 14 | .elec => 15 | .therm => 16 | .glycol => 17
  | .program => 18 | .forces => 19 | .mbus => 20 | .io => 21 | .panel => 22 | .triggers => 23 | .eventSeq => 24 | .keyEpoch => 25
  | .can b => 32 + b.val | .axis n => 48 + n.val | .position n => 64 + n.val | .loop n => 1024 + n.val

/-- The records that cannot be read back: each takes its default, with RECORD_DEFAULTED (R545 step 5, R594). -/
def defaultRecords (l : List HouseRecord) (s : State) : State :=
  l.foldl (fun t r => emit 0x0007 [((Config.recordNumber (recordIndex r)).toNat : Int)] (defaultRecord r t)) s

/-- Zone time is taken from the RTC, or while OSC_STOPPED is set from the newest CUT_TIME of the valid saves (R549). -/
def startZone (s : State) : State :=
  let newestCut := match newest (·.ok) s.elec with | none => 0 | some r => r.cutTime
  let z := if s.rtc.oscStopped then newestCut else s.rtc.ns
  let s := { s with tb := { s.tb with zone32 := z * 2 ^ 32 } }
  if s.rtc.oscStopped then emit 0x000B [(z : Int)] (setBoot (fun b => { b with timeLost := true }) s) else s

/-- The instants that periodic work has been judged up to start afresh from the present zone time. -/
def startGrids (s : State) : State :=
  let z := s.zone
  { s with
    solver := { s.solver with lastEpoch := z / max 1 (epochNs s) }
    opt := { s.opt with lastReplan := z / max 1 (replanNs s), lastStep := z / max 1 (fld s.opt.cfg 4 4 * 1000000) }
    loops := { s.loops with lastTick := s.tb.now / 100000, lastRepl := s.tb.now / 10000000 }
    motion := { s.motion with lastCheck := s.tb.now / 100000 } }

/-- Steps 2 and 3: straps, the VBAT domain, the tamper epoch and the TCXO. -/
def startHardware (f : StartFacts) (s : State) : State :=
  let s := if s.boot.kind = .coreUv then s
    else { s with boot := { s.boot with straps := f.straps.toNat }, win := { s.win with qspi := f.straps.toNat % 2 == 0 } }
  let lost := !f.vbatKept && (s.boot.kind == .powerOn || s.boot.kind == .holdup)
  let s := clocksStart (reconcileTamper (if lost then loseVbat s else s))
  let good := match f.tcxo, limitNs 1 s with | some us, some l => decide (us * 1000 ≤ l) | _, _ => false
  if good then
    let delay := s.clocks.oscInUse.1 == 1
    let s := setClk (fun c => { c with tcxoQualUs := f.tcxo.getD 0, compat := delay }) s
    takeSource 1 1 (takeSource 1 0 (sourceTo 1 2 (fun c => { c with qualAt := s.tb.now }) s))
  else followDegraded (sourceTo 1 3 (fun c => { c with failedAt := s.tb.now }) s)

/-- What the journal, the saves, the ring and the retained region lost is marked so before they are taken up (R594, R357). -/
def startFaults (f : StartFacts) (s : State) : State :=
  let mark := fun (ok : Bool) (tok : Bool) (r : SaveRec) => { r with ok := r.ok && ok, tok := r.tok && tok }
  let s := { s with
    car := { s.car with slots := s.car.slots.filter (fun e => !(f.journal.map (·.val)).contains e.1) }
    elec := { s.elec with bufA := s.elec.bufA.map (mark f.elecSaves.1 f.thermSaves.1), bufB := s.elec.bufB.map (mark f.elecSaves.2 f.thermSaves.2) } }
  let s := setRec (fun q => { q with badSlots := (q.badSlots ++ f.ring.map (·.val)).eraseDups }) s
  if f.retained || s.prog.image.isNone then setProg (fun p => { p with mem := p.retained }) s
  else
    let img := progImage s
    let r := retainedOf (directory img) (initialMem img)
    emit 0x0C05 [] (setProg (fun p => { p with mem := r, retained := r }) s)

/-- The active program image is verified; a failed one leaves NO_PROGRAM (R545 step 7). -/
def startProgram (f : StartFacts) (s : State) : State :=
  if s.prog.image.isNone then s
  else if f.program then startMemory 0 s
  else emit Config.badImageEvent.toNat [] (setProg (fun p => { p with image := none, mem := [] }) s)

/-- The instant that ends the span a save did not cover: the hold-up entry that followed it, or RESET_TIME (R272, R559). -/
def spanEnd (s : State) : Option Nat :=
  let t := match s.boot.kind with
    | .powerOn | .holdup => if s.power.holdupEntry = 0 then none else some s.power.holdupEntry
    | .coreUv => s.power.resetTime
    | _ => none
  match t, newest (·.ok) s.elec with
  | some t, some r => if r.cutTime ≤ t then some t else none
  | t, _ => t

/-- The events of a hold-up or a core undervoltage that wait in the VBAT domain (R536, R529). -/
def heldEvents (s : State) : State :=
  let p := s.power
  let s := if p.holdupDue then
      emit 0x0102 [(b2n p.gaspOk : Nat), (p.gasp.1 : Int), (p.gasp.2 : Int), (p.tail : Int)]
        (emit 0x0101 [(p.holdupEntry : Int), (p.holdupMv.1 : Int), (p.holdupMv.2 : Int)] (setPow (fun q => { q with holdupDue := false }) s))
    else s
  if s.boot.kind = .coreUv then emit 0x0107 [(p.uvLow : Int)] (setPow (fun q => { q with resetTime := none }) s) else s

/-- DRAM regions that do not pass their CRC are discarded (R544). -/
def adoptDram (f : StartFacts) (s : State) : State :=
  let s := if f.published then s else { s with solver := { cfg := s.solver.cfg, history := [] } }
  if f.plan then s else { s with opt := { s.opt with plan := none, series := [], solved := false, stalePlan := false } }

/-- Steps 5 to 7: Cellar recovery, keys, and configuration restore (R545). -/
def startRestore (f : StartFacts) (s : State) : State :=
  let s := adoptDram f (startFaults f (defaultRecords f.defaulted s))
  let s := startZone s
  let s := restoreRing (f.vbatKept || s.boot.kind == .pin || s.boot.kind == .coreUv) s
  let s := heldEvents (restoreCaravans (recordLateTamper s))
  let s := if s.sec.tamper == TamperState.none then epochCatchUp (loadKeys s) else s
  let s := { s with solver := { s.solver with spares := f.spares.val } }
  let s := followT1l (startProgram f (restoreMeters (spanEnd s) (restoreAxes s)))
  let s := releaseAlarms (followOrder (followSources 2 s))
  let s := (List.range 4).foldl (fun t b => canStart b t) s
  let s := startGrids s
  let s := swapDue s.zone s
  setBoot (fun b => { b with restored := true }) (mbusFollow s)

/-- Steps 2 to 7 of a start: it ends in a boot failure, or has restored the module (R545, R546). -/
def startUp (f : StartFacts) (s : State) : State :=
  let s := startHardware f (setBoot (fun b => { b with t0 := s.tb.now, held := false }) s)
  if !f.cellar then setBoot (fun b => { b with failure := 4 }) s
  else if !f.dram then setBoot (fun b => { b with failure := 3 }) s
  else match chooseSlot s with
    | .inl c => setBoot (fun b => { b with failure := c }) s
    | .inr (n, fb) => startRestore f (runImage n fb s)

/-- VIN_PRESENT (R517, R545): VIN, in mV, has stayed within 18 V to 32 V for a time in ns; due at 100 ms. From OFF it starts the module;
from a start that has begun it makes its steps. -/
def execVinPresent (dt vin held : Nat) (facts : StartFacts) (s : State) : Host.Outcome State Fault Refusal :=
  let s := advance dt s
  .next (if held < 100000000 ∨ vin < 18000 ∨ 32000 < vin then s
    else
      let s := if s.power.vinOver ∧ !s.power.off then emit 0x0106 [0, 1] s else s
      let s := setPow (fun p => { p with vin := true, vinOver := false }) s
      if s.power.off then startUp facts (powerOn .powerOn s)
      else if !s.boot.restored && !s.boot.held && s.boot.failure == 0 && s.win.power == .active then startUp facts s
      else s)

/-! ### Resets (R542, R558, R529) -/

/-- PIN_RESET (R542, R558): RESET_N has been low for a time in ns; due at 10 µs. -/
def execPinReset (dt held : Nat) (s : State) : Host.Outcome State Fault Refusal :=
  let s := advance dt s
  .next (if held < 10000 then s else requestPin s)

/-- PCIE_PERST (R542): the PCIe endpoint and its MSI configuration are reset. -/
def execPciePerst (dt : Nat) (s : State) : Host.Outcome State Fault Refusal :=
  let s := advance dt s
  .next (if s.power.off || s.win.qspi then s else { s with win := { s.win with msiConfigured := false } })

/-- RESET_RELEASE (R545, R558, R529): the release of a PIN or CORE_UV reset; a PIN reset whose commit has not ended has taken effect 5 ms
after its request. -/
def execResetRelease (dt : Nat) (facts : StartFacts) (s : State) : Host.Outcome State Fault Refusal :=
  let s := advance dt s
  let s := match s.boot.pinAt with
    | none => s
    | some t => if t + 5000000 ≤ s.tb.now then holdReset .pin s else s
  .next (if s.boot.held then startUp facts s else s)

/-- BOOT_FAILURE (R546): a start that has not reached step 4 fails; causes 1 and 2 only where the slots are so. -/
def execBootFailure (dt : Nat) (cause : Fin 5) (s : State) : Host.Outcome State Fault Refusal :=
  let s := advance dt s
  let so := match chooseSlot s with | .inl c => decide (c = cause.val) | .inr _ => decide (3 ≤ cause.val)
  .next (if s.power.off || s.boot.held || s.boot.restored || s.boot.failure != 0 || !so || cause.val == 0 then s
    else setBoot (fun b => { b with failure := cause.val }) s)

/-! ### Role resolution (R553) -/

/-- ROLE_RESOLUTION (R553, R560): step 8; `lock` says that the twin lane shows signal lock. After a KEEPER restart a SINGLE module
resumes as SINGLE. -/
def execRoleResolution (dt : Nat) (lock : Bool) (s : State) : Host.Outcome State Fault Refusal :=
  let s := advance dt s
  let wait := setTwin (fun t => { t with resolve := 2, waitFrom := s.tb.now }) s
  .next (if !keeperUp s || s.win.st != .booting || s.twin.resolve != 0 then s
    else if s.boot.kind == .keeper && s.win.role == .single then becomeSingle s
    else if safeStart s then (if lock then becomeUnpaired s else if s.boot.lastRole != .single then wait else becomeSingle s)
    else if lock then beginHandshake (setTwin (fun t => { t with resolve := 1, waitFrom := s.tb.now }) s)
    else if s.boot.lastRole != .single then wait
    else becomeSingle s)

/-- ROLE_WAIT_TIMEOUT (R553): 5 s of silence give SINGLE. -/
def execRoleWaitTimeout (dt : Nat) (s : State) : Host.Outcome State Fault Refusal :=
  let s := advance dt s
  .next (if keeperUp s && s.twin.resolve == 2 && decide (s.twin.waitFrom + 5000000000 ≤ s.tb.now) then becomeSingle s else s)

/-- UNPAIRED_STANDBY_TIMEOUT (R553, R34, R484): due 5 s after the last ANNOUNCE from node 0x0000, with an uplink up; a module whose tamper
state is not NONE never takes over. -/
def execUnpairedStandbyTimeout (dt : Nat) (cut : Cut) (s : State) : Host.Outcome State Fault Refusal :=
  let s := advance dt s
  .next (if twinUp s && s.twin.unpaired && s.sec.tamper == .none && (portUp 1 s || portUp 2 s) && decide (s.twin.announceHeard + 5000000000 ≤ s.tb.now) then
      takeOver cut (setSec (fun x => { x with twinKeyMissing := false }) s)
    else s)

/-! ### Plant start and READY (R545 steps 9 and 10, R550 to R552, R560) -/

/-- Oasis mode as the Cellar kept it (R552). -/
def restoreOasis (s : State) : State :=
  match s.boot.oasisKept with
  | none => s
  | some (cause, entry) =>
    let phase := if s.zone < entry + fld s.opt.cfg 0x1C 4 * 1000000000 then 1 else 2
    setOasis true { s with opt := { s.opt with oasisCause := cause, oasisEntry := entry, oasisPhase := phase } }

/-- What SAFE_START asks of loops and axes (R551). -/
def safeRequests (s : State) : State :=
  { s with
    loops := { s.loops with slots := s.loops.slots.map (fun e => (e.1, if lGuard e.2.record then e.2 else { e.2 with req := 1, man := some (lSafe e.2.record) })) }
    motion := { s.motion with axes := s.motion.axes.map (fun e => (e.1, { e.2 with req := 1 })) } }

/-- Step 9: the plant starts with the values of R550; a STANDBY enters REPLICA. -/
def startPlant (s : State) : State :=
  let s := setBoot (fun b => { b with plant := true }) (loopsFresh s)
  let s := { s with net := { s.net with uplinkValid := s.tb.now } }
  if s.win.role = .standby then s
  else
    let s := if safeStart s then safeRequests s else s
    let s := resumeCaravans s.boot.timeLost (restoreOasis s)
    let s := if s.prog.req = 2 ∧ s.prog.image.isSome ∧ !safeStart s then runProgram 0 s
      else setProg (fun p => { p with req := 1, cause := 0 }) s
    resolveAll (mbusFollow s)

/-- Step 10: SENDER_EPOCH advances, STATE becomes READY or TAMPERED, and the BOOT event is recorded; FATAL_RESTART after a fatal error
(R237, R80, R545, R562). -/
def reachReady (s : State) : State :=
  let s := { s with net := { s.net with senderEpoch := (s.net.senderEpoch + 1) % 2 ^ 32, seqLow := 0 } }
  let s := setModState (if s.sec.tamper = .none then .ready else .tampered) s
  let s := if s.sys.fatalRestart then
      emit 0x0001 [(s.win.fatalCode.toNat : Int)] (raise 5 { s with sys := { s.sys with fatalRestart := false } })
    else s
  emit 0x0006 [(s.boot.kind.code : Int), (s.boot.straps : Int), (s.win.imageSlot : Int), (((s.tb.now - s.boot.t0) / 1000000 : Nat) : Int)] s

/-- PLANT_START (R545 steps 9 and 10, R550, R560): due 50 ms after the role is resolved; a KEEPER restart makes step 10 only. -/
def execPlantStart (dt : Nat) (s : State) : Host.Outcome State Fault Refusal :=
  let s := advance dt s
  .next (match s.boot.resolvedAt with
    | none => s
    | some t =>
      if !keeperUp s || !awake s || s.win.st != .booting || decide (s.tb.now < t + 50000000) then s
      else reachReady (if s.boot.kind == .keeper then s else startPlant s))

/-! ### Firmware update and trial (R71, R548) -/

/-- FW_VERIFY_COMPLETE (R71 steps 4 to 6): `intact` says that the image read back is the image written. -/
def execFwVerifyComplete (dt : Nat) (intact : Bool) (s : State) : Host.Outcome State Fault Refusal :=
  let s := advance dt s
  .next (match s.sys.fw with
    | none => s
    | some f =>
      match f.commit with
      | none => s
      | some mode =>
        let x := fwSlot f.slot s
        let h := x.header
        if !intact || slice h 0x10 48 != fit 48 (Config.sha384 x.body) then opFail f.entry 0x25 (dropOp f.entry s)
        else
          let s := setBoot (fun b => { b with preferred := f.slot, trial := true }) s
          let s := progressTo f.entry (2 * (256 + f.bodyLength)) s
          let s := opDone f.entry (le 1 f.slot ++ slice h 7 1 ++ slice h 8 2 ++ slice h 0x0A 2 ++ zeros 2 ++ fit 48 (Config.sha384 (imageBytes x))) (dropOp f.entry s)
          if mode = 0 then requestPin s else s)

/-- The running start is on trial: TRIAL is 1 and the straps do not force a slot (R548). -/
def onTrial (s : State) : Bool := s.boot.trial && (forcedSlot s).isNone

/-- TRIAL_TIMEOUT (R548): due 30 s after t0 of a trial that has not been READY, and at the restart of a fatal error in a trial. -/
def execTrialTimeout (dt : Nat) (s : State) : Host.Outcome State Fault Refusal :=
  let s := advance dt s
  let late := s.boot.restored && !s.boot.reached && decide (s.boot.t0 + 30000000000 ≤ s.tb.now)
  let fatal := match s.sys.fatalAt with | none => false | some t => s.sys.fatalCut || decide (t + 60000000 ≤ s.tb.now)
  .next (if !onTrial s || s.power.off || s.boot.held then s
    else if late || fatal then endTrial { s with sys := { s.sys with fatalAt := none } }
    else s)

/-- TRIAL_CONFIRM (R548): due once READY has held for 300 s. -/
def execTrialConfirm (dt : Nat) (s : State) : Host.Outcome State Fault Refusal :=
  let s := advance dt s
  .next (match s.boot.readyAt with
    | none => s
    | some t => if onTrial s && s.win.st == .ready && decide (t + 300000000000 ≤ s.tb.now) then setBoot (fun b => { b with trial := false }) s else s)

/-! ### Fatal errors (R79 to R81, R560) -/

/-- The Attic header after a fatal error: the first code and the count run on while a dump is not cleared (R81). -/
def fatalHeader (dram incomplete : Bool) (code first more : Nat) (s : State) : Bytes :=
  let h := s.sys.atticHeader
  let kept := (s.win.atticValid || s.win.atticIncomplete) && atticWritten s
  atticHeaderBytes dram incomplete code (if kept then fld h 0x0C 4 else first) ((if kept then fld h 0x10 4 else 0) + more) s.zone (identBytes s)

/-- FATAL_ERROR (R79 to R81, R196, R143, R174): STATE becomes FATAL and the resign frame goes out; a second one before the restart cuts
the dump. -/
def execFatalError (dt : Nat) (source : Fin 8) (unit : BitVec 8) (detail : BitVec 16) (s : State) : Host.Outcome State Fault Refusal :=
  let s := advance dt s
  let code := source.val * 2 ^ 24 + unit.toNat * 2 ^ 16 + detail.toNat
  let set := fun (t : State) => { t with win := { t.win with fatalCode := BitVec.ofNat 32 code } }
  .next (if !keeperUp s ∨ source.val = 0 then s
    else if s.sys.fatalAt.isSome then
      let first := s.win.fatalCode.toNat
      let h := fatalHeader false true code first (if s.sys.fatalCut then 1 else 2) s
      let s := set s
      { s with win := { s.win with atticIncomplete := true }, sys := { s.sys with atticHeader := h, dumps := s.sys.dumps + 1, fatalCut := true } }
    else
      let s := raise 10 (setModState .fatal (set s))
      let s := { s with win := { s.win with rung := 0, rungAt := [], rungBy := [] }, sys := { s.sys with fatalAt := some s.tb.now, fatalCut := false } }
      resign (abortAll 7 (abandonReplan (abandonSolve s))))

/-- Step 3 of the fatal error sequence has ended: the summary and the DRAM part are written and ATTIC_VALID is set (R80, R81). -/
def writeDump (s : State) : State :=
  if s.sys.fatalCut then s
  else
    let h := fatalHeader true false s.win.fatalCode.toNat s.win.fatalCode.toNat 1 s
    { s with
      win := { s.win with atticValid := true, atticIncomplete := false }
      sys := { s.sys with atticHeader := h, dumps := s.sys.dumps + 1, atticTrace := s.sys.trace, readoutDone := none } }

/-- What the restart of the Keeper clears and keeps (R80 step 4, R544, R560). -/
def restartKeeper (f : StartFacts) (s : State) : State :=
  let vendor := s.win.debug == .vendor
  let s := endAllTls s
  let s := (s.sys.ops.filter (fun e => e.2.state == 1)).foldl (fun t e => opFail e.1 0x0D (dropOp e.1 t)) s
  let s := { s with win := { s.win with busy := 0, taken := [], rung := 0, rungAt := [], rungBy := [], lastServed := 31 } }
  let s := setSec (fun x => { x with update := none, epochWait := [], challenge := none, notAfter := 0 }) (mbusAbandon (closeDebug s))
  let s := setPow (fun p => { p with measureWait := none }) s
  let s := adoptDram f (defaultRecords f.defaulted s)
  let s := { s with
    solver := { resetSolver true s.solver with cfg := s.solver.cfg, pend := s.solver.pend, lastEpoch := s.solver.lastEpoch, spares := f.spares.val }
    opt := { resetOptimiser true s.opt with
      cfg := s.opt.cfg, pend := s.opt.pend, lastReplan := s.opt.lastReplan, lastStep := s.opt.lastStep, oasisEntry := s.opt.oasisEntry
      oasisCause := s.opt.oasisCause, oasisPhase := s.opt.oasisPhase, heldStep := s.opt.heldStep, reconcileDue := s.opt.reconcileDue
      reconcileId := s.opt.reconcileId, reconcileRun := s.opt.reconcileRun } }
  let s := if vendor then (if s.sec.tamper == TamperState.none then epochCatchUp (loadKeys s) else zeroKeys s) else s
  { s with
    twin := {}
    sys := { s.sys with fatalAt := none, fatalCut := false, fatalRestart := true }
    boot := { s.boot with kind := .keeper, resolvedAt := none, reached := false } }

/-- KEEPER_RESTART (R80 step 4, R560): due 60 ms after the fatal error, or at once where a second one cut the dump; a trial image ends its
trial instead (R548). -/
def execKeeperRestart (dt : Nat) (facts : StartFacts) (s : State) : Host.Outcome State Fault Refusal :=
  let s := advance dt s
  .next (match s.sys.fatalAt with
    | none => s
    | some t =>
      if !keeperUp s || (!s.sys.fatalCut && decide (s.tb.now < t + 60000000)) then s
      else if onTrial s then endTrial (writeDump { s with sys := { s.sys with fatalAt := none } })
      else
        let s := restartKeeper facts (writeDump s)
        match chooseSlot s with
        | .inl c => setBoot (fun b => { b with failure := c, restored := false }) s
        | .inr (n, fb) =>
          setBoot (fun b => { b with t0 := s.tb.now }) (setModState .booting (runImage n fb s)))

end Sys2Proof.Machine
end

