-- ==== Sys2Proof/Machine/Window.lean ====
section
/-! DEFINITION. The host window and its access paths: registers, doorbells, window access records and TLS sessions (R45 to R60). -/

namespace Sys2Proof.Machine
open Sys2Proof

/-! ### Reading the window -/

/-- The word a register of the host control block or the interrupt block reads as; reserved and WO offsets read 0 (R45, R55, R56). -/
def regWord (a : Nat) (s : State) : Nat :=
  let w := s.win
  if a < 0x1000 then
    match a with
    | 0x000 => 0x36535246
    | 0x004 => 1
    | 0x008 => w.stateWord
    | 0x00C => w.hostControl.toNat
    | 0x010 => w.assign.toNat % 2 ^ 32
    | 0x014 => w.assign.toNat / 2 ^ 32
    | 0x018 => w.usbMask.toNat
    | 0x01C => w.tlsMask.toNat
    | 0x020 => w.heartbeat.toNat
    | 0x024 => w.fatalCode.toNat
    | 0x028 => w.accessFault.toNat
    | _ => 0
  else
    let o := a - 0x1000
    if 0x020 ≤ o ∧ o < 0x040 ∧ o % 4 = 0 then w.progressDone.toNat / 2 ^ (8 * (o - 0x020)) % 2 ^ 32
    else if 0x040 ≤ o ∧ o < 0x060 ∧ o % 4 = 0 then w.progressEnable.toNat / 2 ^ (8 * (o - 0x040)) % 2 ^ 32
    else match o with
      | 0x004 => w.busy.toNat
      | 0x008 => w.complete.toNat
      | 0x00C => w.completeEnable.toNat
      | 0x010 => w.eventStatus.toNat
      | 0x014 => w.eventEnable.toNat
      | 0x018 => w.intStatus
      | _ => 0

/-- The 256 bytes of a progress entry (R64). -/
def Progress.bytes (e : Progress) : Bytes :=
  le 4 e.seq ++ le 1 e.state ++ le 1 (pathCode e.path) ++ le 2 e.code ++ le 4 e.tag ++ le 2 e.permille ++ le 2 e.finalStatus ++
    le 4 e.itemsDone ++ le 4 e.itemsTotal ++ le 8 e.start ++ le 8 e.update ++ le 1 e.mailbox ++ zeros 23 ++ fit 192 e.result

/-- A path sees a progress entry: the host port every one, USB and TLS those the same path started (R52). -/
def seesOp (p : Path) (e : Progress) : Bool := p == .host || e.path == p

/-- One byte of the window as a path reads it (R45, R52). -/
def windowByte (p : Path) (s : State) (a : Nat) : Byte :=
  if a < 0x2000 then BitVec.ofNat 8 (regWord (a / 4 * 4) s / 2 ^ (8 * (a % 4)))
  else if 0x10000 ≤ a ∧ a < 0x20000 then
    match tabGet? s.sys.ops ((a - 0x10000) / 256) with
    | none => 0
    | some e => if seesOp p e then e.bytes.getD (a % 256) 0 else 0
  else if 0x80000 ≤ a ∧ a < 0x100000 then Memory.get s.win.mem a
  else 0

/-- `n` bytes of the window. -/
def windowBytes (p : Path) (s : State) (a n : Nat) : Bytes := (List.range n).map (fun i => windowByte p s (a + i))

/-- ACCESS_FAULT is cleared by a read that takes in its word (R14). -/
def clearReadFault (a n : Nat) (s : State) : State :=
  if a < 0x02C ∧ 0x028 < a + n then { s with win := { s.win with accessFault := 0 } } else s

/-! ### Writing registers (R55, R56) -/

/-- HOST_CONTROL takes the bits it has; TLS_ENABLE 0 closes every TLS session, and INT_ENABLE ends INT_N's high impedance (R542). -/
def writeHostControl (v : BitVec 32) (s : State) : State :=
  let s := irq (fun w => { w with hostControl := v &&& 0x301 }) s
  let s := if v.getLsbD 0 then { s with boot := { s.boot with intHiZ := false }, win := { s.win with msiConfigured := true } } else s
  if v.getLsbD 9 then s else endAllTls s

/-- A word of MBOX_ASSIGN is written; it takes effect at once for the mailboxes that are not BUSY (R53). -/
def writeAssign (hi : Bool) (v : BitVec 32) (s : State) : State :=
  let a := if hi then s.win.assign.toNat % 2 ^ 32 + v.toNat * 2 ^ 32 else s.win.assign.toNat / 2 ^ 32 * 2 ^ 32 + v.toNat
  let s := { s with win := { s.win with assign := BitVec.ofNat 64 a } }
  (List.range 32).foldl (fun t k => if t.win.busy.getLsbD k then t else applyAssign k t) s

/-- A path rings a mailbox: discarded while it is BUSY, with RING_WHILE_BUSY, or STATE is FATAL; else held until it is taken (R58, R59). -/
def ring (p : Path) (k : Nat) (s : State) : State :=
  if s.win.st = .fatal then s
  else if s.win.busy.getLsbD k then ringBusy s
  else if s.win.rung.getLsbD k then s
  else hold k p s

/-- A write to DOORBELL rings every mailbox whose bit is 1 (R56). -/
def writeDoorbell (mask : BitVec 32) (s : State) : State :=
  (List.range 32).foldl (fun t k => if mask.getLsbD k then ring .host k t else t) s

/-- A word of a 256-bit register file replaced. -/
def setWord (r : BitVec 256) (i : Nat) (v : BitVec 32) : BitVec 256 :=
  (r &&& ~~~ (BitVec.allOnes 32).zeroExtend 256 <<< (32 * i)) ||| v.zeroExtend 256 <<< (32 * i)

/-- A host write to a register of the interrupt block, by its access code; a reserved offset is refused (R45, R56). -/
def writeIrqBlock (off : Nat) (v : BitVec 32) (s : State) : State :=
  irqWrite id
    (if 0x020 ≤ off ∧ off < 0x040 ∧ off % 4 = 0 then
      { s with win := { s.win with progressDone := s.win.progressDone &&& ~~~ (v.zeroExtend 256 <<< (8 * (off - 0x020))) } }
    else if 0x040 ≤ off ∧ off < 0x060 ∧ off % 4 = 0 then
      { s with win := { s.win with progressEnable := setWord s.win.progressEnable ((off - 0x040) / 4) v } }
    else match off with
      | 0x000 => writeDoorbell v s
      | 0x004 => s
      | 0x008 => { s with win := { s.win with complete := s.win.complete &&& ~~~ v } }
      | 0x00C => { s with win := { s.win with completeEnable := v } }
      | 0x010 => { s with win := { s.win with eventStatus := s.win.eventStatus &&& ~~~ (v &&& 0x7FF) } }
      | 0x014 => { s with win := { s.win with eventEnable := v &&& 0x7FF } }
      | 0x018 => s
      | _ => accessFault .host (0x1000 + off) true s)

/-- A host write of one word to the host control block or the interrupt block (R45, R55, R56). -/
def writeBlockWord (a : Nat) (v : BitVec 32) (s : State) : State :=
  if 0x1000 ≤ a then writeIrqBlock (a - 0x1000) v s
  else match a with
    | 0x00C => writeHostControl v s
    | 0x010 => writeAssign false v s
    | 0x014 => writeAssign true v s
    | 0x018 => { s with win := { s.win with usbMask := v &&& 0x7FFFF } }
    | 0x01C => { s with win := { s.win with tlsMask := v &&& 0x7FFFF } }
    | 0x000 | 0x004 | 0x008 | 0x020 | 0x024 | 0x028 => s
    | _ => accessFault .host a true s

/-- An address of a mailbox's request area that may be written. -/
def writableByte (s : State) (a : Nat) : Bool :=
  decide (0x80000 ≤ a ∧ a < 0x100000 ∧ (a - 0x80000) % 0x4000 < 0x2000) && !s.win.busy.getLsbD ((a - 0x80000) / 0x4000)

/-- The bytes of a write that fall in request areas of mailboxes that are not BUSY are stored; the others are not. -/
def putBytes (a : Nat) : Bytes → State → State
  | [], s => s
  | b :: t, s => putBytes (a + 1) t (if writableByte s a then { s with win := { s.win with mem := Memory.set s.win.mem a b } } else s)

/-- The first address inside the window that a write of `n` bytes may not write. -/
def firstRefused (s : State) (a : Nat) : Nat → Option Nat
  | 0 => none
  | n + 1 => if decide (a < 0x100000) && !writableByte s a then some a else firstRefused s (a + 1) n

/-- A host write of bytes above the two register blocks: request areas of mailboxes that are not BUSY take them; anything else is
discarded and the access recorded at its first refused address, but for addresses beyond the window, which QSPI discards in
silence (R45, R47, R59). -/
def writeBytes (a : Nat) (data : Bytes) (s : State) : State :=
  let t := putBytes a data s
  match firstRefused s a data.length with
  | none => t
  | some x => accessFault .host x true t

/-- The little-endian words of a byte string (R11). -/
def words : Bytes → List (BitVec 32)
  | a :: b :: c :: d :: t => BitVec.ofNat 32 (leNat [a, b, c, d]) :: words t
  | _ => []

/-- Whole aligned words written from an address of a register block on. -/
def writeWords (a : Nat) : List (BitVec 32) → State → State
  | [], s => s
  | v :: t, s => writeWords (a + 4) t (writeBlockWord a v s)

/-- A host-port write of a byte string. The register blocks take only whole aligned words: in PCIe mode anything narrower is
discarded and recorded in ACCESS_FAULT, in QSPI mode discarded with WRITE_ERROR (R46, R48). -/
def hostWrite (a : Nat) (data : Bytes) (s : State) : State :=
  if a < 0x2000 then
    if a % 4 = 0 ∧ data.length % 4 = 0 then writeWords a (words (data.take (0x2000 - a))) s
    else if s.win.qspi then { s with win := { s.win with writeError := true } }
    else accessFault .host a true s
  else writeBytes a data s

/-! ### The commands of the window -/

/-- REGISTER_WRITE (R45): nothing happens while the window is not served. In PCIe mode no address beyond BAR0 reaches the module. -/
def execRegisterWrite (dt addr : Nat) (data : Bytes) (s : State) : Host.Outcome State Fault Refusal :=
  let s := advance dt s
  if !s.win.qspi && decide (0x100000 < addr + data.length) then .fault .outsideWindow
  else .next (if windowUp s then hostWrite addr data s else s)

/-- DOORBELL (R58). -/
def execDoorbell (dt : Nat) (mask : BitVec 32) (s : State) : Host.Outcome State Fault Refusal :=
  let s := advance dt s
  .next (if windowUp s then irqWrite id (writeDoorbell mask s) else s)

/-- HOST_CONTROL (R55). -/
def execHostControl (dt : Nat) (v : BitVec 32) (s : State) : Host.Outcome State Fault Refusal :=
  let s := advance dt s
  .next (if windowUp s then writeHostControl v s else s)

/-- MBOX_ASSIGN (R53). -/
def execMboxAssign (dt : Nat) (hi : Bool) (v : BitVec 32) (s : State) : Host.Outcome State Fault Refusal :=
  let s := advance dt s
  .next (if windowUp s then writeAssign hi v s else s)

/-- INTERRUPT_BLOCK_WRITE (R56). -/
def execInterruptBlockWrite (dt off : Nat) (v : BitVec 32) (s : State) : Host.Outcome State Fault Refusal :=
  let s := advance dt s
  .next (if windowUp s then writeIrqBlock off v s else s)

/-- ACCESS_FAULT (R55): a host-port read returns the word and clears it. -/
def execAccessFault (dt : Nat) (s : State) : Host.Outcome State Fault Refusal :=
  let s := advance dt s
  .next (if windowUp s then clearReadFault 0x028 4 (send (.read s.win.accessFault) s) else s)

/-- READ_TARGET_STATUS (R47): a QSPI opcode; the PCIe endpoint has none. -/
def execReadTargetStatus (dt : Nat) (s : State) : Host.Outcome State Fault Refusal :=
  let s := advance dt s
  let b := b2n (s.win.st == .ready) + bitAt 1 s.win.writeError + bitAt 2 s.win.line
  .next (if windowUp s && s.win.qspi then
    { (send (.status (BitVec.ofNat 8 b)) s) with win := { s.win with writeError := false, qspiHiZ := false } } else s)

/-- QSPI_WORD_CUT (R48): a word cut in the register blocks is discarded with WRITE_ERROR; bytes of a mailbox that were sent stand. -/
def execQspiWordCut (dt addr : Nat) (part : Bytes) (s : State) : Host.Outcome State Fault Refusal :=
  let s := advance dt s
  .next (if windowUp s && s.win.qspi then
    let s := { s with win := { s.win with qspiHiZ := false } }
    if addr < 0x2000 then { s with win := { s.win with writeError := true } } else writeBytes addr part s else s)

/-- The QSPI opcodes the target knows (R47). -/
def qspiKnown (op : BitVec 8) : Bool := op == 0x0B || op == 0x02 || op == 0xEB || op == 0x38 || op == 0x05

/-- QSPI_UNKNOWN_OPCODE (R47): the data lines stay at high impedance until QSPI_CS_N rises, that is until the next transfer. -/
def execQspiUnknownOpcode (dt : Nat) (opcode : BitVec 8) (s : State) : Host.Outcome State Fault Refusal :=
  let s := advance dt s
  .next (if windowUp s && s.win.qspi then { s with win := { s.win with qspiHiZ := !qspiKnown opcode } } else s)

/-! ### Window access records (R49 to R52, R59) -/

/-- After a BAD_RECORD the session is closed, or the USB transfer ended (R51). -/
def badRecord (p : Path) (kind seq : Nat) (s : State) : State :=
  let s := send (.record p kind seq 0 2 []) s
  match p with
  | .tls n => endTls n s
  | _ => s

/-- A record's header is sound for its kind (R50's table). -/
def headSound (h : RecordHead) (kind lo hi : Nat) : Bool :=
  h.kind == kind && decide (lo ≤ h.length ∧ h.length ≤ hi) && h.result == 0 && h.reserved == 0

/-- A path owns a mailbox (R52, R53). -/
def owns (p : Path) (k : Nat) (s : State) : Bool := p != .host && decide (k < 32) && reaches p k s

/-- A byte of the window that a USB or TLS client may read (R45, R52). -/
def readable (p : Path) (s : State) (a : Nat) : Bool :=
  decide (a < 0x2000) || decide (0x10000 ≤ a ∧ a < 0x20000) ||
    (decide (0x80000 ≤ a ∧ a < 0x100000) && owns p ((a - 0x80000) / 0x4000) s)

/-- A byte of the window that a USB or TLS client may write: the request area of a mailbox of its own (R52). -/
def recordWritable (p : Path) (s : State) (a : Nat) : Bool :=
  decide (0x80000 ≤ a ∧ a < 0x100000 ∧ (a - 0x80000) % 0x4000 < 0x2000) && owns p ((a - 0x80000) / 0x4000) s

/-- The addresses of an access. -/
def span (a n : Nat) : List Nat := (List.range n).map (a + ·)

/-- RECORD_READ (R51, R52). -/
def execRecordRead (dt : Nat) (path : Path) (h : RecordHead) (s : State) : Host.Outcome State Fault Refusal :=
  let s := advance dt s
  .next (if !(windowUp s && pathLive path s) then s
    else
      let s := touchTls path s
      if !headSound h 0x01 1 8192 then badRecord path 0x81 h.seq s
      else if !(span h.address h.length).all (readable path s) then
        send (.record path 0x81 h.seq h.address 1 []) (accessFault path h.address false s)
      else clearReadFault h.address h.length
        (send (.record path 0x81 h.seq h.address 0 (windowBytes path s h.address h.length)) s))

/-- RECORD_WRITE (R52, R59). -/
def execRecordWrite (dt : Nat) (path : Path) (h : RecordHead) (data : Bytes) (s : State) : Host.Outcome State Fault Refusal :=
  let s := advance dt s
  .next (if !(windowUp s && pathLive path s) then s
    else
      let s := touchTls path s
      if !headSound h 0x02 1 8192 || data.length != h.length then badRecord path 0x82 h.seq s
      else if !(span h.address h.length).all (recordWritable path s) then
        send (.record path 0x82 h.seq h.address 1 []) (accessFault path h.address true s)
      else match (span h.address h.length).find? (fun a => s.win.busy.getLsbD ((a - 0x80000) / 0x4000)) with
        | some a => send (.record path 0x82 h.seq h.address 3 []) (accessFault path a true s)
        | none => send (.record path 0x82 h.seq h.address 0 [])
            { s with win := { s.win with mem := Memory.write s.win.mem h.address data } })

/-- RECORD_RING (R59). -/
def execRecordRing (dt : Nat) (path : Path) (h : RecordHead) (s : State) : Host.Outcome State Fault Refusal :=
  let s := advance dt s
  .next (if !(windowUp s && pathLive path s) then s
    else
      let s := touchTls path s
      if !headSound h 0x03 0 0 then badRecord path 0x83 h.seq s
      else if !owns path h.address s then
        send (.record path 0x83 h.seq h.address 1 []) (accessFault path (reqAddr h.address) true s)
      else if s.win.busy.getLsbD h.address then send (.record path 0x83 h.seq h.address 3 []) (ringBusy s)
      else send (.record path 0x83 h.seq h.address 0 []) (ring path h.address s))

/-! ### TLS sessions (R50, R53, R69, R476) -/

/-- The lowest TLS mailbox that no session holds (R53). -/
def freeTlsMailbox (s : State) : Option Nat :=
  (List.range 32).find? (fun k => assignOf s.win.effAssign k == 2 && !s.sys.sessions.any (fun e => e.2.mbox == k))

/-- The module's time may be used to judge certificates (R476, last row). -/
def timeTrusted (s : State) : Bool :=
  s.tb.state == 2 || s.tb.state == 3 || (fld s.tb.cfg 0 1 != 0 && !s.rtc.oscStopped)

/-- The alert that ends a handshake, none where the client is accepted (R50, R53, R476). -/
def handshakeAlert (o : TlsOffer) (s : State) : Option String :=
  if !(o.tls13 && o.suite && o.group && o.scheme && o.certificate) || o.resumption then some "handshake_failure"
  else if (tabGet {} s.sec.slots 3).state != 1 then some "handshake_failure"
  else if !o.anchored || !(o.chain.length == 1 || o.chain.length == 2) then some "unknown_ca"
  else if !o.chain.all (·.algorithms) then some "bad_certificate"
  else if !o.intermediate then some "bad_certificate"
  else if !o.usage then some "bad_certificate"
  else if !o.chain.all (fun c => decide (c.notBefore ≤ s.zone ∧ s.zone ≤ c.notAfter)) then some "certificate_expired"
  else if !timeTrusted s then some "certificate_unknown"
  else if (freeTlsMailbox s).isNone then some "internal_error"
  else none

/-- TLS_HANDSHAKE (R50, R53): new sessions are taken only while the Keeper serves, TLS_ENABLE is 1 and STATE is not TAMPERED. -/
def execTlsHandshake (dt : Nat) (offer : TlsOffer) (s : State) : Host.Outcome State Fault Refusal :=
  let s := advance dt s
  .next (if !(serving s && s.win.hostControl.getLsbD 9) || s.win.st == .tampered then s
    else match handshakeAlert offer s with
      | some a => send (.alert a) s
      | none =>
        let k := (freeTlsMailbox s).getD 0
        { s with sys := { s.sys with sessions := tabSet s.sys.sessions s.sys.nextSession { mbox := k, lastRecord := s.tb.now }, nextSession := s.sys.nextSession + 1 } })

/-- TLS_IDLE_TIMEOUT (R50): due 300 s after the session's last record. -/
def execTlsIdleTimeout (dt session : Nat) (s : State) : Host.Outcome State Fault Refusal :=
  let s := advance dt s
  .next (match tabGet? s.sys.sessions session with
    | none => s
    | some e => if e.lastRecord + 300 * 10 ^ 9 ≤ s.tb.now then endTls session s else s)

/-- TLS_SESSION_END (R69). -/
def execTlsSessionEnd (dt session : Nat) (s : State) : Host.Outcome State Fault Refusal := .next (endTls session (advance dt s))

/-- HEARTBEAT_COUNT (R55): due 10 ms after the last count, or after STATE became READY or TAMPERED. -/
def execHeartbeatCount (dt : Nat) (s : State) : Host.Outcome State Fault Refusal :=
  let s := advance dt s
  .next (if serving s && decide (s.win.heartbeatAt + 10000000 ≤ s.tb.now) then
    { s with win := { s.win with heartbeat := s.win.heartbeat + 1, heartbeatAt := s.win.heartbeatAt + 10000000 } } else s)

end Sys2Proof.Machine
end

