-- ==== Sys2Proof/Machine/Mailbox.lean ====
section
/-! DEFINITION. The Ferosh command set as a list, and the Keeper's taking of a rung doorbell (R43, R58, R60). -/

namespace Sys2Proof.Machine
open Sys2Proof

/-- The commands of Buses.lean. -/
def busesCommands : List Command :=
  [cmdCanGetConfig, cmdCanSetConfig, cmdCanSetObjects, cmdCanGetObjects, cmdCanReadObjects, cmdCanSend, cmdCanDetectRate,
    cmdCanRecover, cmdCanGetStatus]

/-- The commands of Caravan.lean. -/
def caravanCommands : List Command :=
  [cmdCaravanStage, cmdCaravanCommit, cmdCaravanAbort, cmdCaravanGetStatus, cmdCaravanReadMembers, cmdCaravanList,
    cmdCaravanGetConfig, cmdCaravanSetConfig]

/-- The commands of Clocks.lean. -/
def clocksCommands : List Command :=
  [cmdClkGetConfig, cmdClkSetConfig, cmdClkGetStatus, cmdClkGetGates, cmdClkSetGate, cmdClkGetOscStart, cmdClkSetOscStart]

/-- The commands of Elec.lean. -/
def elecCommands : List Command :=
  [cmdElecGetConfig, cmdElecSetConfig, cmdElecReadValues, cmdElecReadRegisters, cmdElecGetStatus, cmdElecAcknowledgeLoss]

/-- The commands of Io.lean. -/
def ioCommands : List Command :=
  [cmdIoGetConfig, cmdIoSetConfig, cmdIoGetStatus, cmdIoReadCounters, cmdIoSetOutput, cmdIoClearOutput, cmdIoResetInterlock,
    cmdPanelGetConfig, cmdPanelSetConfig, cmdPanelGetKeys, cmdPanelSetLeds]

/-- The commands of Loops.lean. -/
def loopsCommands : List Command :=
  [cmdLoopGetConfig, cmdLoopSetConfig, cmdLoopSetMode, cmdLoopSetSetpoint, cmdLoopSetOutput, cmdLoopReadStatus]

/-- The commands of Mbus.lean. -/
def mbusCommands : List Command :=
  [cmdMbusGetConfig, cmdMbusSetConfig, cmdMbusReadRecords, cmdMbusGetStatus, cmdMbusTransact]

/-- The commands of Model.lean. -/
def modelCommands : List Command :=
  [cmdModelBeginLoad, cmdModelPutRows, cmdModelCommitLoad, cmdModelGetInfo, cmdModelReadRows]

/-- The commands of Motion.lean. -/
def motionCommands : List Command :=
  [cmdAxisGetConfig, cmdAxisSetConfig, cmdAxisSetMode, cmdAxisMove, cmdAxisHome, cmdAxisClearFault, cmdAxisReadStatus]

/-- The commands of Net.lean. -/
def netCommands : List Command :=
  [cmdNetGetConfig, cmdNetSetConfig, cmdPortGetStatus, cmdPortCableTest, cmdFfpGetCounters, cmdNodeGetStatus]

/-- The commands of Optimiser.lean. -/
def optimiserCommands : List Command :=
  [cmdOptimiserGetConfig, cmdOptimiserSetConfig, cmdOptimiserPutCurves, cmdOptimiserPutSeries, cmdOptimiserGetStatus,
    cmdOptimiserReadPlan, cmdOptimiserReconcile, cmdOptimiserFitStore, cmdOptimiserGetStoreModel]

/-- The commands of Power.lean. -/
def powerCommands (cut : Cut) : List Command :=
  [cmdPowerGetStatus, cmdPowerSetState cut, cmdPowerGetConfig, cmdPowerSetConfig, cmdPowerMeasureHoldup]

/-- The commands of ProgramCmd.lean. -/
def programCmdCommands : List Command :=
  [cmdProgramPutImage, cmdProgramCommitImage, cmdProgramGetInfo, cmdProgramSetMode, cmdProgramStep, cmdProgramGetStatus,
    cmdProgramReadVars, cmdProgramSetForce, cmdProgramReleaseForce, cmdProgramListForces, cmdProgramGetConfig, cmdProgramSetConfig]

/-- The commands of Recorder.lean. -/
def recorderCommands : List Command :=
  [cmdEventRead, cmdEventGetTrigger, cmdEventSetTrigger, cmdEventFire, cmdEventMark, cmdEventGetStatus]

/-- The commands of Security.lean. -/
def securityCommands : List Command :=
  [cmdSecGetStatus, cmdSecGetCertificate, cmdSecAttest, cmdSecListSlots, cmdSecInstallAuthority, cmdSecKeyUpdate, cmdSecEnrolNode,
    cmdSecSetKeyEpoch, cmdSecGetTamperConfig, cmdSecSetTamperConfig, cmdSecRearm, cmdSecGetDebugChallenge, cmdSecOpenDebug,
    cmdSecCloseDebug, cmdSecRaiseMinVersion, cmdSecPutServerChain, cmdSecZeroise, cmdSecSign]

/-- The commands of Solver.lean. -/
def solverCommands : List Command :=
  [cmdSolverGetConfig, cmdSolverSetConfig, cmdSolverGetStatus, cmdSolverReadState, cmdSolverReleaseBinding, cmdSolverWarmStart]

/-- The commands of System.lean. -/
def systemCommands : List Command :=
  [cmdSystemIdentify, cmdSystemGetState, cmdSystemEcho, cmdSystemReleaseOperation, cmdSystemCancelOperation, cmdSystemFirmwareBegin,
    cmdSystemFirmwarePut, cmdSystemFirmwareCommit, cmdSystemFreeRead, cmdSystemFreeWrite, cmdAtticGetHeader, cmdAtticRead,
    cmdAtticGetBlock, cmdAtticClear]

/-- The commands of Therm.lean. -/
def thermCommands : List Command :=
  [cmdThermGetConfig, cmdThermSetConfig, cmdThermReadValues, cmdThermReadRegisters, cmdThermGetStatus, cmdThermReadChannels,
    cmdThermPutGlycol, cmdThermGetGlycol, cmdThermAcknowledgeLoss]

/-- The commands of Time.lean. -/
def timeCommands : List Command :=
  [cmdRtcGetTime, cmdRtcStage, cmdRtcCommit, cmdRtcDiscard, cmdRtcSetAlarm, cmdRtcGetAlarms, cmdTimeGet, cmdTimeGetConfig,
    cmdTimeSetConfig, cmdTimeSet, cmdTimeStep, cmdTimeReadCaptures]

/-- Every command of the Ferosh command set. -/
def allCommands (cut : Cut) : List Command :=
  busesCommands ++ caravanCommands ++ clocksCommands ++ elecCommands ++ ioCommands ++ loopsCommands ++ mbusCommands ++
    modelCommands ++ motionCommands ++ netCommands ++ optimiserCommands ++ powerCommands cut ++ programCmdCommands ++
    recorderCommands ++ securityCommands ++ solverCommands ++ systemCommands ++ thermCommands ++ timeCommands

/-- The command with a code, none where the code is not known (R58 step 4 (a)). -/
def commandOf (cut : Cut) (code : Nat) : Option Command := (allCommands cut).find? (fun c => c.code == code)

/-- The request that waits in a mailbox, as its request area holds it. -/
def waitingHeader (k : Nat) (s : State) : Header := Header.ofBytes (Memory.read s.win.mem (reqAddr k) 32)

/-- The path that rang a mailbox. -/
def ringPath (k : Nat) (s : State) : Path := tabGet .host s.win.rungBy k

/-- A rung mailbox may be taken now: no BARRIER holds it (R77). -/
def takeable (s : State) (k : Nat) : Bool :=
  s.win.rung.getLsbD k && !s.win.busy.getLsbD k && !barrierHeld (ringPath k s) (waitingHeader k s).flags s

/-- The mailbox served next: round robin from the one after the mailbox served last, wrapping from 31 to 0 (R43). -/
def nextMailbox (s : State) : Option Nat :=
  ((List.range 32).map (fun i => (s.win.lastServed + 1 + i) % 32)).find? (takeable s)

/-- A take later than 2 ms after its doorbell in ACTIVE or QUIET while STATE is READY is counted and reported (R39, R60). The time runs
from READY for a doorbell held in BOOTING; a request that its own BARRIER may have held is not counted (log 33). -/
def countLate (k : Nat) (s : State) : State :=
  let due := s.win.st == .ready && (s.win.power == .active || s.win.power == .quiet) && !bit (waitingHeader k s).flags 0
  let from_ := max (tabGet s.tb.now s.win.rungAt k) (s.boot.readyAt.getD 0)
  if due && decide (from_ + 2000000 < s.tb.now) then
    yieldRow 7 16 128 { s with win := { s.win with lateTakes := (s.win.lateTakes + 1) % 2 ^ 32 } }
  else s

/-- MAILBOX_TAKE (R43, R58). -/
def execMailboxTake (dt : Nat) (cut : Cut) (s : State) : Host.Outcome State Fault Refusal :=
  let s := advance dt s
  .next (if !serving s then s
    else match nextMailbox s with
      | none => s
      | some k =>
        let h := waitingHeader k s
        serve (commandOf cut h.code) k (ringPath k s) h (Memory.read s.win.mem (reqAddr k + 32) (min h.length 8160)) (countLate k s))

end Sys2Proof.Machine
end

