-- ==== Sys2Proof/Machine/Dispatch.lean ====
section
/-! DEFINITION. Which meaning each command has: one arm per constructor. -/

namespace Sys2Proof.Machine
open Sys2Proof

/-- The effect of a command on everything but the queue. -/
def exec (i : Instr) (s : State) : Host.Outcome State Fault Refusal :=
  match i with
  | .registerWrite dt addr data => Sys2Proof.Machine.execRegisterWrite dt addr data s
  | .doorbell dt mask => Sys2Proof.Machine.execDoorbell dt mask s
  | .hostControl dt v => Sys2Proof.Machine.execHostControl dt v s
  | .mboxAssign dt hi v => Sys2Proof.Machine.execMboxAssign dt hi v s
  | .interruptBlockWrite dt off v => Sys2Proof.Machine.execInterruptBlockWrite dt off v s
  | .accessFault dt => Sys2Proof.Machine.execAccessFault dt s
  | .readTargetStatus dt => Sys2Proof.Machine.execReadTargetStatus dt s
  | .qspiWordCut dt addr part => Sys2Proof.Machine.execQspiWordCut dt addr part s
  | .qspiUnknownOpcode dt opcode => Sys2Proof.Machine.execQspiUnknownOpcode dt opcode s
  | .recordRead dt path h => Sys2Proof.Machine.execRecordRead dt path h s
  | .recordWrite dt path h data => Sys2Proof.Machine.execRecordWrite dt path h data s
  | .recordRing dt path h => Sys2Proof.Machine.execRecordRing dt path h s
  | .mailboxTake dt cut => Sys2Proof.Machine.execMailboxTake dt cut s
  | .tlsHandshake dt offer => Sys2Proof.Machine.execTlsHandshake dt offer s
  | .tlsIdleTimeout dt session => Sys2Proof.Machine.execTlsIdleTimeout dt session s
  | .usbAttach dt cc2 held => Sys2Proof.Machine.execUsbAttach dt cc2 held s
  | .usbDetach dt held => Sys2Proof.Machine.execUsbDetach dt held s
  | .usbStable dt => Sys2Proof.Machine.execUsbStable dt s
  | .systemIdentify dt r => Sys2Proof.Machine.execSystemIdentify dt r s
  | .systemGetState dt r => Sys2Proof.Machine.execSystemGetState dt r s
  | .systemEcho dt r => Sys2Proof.Machine.execSystemEcho dt r s
  | .systemReleaseOperation dt r => Sys2Proof.Machine.execSystemReleaseOperation dt r s
  | .systemCancelOperation dt r => Sys2Proof.Machine.execSystemCancelOperation dt r s
  | .systemFirmwareBegin dt r => Sys2Proof.Machine.execSystemFirmwareBegin dt r s
  | .systemFirmwarePut dt r => Sys2Proof.Machine.execSystemFirmwarePut dt r s
  | .systemFirmwareCommit dt r => Sys2Proof.Machine.execSystemFirmwareCommit dt r s
  | .fwVerifyComplete dt intact => Sys2Proof.Machine.execFwVerifyComplete dt intact s
  | .fwTimeout dt => Sys2Proof.Machine.execFwTimeout dt s
  | .systemFreeRead dt r => Sys2Proof.Machine.execSystemFreeRead dt r s
  | .systemFreeWrite dt r => Sys2Proof.Machine.execSystemFreeWrite dt r s
  | .fatalError dt source unit detail => Sys2Proof.Machine.execFatalError dt source unit detail s
  | .keeperRestart dt facts => Sys2Proof.Machine.execKeeperRestart dt facts s
  | .resignRelease dt => Sys2Proof.Machine.execResignRelease dt s
  | .atticGetHeader dt r => Sys2Proof.Machine.execAtticGetHeader dt r s
  | .atticRead dt r => Sys2Proof.Machine.execAtticRead dt r s
  | .atticReadoutComplete dt bad => Sys2Proof.Machine.execAtticReadoutComplete dt bad s
  | .atticGetBlock dt r => Sys2Proof.Machine.execAtticGetBlock dt r s
  | .atticClear dt r => Sys2Proof.Machine.execAtticClear dt r s
  | .modelBeginLoad dt r => Sys2Proof.Machine.execModelBeginLoad dt r s
  | .modelPutRows dt r => Sys2Proof.Machine.execModelPutRows dt r s
  | .modelCommitLoad dt r => Sys2Proof.Machine.execModelCommitLoad dt r s
  | .modelValidationComplete dt => Sys2Proof.Machine.execModelValidationComplete dt s
  | .loadTimeout dt => Sys2Proof.Machine.execLoadTimeout dt s
  | .modelGetInfo dt r => Sys2Proof.Machine.execModelGetInfo dt r s
  | .modelReadRows dt r => Sys2Proof.Machine.execModelReadRows dt r s
  | .epochInstant dt => Sys2Proof.Machine.execEpochInstant dt s
  | .estimationDeadline dt => Sys2Proof.Machine.execEstimationDeadline dt s
  | .newtonDeadline dt => Sys2Proof.Machine.execNewtonDeadline dt s
  | .solveComplete dt result => Sys2Proof.Machine.execSolveComplete dt result s
  | .scratchUncorrectable dt inSolve => Sys2Proof.Machine.execScratchUncorrectable dt inSolve s
  | .quarantineExpiry dt binding => Sys2Proof.Machine.execQuarantineExpiry dt binding s
  | .solverGetConfig dt r => Sys2Proof.Machine.execSolverGetConfig dt r s
  | .solverSetConfig dt r => Sys2Proof.Machine.execSolverSetConfig dt r s
  | .solverGetStatus dt r => Sys2Proof.Machine.execSolverGetStatus dt r s
  | .solverReadState dt r => Sys2Proof.Machine.execSolverReadState dt r s
  | .solverReleaseBinding dt r => Sys2Proof.Machine.execSolverReleaseBinding dt r s
  | .solverWarmStart dt r => Sys2Proof.Machine.execSolverWarmStart dt r s
  | .warmStartComplete dt result => Sys2Proof.Machine.execWarmStartComplete dt result s
  | .replanInstant dt => Sys2Proof.Machine.execReplanInstant dt s
  | .replanDeadline dt result => Sys2Proof.Machine.execReplanDeadline dt result s
  | .replanComplete dt result => Sys2Proof.Machine.execReplanComplete dt result s
  | .stepBoundary dt => Sys2Proof.Machine.execStepBoundary dt s
  | .planAgeLimit dt => Sys2Proof.Machine.execPlanAgeLimit dt s
  | .uplinkLoss dt => Sys2Proof.Machine.execUplinkLoss dt s
  | .oasisHoldEnd dt => Sys2Proof.Machine.execOasisHoldEnd dt s
  | .storeFitComplete dt result => Sys2Proof.Machine.execStoreFitComplete dt result s
  | .optimiserGetConfig dt r => Sys2Proof.Machine.execOptimiserGetConfig dt r s
  | .optimiserSetConfig dt r => Sys2Proof.Machine.execOptimiserSetConfig dt r s
  | .optimiserPutCurves dt r => Sys2Proof.Machine.execOptimiserPutCurves dt r s
  | .optimiserPutSeries dt r => Sys2Proof.Machine.execOptimiserPutSeries dt r s
  | .optimiserGetStatus dt r => Sys2Proof.Machine.execOptimiserGetStatus dt r s
  | .optimiserReadPlan dt r => Sys2Proof.Machine.execOptimiserReadPlan dt r s
  | .optimiserReconcile dt r => Sys2Proof.Machine.execOptimiserReconcile dt r s
  | .optimiserFitStore dt r => Sys2Proof.Machine.execOptimiserFitStore dt r s
  | .optimiserGetStoreModel dt r => Sys2Proof.Machine.execOptimiserGetStoreModel dt r s
  | .caravanStage dt r => Sys2Proof.Machine.execCaravanStage dt r s
  | .caravanCommit dt r => Sys2Proof.Machine.execCaravanCommit dt r s
  | .caravanAbort dt r => Sys2Proof.Machine.execCaravanAbort dt r s
  | .caravanGetStatus dt r => Sys2Proof.Machine.execCaravanGetStatus dt r s
  | .caravanReadMembers dt r => Sys2Proof.Machine.execCaravanReadMembers dt r s
  | .caravanList dt r => Sys2Proof.Machine.execCaravanList dt r s
  | .caravanGetConfig dt r => Sys2Proof.Machine.execCaravanGetConfig dt r s
  | .caravanSetConfig dt r => Sys2Proof.Machine.execCaravanSetConfig dt r s
  | .caravanAck dt frame => Sys2Proof.Machine.execCaravanAck dt frame s
  | .decisionDurable dt caravan => Sys2Proof.Machine.execDecisionDurable dt caravan s
  | .decisionAck dt frame => Sys2Proof.Machine.execDecisionAck dt frame s
  | .report dt frame => Sys2Proof.Machine.execReport dt frame s
  | .query dt frame => Sys2Proof.Machine.execQuery dt frame s
  | .caravanRetry dt caravan => Sys2Proof.Machine.execCaravanRetry dt caravan s
  | .stageDeadline dt caravan => Sys2Proof.Machine.execStageDeadline dt caravan s
  | .activationInstant dt => Sys2Proof.Machine.execActivationInstant dt s
  | .confirmWindowEnd dt caravan => Sys2Proof.Machine.execConfirmWindowEnd dt caravan s
  | .orphanInstant dt caravan => Sys2Proof.Machine.execOrphanInstant dt caravan s
  | .telemetry dt frame => Sys2Proof.Machine.execTelemetry dt frame s
  | .writeAck dt frame => Sys2Proof.Machine.execWriteAck dt frame s
  | .writeRetry dt writeId => Sys2Proof.Machine.execWriteRetry dt writeId s
  | .nak dt frame => Sys2Proof.Machine.execNak dt frame s
  | .announceTimer dt => Sys2Proof.Machine.execAnnounceTimer dt s
  | .announce dt frame => Sys2Proof.Machine.execAnnounce dt frame s
  | .nodeSilence dt node => Sys2Proof.Machine.execNodeSilence dt node s
  | .prpSupervision dt => Sys2Proof.Machine.execPrpSupervision dt s
  | .sync dt uplink domain t1 => Sys2Proof.Machine.execSync dt uplink domain t1 s
  | .syncTimeout dt announce => Sys2Proof.Machine.execSyncTimeout dt announce s
  | .holdoverLimit dt => Sys2Proof.Machine.execHoldoverLimit dt s
  | .t1lSyncTransmit dt => Sys2Proof.Machine.execT1lSyncTransmit dt s
  | .ppsInEdge dt => Sys2Proof.Machine.execPpsInEdge dt s
  | .ppsOutEdge dt => Sys2Proof.Machine.execPpsOutEdge dt s
  | .netGetConfig dt r => Sys2Proof.Machine.execNetGetConfig dt r s
  | .netSetConfig dt r => Sys2Proof.Machine.execNetSetConfig dt r s
  | .portGetStatus dt r => Sys2Proof.Machine.execPortGetStatus dt r s
  | .portCableTest dt r => Sys2Proof.Machine.execPortCableTest dt r s
  | .ffpGetCounters dt r => Sys2Proof.Machine.execFfpGetCounters dt r s
  | .nodeGetStatus dt r => Sys2Proof.Machine.execNodeGetStatus dt r s
  | .timeGet dt r => Sys2Proof.Machine.execTimeGet dt r s
  | .timeGetConfig dt r => Sys2Proof.Machine.execTimeGetConfig dt r s
  | .timeSetConfig dt r => Sys2Proof.Machine.execTimeSetConfig dt r s
  | .timeSet dt r => Sys2Proof.Machine.execTimeSet dt r s
  | .timeStep dt r => Sys2Proof.Machine.execTimeStep dt r s
  | .timeReadCaptures dt r => Sys2Proof.Machine.execTimeReadCaptures dt r s
  | .twinHeartbeatTimer dt => Sys2Proof.Machine.execTwinHeartbeatTimer dt s
  | .heartbeat dt head data => Sys2Proof.Machine.execHeartbeat dt head data s
  | .twinSilence dt => Sys2Proof.Machine.execTwinSilence dt s
  | .resign dt head => Sys2Proof.Machine.execResign dt head s
  | .takeover dt cut => Sys2Proof.Machine.execTakeover dt cut s
  | .twinAck dt head data => Sys2Proof.Machine.execTwinAck dt head data s
  | .twinAckTimeout dt => Sys2Proof.Machine.execTwinAckTimeout dt s
  | .journal dt head data => Sys2Proof.Machine.execJournal dt head data s
  | .energy dt head data => Sys2Proof.Machine.execEnergy dt head data s
  | .retained dt head data => Sys2Proof.Machine.execRetained dt head data s
  | .plan dt head data => Sys2Proof.Machine.execPlan dt head data s
  | .modelState dt head data => Sys2Proof.Machine.execModelState dt head data s
  | .modelTables dt head data => Sys2Proof.Machine.execModelTables dt head data s
  | .keyEpoch dt head data => Sys2Proof.Machine.execKeyEpoch dt head data s
  | .hello dt data => Sys2Proof.Machine.execHello dt data s
  | .helloTimer dt => Sys2Proof.Machine.execHelloTimer dt s
  | .helloReply dt data => Sys2Proof.Machine.execHelloReply dt data s
  | .helloConfirm dt head data => Sys2Proof.Machine.execHelloConfirm dt head data s
  | .twinRetry dt => Sys2Proof.Machine.execTwinRetry dt s
  | .lineCycleEnd dt feed data cut => Sys2Proof.Machine.execLineCycleEnd dt feed data cut s
  | .zcTimeout dt channel => Sys2Proof.Machine.execZcTimeout dt channel s
  | .timerCycleEnd dt feed data cut => Sys2Proof.Machine.execTimerCycleEnd dt feed data cut s
  | .periodicSave dt cut => Sys2Proof.Machine.execPeriodicSave dt cut s
  | .thermalStep dt data cut => Sys2Proof.Machine.execThermalStep dt data cut s
  | .flowPulse dt input width => Sys2Proof.Machine.execFlowPulse dt input width s
  | .busReading dt input value => Sys2Proof.Machine.execBusReading dt input value s
  | .busTimeout dt input => Sys2Proof.Machine.execBusTimeout dt input s
  | .elecGetConfig dt r => Sys2Proof.Machine.execElecGetConfig dt r s
  | .elecSetConfig dt r => Sys2Proof.Machine.execElecSetConfig dt r s
  | .elecReadValues dt r => Sys2Proof.Machine.execElecReadValues dt r s
  | .elecReadRegisters dt r => Sys2Proof.Machine.execElecReadRegisters dt r s
  | .elecGetStatus dt r => Sys2Proof.Machine.execElecGetStatus dt r s
  | .elecAcknowledgeLoss dt r => Sys2Proof.Machine.execElecAcknowledgeLoss dt r s
  | .thermGetConfig dt r => Sys2Proof.Machine.execThermGetConfig dt r s
  | .thermSetConfig dt r => Sys2Proof.Machine.execThermSetConfig dt r s
  | .thermReadValues dt r => Sys2Proof.Machine.execThermReadValues dt r s
  | .thermReadRegisters dt r => Sys2Proof.Machine.execThermReadRegisters dt r s
  | .thermGetStatus dt r => Sys2Proof.Machine.execThermGetStatus dt r s
  | .thermReadChannels dt r => Sys2Proof.Machine.execThermReadChannels dt r s
  | .thermPutGlycol dt r => Sys2Proof.Machine.execThermPutGlycol dt r s
  | .thermGetGlycol dt r => Sys2Proof.Machine.execThermGetGlycol dt r s
  | .thermAcknowledgeLoss dt r => Sys2Proof.Machine.execThermAcknowledgeLoss dt r s
  | .loopSample dt => Sys2Proof.Machine.execLoopSample dt s
  | .loopGetConfig dt r => Sys2Proof.Machine.execLoopGetConfig dt r s
  | .loopSetConfig dt r => Sys2Proof.Machine.execLoopSetConfig dt r s
  | .loopSetMode dt r => Sys2Proof.Machine.execLoopSetMode dt r s
  | .loopSetSetpoint dt r => Sys2Proof.Machine.execLoopSetSetpoint dt r s
  | .loopSetOutput dt r => Sys2Proof.Machine.execLoopSetOutput dt r s
  | .loopReadStatus dt r => Sys2Proof.Machine.execLoopReadStatus dt r s
  | .loopReplicationTimer dt => Sys2Proof.Machine.execLoopReplicationTimer dt s
  | .taskInput dt task => Sys2Proof.Machine.execTaskInput dt task s
  | .taskExecutionEnd dt task fx => Sys2Proof.Machine.execTaskExecutionEnd dt task fx s
  | .taskOutput dt task => Sys2Proof.Machine.execTaskOutput dt task s
  | .taskWatchdog dt task => Sys2Proof.Machine.execTaskWatchdog dt task s
  | .teEvent dt index caravan => Sys2Proof.Machine.execTeEvent dt index caravan s
  | .trap dt task code inst off => Sys2Proof.Machine.execTrap dt task code inst off s
  | .hwTimer dt timer => Sys2Proof.Machine.execHwTimer dt timer s
  | .holdLimit dt => Sys2Proof.Machine.execHoldLimit dt s
  | .changeSwitch dt => Sys2Proof.Machine.execChangeSwitch dt s
  | .changeTimeout dt => Sys2Proof.Machine.execChangeTimeout dt s
  | .retainedRecordDurable dt => Sys2Proof.Machine.execRetainedRecordDurable dt s
  | .programPutImage dt r => Sys2Proof.Machine.execProgramPutImage dt r s
  | .programCommitImage dt r => Sys2Proof.Machine.execProgramCommitImage dt r s
  | .programGetInfo dt r => Sys2Proof.Machine.execProgramGetInfo dt r s
  | .programSetMode dt r => Sys2Proof.Machine.execProgramSetMode dt r s
  | .programStep dt r => Sys2Proof.Machine.execProgramStep dt r s
  | .programGetStatus dt r => Sys2Proof.Machine.execProgramGetStatus dt r s
  | .programReadVars dt r => Sys2Proof.Machine.execProgramReadVars dt r s
  | .programSetForce dt r => Sys2Proof.Machine.execProgramSetForce dt r s
  | .programReleaseForce dt r => Sys2Proof.Machine.execProgramReleaseForce dt r s
  | .programListForces dt r => Sys2Proof.Machine.execProgramListForces dt r s
  | .programGetConfig dt r => Sys2Proof.Machine.execProgramGetConfig dt r s
  | .programSetConfig dt r => Sys2Proof.Machine.execProgramSetConfig dt r s
  | .axisMotionEnd dt ax => Sys2Proof.Machine.execAxisMotionEnd dt ax s
  | .stallCheck dt samples => Sys2Proof.Machine.execStallCheck dt samples s
  | .encError dt ax what => Sys2Proof.Machine.execEncError dt ax what s
  | .limitSwitch dt ax high => Sys2Proof.Machine.execLimitSwitch dt ax high s
  | .driverFault dt ax fault present => Sys2Proof.Machine.execDriverFault dt ax fault present s
  | .holdDelay dt ax => Sys2Proof.Machine.execHoldDelay dt ax s
  | .standstillRecord dt ax => Sys2Proof.Machine.execStandstillRecord dt ax s
  | .axisGetConfig dt r => Sys2Proof.Machine.execAxisGetConfig dt r s
  | .axisSetConfig dt r => Sys2Proof.Machine.execAxisSetConfig dt r s
  | .axisSetMode dt r => Sys2Proof.Machine.execAxisSetMode dt r s
  | .axisMove dt r => Sys2Proof.Machine.execAxisMove dt r s
  | .axisHome dt r => Sys2Proof.Machine.execAxisHome dt r s
  | .axisClearFault dt r => Sys2Proof.Machine.execAxisClearFault dt r s
  | .axisReadStatus dt r => Sys2Proof.Machine.execAxisReadStatus dt r s
  | .canFrameReceived dt bus frame sof reading => Sys2Proof.Machine.execCanFrameReceived dt bus frame sof reading s
  | .canFrameTransmitted dt bus ev => Sys2Proof.Machine.execCanFrameTransmitted dt bus ev s
  | .canPeriodicSend dt => Sys2Proof.Machine.execCanPeriodicSend dt s
  | .busOff dt bus => Sys2Proof.Machine.execBusOff dt bus s
  | .busOffRecovery dt bus => Sys2Proof.Machine.execBusOffRecovery dt bus s
  | .canTransceiverFault dt bus fault present => Sys2Proof.Machine.execCanTransceiverFault dt bus fault present s
  | .detectDwell dt bus => Sys2Proof.Machine.execDetectDwell dt bus s
  | .detectTimeout dt bus => Sys2Proof.Machine.execDetectTimeout dt bus s
  | .mbusCycleInstant dt => Sys2Proof.Machine.execMbusCycleInstant dt s
  | .mbusReply dt reply => Sys2Proof.Machine.execMbusReply dt reply s
  | .mbusReplyTimeout dt => Sys2Proof.Machine.execMbusReplyTimeout dt s
  | .mbusOvercurrent dt ma => Sys2Proof.Machine.execMbusOvercurrent dt ma s
  | .mbusPowerRetry dt => Sys2Proof.Machine.execMbusPowerRetry dt s
  | .canGetConfig dt r => Sys2Proof.Machine.execCanGetConfig dt r s
  | .canSetConfig dt r => Sys2Proof.Machine.execCanSetConfig dt r s
  | .canSetObjects dt r => Sys2Proof.Machine.execCanSetObjects dt r s
  | .canGetObjects dt r => Sys2Proof.Machine.execCanGetObjects dt r s
  | .canReadObjects dt r => Sys2Proof.Machine.execCanReadObjects dt r s
  | .canSend dt r => Sys2Proof.Machine.execCanSend dt r s
  | .canDetectRate dt r => Sys2Proof.Machine.execCanDetectRate dt r s
  | .canRecover dt r => Sys2Proof.Machine.execCanRecover dt r s
  | .canGetStatus dt r => Sys2Proof.Machine.execCanGetStatus dt r s
  | .mbusGetConfig dt r => Sys2Proof.Machine.execMbusGetConfig dt r s
  | .mbusSetConfig dt r => Sys2Proof.Machine.execMbusSetConfig dt r s
  | .mbusReadRecords dt r => Sys2Proof.Machine.execMbusReadRecords dt r s
  | .mbusGetStatus dt r => Sys2Proof.Machine.execMbusGetStatus dt r s
  | .mbusTransact dt r => Sys2Proof.Machine.execMbusTransact dt r s
  | .diLevelAccepted dt input mv vdo held => Sys2Proof.Machine.execDiLevelAccepted dt input mv vdo held s
  | .diOutOfBand dt input mv vdo held => Sys2Proof.Machine.execDiOutOfBand dt input mv vdo held s
  | .diStuck dt input => Sys2Proof.Machine.execDiStuck dt input s
  | .chatterWindowEnd dt input => Sys2Proof.Machine.execChatterWindowEnd dt input s
  | .ainWindow dt input mean moved => Sys2Proof.Machine.execAinWindow dt input mean moved s
  | .doOverload dt output hot => Sys2Proof.Machine.execDoOverload dt output hot s
  | .doRetry dt output => Sys2Proof.Machine.execDoRetry dt output s
  | .doOpenTest dt output current before during => Sys2Proof.Machine.execDoOpenTest dt output current before during s
  | .aoutFault dt output current pad held => Sys2Proof.Machine.execAoutFault dt output current pad held s
  | .blockRemovalWindow dt blk => Sys2Proof.Machine.execBlockRemovalWindow dt blk s
  | .blockReinsert dt blk => Sys2Proof.Machine.execBlockReinsert dt blk s
  | .keyMeasurement dt signals => Sys2Proof.Machine.execKeyMeasurement dt signals s
  | .ioGetConfig dt r => Sys2Proof.Machine.execIoGetConfig dt r s
  | .ioSetConfig dt r => Sys2Proof.Machine.execIoSetConfig dt r s
  | .ioGetStatus dt r => Sys2Proof.Machine.execIoGetStatus dt r s
  | .ioReadCounters dt r => Sys2Proof.Machine.execIoReadCounters dt r s
  | .ioSetOutput dt r => Sys2Proof.Machine.execIoSetOutput dt r s
  | .ioClearOutput dt r => Sys2Proof.Machine.execIoClearOutput dt r s
  | .ioResetInterlock dt r => Sys2Proof.Machine.execIoResetInterlock dt r s
  | .panelGetConfig dt r => Sys2Proof.Machine.execPanelGetConfig dt r s
  | .panelSetConfig dt r => Sys2Proof.Machine.execPanelSetConfig dt r s
  | .panelGetKeys dt r => Sys2Proof.Machine.execPanelGetKeys dt r s
  | .panelSetLeds dt r => Sys2Proof.Machine.execPanelSetLeds dt r s
  | .rtcSync dt => Sys2Proof.Machine.execRtcSync dt s
  | .calUpdate dt error => Sys2Proof.Machine.execCalUpdate dt error s
  | .alarm dt index => Sys2Proof.Machine.execAlarm dt index s
  | .periodicWake dt => Sys2Proof.Machine.execPeriodicWake dt s
  | .leap dt => Sys2Proof.Machine.execLeap dt s
  | .oscStopped dt => Sys2Proof.Machine.execOscStopped dt s
  | .vbatLow dt low => Sys2Proof.Machine.execVbatLow dt low s
  | .freezeTimeout dt => Sys2Proof.Machine.execFreezeTimeout dt s
  | .rtcGetTime dt r => Sys2Proof.Machine.execRtcGetTime dt r s
  | .rtcStage dt r => Sys2Proof.Machine.execRtcStage dt r s
  | .rtcCommit dt r => Sys2Proof.Machine.execRtcCommit dt r s
  | .rtcDiscard dt r => Sys2Proof.Machine.execRtcDiscard dt r s
  | .rtcSetAlarm dt r => Sys2Proof.Machine.execRtcSetAlarm dt r s
  | .rtcGetAlarms dt r => Sys2Proof.Machine.execRtcGetAlarms dt r s
  | .recorderTick dt => Sys2Proof.Machine.execRecorderTick dt s
  | .ringWrite dt => Sys2Proof.Machine.execRingWrite dt s
  | .eventRead dt r => Sys2Proof.Machine.execEventRead dt r s
  | .eventGetTrigger dt r => Sys2Proof.Machine.execEventGetTrigger dt r s
  | .eventSetTrigger dt r => Sys2Proof.Machine.execEventSetTrigger dt r s
  | .eventFire dt r => Sys2Proof.Machine.execEventFire dt r s
  | .eventMark dt r => Sys2Proof.Machine.execEventMark dt r s
  | .eventGetStatus dt r => Sys2Proof.Machine.execEventGetStatus dt r s
  | .tamperDetected dt source => Sys2Proof.Machine.execTamperDetected dt source s
  | .tamperSourceClear dt source => Sys2Proof.Machine.execTamperSourceClear dt source s
  | .keyUpdateCommit dt => Sys2Proof.Machine.execKeyUpdateCommit dt s
  | .keyEpochSwitch dt => Sys2Proof.Machine.execKeyEpochSwitch dt s
  | .overlapEnd dt => Sys2Proof.Machine.execOverlapEnd dt s
  | .debugExpiry dt => Sys2Proof.Machine.execDebugExpiry dt s
  | .secGetStatus dt r => Sys2Proof.Machine.execSecGetStatus dt r s
  | .secGetCertificate dt r => Sys2Proof.Machine.execSecGetCertificate dt r s
  | .secAttest dt r => Sys2Proof.Machine.execSecAttest dt r s
  | .secListSlots dt r => Sys2Proof.Machine.execSecListSlots dt r s
  | .secInstallAuthority dt r => Sys2Proof.Machine.execSecInstallAuthority dt r s
  | .secKeyUpdate dt r => Sys2Proof.Machine.execSecKeyUpdate dt r s
  | .secEnrolNode dt r => Sys2Proof.Machine.execSecEnrolNode dt r s
  | .secSetKeyEpoch dt r => Sys2Proof.Machine.execSecSetKeyEpoch dt r s
  | .secGetTamperConfig dt r => Sys2Proof.Machine.execSecGetTamperConfig dt r s
  | .secSetTamperConfig dt r => Sys2Proof.Machine.execSecSetTamperConfig dt r s
  | .secRearm dt r => Sys2Proof.Machine.execSecRearm dt r s
  | .secGetDebugChallenge dt r => Sys2Proof.Machine.execSecGetDebugChallenge dt r s
  | .secOpenDebug dt r => Sys2Proof.Machine.execSecOpenDebug dt r s
  | .secCloseDebug dt r => Sys2Proof.Machine.execSecCloseDebug dt r s
  | .secRaiseMinVersion dt r => Sys2Proof.Machine.execSecRaiseMinVersion dt r s
  | .secPutServerChain dt r => Sys2Proof.Machine.execSecPutServerChain dt r s
  | .secZeroise dt r => Sys2Proof.Machine.execSecZeroise dt r s
  | .secSign dt r => Sys2Proof.Machine.execSecSign dt r s
  | .sourceQualified dt source offset stopped => Sys2Proof.Machine.execSourceQualified dt source offset stopped s
  | .sourceTrip dt source trip => Sys2Proof.Machine.execSourceTrip dt source trip s
  | .qualificationLimit dt => Sys2Proof.Machine.execQualificationLimit dt s
  | .sourceRetry dt => Sys2Proof.Machine.execSourceRetry dt s
  | .wtrRevert dt => Sys2Proof.Machine.execWtrRevert dt s
  | .pllLocked dt => Sys2Proof.Machine.execPllLocked dt s
  | .clkGetConfig dt r => Sys2Proof.Machine.execClkGetConfig dt r s
  | .clkSetConfig dt r => Sys2Proof.Machine.execClkSetConfig dt r s
  | .clkGetStatus dt r => Sys2Proof.Machine.execClkGetStatus dt r s
  | .clkGetGates dt r => Sys2Proof.Machine.execClkGetGates dt r s
  | .clkSetGate dt r => Sys2Proof.Machine.execClkSetGate dt r s
  | .clkGetOscStart dt r => Sys2Proof.Machine.execClkGetOscStart dt r s
  | .clkSetOscStart dt r => Sys2Proof.Machine.execClkSetOscStart dt r s
  | .vinLow dt vin hold held => Sys2Proof.Machine.execVinLow dt vin hold held s
  | .vinOvervoltage dt vin => Sys2Proof.Machine.execVinOvervoltage dt vin s
  | .vinPresent dt vin held facts => Sys2Proof.Machine.execVinPresent dt vin held facts s
  | .lastGaspComplete dt cut micros bytes => Sys2Proof.Machine.execLastGaspComplete dt cut micros bytes s
  | .orderlyPowerDown dt hold => Sys2Proof.Machine.execOrderlyPowerDown dt hold s
  | .vdoLow dt mv held => Sys2Proof.Machine.execVdoLow dt mv held s
  | .vmotLow dt mv => Sys2Proof.Machine.execVmotLow dt mv s
  | .governorStepEntry dt mv => Sys2Proof.Machine.execGovernorStepEntry dt mv s
  | .governorStepExit dt mv held => Sys2Proof.Machine.execGovernorStepExit dt mv held s
  | .coreUndervoltage dt mv held => Sys2Proof.Machine.execCoreUndervoltage dt mv held s
  | .wake dt di host => Sys2Proof.Machine.execWake dt di host s
  | .vinLostInStandby dt vin held => Sys2Proof.Machine.execVinLostInStandby dt vin held s
  | .holdMeasurement dt hold => Sys2Proof.Machine.execHoldMeasurement dt hold s
  | .holdMeasurementEnd dt hold => Sys2Proof.Machine.execHoldMeasurementEnd dt hold s
  | .powerGetStatus dt r => Sys2Proof.Machine.execPowerGetStatus dt r s
  | .powerSetState dt r cut => Sys2Proof.Machine.execPowerSetState dt r cut s
  | .powerGetConfig dt r => Sys2Proof.Machine.execPowerGetConfig dt r s
  | .powerSetConfig dt r => Sys2Proof.Machine.execPowerSetConfig dt r s
  | .powerMeasureHoldup dt r => Sys2Proof.Machine.execPowerMeasureHoldup dt r s
  | .pinReset dt held => Sys2Proof.Machine.execPinReset dt held s
  | .pciePerst dt => Sys2Proof.Machine.execPciePerst dt s
  | .resetRelease dt facts => Sys2Proof.Machine.execResetRelease dt facts s
  | .bootFailure dt cause => Sys2Proof.Machine.execBootFailure dt cause s
  | .roleResolution dt lock => Sys2Proof.Machine.execRoleResolution dt lock s
  | .roleWaitTimeout dt => Sys2Proof.Machine.execRoleWaitTimeout dt s
  | .unpairedStandbyTimeout dt cut => Sys2Proof.Machine.execUnpairedStandbyTimeout dt cut s
  | .plantStart dt => Sys2Proof.Machine.execPlantStart dt s
  | .trialTimeout dt => Sys2Proof.Machine.execTrialTimeout dt s
  | .trialConfirm dt => Sys2Proof.Machine.execTrialConfirm dt s
  | .tlsSessionEnd dt session => Sys2Proof.Machine.execTlsSessionEnd dt session s
  | .portLinkChange dt port link => Sys2Proof.Machine.execPortLinkChange dt port link s
  | .ptpMessage dt port domain msg => Sys2Proof.Machine.execPtpMessage dt port domain msg s
  | .canBusError dt bus err => Sys2Proof.Machine.execCanBusError dt bus err s
  | .supplyRestored dt vmot mv => Sys2Proof.Machine.execSupplyRestored dt vmot mv s
  | .holdReady dt hold => Sys2Proof.Machine.execHoldReady dt hold s
  | .modelActivationPassed dt => Sys2Proof.Machine.execModelActivationPassed dt s
  | .zcReturned dt channel => Sys2Proof.Machine.execZcReturned dt channel s
  | .ledFault dt led current forward => Sys2Proof.Machine.execLedFault dt led current forward s
  | .heartbeatCount dt => Sys2Proof.Machine.execHeartbeatCount dt s

end Sys2Proof.Machine
end

