-- ==== Sys2Proof/Safety.lean ====
section
/-! DEFINITION. The terms the statements are written in: when a request of the command set is taken and accepted, what its answer
is, when a row completes, and the memory invariant. -/

namespace Sys2Proof.Machine
open Sys2Proof

/-! ### One exchange, as R57 to R62 describe it -/

/-- The header a request of a command carries. -/
def headerOf (cmd : Command) (r : Request) : Header :=
  { code := cmd.code, flags := r.flags.toNat, tag := r.tag.toNat, length := r.length.toNat, check := r.check.toNat, reserved := r.reserved }

/-- The state in which a request arrives: its time has passed, and a TLS session has sent a record (R50). -/
def arrived (dt : Nat) (r : Request) (s : State) : State := touchTls r.path (advance dt s)

/-- The payload the mailbox holds once the request is written. -/
def sentPayload (dt : Nat) (r : Request) (s : State) : Bytes := payloadIn r.mbox.val r.length.toNat r.payload (arrived dt r s)

/-- The request as the module judges it. -/
def requestOf (cmd : Command) (dt : Nat) (r : Request) (s : State) : Ctx :=
  { mbox := r.mbox.val, path := r.path, code := cmd.code, tag := r.tag.toNat, payload := sentPayload dt r s }

/-- The request has been written to its mailbox (R58 step 1). -/
def written (cmd : Command) (dt : Nat) (r : Request) (s : State) : State :=
  let u := arrived dt r s
  let h := headerOf cmd r
  let u := { u with win := { u.win with mem := Memory.write u.win.mem (reqAddr r.mbox.val) ((h.bytes h.check ++ r.payload).take 0x2000) } }
  if r.path = .host then irqWrite id u else u

/-- The state in which a request that has been taken is judged and executed (R58 step 3). -/
def judged (cmd : Command) (dt : Nat) (r : Request) (s : State) : State :=
  takeRequest r.mbox.val r.path (headerOf cmd r) (sentPayload dt r s) (written cmd dt r s)

/-- A request's mailbox is within its path's reach and not BUSY. -/
def reachable (dt : Nat) (r : Request) (s : State) : Bool :=
  let u := advance dt s
  windowUp u && reaches r.path r.mbox.val u && !(arrived dt r s).win.busy.getLsbD r.mbox.val

/-- A request is taken at once: the window is served, its mailbox is within its path's reach and not BUSY, the Keeper serves, and
no BARRIER holds it (R52, R58, R59, R77). -/
def taken (cmd : Command) (dt : Nat) (r : Request) (s : State) : Bool :=
  let w := written cmd dt r s
  reachable dt r s && w.win.st != .fatal && w.win.st != .booting && !barrierHeld r.path r.flags.toNat w

/-- The first check of R58 step 4 that a taken request fails. -/
def checkFailure (cmd : Command) (dt : Nat) (r : Request) (s : State) : Option (Nat × Nat) :=
  refusal cmd (requestOf cmd dt r s) (headerOf cmd r) (judged cmd dt r s)

/-- A request is taken and passes the checks (b) to (g) of R58 step 4. -/
def accepts (cmd : Command) (dt : Nat) (r : Request) (s : State) : Bool :=
  taken cmd dt r s && (checkFailure cmd dt r s).isNone

/-- Steps 5 and 6 of R58: the gates follow a block put in use, and the response is written. -/
def answer (r : Request) (rep : Reply) (u : State) : State := finish r.mbox.val rep (gateFollow u)

/-- A row of the command set completes with its own effect: every accepted request whose command's own conditions hold leads to
a next state, and that state is the answer's, after the effect. -/
def Completes (row : Nat → Request → Instr) (cmd : Command) (cond : Ctx → State → Bool) (effect : Ctx → State → State)
    (reply : Ctx → State → Reply) : Prop :=
  ∀ (dt : Nat) (r : Request) (s : State), accepts cmd dt r s = true → cond (requestOf cmd dt r s) (judged cmd dt r s) = true →
    exec (row dt r) s =
      .next (answer r (reply (requestOf cmd dt r s) (judged cmd dt r s)) (effect (requestOf cmd dt r s) (judged cmd dt r s)))

/-- A row of the command set that reads: it changes nothing but its mailbox, and answers with a payload. -/
def Reads (row : Nat → Request → Instr) (cmd : Command) (cond : Ctx → State → Bool) (payload : Ctx → State → Bytes) : Prop :=
  Completes row cmd cond (fun _ u => u) (fun c u => .ok (payload c u))

/-- A row of the command set that acts and answers OK. -/
def Acts (row : Nat → Request → Instr) (cmd : Command) (cond : Ctx → State → Bool) (effect : Ctx → State → State)
    (payload : Ctx → State → Bytes) : Prop :=
  Completes row cmd cond effect (fun c u => .ok (payload c u))

/-- A row of the command set whose answer comes later: the effect happens and the mailbox stays BUSY. -/
def Defers (row : Nat → Request → Instr) (cmd : Command) (cond : Ctx → State → Bool) (effect : Ctx → State → State) : Prop :=
  ∀ (dt : Nat) (r : Request) (s : State), accepts cmd dt r s = true → cond (requestOf cmd dt r s) (judged cmd dt r s) = true →
    exec (row dt r) s = .next (gateFollow (effect (requestOf cmd dt r s) (judged cmd dt r s)))

/-- The row completes with an explicit next state whenever a condition on the state and the operands holds; `f` works on the state
in which the row's time has passed. -/
def Runs (i : Instr) (dt : Nat) (cond : State → Prop) (f : State → State) : Prop :=
  ∀ s : State, cond (advance dt s) → exec i s = .next (f (advance dt s))

/-- A row that a frame of a message type arrives by: a frame that passes the checks of R238, whose header fits, and whose content the
row can take, is taken by that content once it has been counted and its node heard. -/
def Hears (row : Nat → FfpFrame → Instr) (type : Nat) (fits : FfpFrame → Bool) (content : FfpFrame → State → State) : Prop :=
  ∀ (dt : Nat) (f : FfpFrame), f.type = type → fits f = true →
    Runs (row dt f) dt (fun u => (receiveFfp f u).2 = true ∧ nakHeader f (receiveFfp f u).1 = none) (fun u => content f (receiveFfp f u).1)

/-- The body of a CARAVAN frame of a message: its length, version, flags and reserved bytes (R204). -/
def caravanBody (msg : Nat) (f : FfpFrame) : Bool :=
  let b := f.body
  decide (24 ≤ b.length ∧ b.length = 24 + 8 * fld b 2 1 ∧ fld b 2 1 ≤ 64 ∧ fld b 0x14 2 < 16 ∧ fld b 0 1 = msg ∧ fld b 1 1 = 1) &&
    (chunks 8 (fld b 2 1) (b.drop 24)).all (fun e => fld e 2 2 == 0)

/-- No condition. -/
def always : Ctx → State → Bool := fun _ _ => true

/-! ### The rows of the command set -/

/-- The command, the time and the request of a row of the command set; none for every other row. -/
def commandRow : Instr → Option (Command × Nat × Request)
  | .registerWrite _ _ _ => none
  | .doorbell _ _ => none
  | .hostControl _ _ => none
  | .mboxAssign _ _ _ => none
  | .interruptBlockWrite _ _ _ => none
  | .accessFault _ => none
  | .readTargetStatus _ => none
  | .qspiWordCut _ _ _ => none
  | .qspiUnknownOpcode _ _ => none
  | .recordRead _ _ _ => none
  | .recordWrite _ _ _ _ => none
  | .recordRing _ _ _ => none
  | .mailboxTake _ _ => none
  | .tlsHandshake _ _ => none
  | .tlsIdleTimeout _ _ => none
  | .usbAttach _ _ _ => none
  | .usbDetach _ _ => none
  | .usbStable _ => none
  | .systemIdentify dt r => some (cmdSystemIdentify, dt, r)
  | .systemGetState dt r => some (cmdSystemGetState, dt, r)
  | .systemEcho dt r => some (cmdSystemEcho, dt, r)
  | .systemReleaseOperation dt r => some (cmdSystemReleaseOperation, dt, r)
  | .systemCancelOperation dt r => some (cmdSystemCancelOperation, dt, r)
  | .systemFirmwareBegin dt r => some (cmdSystemFirmwareBegin, dt, r)
  | .systemFirmwarePut dt r => some (cmdSystemFirmwarePut, dt, r)
  | .systemFirmwareCommit dt r => some (cmdSystemFirmwareCommit, dt, r)
  | .fwVerifyComplete _ _ => none
  | .fwTimeout _ => none
  | .systemFreeRead dt r => some (cmdSystemFreeRead, dt, r)
  | .systemFreeWrite dt r => some (cmdSystemFreeWrite, dt, r)
  | .fatalError _ _ _ _ => none
  | .keeperRestart _ _ => none
  | .resignRelease _ => none
  | .atticGetHeader dt r => some (cmdAtticGetHeader, dt, r)
  | .atticRead dt r => some (cmdAtticRead, dt, r)
  | .atticReadoutComplete _ _ => none
  | .atticGetBlock dt r => some (cmdAtticGetBlock, dt, r)
  | .atticClear dt r => some (cmdAtticClear, dt, r)
  | .modelBeginLoad dt r => some (cmdModelBeginLoad, dt, r)
  | .modelPutRows dt r => some (cmdModelPutRows, dt, r)
  | .modelCommitLoad dt r => some (cmdModelCommitLoad, dt, r)
  | .modelValidationComplete _ => none
  | .loadTimeout _ => none
  | .modelGetInfo dt r => some (cmdModelGetInfo, dt, r)
  | .modelReadRows dt r => some (cmdModelReadRows, dt, r)
  | .epochInstant _ => none
  | .estimationDeadline _ => none
  | .newtonDeadline _ => none
  | .solveComplete _ _ => none
  | .scratchUncorrectable _ _ => none
  | .quarantineExpiry _ _ => none
  | .solverGetConfig dt r => some (cmdSolverGetConfig, dt, r)
  | .solverSetConfig dt r => some (cmdSolverSetConfig, dt, r)
  | .solverGetStatus dt r => some (cmdSolverGetStatus, dt, r)
  | .solverReadState dt r => some (cmdSolverReadState, dt, r)
  | .solverReleaseBinding dt r => some (cmdSolverReleaseBinding, dt, r)
  | .solverWarmStart dt r => some (cmdSolverWarmStart, dt, r)
  | .warmStartComplete _ _ => none
  | .replanInstant _ => none
  | .replanDeadline _ _ => none
  | .replanComplete _ _ => none
  | .stepBoundary _ => none
  | .planAgeLimit _ => none
  | .uplinkLoss _ => none
  | .oasisHoldEnd _ => none
  | .storeFitComplete _ _ => none
  | .optimiserGetConfig dt r => some (cmdOptimiserGetConfig, dt, r)
  | .optimiserSetConfig dt r => some (cmdOptimiserSetConfig, dt, r)
  | .optimiserPutCurves dt r => some (cmdOptimiserPutCurves, dt, r)
  | .optimiserPutSeries dt r => some (cmdOptimiserPutSeries, dt, r)
  | .optimiserGetStatus dt r => some (cmdOptimiserGetStatus, dt, r)
  | .optimiserReadPlan dt r => some (cmdOptimiserReadPlan, dt, r)
  | .optimiserReconcile dt r => some (cmdOptimiserReconcile, dt, r)
  | .optimiserFitStore dt r => some (cmdOptimiserFitStore, dt, r)
  | .optimiserGetStoreModel dt r => some (cmdOptimiserGetStoreModel, dt, r)
  | .caravanStage dt r => some (cmdCaravanStage, dt, r)
  | .caravanCommit dt r => some (cmdCaravanCommit, dt, r)
  | .caravanAbort dt r => some (cmdCaravanAbort, dt, r)
  | .caravanGetStatus dt r => some (cmdCaravanGetStatus, dt, r)
  | .caravanReadMembers dt r => some (cmdCaravanReadMembers, dt, r)
  | .caravanList dt r => some (cmdCaravanList, dt, r)
  | .caravanGetConfig dt r => some (cmdCaravanGetConfig, dt, r)
  | .caravanSetConfig dt r => some (cmdCaravanSetConfig, dt, r)
  | .caravanAck _ _ => none
  | .decisionDurable _ _ => none
  | .decisionAck _ _ => none
  | .report _ _ => none
  | .query _ _ => none
  | .caravanRetry _ _ => none
  | .stageDeadline _ _ => none
  | .activationInstant _ => none
  | .confirmWindowEnd _ _ => none
  | .orphanInstant _ _ => none
  | .telemetry _ _ => none
  | .writeAck _ _ => none
  | .writeRetry _ _ => none
  | .nak _ _ => none
  | .announceTimer _ => none
  | .announce _ _ => none
  | .nodeSilence _ _ => none
  | .prpSupervision _ => none
  | .sync _ _ _ _ => none
  | .syncTimeout _ _ => none
  | .holdoverLimit _ => none
  | .t1lSyncTransmit _ => none
  | .ppsInEdge _ => none
  | .ppsOutEdge _ => none
  | .netGetConfig dt r => some (cmdNetGetConfig, dt, r)
  | .netSetConfig dt r => some (cmdNetSetConfig, dt, r)
  | .portGetStatus dt r => some (cmdPortGetStatus, dt, r)
  | .portCableTest dt r => some (cmdPortCableTest, dt, r)
  | .ffpGetCounters dt r => some (cmdFfpGetCounters, dt, r)
  | .nodeGetStatus dt r => some (cmdNodeGetStatus, dt, r)
  | .timeGet dt r => some (cmdTimeGet, dt, r)
  | .timeGetConfig dt r => some (cmdTimeGetConfig, dt, r)
  | .timeSetConfig dt r => some (cmdTimeSetConfig, dt, r)
  | .timeSet dt r => some (cmdTimeSet, dt, r)
  | .timeStep dt r => some (cmdTimeStep, dt, r)
  | .timeReadCaptures dt r => some (cmdTimeReadCaptures, dt, r)
  | .twinHeartbeatTimer _ => none
  | .heartbeat _ _ _ => none
  | .twinSilence _ => none
  | .resign _ _ => none
  | .takeover _ _ => none
  | .twinAck _ _ _ => none
  | .twinAckTimeout _ => none
  | .journal _ _ _ => none
  | .energy _ _ _ => none
  | .retained _ _ _ => none
  | .plan _ _ _ => none
  | .modelState _ _ _ => none
  | .modelTables _ _ _ => none
  | .keyEpoch _ _ _ => none
  | .hello _ _ => none
  | .helloTimer _ => none
  | .helloReply _ _ => none
  | .helloConfirm _ _ _ => none
  | .twinRetry _ => none
  | .lineCycleEnd _ _ _ _ => none
  | .zcTimeout _ _ => none
  | .timerCycleEnd _ _ _ _ => none
  | .periodicSave _ _ => none
  | .thermalStep _ _ _ => none
  | .flowPulse _ _ _ => none
  | .busReading _ _ _ => none
  | .busTimeout _ _ => none
  | .elecGetConfig dt r => some (cmdElecGetConfig, dt, r)
  | .elecSetConfig dt r => some (cmdElecSetConfig, dt, r)
  | .elecReadValues dt r => some (cmdElecReadValues, dt, r)
  | .elecReadRegisters dt r => some (cmdElecReadRegisters, dt, r)
  | .elecGetStatus dt r => some (cmdElecGetStatus, dt, r)
  | .elecAcknowledgeLoss dt r => some (cmdElecAcknowledgeLoss, dt, r)
  | .thermGetConfig dt r => some (cmdThermGetConfig, dt, r)
  | .thermSetConfig dt r => some (cmdThermSetConfig, dt, r)
  | .thermReadValues dt r => some (cmdThermReadValues, dt, r)
  | .thermReadRegisters dt r => some (cmdThermReadRegisters, dt, r)
  | .thermGetStatus dt r => some (cmdThermGetStatus, dt, r)
  | .thermReadChannels dt r => some (cmdThermReadChannels, dt, r)
  | .thermPutGlycol dt r => some (cmdThermPutGlycol, dt, r)
  | .thermGetGlycol dt r => some (cmdThermGetGlycol, dt, r)
  | .thermAcknowledgeLoss dt r => some (cmdThermAcknowledgeLoss, dt, r)
  | .loopSample _ => none
  | .loopGetConfig dt r => some (cmdLoopGetConfig, dt, r)
  | .loopSetConfig dt r => some (cmdLoopSetConfig, dt, r)
  | .loopSetMode dt r => some (cmdLoopSetMode, dt, r)
  | .loopSetSetpoint dt r => some (cmdLoopSetSetpoint, dt, r)
  | .loopSetOutput dt r => some (cmdLoopSetOutput, dt, r)
  | .loopReadStatus dt r => some (cmdLoopReadStatus, dt, r)
  | .loopReplicationTimer _ => none
  | .taskInput _ _ => none
  | .taskExecutionEnd _ _ _ => none
  | .taskOutput _ _ => none
  | .taskWatchdog _ _ => none
  | .teEvent _ _ _ => none
  | .trap _ _ _ _ _ => none
  | .hwTimer _ _ => none
  | .holdLimit _ => none
  | .changeSwitch _ => none
  | .changeTimeout _ => none
  | .retainedRecordDurable _ => none
  | .programPutImage dt r => some (cmdProgramPutImage, dt, r)
  | .programCommitImage dt r => some (cmdProgramCommitImage, dt, r)
  | .programGetInfo dt r => some (cmdProgramGetInfo, dt, r)
  | .programSetMode dt r => some (cmdProgramSetMode, dt, r)
  | .programStep dt r => some (cmdProgramStep, dt, r)
  | .programGetStatus dt r => some (cmdProgramGetStatus, dt, r)
  | .programReadVars dt r => some (cmdProgramReadVars, dt, r)
  | .programSetForce dt r => some (cmdProgramSetForce, dt, r)
  | .programReleaseForce dt r => some (cmdProgramReleaseForce, dt, r)
  | .programListForces dt r => some (cmdProgramListForces, dt, r)
  | .programGetConfig dt r => some (cmdProgramGetConfig, dt, r)
  | .programSetConfig dt r => some (cmdProgramSetConfig, dt, r)
  | .axisMotionEnd _ _ => none
  | .stallCheck _ _ => none
  | .encError _ _ _ => none
  | .limitSwitch _ _ _ => none
  | .driverFault _ _ _ _ => none
  | .holdDelay _ _ => none
  | .standstillRecord _ _ => none
  | .axisGetConfig dt r => some (cmdAxisGetConfig, dt, r)
  | .axisSetConfig dt r => some (cmdAxisSetConfig, dt, r)
  | .axisSetMode dt r => some (cmdAxisSetMode, dt, r)
  | .axisMove dt r => some (cmdAxisMove, dt, r)
  | .axisHome dt r => some (cmdAxisHome, dt, r)
  | .axisClearFault dt r => some (cmdAxisClearFault, dt, r)
  | .axisReadStatus dt r => some (cmdAxisReadStatus, dt, r)
  | .canFrameReceived _ _ _ _ _ => none
  | .canFrameTransmitted _ _ _ => none
  | .canPeriodicSend _ => none
  | .busOff _ _ => none
  | .busOffRecovery _ _ => none
  | .canTransceiverFault _ _ _ _ => none
  | .detectDwell _ _ => none
  | .detectTimeout _ _ => none
  | .mbusCycleInstant _ => none
  | .mbusReply _ _ => none
  | .mbusReplyTimeout _ => none
  | .mbusOvercurrent _ _ => none
  | .mbusPowerRetry _ => none
  | .canGetConfig dt r => some (cmdCanGetConfig, dt, r)
  | .canSetConfig dt r => some (cmdCanSetConfig, dt, r)
  | .canSetObjects dt r => some (cmdCanSetObjects, dt, r)
  | .canGetObjects dt r => some (cmdCanGetObjects, dt, r)
  | .canReadObjects dt r => some (cmdCanReadObjects, dt, r)
  | .canSend dt r => some (cmdCanSend, dt, r)
  | .canDetectRate dt r => some (cmdCanDetectRate, dt, r)
  | .canRecover dt r => some (cmdCanRecover, dt, r)
  | .canGetStatus dt r => some (cmdCanGetStatus, dt, r)
  | .mbusGetConfig dt r => some (cmdMbusGetConfig, dt, r)
  | .mbusSetConfig dt r => some (cmdMbusSetConfig, dt, r)
  | .mbusReadRecords dt r => some (cmdMbusReadRecords, dt, r)
  | .mbusGetStatus dt r => some (cmdMbusGetStatus, dt, r)
  | .mbusTransact dt r => some (cmdMbusTransact, dt, r)
  | .diLevelAccepted _ _ _ _ _ => none
  | .diOutOfBand _ _ _ _ _ => none
  | .diStuck _ _ => none
  | .chatterWindowEnd _ _ => none
  | .ainWindow _ _ _ _ => none
  | .doOverload _ _ _ => none
  | .doRetry _ _ => none
  | .doOpenTest _ _ _ _ _ => none
  | .aoutFault _ _ _ _ _ => none
  | .blockRemovalWindow _ _ => none
  | .blockReinsert _ _ => none
  | .keyMeasurement _ _ => none
  | .ioGetConfig dt r => some (cmdIoGetConfig, dt, r)
  | .ioSetConfig dt r => some (cmdIoSetConfig, dt, r)
  | .ioGetStatus dt r => some (cmdIoGetStatus, dt, r)
  | .ioReadCounters dt r => some (cmdIoReadCounters, dt, r)
  | .ioSetOutput dt r => some (cmdIoSetOutput, dt, r)
  | .ioClearOutput dt r => some (cmdIoClearOutput, dt, r)
  | .ioResetInterlock dt r => some (cmdIoResetInterlock, dt, r)
  | .panelGetConfig dt r => some (cmdPanelGetConfig, dt, r)
  | .panelSetConfig dt r => some (cmdPanelSetConfig, dt, r)
  | .panelGetKeys dt r => some (cmdPanelGetKeys, dt, r)
  | .panelSetLeds dt r => some (cmdPanelSetLeds, dt, r)
  | .rtcSync _ => none
  | .calUpdate _ _ => none
  | .alarm _ _ => none
  | .periodicWake _ => none
  | .leap _ => none
  | .oscStopped _ => none
  | .vbatLow _ _ => none
  | .freezeTimeout _ => none
  | .rtcGetTime dt r => some (cmdRtcGetTime, dt, r)
  | .rtcStage dt r => some (cmdRtcStage, dt, r)
  | .rtcCommit dt r => some (cmdRtcCommit, dt, r)
  | .rtcDiscard dt r => some (cmdRtcDiscard, dt, r)
  | .rtcSetAlarm dt r => some (cmdRtcSetAlarm, dt, r)
  | .rtcGetAlarms dt r => some (cmdRtcGetAlarms, dt, r)
  | .recorderTick _ => none
  | .ringWrite _ => none
  | .eventRead dt r => some (cmdEventRead, dt, r)
  | .eventGetTrigger dt r => some (cmdEventGetTrigger, dt, r)
  | .eventSetTrigger dt r => some (cmdEventSetTrigger, dt, r)
  | .eventFire dt r => some (cmdEventFire, dt, r)
  | .eventMark dt r => some (cmdEventMark, dt, r)
  | .eventGetStatus dt r => some (cmdEventGetStatus, dt, r)
  | .tamperDetected _ _ => none
  | .tamperSourceClear _ _ => none
  | .keyUpdateCommit _ => none
  | .keyEpochSwitch _ => none
  | .overlapEnd _ => none
  | .debugExpiry _ => none
  | .secGetStatus dt r => some (cmdSecGetStatus, dt, r)
  | .secGetCertificate dt r => some (cmdSecGetCertificate, dt, r)
  | .secAttest dt r => some (cmdSecAttest, dt, r)
  | .secListSlots dt r => some (cmdSecListSlots, dt, r)
  | .secInstallAuthority dt r => some (cmdSecInstallAuthority, dt, r)
  | .secKeyUpdate dt r => some (cmdSecKeyUpdate, dt, r)
  | .secEnrolNode dt r => some (cmdSecEnrolNode, dt, r)
  | .secSetKeyEpoch dt r => some (cmdSecSetKeyEpoch, dt, r)
  | .secGetTamperConfig dt r => some (cmdSecGetTamperConfig, dt, r)
  | .secSetTamperConfig dt r => some (cmdSecSetTamperConfig, dt, r)
  | .secRearm dt r => some (cmdSecRearm, dt, r)
  | .secGetDebugChallenge dt r => some (cmdSecGetDebugChallenge, dt, r)
  | .secOpenDebug dt r => some (cmdSecOpenDebug, dt, r)
  | .secCloseDebug dt r => some (cmdSecCloseDebug, dt, r)
  | .secRaiseMinVersion dt r => some (cmdSecRaiseMinVersion, dt, r)
  | .secPutServerChain dt r => some (cmdSecPutServerChain, dt, r)
  | .secZeroise dt r => some (cmdSecZeroise, dt, r)
  | .secSign dt r => some (cmdSecSign, dt, r)
  | .sourceQualified _ _ _ _ => none
  | .sourceTrip _ _ _ => none
  | .qualificationLimit _ => none
  | .sourceRetry _ => none
  | .wtrRevert _ => none
  | .pllLocked _ => none
  | .clkGetConfig dt r => some (cmdClkGetConfig, dt, r)
  | .clkSetConfig dt r => some (cmdClkSetConfig, dt, r)
  | .clkGetStatus dt r => some (cmdClkGetStatus, dt, r)
  | .clkGetGates dt r => some (cmdClkGetGates, dt, r)
  | .clkSetGate dt r => some (cmdClkSetGate, dt, r)
  | .clkGetOscStart dt r => some (cmdClkGetOscStart, dt, r)
  | .clkSetOscStart dt r => some (cmdClkSetOscStart, dt, r)
  | .vinLow _ _ _ _ => none
  | .vinOvervoltage _ _ => none
  | .vinPresent _ _ _ _ => none
  | .lastGaspComplete _ _ _ _ => none
  | .orderlyPowerDown _ _ => none
  | .vdoLow _ _ _ => none
  | .vmotLow _ _ => none
  | .governorStepEntry _ _ => none
  | .governorStepExit _ _ _ => none
  | .coreUndervoltage _ _ _ => none
  | .wake _ _ _ => none
  | .vinLostInStandby _ _ _ => none
  | .holdMeasurement _ _ => none
  | .holdMeasurementEnd _ _ => none
  | .powerGetStatus dt r => some (cmdPowerGetStatus, dt, r)
  | .powerSetState dt r cut => some (cmdPowerSetState cut, dt, r)
  | .powerGetConfig dt r => some (cmdPowerGetConfig, dt, r)
  | .powerSetConfig dt r => some (cmdPowerSetConfig, dt, r)
  | .powerMeasureHoldup dt r => some (cmdPowerMeasureHoldup, dt, r)
  | .pinReset _ _ => none
  | .pciePerst _ => none
  | .resetRelease _ _ => none
  | .bootFailure _ _ => none
  | .roleResolution _ _ => none
  | .roleWaitTimeout _ => none
  | .unpairedStandbyTimeout _ _ => none
  | .plantStart _ => none
  | .trialTimeout _ => none
  | .trialConfirm _ => none
  | .tlsSessionEnd _ _ => none
  | .portLinkChange _ _ _ => none
  | .ptpMessage _ _ _ _ => none
  | .canBusError _ _ _ => none
  | .supplyRestored _ _ _ => none
  | .holdReady _ _ => none
  | .modelActivationPassed _ => none
  | .zcReturned _ _ => none
  | .ledFault _ _ _ _ => none
  | .heartbeatCount _ => none

/-! ### The memory invariant -/

/-- Every byte memory of the block is in its canonical form. -/
def State.memoriesCanonical (s : State) : Prop :=
  Memory.wf s.win.mem = true ∧ Memory.wf s.sys.free = true ∧ Memory.wf s.prog.mem = true ∧ Memory.wf s.prog.retained = true

/-- The bits that the host registers reserve read 0 (R45, R55, R56). -/
def State.reservedClear (s : State) : Prop :=
  s.win.hostControl &&& ~~~ (0x301 : BitVec 32) = 0 ∧ s.win.usbMask &&& ~~~ (0x7FFFF : BitVec 32) = 0 ∧ s.win.tlsMask &&& ~~~ (0x7FFFF : BitVec 32) = 0 ∧
    s.win.eventEnable &&& ~~~ (0x7FF : BitVec 32) = 0

end Sys2Proof.Machine
end

