-- ==== Sys2Proof/Certificates/Slice0/Obligations.lean ====
section
/-! DEFINITION. The statements the model is held to, one definition each. -/

open Sys2Proof Sys2Proof.Machine

/-- A step runs the command at the front of the queue with the queue's rest, and idles on an empty queue. For every state and every
list of waiting commands: with a command at the front of the queue, one step is that command's effect on the state with the
queue's rest; with nothing waiting the step leaves the state as it is. The queue and its idling are the model's own form (log
1); the order is first in, first out. -/
def Obligations.StepRunsTheFrontCommand : Prop :=
  (∀ (c : Instr) (rest : List Instr) (s : State), s.pending = c :: rest → step s = exec c { s with pending := rest }) ∧
    (∀ s : State, s.pending = [] → step s = .next s)

/-- What a host word write does to each register of the control and interrupt blocks. With the window served, for every value v:
HOST_CONTROL takes bits 0, 8 and 9 of v; INT_ENABLE 1 ends the high impedance of INT_N, and where TLS_ENABLE is 0 every TLS
session ends; MBOX_COMPLETE, EVENT_STATUS and the PROGRESS_DONE words clear the bits written 1; COMPLETE_ENABLE and EVENT_ENABLE
take the value (EVENT_ENABLE its 11 defined bits); MBOX_BUSY and INT_STATUS keep theirs; an offset that is not listed is
recorded in ACCESS_FAULT; and nothing else of the state changes but the MSI count (R56). Written through REGISTER_WRITE as an
aligned word, MBOX_ASSIGN, the class masks and the read-only words behave the same. -/
def Obligations.HostWordWritesReachTheirRegisters : Prop :=
  ∀ (dt : Nat) (v : BitVec 32),
    Runs (.hostControl dt v) dt (fun u => windowUp u = true)
      (fun u =>
        let w := (irq (fun w => { w with hostControl := v &&& 0x301 }) u).win
        let x : State := if v.getLsbD 0 then { u with win := { w with msiConfigured := true }, boot := { u.boot with intHiZ := false } } else { u with win := w }
        if v.getLsbD 9 then x else endAllTls x) ∧
    Runs (.interruptBlockWrite dt 0x004 v) dt (fun u => windowUp u = true) (fun u => irqWrite id u) ∧
    Runs (.interruptBlockWrite dt 0x008 v) dt (fun u => windowUp u = true) (fun u => irqWrite (fun w => { w with complete := w.complete &&& ~~~ v }) u) ∧
    Runs (.interruptBlockWrite dt 0x00C v) dt (fun u => windowUp u = true) (fun u => irqWrite (fun w => { w with completeEnable := v }) u) ∧
    Runs (.interruptBlockWrite dt 0x010 v) dt (fun u => windowUp u = true) (fun u => irqWrite (fun w => { w with eventStatus := w.eventStatus &&& ~~~ (v &&& 0x7FF) }) u) ∧
    Runs (.interruptBlockWrite dt 0x014 v) dt (fun u => windowUp u = true) (fun u => irqWrite (fun w => { w with eventEnable := v &&& 0x7FF }) u) ∧
    Runs (.interruptBlockWrite dt 0x018 v) dt (fun u => windowUp u = true) (fun u => irqWrite id u) ∧
    (∀ i : Fin 8, Runs (.interruptBlockWrite dt (0x020 + 4 * i.val) v) dt (fun u => windowUp u = true)
      (fun u => irqWrite (fun w => { w with progressDone := w.progressDone &&& ~~~ (v.zeroExtend 256 <<< (32 * i.val)) }) u)) ∧
    (∀ i : Fin 8, Runs (.interruptBlockWrite dt (0x040 + 4 * i.val) v) dt (fun u => windowUp u = true)
      (fun u => irqWrite (fun w => { w with progressEnable := setWord w.progressEnable i.val v }) u)) ∧
    (∀ off : Nat, off % 4 = 0 → off = 0x01C ∨ 0x060 ≤ off → off < 0x1000 → Runs (.interruptBlockWrite dt off v) dt (fun u => windowUp u = true)
      (fun u => irqWrite id (accessFault .host (0x1000 + off) true u))) ∧
    Runs (.registerWrite dt 0x010 (le 4 v.toNat)) dt (fun u => windowUp u = true) (writeAssign false v) ∧
    Runs (.registerWrite dt 0x018 (le 4 v.toNat)) dt (fun u => windowUp u = true) (fun u => { u with win := { u.win with usbMask := v &&& 0x7FFFF } }) ∧
    Runs (.registerWrite dt 0x01C (le 4 v.toNat)) dt (fun u => windowUp u = true) (fun u => { u with win := { u.win with tlsMask := v &&& 0x7FFFF } }) ∧
    Runs (.registerWrite dt 0x000 (le 4 v.toNat)) dt (fun u => windowUp u = true) id ∧
    Runs (.registerWrite dt 0x008 (le 4 v.toNat)) dt (fun u => windowUp u = true) id

/-- A host write above the register blocks stores exactly its bytes in request areas, and nowhere else. For every address from
0x2000 on and every byte string: when every byte lies in a request area of a mailbox that is not BUSY, the write leads to a next
state in which those addresses read the bytes written and every other address of the mailbox memory reads as before, with every
other part of the state as it was; when the first byte may not be written, it is recorded in ACCESS_FAULT with the host path. In
PCIe mode a write that reaches past the 1 MiB window faults, since the spec gives no such access. -/
def Obligations.HostByteWritesLandInRequestAreas : Prop :=
  ∀ (dt addr : Nat) (data : Bytes) (s : State), 0x2000 ≤ addr → Memory.wf s.win.mem = true →
    (windowUp (advance dt s) = true → addr + data.length ≤ 0x100000 → (∀ a, addr ≤ a → a < addr + data.length → writableByte (advance dt s) a = true) →
      ∃ m : List Host.Cell, exec (.registerWrite dt addr data) s = .next { advance dt s with win := { (advance dt s).win with mem := m } } ∧
        (∀ i, i < data.length → Memory.get m (addr + i) = data.getD i 0) ∧
        (∀ a, a < addr ∨ addr + data.length ≤ a → Memory.get m a = Memory.get (advance dt s).win.mem a)) ∧
    (windowUp (advance dt s) = true → data ≠ [] → addr + data.length ≤ 0x100000 → (∀ a, addr ≤ a → a < addr + data.length → writableByte (advance dt s) a = false) →
      exec (.registerWrite dt addr data) s = .next (accessFault .host addr true (advance dt s))) ∧
    (s.win.qspi = false → 0x100000 < addr + data.length → exec (.registerWrite dt addr data) s = .fault .outsideWindow)

/-- A register block takes only whole aligned words; ACCESS_FAULT and WRITE_ERROR read and clear; an unknown opcode leaves the lines
alone. With the window served, a write below 0x2000 that is not made of whole aligned words changes no register: in QSPI mode it
sets WRITE_ERROR, in PCIe mode it is recorded in ACCESS_FAULT. The same holds for a QSPI word cut short. A host read of
ACCESS_FAULT sends the word and clears it. READ_TARGET_STATUS sends STATE READY in bit 0, WRITE_ERROR in bit 1 and the interrupt
line in bit 2, and clears WRITE_ERROR. An opcode other than 0x0B, 0x02, 0xEB, 0x38 and 0x05 leaves the data lines at high
impedance. -/
def Obligations.HostPortDiscardsAndAnswers : Prop :=
  (∀ (dt addr : Nat) (data : Bytes), addr < 0x2000 → (addr % 4 ≠ 0 ∨ data.length % 4 ≠ 0) → addr + data.length ≤ 0x100000 →
    Runs (.registerWrite dt addr data) dt (fun u => windowUp u = true ∧ u.win.qspi = true) (fun u => { u with win := { u.win with writeError := true } }) ∧
    Runs (.registerWrite dt addr data) dt (fun u => windowUp u = true ∧ u.win.qspi = false) (accessFault .host addr true) ∧
    Runs (.qspiWordCut dt addr data) dt (fun u => windowUp u = true ∧ u.win.qspi = true) (fun u => { u with win := { u.win with qspiHiZ := false, writeError := true } })) ∧
  ∀ dt : Nat,
    Runs (.accessFault dt) dt (fun u => windowUp u = true)
      (fun u => { u with out := u.out ++ [.read u.win.accessFault], win := { u.win with accessFault := 0 } }) ∧
    Runs (.readTargetStatus dt) dt (fun u => windowUp u = true ∧ u.win.qspi = true)
      (fun u => { u with
        out := u.out ++ [.status (BitVec.ofNat 8 ((if u.win.st = .ready then 1 else 0) + (if u.win.writeError then 2 else 0) + (if u.win.line then 4 else 0)))]
        win := { u.win with writeError := false, qspiHiZ := false } }) ∧
    (∀ op : BitVec 8, op ≠ 0x0B → op ≠ 0x02 → op ≠ 0xEB → op ≠ 0x38 → op ≠ 0x05 →
      Runs (.qspiUnknownOpcode dt op) dt (fun u => windowUp u = true ∧ u.win.qspi = true) (fun u => { u with win := { u.win with qspiHiZ := true } }))

/-- A doorbell rings exactly the named mailboxes that are not BUSY. With the window served and STATE not FATAL, a write to DOORBELL
leads to a next state in which a mailbox waits to be taken if it waited before or its bit was 1 and it was not BUSY; MBOX_BUSY
and the mailbox memory are as before; RING_WHILE_BUSY is set if a named mailbox was BUSY, and the count of rings while busy
grows by the number of such mailboxes modulo 2 to the 32. -/
def Obligations.DoorbellRingsFreeMailboxes : Prop :=
  ∀ (dt : Nat) (mask : BitVec 32) (s : State), windowUp (advance dt s) = true → s.win.st ≠ .fatal →
    ∃ t, exec (.doorbell dt mask) s = .next t ∧ t.win.busy = s.win.busy ∧ t.win.mem = s.win.mem ∧
      (∀ k : Fin 32, t.win.rung.getLsbD k = (s.win.rung.getLsbD k || (mask.getLsbD k && !s.win.busy.getLsbD k))) ∧
      ((mask &&& s.win.busy) ≠ 0 → t.win.eventStatus.getLsbD 6 = true) ∧
      t.win.ringBusyCount % 2 ^ 32 = (s.win.ringBusyCount + ((List.range 32).filter (fun k => (mask &&& s.win.busy).getLsbD k)).length) % 2 ^ 32

/-- A written mailbox assignment takes effect at once exactly for the mailboxes that are not BUSY. With the window served, a write
to a word of MBOX_ASSIGN leads to a next state in which that word holds the value and the other word its old one, and for every
mailbox the assignment in effect is the written one if the mailbox is not BUSY and the old one if it is. -/
def Obligations.AssignmentWaitsForBusyMailboxes : Prop :=
  ∀ (dt : Nat) (hi : Bool) (v : BitVec 32) (s : State), windowUp (advance dt s) = true →
    ∃ t, exec (.mboxAssign dt hi v) s = .next t ∧
      t.win.assign.toNat = (if hi then s.win.assign.toNat % 2 ^ 32 + v.toNat * 2 ^ 32 else s.win.assign.toNat / 2 ^ 32 * 2 ^ 32 + v.toNat) ∧
      (∀ k : Fin 32, assignOf t.win.effAssign k = if s.win.busy.getLsbD k then assignOf s.win.effAssign k else assignOf t.win.assign k) ∧
      t.win.mem = s.win.mem ∧ t.win.busy = s.win.busy

/-- What USB and TLS records may read, write and ring, and how they are answered. On a live USB or TLS path with a sound header: a
READ wholly within what the path may read is answered OK with the bytes of the window; any other READ is OUT_OF_PATH without
data and recorded in ACCESS_FAULT. A WRITE wholly within request areas of the path's own mailboxes, none BUSY, stores its bytes
and is answered OK; a WRITE that leaves them is OUT_OF_PATH and stores nothing. A RING of the path's own mailbox that is not
BUSY is answered OK and rings it; a RING of a BUSY one is answered MAILBOX_BUSY and sets RING_WHILE_BUSY. -/
def Obligations.RecordsReachOnlyTheirOwnMailboxes : Prop :=
  ∀ (dt : Nat) (path : Path) (h : RecordHead) (data : Bytes),
    h.result = 0 → h.reserved = 0 → path ≠ .host →
    (h.kind = 0x01 → 1 ≤ h.length → h.length ≤ 8192 →
      (Runs (.recordRead dt path h) dt (fun u => windowUp u = true ∧ pathLive path u = true ∧ (∀ a ∈ Machine.span h.address h.length, readable path (touchTls path u) a = true))
        (fun u => clearReadFault h.address h.length (send (.record path 0x81 h.seq h.address 0 (windowBytes path (touchTls path u) h.address h.length)) (touchTls path u)))) ∧
      (Runs (.recordRead dt path h) dt (fun u => windowUp u = true ∧ pathLive path u = true ∧ (∃ a ∈ Machine.span h.address h.length, readable path (touchTls path u) a = false))
        (fun u => send (.record path 0x81 h.seq h.address 1 []) (accessFault path h.address false (touchTls path u))))) ∧
    (h.kind = 0x02 → 1 ≤ h.length → h.length ≤ 8192 → data.length = h.length →
      (∀ s : State, windowUp (advance dt s) = true → pathLive path (advance dt s) = true → Memory.wf s.win.mem = true →
        (∀ a ∈ Machine.span h.address h.length, recordWritable path (touchTls path (advance dt s)) a = true ∧ s.win.busy.getLsbD ((a - 0x80000) / 0x4000) = false) →
        ∃ t, exec (.recordWrite dt path h data) s = .next t ∧ t.out = [.record path 0x82 h.seq h.address 0 []] ∧
          (∀ i, i < data.length → Memory.get t.win.mem (h.address + i) = data.getD i 0) ∧
          (∀ a, a < h.address ∨ h.address + data.length ≤ a → Memory.get t.win.mem a = Memory.get s.win.mem a)) ∧
      (Runs (.recordWrite dt path h data) dt (fun u => windowUp u = true ∧ pathLive path u = true ∧ (∃ a ∈ Machine.span h.address h.length, recordWritable path (touchTls path u) a = false))
        (fun u => send (.record path 0x82 h.seq h.address 1 []) (accessFault path h.address true (touchTls path u))))) ∧
    (h.kind = 0x03 → h.length = 0 →
      (Runs (.recordRing dt path h) dt (fun u => windowUp u = true ∧ pathLive path u = true ∧ owns path h.address (touchTls path u) = true ∧ u.win.busy.getLsbD h.address = false ∧
          u.win.rung.getLsbD h.address = false ∧ u.win.st ≠ .fatal)
        (fun u => send (.record path 0x83 h.seq h.address 0 []) (hold h.address path (touchTls path u)))) ∧
      (Runs (.recordRing dt path h) dt (fun u => windowUp u = true ∧ pathLive path u = true ∧ owns path h.address (touchTls path u) = true ∧ u.win.busy.getLsbD h.address = true)
        (fun u => send (.record path 0x83 h.seq h.address 3 []) (ringBusy (touchTls path u)))))

/-- TLS sessions open with the lowest free mailbox and end on idling or on their own end; the USB port attaches and detaches. An
offer without fault, while the Keeper serves and TLS_ENABLE is 1, opens a session that holds the lowest-numbered TLS mailbox no
other session holds. A session whose last record is 300 s old or that ends is gone: its mailbox is free. USB is attached when
VBUS and Rp have held 200 ms (2 s while UNSTABLE), with the event, and wakes the module from STANDBY where its configuration
says so; it is detached when a condition has failed 20 ms, which ends the USB session's operations, and the third detach within
10 s gives UNSTABLE; UNSTABLE ends 60 s after the last detach. -/
def Obligations.SessionsOpenAndEnd : Prop :=
  ∀ dt : Nat,
    (∀ (o : TlsOffer) (k : Nat), Runs (.tlsHandshake dt o) dt
      (fun u => serving u = true ∧ u.win.hostControl.getLsbD 9 = true ∧ u.win.st ≠ .tampered ∧ handshakeAlert o u = none ∧ freeTlsMailbox u = some k)
      (fun u => { u with sys := { u.sys with sessions := tabSet u.sys.sessions u.sys.nextSession { mbox := k, lastRecord := u.tb.now }, nextSession := u.sys.nextSession + 1 } })) ∧
    (∀ (n : Nat) (e : TlsSession), Runs (.tlsIdleTimeout dt n) dt (fun u => tabGet? u.sys.sessions n = some e ∧ e.lastRecord + 300000000000 ≤ u.tb.now)
      (fun u => send (.closed (.tls n)) (sessionOps (.tls n) { u with sys := { u.sys with sessions := tabErase u.sys.sessions n } }))) ∧
    (∀ (n : Nat) (e : TlsSession), Runs (.tlsSessionEnd dt n) dt (fun u => tabGet? u.sys.sessions n = some e)
      (fun u => send (.closed (.tls n)) (sessionOps (.tls n) { u with sys := { u.sys with sessions := tabErase u.sys.sessions n } }))) ∧
    (∀ (cc2 : Bool) (held : Nat), Runs (.usbAttach dt cc2 held) dt
      (fun u => u.power.off = false ∧ u.panel.attached = false ∧ (inStandby u && bit (fld u.panel.cfg 9 1) 0) = false ∧ (if u.panel.unstable then 2000 else 200) ≤ held)
      (fun u => gateFollow (emit 0x0F05 [1, b2n cc2] { u with panel := { u.panel with attached := true, orientation := cc2 } }))) ∧
    (∀ (cc2 : Bool) (held : Nat), Runs (.usbAttach dt cc2 held) dt
      (fun u => u.power.off = false ∧ u.panel.attached = false ∧ (inStandby u && bit (fld u.panel.cfg 9 1) 0) = true ∧ (if u.panel.unstable then 2000 else 200) ≤ held)
      (fun u => latchWake 2 (emit 0x0F05 [1, b2n cc2] { u with panel := { u.panel with attached := true, orientation := cc2 } }))) ∧
    (∀ held : Nat, 20 ≤ held → Runs (.usbDetach dt held) dt (fun u => u.power.off = false ∧ u.panel.attached = true ∧
        (u.panel.unstable = true ∨ (u.panel.detaches.filter (fun t => decide (u.tb.now ≤ t + 10000000000))).length < 2))
      (fun u => emit 0x0F05 [0, b2n u.panel.orientation] (sessionOps .usb
        { u with panel := { u.panel with attached := false, detaches := (u.tb.now :: u.panel.detaches.filter (fun t => decide (u.tb.now ≤ t + 10000000000))).take 8 } }))) ∧
    (∀ held : Nat, 20 ≤ held → Runs (.usbDetach dt held) dt (fun u => u.power.off = false ∧ u.panel.attached = true ∧ u.panel.unstable = false ∧
        2 ≤ (u.panel.detaches.filter (fun t => decide (u.tb.now ≤ t + 10000000000))).length)
      (fun u => emit 0x0F05 [2, b2n u.panel.orientation] (emit 0x0F05 [0, b2n u.panel.orientation] (sessionOps .usb
        { u with panel := { u.panel with attached := false, unstable := true, detaches := (u.tb.now :: u.panel.detaches.filter (fun t => decide (u.tb.now ≤ t + 10000000000))).take 8 } })))) ∧
    (∀ t : Nat, Runs (.usbStable dt) dt (fun u => u.panel.detaches.head? = some t ∧ u.panel.unstable = true ∧ t + 60000000000 ≤ u.tb.now)
      (fun u => { u with panel := { u.panel with unstable := false } })) ∧
    Runs (.heartbeatCount dt) dt (fun u => serving u = true ∧ u.win.heartbeatAt + 10000000 ≤ u.tb.now)
      (fun u => { u with win := { u.win with heartbeat := u.win.heartbeat + 1, heartbeatAt := u.win.heartbeatAt + 10000000 } })

/-- The Keeper takes the next rung mailbox in turn, and its request is served with the payload its area holds. While the Keeper
serves and some rung mailbox may be taken, MAILBOX_TAKE serves the first such mailbox in the order that starts after the mailbox
served last and wraps from 31 to 0: a request whose code is known is judged and answered as that command, and one whose code is
not known is answered UNKNOWN_CODE. When no rung mailbox may be taken nothing changes but time. -/
def Obligations.MailboxTakeServesRoundRobin : Prop :=
  ∀ (dt : Nat) (cut : Cut),
    (∀ i k : Nat, Runs (.mailboxTake dt cut) dt
      (fun u => serving u = true ∧ i < 32 ∧ k = (u.win.lastServed + 1 + i) % 32 ∧ takeable u k = true ∧ (∀ j, j < i → takeable u ((u.win.lastServed + 1 + j) % 32) = false))
      (fun u => serve (commandOf cut (waitingHeader k u).code) k (ringPath k u) (waitingHeader k u)
        (Memory.read u.win.mem (reqAddr k + 32) (min (waitingHeader k u).length 8160)) (countLate k u))) ∧
    Runs (.mailboxTake dt cut) dt (fun u => serving u = true ∧ (∀ k, k < 32 → takeable u k = false)) id

/-- A request of any command that fails a check is answered with that error, and has no effect. For every row of the command set: a
request that is taken and fails a check leads to a next state that is the answer of that error, with its reason and DETAIL and
no payload, given on the state in which the request was judged; only the count of failed CHECK fields grows where the reason is
CHECK_FAILED. -/
def Obligations.RefusedRequestsAreAnsweredAndChangeNothing : Prop :=
  ∀ (i : Instr) (cmd : Command) (dt : Nat) (r : Request) (s : State) (reason detail : Nat),
    commandRow i = some (cmd, dt, r) → taken cmd dt r s = true → checkFailure cmd dt r s = some (reason, detail) →
    exec i s = .next (finish r.mbox.val (.err reason detail [])
      (let u := judged cmd dt r s
       { u with win := { u.win with checkFailedCount := (u.win.checkFailedCount + (if reason = 0x04 then 1 else 0)) % 2 ^ 32 } }))

/-- What becomes of a request that is not taken at once. For every row of the command set: while the window is not served only time
passes; a request for a mailbox out of a USB or TLS path's reach is recorded in ACCESS_FAULT and changes nothing else; one for a
BUSY mailbox is discarded, recorded in ACCESS_FAULT and sets RING_WHILE_BUSY; one that arrives while STATE is BOOTING, or behind
a BARRIER that holds, stands in its mailbox and waits to be taken; one that arrives while STATE is FATAL is written but its ring
is discarded. -/
def Obligations.UntakenRequestsWaitOrAreDiscarded : Prop :=
  ∀ (i : Instr) (cmd : Command) (dt : Nat) (r : Request) (s : State), commandRow i = some (cmd, dt, r) →
    (windowUp (advance dt s) = false → exec i s = .next (advance dt s)) ∧
    (windowUp (advance dt s) = true → r.path ≠ .host → reaches r.path r.mbox.val (advance dt s) = false →
      exec i s = .next (accessFault r.path (reqAddr r.mbox.val) true (advance dt s))) ∧
    (windowUp (advance dt s) = true → reaches r.path r.mbox.val (advance dt s) = true → s.win.busy.getLsbD r.mbox.val = true →
      exec i s = .next (ringBusy (accessFault r.path (reqAddr r.mbox.val) true (arrived dt r s)))) ∧
    (reachable dt r s = true → s.win.st = .fatal → exec i s = .next (written cmd dt r s)) ∧
    (reachable dt r s = true → s.win.st ≠ .fatal → (s.win.st = .booting ∨ barrierHeld r.path r.flags.toNat (written cmd dt r s) = true) →
      exec i s = .next (hold r.mbox.val r.path (written cmd dt r s)))

/-- An answer is read back from its mailbox, which is no longer BUSY, and no other byte of the mailboxes changes. For every taken
request and every reply but a deferred one whose payload fits the response area: afterwards the response area holds the response
header and payload, MBOX_BUSY of the mailbox is 0 and MBOX_COMPLETE is 1, the bits of every other mailbox are as before, and
every byte outside the response reads as before. -/
def Obligations.AnswersAreWrittenToTheirMailbox : Prop :=
  ∀ (k : Fin 32) (e : Taken) (rep : Reply) (u : State), Memory.wf u.win.mem = true → tabGet? u.win.taken k.val = some e → (replyFields e.code rep).2.2.2.length ≤ 8160 →
    let f := replyFields e.code rep
    let bytes := responseBytes e.code f.1 e.tag f.2.1 f.2.2.1 u.zone f.2.2.2
    let t := finish k.val rep u
    Memory.read t.win.mem (rspAddr k.val) bytes.length = bytes ∧
      (∀ a, a < rspAddr k.val ∨ rspAddr k.val + bytes.length ≤ a → Memory.get t.win.mem a = Memory.get u.win.mem a) ∧
      t.win.busy.getLsbD k.val = false ∧ t.win.complete.getLsbD k.val = true ∧
      (∀ j : Fin 32, j ≠ k → t.win.busy.getLsbD j.val = u.win.busy.getLsbD j.val ∧ t.win.complete.getLsbD j.val = u.win.complete.getLsbD j.val)

/-- The System and Attic classes: what their reads answer, and what their operation, firmware, free-area and Attic commands do.
Accepted, each of these rows changes nothing but its mailbox. System-Identify answers the stepping, firmware version, grade,
host port mode, serial number, the interface version 1, the image slot, the role, the key id of slot 1 and zone time; Get-State
the state word, the heartbeat and the three counts; Echo its own payload; Free-Read its request head and the bytes of the free
area; Attic-Get-Header the stored header; Attic-Get-Block the block with its CRC. Release-Operation frees a progress entry that
is not RUNNING; Cancel-Operation cancels one that runs and is before its cancellable point, with OUTCOME 0, and answers OUTCOME
1 for one that has ended; Firmware-Begin takes the lowest FREE entry for twice the image and its header and stores the header in
the inactive slot; Firmware-Put appends its bytes at the next offset and answers the bytes received; Firmware-Commit of a whole
image marks it to be verified; Free-Write stores its bytes in the free area; Attic-Read takes an entry for its readout;
Attic-Clear clears the two dump flags. Nothing else of the state changes but the mailbox. -/
def Obligations.SystemAndAtticClassesAnswer : Prop :=
  Reads .systemIdentify cmdSystemIdentify always (fun _ u => le 1 u.sys.steppingLetter ++ le 1 u.sys.steppingDigit ++ le 1 u.sys.fwMajor ++ le 1 u.sys.fwMinor ++
      le 2 u.sys.fwPatch ++ le 1 u.sys.grade ++ le 1 (if u.win.qspi then 1 else 0) ++ le 8 u.sys.serial ++ le 4 1 ++ le 1 u.win.imageSlot ++ le 1 u.win.role.code ++
      zeros 2 ++ identityKeyId ++ le 8 u.zone) ∧
    Reads .systemGetState cmdSystemGetState always (fun _ u => le 4 u.win.stateWord ++ le 4 u.win.heartbeat.toNat ++ le 4 u.win.lateTakes ++ le 4 u.win.ringBusyCount ++
      le 4 u.win.checkFailedCount) ∧
    Reads .systemEcho cmdSystemEcho always (fun c _ => c.payload) ∧
    Reads .systemFreeRead cmdSystemFreeRead always (fun c u => slice c.payload 0 8 ++ Memory.read u.sys.free (fld c.payload 0 4) (fld c.payload 4 2)) ∧
    Reads .atticGetHeader cmdAtticGetHeader always (fun _ u => fit 256 u.sys.atticHeader) ∧
    (∀ total bad, Reads .atticGetBlock cmdAtticGetBlock (fun c u => u.sys.readoutDone == some (total, bad) && !bad.contains (fld c.payload 0 4))
      (fun c u => le 4 (fld c.payload 0 4) ++ le 4 (crc32c (atticBlock (fld c.payload 0 4) u)) ++ le 4 0 ++ atticBlock (fld c.payload 0 4) u)) ∧
    (∀ total bad, Reads .atticGetBlock cmdAtticGetBlock (fun c u => u.sys.readoutDone == some (total, bad) && bad.contains (fld c.payload 0 4))
      (fun c u => le 4 (fld c.payload 0 4) ++ le 4 (Config.atticCrc u.sys.dumps (fld c.payload 0 4)) ++ le 4 1 ++ atticBlock (fld c.payload 0 4) u)) ∧
  (∀ e : Progress, Acts .systemReleaseOperation cmdSystemReleaseOperation (fun c u => namedOp c u == some e && e.state != 1)
      (fun c u => { u with sys := { u.sys with ops := tabErase u.sys.ops (fld c.payload 0 2) } }) (fun _ _ => [])) ∧
    (∀ e : Progress, Acts .systemCancelOperation cmdSystemCancelOperation
      (fun c u => namedOp c u == some e && e.code != 0x0306 && e.state == 1 && !pastPoint (fld c.payload 0 2) u)
      (fun c u => endEntry (fld c.payload 0 2) 4 0x0F [] (dropOp (fld c.payload 0 2) u)) (fun _ _ => [0, 0, 0, 0])) ∧
    (∀ e : Progress, Reads .systemCancelOperation cmdSystemCancelOperation (fun c u => namedOp c u == some e && e.code != 0x0306 && e.state != 1) (fun _ _ => [1, 0, 0, 0])) ∧
    (∀ n : Nat, Completes .systemFirmwareBegin cmdSystemFirmwareBegin (fun _ u => freeEntry u == some n)
      (fun c u => progressTo n 256 (setFwSlot (1 - u.win.imageSlot) { header := c.payload, body := [] }
        (let v := takeEntry n c.path 0x0006 c.tag c.mbox (2 * (256 + fld c.payload 0x0C 4)) u
         { v with sys := { v.sys with fw := some { entry := n, slot := 1 - u.win.imageSlot, bodyLength := fld c.payload 0x0C 4, last := u.tb.now } } })))
      (fun _ _ => .accepted n)) ∧
    (∀ f : FwUpdate, Acts .systemFirmwarePut cmdSystemFirmwarePut
      (fun c u => decide (namedFw c u = .inr f) && fld c.payload 4 4 == (fwSlot f.slot u).body.length && decide (fld c.payload 4 4 + fld c.payload 8 2 ≤ f.bodyLength))
      (fun c u => progressTo f.entry (256 + fld c.payload 4 4 + fld c.payload 8 2)
        (setFwSlot f.slot { fwSlot f.slot u with body := (fwSlot f.slot u).body ++ slice c.payload 12 (fld c.payload 8 2) }
          { u with sys := { u.sys with fw := some { f with last := u.tb.now } } }))
      (fun c _ => le 4 (fld c.payload 4 4 + fld c.payload 8 2))) ∧
    (∀ f : FwUpdate, Acts .systemFirmwareCommit cmdSystemFirmwareCommit (fun c u => decide (namedFw c u = .inr f) && (fwSlot f.slot u).body.length == f.bodyLength)
      (fun c u => { u with sys := { u.sys with fw := some { f with last := u.tb.now, commit := some (fld c.payload 2 2) } } }) (fun _ _ => [])) ∧
    Acts .systemFreeWrite cmdSystemFreeWrite always
      (fun c u => { u with sys := { u.sys with free := Memory.write u.sys.free (fld c.payload 0 4) (slice c.payload 8 (fld c.payload 4 2)) } }) (fun _ _ => []) ∧
    (∀ n : Nat, Completes .atticRead cmdAtticRead (fun _ u => freeEntry u == some n)
      (fun c u => let total := if bit (fld u.sys.atticHeader 6 2) 0 then 1088 else 64
        let v := takeEntry n c.path 0x1202 c.tag c.mbox total u
        { v with sys := { v.sys with readout := some { entry := n, total := total } } })
      (fun _ _ => .accepted n)) ∧
    Acts .atticClear cmdAtticClear always (fun _ u => { u with win := { u.win with atticValid := false, atticIncomplete := false } }) (fun _ _ => [])

/-- Verification and timeout of a firmware update, a fatal error, the Keeper's restart, the release after a resign and the end of an
Attic readout. A committed image that reads back intact and matches its digest makes its slot PREFERRED on trial and ends the
operation DONE, and asks for a PIN reset if mode 0; one that does not ends it FAILED with 0x25. An update without a Put or
Commit for 60 s ends FAILED with 0x26. A first fatal error makes STATE FATAL with its code and clears the rings; a second one
before the restart cuts the dump. 60 ms after it the dump is written and the Keeper restarts from a good slot. 100 ms after a
resign frame the outputs are released. A readout ends DONE with the number of blocks and of bad blocks. -/
def Obligations.FirmwareAndFatalEventsRun : Prop :=
  ∀ dt : Nat,
    (∀ (f : FwUpdate) (mode : Nat), Runs (.fwVerifyComplete dt true) dt
      (fun u => u.sys.fw = some f ∧ f.commit = some mode ∧ slice (fwSlot f.slot u).header 0x10 48 = fit 48 (Config.sha384 (fwSlot f.slot u).body))
      (fun u =>
        let x := fwSlot f.slot u
        let v := progressTo f.entry (2 * (256 + f.bodyLength)) { u with boot := { u.boot with preferred := f.slot, trial := true } }
        let v := opDone f.entry (le 1 f.slot ++ slice x.header 7 1 ++ slice x.header 8 2 ++ slice x.header 0x0A 2 ++ zeros 2 ++ fit 48 (Config.sha384 (imageBytes x))) (dropOp f.entry v)
        if mode = 0 then requestPin v else v)) ∧
    (∀ (f : FwUpdate) (mode : Nat), Runs (.fwVerifyComplete dt false) dt (fun u => u.sys.fw = some f ∧ f.commit = some mode)
      (fun u => opFail f.entry 0x25 (dropOp f.entry u))) ∧
    (∀ f : FwUpdate, f.commit = none → Runs (.fwTimeout dt) dt (fun u => u.sys.fw = some f ∧ f.last + 60000000000 ≤ u.tb.now) (fun u => opFail f.entry 0x26 (dropOp f.entry u))) ∧
    (∀ (source : Fin 8) (unit : BitVec 8) (detail : BitVec 16), source.val ≠ 0 →
      Runs (.fatalError dt source unit detail) dt (fun u => keeperUp u = true ∧ u.sys.fatalAt = none)
        (fun u =>
          let v := raise 10 (setModState .fatal { u with win := { u.win with fatalCode := BitVec.ofNat 32 (source.val * 2 ^ 24 + unit.toNat * 2 ^ 16 + detail.toNat) } })
          resign (abortAll 7 (abandonReplan (abandonSolve
            { v with win := { v.win with rung := 0, rungAt := [], rungBy := [] }, sys := { v.sys with fatalAt := some v.tb.now, fatalCut := false } }))))) ∧
    (∀ (source : Fin 8) (unit : BitVec 8) (detail : BitVec 16) (s : State) (at_ : Nat), source.val ≠ 0 → keeperUp (advance dt s) = true → s.sys.fatalAt = some at_ →
      ∃ t, exec (.fatalError dt source unit detail) s = .next t ∧ t.win.fatalCode = BitVec.ofNat 32 (source.val * 2 ^ 24 + unit.toNat * 2 ^ 16 + detail.toNat) ∧
        t.win.atticIncomplete = true ∧ t.sys.fatalCut = true ∧ t.win.st = s.win.st) ∧
    (∀ (facts : StartFacts) (at_ n : Nat) (fb : Bool), Runs (.keeperRestart dt facts) dt
      (fun u => keeperUp u = true ∧ u.sys.fatalAt = some at_ ∧ at_ + 60000000 ≤ u.tb.now ∧ onTrial u = false ∧ chooseSlot (restartKeeper facts (writeDump u)) = .inr (n, fb))
      (fun u =>
        let v := setModState .booting (runImage n fb (restartKeeper facts (writeDump u)))
        { v with boot := { v.boot with t0 := (restartKeeper facts (writeDump u)).tb.now } })) ∧
    (∀ at_ : Nat, Runs (.resignRelease dt) dt (fun u => u.sys.resignAt = some at_ ∧ at_ + 100000000 ≤ u.tb.now)
      (fun u => mbusFollow (outputsOff { u with sys := { u.sys with resignAt := none, released := true } }))) ∧
    (∀ (bad : List Nat) (o : Readout), Runs (.atticReadoutComplete dt bad) dt (fun u => u.sys.readout = some o)
      (fun u =>
        let bad' := (List.range o.total).filter (fun n => bad.contains n)
        opDone o.entry (le 4 o.total ++ le 4 bad'.length)
          (progressTo o.entry o.total { u with sys := { u.sys with readout := none, readoutDone := some (o.total, bad') } })))

/-- A network model is loaded row by row, validated, and committed to the other slot for its activation time. Accepted, Begin-Load
takes the lowest FREE progress entry and holds the header; Put-Rows with the next rows of the table in turn, all of them sound,
adds them and answers the rows received; Commit-Load of a complete image marks it with its mode and time; Get-Info and Read-Rows
answer the active model's header, digest, activation and slot, and its rows. A committed load that validates on a module that
feeds no twin is committed to the other slot with activation at its mode 1 time, or at the first epoch instant at least 10 ms
away; one that does not validate fails with what validation found. A load without a command for 60 s fails with 0x2C; a mode 1
load not committed 10 ms before its time fails with 0x2B. -/
def Obligations.ModelLoadsAreStagedCheckedAndCommitted : Prop :=
  (∀ n : Nat, Completes .modelBeginLoad cmdModelBeginLoad (fun _ u => freeEntry u == some n)
      (fun c u =>
        let v := takeEntry n c.path 0x0401 c.tag c.mbox (fld c.payload 0x38 4) u
        (replicate 0x15 true c.payload { v with model := { v.model with load := some { entry := n, image := { header := c.payload }, last := u.tb.now } } }).1)
      (fun _ _ => .accepted n)) ∧
    (∀ l : ModelLoad, Acts .modelPutRows cmdModelPutRows
      (fun c u => decide (namedLoad c u = .inr l) && nextRow l.image == some (fld c.payload 2 1, fld c.payload 4 4) &&
        decide (fld c.payload 4 4 + fld c.payload 8 2 ≤ rowsOf l.image.header (fld c.payload 2 1)) &&
        (rowsFail l.image.header (fld c.payload 2 1) 12 (putRows c.payload)).isNone)
      (fun c u =>
        let img := l.image.add (fld c.payload 2 1) (putRows c.payload)
        (replicate 0x15 true c.payload (progressTo l.entry img.count { u with model := { u.model with load := some { l with image := img, last := u.tb.now } } })).1)
      (fun c _ => le 4 (l.image.add (fld c.payload 2 1) (putRows c.payload)).count)) ∧
    (∀ l : ModelLoad, Acts .modelCommitLoad cmdModelCommitLoad (fun c u => decide (namedLoad c u = .inr l) && l.image.count == fld l.image.header 0x38 4)
      (fun c u => { u with model := { u.model with load := some { l with commit := some (fld c.payload 2 2, fld c.payload 4 8), last := u.tb.now } } }) (fun _ _ => [])) ∧
    (∀ m : ModelImage, Reads .modelGetInfo cmdModelGetInfo (fun _ u => u.model.active == some m)
      (fun _ u => m.header ++ m.digest ++ le 8 u.model.activation ++ le 1 u.model.slot ++ le 1 (if u.model.pending.isSome then 1 else 0) ++ zeros 2)) ∧
    Reads .modelGetInfo cmdModelGetInfo (fun _ u => u.model.active.isNone)
      (fun _ u => zeros 112 ++ le 8 u.model.activation ++ le 1 u.model.slot ++ le 1 (if u.model.pending.isSome then 1 else 0) ++ zeros 2) ∧
    (∀ m : ModelImage, Reads .modelReadRows cmdModelReadRows
      (fun c u => u.model.active == some m && decide (fld c.payload 4 4 + fld c.payload 2 2 ≤ (m.table (fld c.payload 0 1)).length))
      (fun c _ => slice c.payload 0 8 ++ (((m.table (fld c.payload 0 1)).drop (fld c.payload 4 4)).take (fld c.payload 2 2)).flatten)) ∧
    (∀ dt : Nat,
      (∀ (l : ModelLoad) (at_ : Nat), Runs (.modelValidationComplete dt) dt
        (fun u => u.model.load = some l ∧ l.commit = some (1, at_) ∧ l.validated = false ∧ validate l.image (generation u.model.active) u = none ∧ feedsTwin u = false ∧
          u.zone + 10000000 ≤ at_)
        (fun u => commitModel { l with validated := true } at_ { u with model := { u.model with load := some { l with validated := true } } })) ∧
      (∀ (l : ModelLoad) (at_ : Nat), Runs (.modelValidationComplete dt) dt
        (fun u => u.model.load = some l ∧ l.commit = some (0, at_) ∧ l.validated = false ∧ l.chosen = none ∧ validate l.image (generation u.model.active) u = none ∧ feedsTwin u = false)
        (fun u => commitModel { l with validated := true } (nextGrid (epochNs u) (u.zone + 9999999)) { u with model := { u.model with load := some { l with validated := true } } })) ∧
      (∀ (l : ModelLoad) (c : Nat × Nat), Runs (.modelValidationComplete dt) dt
        (fun u => u.model.load = some l ∧ l.commit = some c ∧ l.validated = false ∧ (validate l.image (generation u.model.active) u).isSome = true)
        (fun u => match validate l.image (generation u.model.active) u with | some f => loadFail l.entry f u | none => u)) ∧
      (∀ l : ModelLoad, l.commit = none → Runs (.loadTimeout dt) dt (fun u => u.model.load = some l ∧ l.last + 60000000000 ≤ u.tb.now)
        (loadFail l.entry (0x2C, 0, noRow, 0xFFFF, noRow))) ∧
      (∀ (l : ModelLoad) (at_ : Nat), l.commit = some (1, at_) → Runs (.modelActivationPassed dt) dt (fun u => u.model.load = some l ∧ at_ ≤ u.zone + 10000000)
        (loadFail l.entry (0x2B, 0, noRow, 0xFFFF, noRow))))

/-- The Solver class: configuration, status, published state, release of a quarantined binding, and warm starts. Accepted,
Solver-Get-Config answers the configuration in force and the pending one with its time; Set-Config with intervals that fit the
optimiser's holds the new record until the next common boundary of the old and new epoch lengths, which must be within an hour
when the length changes, and answers that time; Get-Status the status report; Read-State the published records of a KIND, cut to
the request; Release-Binding ends a binding's quarantine; Warm-Start takes a progress entry for WARM_MAX_ITER items. Nothing
else changes but the mailbox. -/
def Obligations.SolverClassAnswers : Prop :=
  Reads .solverGetConfig cmdSolverGetConfig (fun _ u => u.solver.pend.isNone) (fun _ u => u.solver.cfg ++ (le 1 0 ++ zeros 3 ++ le 8 0 ++ zeros 88)) ∧
    (∀ (b : Bytes) (t : Nat), Reads .solverGetConfig cmdSolverGetConfig (fun _ u => u.solver.pend == some (b, t)) (fun _ u => u.solver.cfg ++ (le 1 1 ++ zeros 3 ++ le 8 t ++ b))) ∧
    Acts .solverSetConfig cmdSolverSetConfig
      (fun c u => epochFits u.opt.cfg (fld c.payload 0 4) && (match u.opt.pend with | some (o, _) => epochFits o (fld c.payload 0 4) | none => true) &&
        (fld c.payload 0 4 == fld u.solver.cfg 0 4 || decide (nextGrid (Nat.lcm (fld u.solver.cfg 0 4) (fld c.payload 0 4) * 1000000) u.zone ≤ u.zone + 3600000000000)))
      (fun c u => { u with solver := { u.solver with pend := some (c.payload, nextGrid (Nat.lcm (fld u.solver.cfg 0 4) (fld c.payload 0 4) * 1000000) u.zone) } })
      (fun c u => le 8 (nextGrid (Nat.lcm (fld u.solver.cfg 0 4) (fld c.payload 0 4) * 1000000) u.zone)) ∧
    Reads .solverGetStatus cmdSolverGetStatus always (fun _ u => solverStatus u) ∧
    (∀ p : PubState, Reads .solverReadState cmdSolverReadState (fun _ u => u.solver.pub == some p)
      (fun c _ => slice c.payload 0 8 ++ le 8 p.epoch ++ fit ((stateSize (fld c.payload 0 1)).1 * fld c.payload 2 2)
        (((p.records (fld c.payload 0 1)).drop (fld c.payload 4 4)).take (fld c.payload 2 2)).flatten)) ∧
    Acts .solverReleaseBinding cmdSolverReleaseBinding (fun c u => (tabGet? u.solver.quarantine (fld c.payload 0 4)).isSome)
      (fun c u => { u with solver := { u.solver with quarantine := tabErase u.solver.quarantine (fld c.payload 0 4), suspect := tabErase u.solver.suspect (fld c.payload 0 4) } }) (fun _ _ => []) ∧
    (∀ n : Nat, Completes .solverWarmStart cmdSolverWarmStart (fun _ u => freeEntry u == some n)
      (fun c u => let v := takeEntry n c.path 0x0506 c.tag c.mbox (fld u.solver.cfg 0x54 2) u
        { v with solver := { v.solver with warm := some { entry := n, mode := fld c.payload 0 2 } } })
      (fun _ _ => .accepted n))

/-- Epoch instants, the deadlines and the end of a solve, scratch errors, the end of a quarantine and of a warm start. At an epoch
instant of an awake module the epoch's index is taken and the accepted configurations and a due return to ACTIVE take effect;
with a solve still running the epoch is skipped, else a due model swap happens and, where the solver runs, the solve of that
epoch starts. 80 ms and 120 ms into a solve its estimation and Newton limits are noted. A solve that ends is published if the
checks of its result say it converged, and counted as a failure if not. A scratch error in a solve replaces the cell and
restarts it once, and abandons it the second time. A binding's quarantine ends after QUARANTINE_S. A warm start that converged
within its limits ends DONE; one that used them up fails with 0x24. -/
def Obligations.SolverInstantsRun : Prop :=
  ∀ dt : Nat,
    (∀ m : ModelImage, Runs (.epochInstant dt) dt
      (fun u => keeperUp u = true ∧ awake u = true ∧ u.solver.lastEpoch < u.zone / epochNs u ∧ 0 < epochNs u ∧
        (let v := returnActive (applyNetConfig (applySolverConfig { u with solver := { u.solver with lastEpoch := u.zone / epochNs u } }))
         v.solver.run = none ∧ v.solver.optCell = false ∧ (swapDue (u.zone / epochNs u * epochNs u) v).model.active = some m ∧
          solverRuns (swapDue (u.zone / epochNs u * epochNs u) v) = true))
      (fun u =>
        let t0 := u.zone / epochNs u * epochNs u
        let v := swapDue t0 (returnActive (applyNetConfig (applySolverConfig { u with solver := { u.solver with lastEpoch := u.zone / epochNs u } })))
        startSolve t0 m { v with opt := { v.opt with suspended := true } })) ∧
    Runs (.epochInstant dt) dt
      (fun u => keeperUp u = true ∧ awake u = true ∧ u.solver.lastEpoch < u.zone / epochNs u ∧ 0 < epochNs u ∧
        (let v := returnActive (applyNetConfig (applySolverConfig { u with solver := { u.solver with lastEpoch := u.zone / epochNs u } }))
         v.solver.run.isSome = true ∧ v.solver.optCell = false))
      (fun u => skipEpoch (u.zone / epochNs u * epochNs u)
        (returnActive (applyNetConfig (applySolverConfig { u with solver := { u.solver with lastEpoch := u.zone / epochNs u } })))) ∧
    (∀ r : Solve, Runs (.estimationDeadline dt) dt (fun u => u.solver.run = some r ∧ r.t0 + 80000000 ≤ u.zone)
      (fun u => { u with solver := { u.solver with run := some { r with estLimit := true } } })) ∧
    (∀ r : Solve, Runs (.newtonDeadline dt) dt (fun u => u.solver.run = some r ∧ r.t0 + 120000000 ≤ u.zone)
      (fun u => { u with solver := { u.solver with run := some { r with newtonOver := true } } })) ∧
    (∀ (r : Solve) (m : ModelImage) (x : SolveResult), Runs (.solveComplete dt x) dt (fun u => u.solver.run = some r ∧ u.model.active = some m)
      (fun u =>
        let v := workThrough m r x u
        let t := abandonSolve u
        let t := { t with opt := { t.opt with solveTimes := (t.opt.solveTimes ++ [x.times.getD 4 0]).drop (t.opt.solveTimes.length - 9) } }
        if v.converged then publishSolve r x v t else failSolve r x v t)) ∧
    (∀ r : Solve, r.restarted = false → Runs (.scratchUncorrectable dt true) dt (fun u => u.solver.run = some r ∧ 0 < u.solver.spares ∧ u.solver.faulted = false)
      (fun u =>
        let t := emit 0x0505 [(u.solver.spares - 1 : Nat)] { u with solver := { u.solver with spares := u.solver.spares - 1 } }
        { t with solver := { t.solver with hwRetries := (t.solver.hwRetries + 1) % 2 ^ 32, run := some { r with restarted := true, estLimit := false, newtonOver := false } } })) ∧
    (∀ r : Solve, Runs (.scratchUncorrectable dt true) dt (fun u => u.solver.run = some r ∧ (r.restarted = true ∨ u.solver.spares = 0))
      (fun u => abandonSolve { replaceCell u with solver := { (replaceCell u).solver with outcome := 4 } })) ∧
    Runs (.scratchUncorrectable dt false) dt (fun u => u.opt.run.isSome = true) (fun u => replanFailed 6 { u with solver := { u.solver with optCell := true } }) ∧
    (∀ n t : Nat, Runs (.quarantineExpiry dt n) dt (fun u => tabGet? u.solver.quarantine n = some t ∧ t + fld u.solver.cfg 0x22 2 * 1000000000 ≤ u.tb.now)
      (fun u => { u with solver := { u.solver with quarantine := tabErase u.solver.quarantine n, suspect := tabErase u.solver.suspect n } })) ∧
    (∀ (w : WarmStart) (x : WarmResult), x.converged = true → Runs (.warmStartComplete dt x) dt
      (fun u => u.solver.warm = some w ∧ x.iterations ≤ fld u.solver.cfg 0x54 2 ∧ f32Val x.mass ≤ f32Rat (fld u.solver.cfg 0x14 4) ∧ f32Val x.head ≤ f32Rat (fld u.solver.cfg 0x18 4))
      (fun u =>
        let v := progressTo w.entry x.iterations u
        opDone w.entry (le 4 x.iterations ++ le 4 x.mass ++ le 4 x.head) { v with solver := { v.solver with warm := none, warmIter := some (hydroOf x.result) } })) ∧
    (∀ (w : WarmStart) (x : WarmResult), x.converged = false → Runs (.warmStartComplete dt x) dt (fun u => u.solver.warm = some w ∧ fld u.solver.cfg 0x54 2 ≤ x.iterations)
      (fun u => endWarm 0x24 (progressTo w.entry x.iterations u)))

/-- The Optimiser class: configuration, curves and series, status, the plan, reconciliation and store models. Accepted, Get-Config
answers the configuration and the pending one; Set-Config whose intervals fit holds the record until the next replan instant, or
the next common boundary of the old and new grids when they change, within a day; Put-Curves and Put-Series of sound entries
store them under their numbers; Get-Status and Read-Plan answer the status and the plan's records of a unit or pump; Reconcile
in Oasis mode puts the module in phase 3 and answers the next replan instant; Fit-Store of a store takes an entry for the
samples of its window; Get-Store-Model answers the store's model. -/
def Obligations.OptimiserClassAnswers : Prop :=
  Reads .optimiserGetConfig cmdOptimiserGetConfig (fun _ u => u.opt.pend.isNone) (fun _ u => (optInputs u).cfg ++ (le 1 0 ++ zeros 7 ++ le 8 0 ++ zeros 64)) ∧
    (∀ (b : Bytes) (t : Nat), Reads .optimiserGetConfig cmdOptimiserGetConfig (fun _ u => u.opt.pend == some (b, t)) (fun _ u => (optInputs u).cfg ++ (le 1 1 ++ zeros 7 ++ le 8 t ++ b))) ∧
    Acts .optimiserSetConfig cmdOptimiserSetConfig (fun c u => optFits c.payload u && slice c.payload 0 8 == slice u.opt.cfg 0 8 && decide (nextGrid (replanNs u) u.zone ≤ u.zone + 86400000000000))
      (fun c u => { u with opt := { u.opt with pend := some (c.payload, nextGrid (replanNs u) u.zone) } }) (fun _ u => le 8 (nextGrid (replanNs u) u.zone)) ∧
    (∀ n : Nat, Acts .optimiserSetConfig cmdOptimiserSetConfig
      (fun c u => optFits c.payload u && slice c.payload 0 8 != slice u.opt.cfg 0 8 && decide (n ≤ u.zone + 86400000000000) &&
        n == nextGrid (Nat.lcm (Nat.lcm (fld c.payload 0 4) (fld c.payload 4 4)) (Nat.lcm (fld u.opt.cfg 0 4) (fld u.opt.cfg 4 4)) * 1000000) u.zone)
      (fun c u => { u with opt := { u.opt with pend := some (c.payload, n) } }) (fun _ _ => le 8 n)) ∧
    Acts .optimiserPutCurves cmdOptimiserPutCurves (fun c u => (putCurves c.payload).zipIdx.all (fun e => (entryFail (fld c.payload 0 2 + e.2) e.1 u).isNone))
      (fun c u => { u with opt := { u.opt with curves := (putCurves c.payload).zipIdx.foldl (fun t e => tabSet t (fld c.payload 0 2 + e.2) e.1) u.opt.curves } }) (fun _ _ => []) ∧
    Acts .optimiserPutSeries cmdOptimiserPutSeries (fun c _ => (disorder 0 (putPoints c.payload)).isNone)
      (fun c u => { u with opt := { u.opt with series := tabSet u.opt.series (fld c.payload 0 1 * 65536 + fld c.payload 2 2) (putPoints c.payload) } }) (fun _ _ => []) ∧
    Reads .optimiserGetStatus cmdOptimiserGetStatus always (fun _ u => optStatus u) ∧
    (∀ (p : Plan) (l : List Bytes), Reads .optimiserReadPlan cmdOptimiserReadPlan
      (fun c u => u.opt.plan == some p && tabGet? (if fld c.payload 0 1 = 0 then p.units else p.pumps) (fld c.payload 8 4) == some l)
      (fun c _ => slice c.payload 0 12 ++ zeros 4 ++ le 8 p.basis ++ le 8 p.step1 ++ le 4 p.stepMs ++ le 2 p.horizon ++ le 1 p.outcome ++ zeros 1 ++
        fit (16 * fld c.payload 4 2) ((l.drop (fld c.payload 2 2 - 1)).take (fld c.payload 4 2)).flatten)) ∧
    Acts .optimiserReconcile cmdOptimiserReconcile always (fun _ u => { u with opt := { u.opt with oasisPhase := 3 } }) (fun _ u => le 8 (nextGrid (replanNs u) u.zone)) ∧
    (∀ n : Nat, Completes .optimiserFitStore cmdOptimiserFitStore (fun c u => freeEntry u == some n && isStore (fld c.payload 0 4) u)
      (fun c u => let k := fitSamples (fld c.payload 0 4) (fld c.payload 4 4) u
        let v := takeEntry n c.path 0x0608 c.tag c.mbox k u
        { v with opt := { v.opt with fit := some { entry := n, store := fld c.payload 0 4, samples := k } } })
      (fun _ _ => .accepted n)) ∧
    Reads .optimiserGetStoreModel cmdOptimiserGetStoreModel (fun c u => isStore (fld c.payload 0 4) u) (fun c u => storeModel (optInputs u).storeModels (fld c.payload 0 4))

/-- Replans start at replan instants and end at completion or deadline; plan steps, Oasis mode and store fits. At a replan instant a
ready plan is published, an accepted configuration takes effect, and on an ACTIVE driving module with a solved state and its
inputs there a replan starts; it ends with its result when it completes, or at its deadline with what it reached. At a step
boundary the demand is kept and a driving module delivers the plan's step. A plan older than PLAN_AGE_LIMIT_S, or the loss of
the uplinks, puts a driving module in Oasis mode with its cause; OASIS_HOLD_S later its second phase begins. A store fit with at
least 60 samples and three temperature bindings ends DONE with the new model; with fewer it fails with 0x25 or 0x26. -/
def Obligations.OptimiserInstantsRun : Prop :=
  ∀ dt : Nat,
    (∀ m : ModelImage, Runs (.replanInstant dt) dt
      (fun u => 0 < replanNs u ∧ u.opt.lastReplan < u.zone / replanNs u ∧
        (let v := applyOptConfig (publishPlan { u with opt := { u.opt with lastReplan := u.zone / replanNs u } })
         v.opt.run = none ∧ v.win.power = .active ∧ driving v = true ∧ v.opt.solved = true ∧ safeStart v = false ∧ v.model.active = some m ∧ inputsThere m v = true))
      (fun u => startReplan (u.zone / replanNs u * replanNs u) m (applyOptConfig (publishPlan { u with opt := { u.opt with lastReplan := u.zone / replanNs u } })))) ∧
    (∀ x : ReplanResult, Runs (.replanComplete dt x) dt (fun u => u.opt.suspended = false) (endReplan x)) ∧
    (∀ (x : ReplanResult) (r : Replan), Runs (.replanDeadline dt x) dt (fun u => u.opt.run = some r ∧ r.deadline ≤ u.zone) (endReplan x)) ∧
    Runs (.stepBoundary dt) dt
      (fun u => 0 < planStepNs u ∧ u.opt.lastStep < u.zone / planStepNs u * planStepNs u ∧
        (let v := keepDemand (u.zone / planStepNs u * planStepNs u) { u with opt := { u.opt with lastStep := u.zone / planStepNs u * planStepNs u } }
         driving v = true ∧ (v.win.power = .active ∨ v.win.power = .quiet)))
      (fun u => deliverStep (u.zone / planStepNs u * planStepNs u)
        (keepDemand (u.zone / planStepNs u * planStepNs u) { u with opt := { u.opt with lastStep := u.zone / planStepNs u * planStepNs u } })) ∧
    (∀ b : Nat, Runs (.planAgeLimit dt) dt
      (fun u => planBasis u = some b ∧ driving u = true ∧ u.win.oasis = false ∧ b + fld u.opt.cfg 0x18 4 * 1000000000 < u.zone)
      (fun u => emit 0x0005 [0, 2] (setOasis true { u with opt := { u.opt with oasisPhase := 1, oasisCause := 2, oasisEntry := u.zone } }))) ∧
    Runs (.uplinkLoss dt) dt (fun u => driving u = true ∧ switchUp u = true ∧ uplinkAlive u = false ∧ u.win.oasis = false)
      (fun u => emit 0x0005 [0, 1] (setOasis true { u with opt := { u.opt with oasisPhase := 1, oasisCause := 1, oasisEntry := u.zone } })) ∧
    Runs (.oasisHoldEnd dt) dt (fun u => u.opt.oasisPhase = 1 ∧ driving u = true ∧ u.opt.oasisEntry + fld u.opt.cfg 0x1C 4 * 1000000000 ≤ u.zone)
      (fun u => noteNoProgram { u with opt := { u.opt with oasisPhase := 2 }, prog := { u.prog with oasisNoted := false } }) ∧
    (∀ (x : FitResult) (f : Fit), 60 ≤ f.samples → Runs (.storeFitComplete dt x) dt (fun u => u.opt.fit = some f ∧ 3 ≤ storeBindings f.store u)
      (fun u =>
        let b := le 4 x.kappa ++ le 4 x.loss ++ le 1 x.spread ++ zeros 3 ++ le 4 x.rms ++ le 8 u.zone
        opDone f.entry b (progressTo f.entry f.samples { u with opt := { u.opt with fit := none, storeModels := tabSet u.opt.storeModels f.store b } }))) ∧
    (∀ (x : FitResult) (f : Fit), f.samples < 60 → Runs (.storeFitComplete dt x) dt (fun u => u.opt.fit = some f)
      (fun u => opFail f.entry 0x25 { u with opt := { u.opt with fit := none } })) ∧
    (∀ (x : FitResult) (f : Fit), 60 ≤ f.samples → Runs (.storeFitComplete dt x) dt (fun u => u.opt.fit = some f ∧ storeBindings f.store u < 3)
      (fun u => opFail f.entry 0x26 { u with opt := { u.opt with fit := none } }))

/-- The Caravan class: staging, commit and abort, status, members, the list and the configuration. Accepted, Caravan-Stage opens a
caravan in the lowest free journal slot, or adds to an open one of the host's, when no entry's target is busy, named twice or
too many, and seals it where SEAL asks, answering its id and member count; Commit of a STAGED caravan and Abort of an undecided
one journal the decision and answer later; Get-Status, Read-Members, List and Get-Config answer the caravan's status, members,
the slots with the totals, and the configuration; Set-Config that leaves the plan its lead takes effect at once. -/
def Obligations.CaravanClassAnswers : Prop :=
  (∀ k : Nat, Completes .caravanStage cmdCaravanStage
      (fun c u => fld c.payload 0 4 == 0 && !(stageEntries c.payload).any (fun e => u.win.oasis && tgtKind e.1 == 1) && (findCar 0 u).isNone &&
        (busyEntry none (fld c.payload 8 8) [] u (stageEntries c.payload) 0).isNone && !tooMany [] (stageEntries c.payload) &&
        (List.range 16).find? (fun j => (tabGet? u.car.slots j).isNone) == some k)
      (fun c u => match openCar (fld c.payload 8 8) 1 (bit (fld c.payload 4 2) 1) (bit (fld c.payload 4 2) 2) u with
        | some (_, v) => if bit (fld c.payload 4 2) 0 then sealCar k (addMembers k (stageEntries c.payload) v) else addMembers k (stageEntries c.payload) v
        | none => u)
      (fun c u => .ok (le 4 u.car.nextId ++ le 2 (stageEntries c.payload).length ++ zeros 2))) ∧
    (∀ (k : Nat) (x : Caravan), Completes .caravanStage cmdCaravanStage
      (fun c u => fld c.payload 0 4 != 0 && !(stageEntries c.payload).any (fun e => u.win.oasis && tgtKind e.1 == 1) && carSlot (fld c.payload 0 4) u == some (k, x) &&
        tabGet? u.car.slots k == some x && !x.isSealed && x.state == 0 && x.deciding.isNone &&
        (busyEntry (some x.id) x.tAct (x.members.map (·.target)) u (stageEntries c.payload) 0).isNone && !tooMany (x.members.map (·.target)) (stageEntries c.payload))
      (fun c u => if bit (fld c.payload 4 2) 0 then sealCar k (addMembers k (stageEntries c.payload) u) else addMembers k (stageEntries c.payload) u)
      (fun c u => match tabGet? (addMembers k (stageEntries c.payload) u).car.slots k with
        | some y => .ok (le 4 y.id ++ le 2 y.members.length ++ zeros 2)
        | none => .ok (zeros 8))) ∧
    (∀ (k : Nat) (x : Caravan), Defers .caravanCommit cmdCaravanCommit
      (fun c u => carSlot (fld c.payload 0 4) u == some (k, x) && x.id == fld c.payload 0 4 && x.origin == 1 && x.standing == 0 && x.state == 1)
      (fun c u => decide_ k x none (some c.mbox) u)) ∧
    (∀ (k : Nat) (x : Caravan), Defers .caravanAbort cmdCaravanAbort
      (fun c u => carSlot (fld c.payload 0 4) u == some (k, x) && x.id == fld c.payload 0 4 && x.origin == 1 && x.standing == 0)
      (fun c u => decide_ k x (some 1) (some c.mbox) u)) ∧
    (∀ x : Caravan, Reads .caravanGetStatus cmdCaravanGetStatus (fun c u => findCar (fld c.payload 0 4) u == some x) (fun _ _ => carStatus x)) ∧
    (∀ x : Caravan, Reads .caravanReadMembers cmdCaravanReadMembers
      (fun c u => findCar (fld c.payload 0 4) u == some x && decide (fld c.payload 4 2 + fld c.payload 6 2 ≤ x.members.length))
      (fun c _ => c.payload.take 8 ++ ((x.members.drop (fld c.payload 4 2)).take (fld c.payload 6 2)).flatMap memberRecord)) ∧
    Reads .caravanList cmdCaravanList always (fun _ u => le 2 u.car.slots.length ++ zeros 2 ++
      (List.range 16).flatMap (fun k => match tabGet? u.car.slots k with
        | none => zeros 16
        | some x => le 4 x.id ++ le 1 x.state ++ le 1 x.origin ++ le 2 x.members.length ++ le 8 x.tAct) ++
      le 4 u.car.committedTotal ++ le 4 u.car.abortedTotal ++ le 4 u.car.inDoubtTotal ++ le 4 u.car.orphanedTotal) ∧
    Reads .caravanGetConfig cmdCaravanGetConfig always (fun _ u => u.car.cfg) ∧
    Acts .caravanSetConfig cmdCaravanSetConfig (fun c u => leadFits (fld c.payload 0 4) u) (fun c u => { u with car := { u.car with cfg := c.payload } }) (fun _ _ => [])

/-- Caravan messages are taken by their content, and the caravan timers decide, resend and settle. An authenticated CARAVAN frame
whose header and body fit is taken as the ACK, DECISION_ACK, REPORT or QUERY it is. A decision whose record is durable, with no
twin item outstanding, is settled: a commit or an abort. RETRY_INTERVAL_MS after the last send the messages go again to the
nodes that have not answered, of an ended caravan too. An undecided caravan past its STAGE_DEADLINE aborts with reason 2. At the
activation instant on a driving module the committed caravans that are due are applied and judged. After the confirm window an
unresolved caravan is IN_DOUBT and a resolved one is done; at the orphan instant what is unresolved is ORPHANED. -/
def Obligations.CaravanMessagesAndTimersRun : Prop :=
  Hears .caravanAck 0x10 (caravanBody 2) takeAck ∧ Hears .decisionAck 0x10 (caravanBody 5) takeDecisionAck ∧
    Hears .report 0x10 (caravanBody 6) takeReport ∧ Hears .query 0x10 (caravanBody 8) takeQuery ∧
    (∀ dt id : Nat,
      (∀ (k : Nat) (x : Caravan), Runs (.decisionDurable dt id) dt
        (fun u => carSlot id u = some (k, x) ∧ tabGet? u.car.slots k = some x ∧ x.deciding = some none ∧ x.twinItem = none)
        (fun u => committed k { x with written := true } (keepCar k { x with written := true } u))) ∧
      (∀ (k reason : Nat) (x : Caravan), Runs (.decisionDurable dt id) dt
        (fun u => carSlot id u = some (k, x) ∧ tabGet? u.car.slots k = some x ∧ x.deciding = some (some reason) ∧ x.twinItem = none)
        (fun u => aborted k { x with written := true } (keepCar k { x with written := true } u))) ∧
      (∀ (k : Nat) (x : Caravan), Runs (.caravanRetry dt id) dt (fun u => carSlot id u = some (k, x) ∧ x.lastSend + x.retryMs * 1000000 ≤ u.tb.now)
        (fun u => keepCar k (resendAll x u).1 (resendAll x u).2)) ∧
      (∀ x : Caravan, Runs (.caravanRetry dt id) dt (fun u => carSlot id u = none ∧ findCar id u = some x ∧ x.lastSend + x.retryMs * 1000000 ≤ u.tb.now)
        (fun u =>
          let v := (resendAll x u).2
          { v with car := { v.car with ended := v.car.ended.map (fun y => if y.id = id then (resendAll x u).1 else y) } })) ∧
      (∀ (k : Nat) (x : Caravan), Runs (.stageDeadline dt id) dt (fun u => carSlot id u = some (k, x) ∧ x.standing = 0 ∧ x.tStage ≤ u.zone) (decide_ k x (some 2) none)) ∧
      Runs (.activationInstant dt) dt (fun u => dueCaravans u ≠ [] ∧ engineRuns u = true ∧ driving u = true)
        (fun u =>
          let cs := dueCaravans u
          let b := applyOutWrites (applyWaitingAll u)
          let ms := dueMembers cs
          let w := ms.foldl (fun t e => writeMember e.2.target e.2.value t) b
          let w := resolveAll (if w.tb.now % 100000 = 0 then loopTick w else w)
          let z := ms.foldl (judgeMember b) w
          let z := if ms.any (fun e => memberOutcome e.2.target w == 0x20) then yieldRow 1 2 32 z else z
          { z with car := { z.car with slots := z.car.slots.map (fun e => if cs.any (fun c => c.id == e.2.id) then (e.1, { e.2 with activated := true }) else e) } }) ∧
      (∀ (k : Nat) (x : Caravan), Runs (.confirmWindowEnd dt id) dt
        (fun u => carSlot id u = some (k, x) ∧ x.state = 2 ∧ x.tAct + x.confirmMs * 1000000 ≤ u.zone ∧ (x.members.all (·.resolved)) = true) (endCar k { x with state := 4 })) ∧
      (∀ (k : Nat) (x : Caravan), Runs (.confirmWindowEnd dt id) dt
        (fun u => carSlot id u = some (k, x) ∧ x.state = 2 ∧ x.tAct + x.confirmMs * 1000000 ≤ u.zone ∧ (x.members.all (·.resolved)) = false)
        (fun u => emit 0x0702 [id, (x.members.filter (!·.resolved)).length]
          (putCar k { x with state := 3 } { u with car := { u.car with inDoubtTotal := (u.car.inDoubtTotal + 1) % 2 ^ 32 } }))) ∧
      (∀ (k : Nat) (x : Caravan), Runs (.orphanInstant dt id) dt
        (fun u => carSlot id u = some (k, x) ∧ (x.state = 2 ∨ x.state = 3) ∧ x.tAct + (x.lateMs + x.confirmMs) * 1000000 ≤ u.zone)
        (fun u => x.members.foldl (fun t m => settleMember id m.target (fun y => { y with status := 4, reason := 0x15 }) t) u)))

/-- A field frame that fails a check of R238 is counted under that reason and has no other effect. For every received frame row: a
frame that comes in on an up port of a running switch, untagged or with the management VLAN and no duplicate, and fails a check,
changes only the port's and the module's receive counts, the duplicate window, the count of the first reason it fails, and,
where its tag does not verify, the failures of the node it names; with the module's ports down only time passes. -/
def Obligations.FramesThatFailAreCountedAndIgnored : Prop :=
  ∀ (dt : Nat) (f : FfpFrame) (i : Instr) (reason : Nat),
    i ∈ [Instr.telemetry dt f, .writeAck dt f, .nak dt f, .announce dt f, .caravanAck dt f, .decisionAck dt f, .report dt f, .query dt f] →
    Runs i dt (fun u => ffpOn u = true ∧ 1 ≤ f.port ∧ f.port ≤ 10 ∧ portUp f.port u = true ∧ (f.vid = none ∨ f.vid = some (fld u.net.cfg 8 2)) ∧
        (let v := setPort f.port (fun q => { q with rx := (q.rx + 1) % 2 ^ 32 }) u
         prpDuplicate f v = false ∧ discardReason f { prpEnter f v with net := { (prpEnter f v).net with rxFrames := ((prpEnter f v).net.rxFrames + 1) % 2 ^ 32 } } = some reason))
      (fun u =>
        let v := prpEnter f (setPort f.port (fun q => { q with rx := (q.rx + 1) % 2 ^ 32 }) u)
        let v := discard reason { v with net := { v.net with rxFrames := (v.net.rxFrames + 1) % 2 ^ 32 } }
        if reason = 7 then
          { v with net := { v.net with nodes := tabSet v.net.nodes f.src { tabGet {} v.net.nodes f.src with authFails := min 0xFFFF ((tabGet {} v.net.nodes f.src).authFails + 1) } } }
        else v) ∧
    Runs i dt (fun u => ffpOn u = false ∨ portUp f.port u = false) id

/-- The Network and Time class: configuration, ports, cable tests, counters, nodes, zone time and its setting. Accepted, the Get and
status commands answer the configuration, a port's status, the frame counters, the node records and the captures; Net-Set-Config
that is sound holds the record until the next epoch; Port-Cable-Test answers the measured result, a free value; Time-Set-Config
takes effect at once, and a change of TIME_SOURCE returns TIME_STATE to FREE_RUN or ACQUIRING with the new source; Time-Set
steps zone time under FREE_RUN and arms the next PPS edge under PPS_HOST; Time-Step applies the pending step and clears
TIME_FAULT. -/
def Obligations.NetworkClassAnswers : Prop :=
  Reads .netGetConfig cmdNetGetConfig always (fun _ u => u.net.cfg) ∧
    Acts .netSetConfig cmdNetSetConfig
      (fun c u => decide (3 * fld c.payload 0x0B 1 ≤ fld c.payload 0x0C 1) &&
        (u.car.slots == [] || (slice c.payload 0 8 == slice u.net.cfg 0 8 && slice c.payload 8 2 == slice u.net.cfg 8 2)))
      (fun c u => { u with net := { u.net with pend := some (c.payload, nextEpoch u) } }) (fun _ u => le 8 (nextEpoch u)) ∧
    Reads .portGetStatus cmdPortGetStatus always (fun c u => portStatus (fld c.payload 0 1) u) ∧
    Reads .portCableTest cmdPortCableTest (fun c u => decide (3 ≤ fld c.payload 0 1) && (!portInUse (fld c.payload 0 1) u || fld c.payload 1 1 != 0))
      (fun c u => let m := Config.cableTest (fld c.payload 0 1) u.tb.now
        le 1 (m.1 % 5) ++ le 1 0 ++ le 2 (if m.1 % 5 = 1 ∨ m.1 % 5 = 2 then min 1000 m.2 else 0xFFFF)) ∧
    Reads .ffpGetCounters cmdFfpGetCounters always (fun _ u => le 4 u.net.rxFrames ++ le 4 u.net.txFrames ++
      (List.range 10).flatMap (fun i => le 4 (tabGet 0 u.net.discards (i + 1))) ++ le 4 u.net.nakSent ++ le 4 u.net.nakReceived ++ le 4 u.net.undelivered ++
      le 4 (u.net.nodes.filter (fun e => e.1 != 0 && e.2.state == 2)).length) ∧
    Reads .nodeGetStatus cmdNodeGetStatus always
      (fun c u => slice c.payload 0 4 ++ (List.range (fld c.payload 2 2)).flatMap (fun i => nodeRecord (fld c.payload 0 2 + i) u)) ∧
    Reads .timeGet cmdTimeGet always (fun _ u => le 8 (u.zone / 10 ^ 9 % 2 ^ 48) ++ le 4 (u.zone % 10 ^ 9) ++ le 2 (u.tb.zone32 % 2 ^ 32 / 2 ^ 16) ++ le 1 u.tb.state ++
      le 1 u.tb.source ++ leInt 4 u.tb.offset ++ le 4 u.tb.meanPath ++ le 4 (u.tb.incr % 2 ^ 32) ++ le 1 (u.tb.incr / 2 ^ 32) ++ le 1 (announcedClass u) ++ zeros 2 ++
      leInt 8 u.tb.pendingStep ++ le 4 (match u.tb.holdoverAt with | none => 0 | some a => (u.tb.now - a) / 10 ^ 9) ++
      le 4 ((if u.tb.fault then 1 else 0) + (if u.tb.stepped then 2 else 0))) ∧
    Reads .timeGetConfig cmdTimeGetConfig always (fun _ u => u.tb.cfg) ∧
    Acts .timeSetConfig cmdTimeSetConfig (fun c u => fld u.tb.cfg 0 1 == fld c.payload 0 1) (fun c u => { u with tb := { u.tb with cfg := c.payload } }) (fun _ _ => []) ∧
    Acts .timeSetConfig cmdTimeSetConfig (fun c u => fld u.tb.cfg 0 1 != fld c.payload 0 1)
      (fun c u =>
        let src := fld c.payload 0 1
        setTimeState (if src = 2 then 0 else 1) { u with tb := { u.tb with cfg := c.payload, source := (if src = 0 then chooseSource u.tb.masters else if src = 1 then 3 else 0), inBand := 0, armed := none, lastSync := u.tb.now } })
      (fun _ _ => []) ∧
    Acts .timeSet cmdTimeSet (fun _ u => fld u.tb.cfg 0 1 == 2) (fun c u => stepZone (fld c.payload 0 8 * 10 ^ 9 + fld c.payload 8 4) u)
      (fun c _ => le 8 (fld c.payload 0 8 * 10 ^ 9 + fld c.payload 8 4)) ∧
    Acts .timeSet cmdTimeSet (fun _ u => fld u.tb.cfg 0 1 == 1) (fun c u => { u with tb := { u.tb with armed := some (fld c.payload 0 8) } })
      (fun c _ => le 8 (fld c.payload 0 8 * 10 ^ 9 + fld c.payload 8 4)) ∧
    Acts .timeStep cmdTimeStep always
      (fun _ u => setTimeState 1 (stepZone ((u.zone : Int) + u.tb.pendingStep).toNat { u with tb := { u.tb with pendingStep := 0, fault := false, inBand := 0 } }))
      (fun _ u => leInt 8 u.tb.pendingStep) ∧
    Reads .timeReadCaptures cmdTimeReadCaptures always (fun _ u => le 1 u.tb.captures.length ++ zeros 3 ++ fit 256 (u.tb.captures.flatMap captureBytes))

/-- Field frames, write retries, announcements, silence, supervision and port links. TELEMETRY, WRITE_ACK and NAK frames that pass
are taken by their content. A WRITE unanswered for WRITE_RETRY_MS is sent again while its resends last, and is UNDELIVERED after
them. ANNOUNCE goes out 25 ms after the last one. A node unheard for SILENCE_EPOCHS epochs becomes SILENT with its event. A PRP
supervision frame goes out every 2 s. A port follows the link its PHY reports, a T1L port being down at the wrong amplitude, and
an uplink's SyncE source is valid or trips with its link. -/
def Obligations.NetworkMessagesAndTimersRun : Prop :=
  Hears .telemetry 0x01 (fun _ => true) takeTelemetry ∧ Hears .writeAck 0x04 (fun _ => true) takeWriteAck ∧
    (∀ (dt : Nat) (f : FfpFrame), f.type = 0x07 → Runs (.nak dt f) dt (fun u => (receiveFfp f u).2 = true)
      (fun u => { (receiveFfp f u).1 with net := { (receiveFfp f u).1.net with nakReceived := ((receiveFfp f u).1.net.nakReceived + 1) % 2 ^ 32 } })) ∧
    (∀ dt : Nat,
      (∀ (id : Nat) (w : Write), Runs (.writeRetry dt id) dt
        (fun u => tabGet? u.net.writes id = some w ∧ w.last + fld u.net.cfg 0x0E 2 * 1000000 ≤ u.tb.now ∧ w.sends ≤ fld u.net.cfg 0x0D 1)
        (fun u => sendFfp 0x03 w.node (writeBody id w.entries) { u with net := { u.net with writes := tabSet u.net.writes id { w with sends := w.sends + 1, last := u.tb.now } } })) ∧
      (∀ (id : Nat) (w : Write), Runs (.writeRetry dt id) dt
        (fun u => tabGet? u.net.writes id = some w ∧ w.last + fld u.net.cfg 0x0E 2 * 1000000 ≤ u.tb.now ∧ fld u.net.cfg 0x0D 1 < w.sends)
        (fun u => undelivered w.node id w.entries { u with net := { u.net with writes := tabErase u.net.writes id } })) ∧
      Runs (.announceTimer dt) dt (fun u => speaks u = true ∧ u.net.announced = none)
        (fun u => sendFfp 0x06 0xFFFF (le 4 u.net.senderEpoch ++ le 1 1 ++ zeros 3 ++ le 8 u.zone) { u with net := { u.net with announced := some u.tb.now } }) ∧
      (∀ a : Nat, Runs (.announceTimer dt) dt (fun u => speaks u = true ∧ u.net.announced = some a ∧ a + 25000000 ≤ u.tb.now)
        (fun u => sendFfp 0x06 0xFFFF (le 4 u.net.senderEpoch ++ le 1 1 ++ zeros 3 ++ le 8 u.zone) { u with net := { u.net with announced := some u.tb.now } })) ∧
      (∀ (node : Nat) (n : Node), 1 ≤ node → node ≤ 0xFFFD → Runs (.nodeSilence dt node) dt
        (fun u => tabGet? u.net.nodes node = some n ∧ n.state = 1 ∧ n.heardAt + fld u.net.cfg 0x0C 1 * epochNs u ≤ u.tb.now)
        (fun u => emit 0x0801 [node, 0] { u with net := { u.net with nodes := tabSet u.net.nodes node { n with state := 2, returned := 0 } } })) ∧
      Runs (.prpSupervision dt) dt
        (fun u => (∀ a, u.net.supervised = some a → a + 2000000000 ≤ u.tb.now) ∧ switchUp u = true ∧ fld u.net.cfg 0x0A 1 = 1 ∧ uplinksOut u ≠ [])
        (fun u => send .prp { u with net := { u.net with supervised := some u.tb.now } }) ∧
      (∀ (p : Fin 11) (l : PortLink), 3 ≤ p.val → Runs (.portLinkChange dt p l) dt
        (fun u => switchUp u = true ∧ t1lEnabled p.val u = true ∧ (port p.val u).link ≠ 3)
        (setPort p.val (fun q => { q with
          link := if l.up && !l.amplitude then 1 else 0
          reason := if l.up && !l.amplitude then 0 else if l.amplitude then 2 else 1
          polarity := l.up && !l.amplitude && l.polarity }))) ∧
      (∀ (p : Fin 11) (l : PortLink), p.val = 1 ∨ p.val = 2 → l.up = true → l.synce = true → Runs (.portLinkChange dt p l) dt
        (fun u => switchUp u = true ∧ (port p.val u).link ≠ 3)
        (fun u => followSources 0 (setClkSource (p.val + 2) (fun c => { c with valid := true })
          (setPort p.val (fun q => { q with link := 1, reason := 0, polarity := l.polarity }) u)))) ∧
      (∀ (p : Fin 11) (l : PortLink), p.val = 1 ∨ p.val = 2 → (l.up && l.synce) = false → Runs (.portLinkChange dt p l) dt
        (fun u => switchUp u = true ∧ (port p.val u).link ≠ 3)
        (fun u =>
          let v := setPort p.val (fun q => { q with link := if l.up then 1 else 0, reason := if l.up then 0 else 1, polarity := l.up && l.polarity }) u
          if (clkSource (p.val + 2) u).state = 0 then setClkSource (p.val + 2) (fun c => { c with valid := false }) v else tripSource (p.val + 2) 4 v)))

/-- Sync, Announce, delay and PPS messages reach the time base as R226 to R231 say. On a running time base, a Sync of the configured
domain from the uplink that is the chosen source gives the servo the source's time plus the mean path and the uplink's asymmetry
less zone time; any other Sync of that domain only refreshes the uplinks' validity. The servo steps zone time by an offset
beyond the threshold before the first step, holds one beyond it later as PENDING_STEP_NS with TIME_FAULT and HOLDOVER, and else
slews. A Sync timeout leaves LOCKED for HOLDOVER; HOLDOVER_LIMIT_S lowers the announced class. A PPS edge is captured to 0.25
ns, and under PPS_HOST applies an armed Time-Set. PPS_OUT is driven at each second as PPS_OUT_MODE says. Sync and Announce go
out on the T1L ports at their intervals. -/
def Obligations.TimeSourcesDriveTheServo : Prop :=
  ∀ dt : Nat,
    (∀ up t1 : Nat, up < 2 → ∀ s : State, timeBaseRuns (advance dt s) = true → fld s.tb.cfg 0 1 = 0 → s.tb.source = up + 1 →
      (let u := { advance dt s with net := { s.net with uplinkValid := (advance dt s).tb.now } }
       let offset : Int := (t1 : Int) + s.tb.meanPath + uplinkAsymmetry up s - (advance dt s).zone
       ∃ t, exec (.sync dt up (fld s.tb.cfg 1 1) t1) s = .next t ∧ t.tb.offset = offset ∧ t.tb.lastSync = u.tb.now ∧
         (offset.natAbs ≤ stepThreshold s → s.tb.fault = false → t.tb.zone32 = u.tb.zone32 ∧ t.tb.incr = clampIncr (Config.servoIncr s.tb.servoCount offset) ∧
           t.tb.inBand = (if offset.natAbs ≤ 100 then min 16 (s.tb.inBand + 1) else 0) ∧ t.tb.state = (if t.tb.inBand = 16 then 2 else 1)) ∧
         (stepThreshold s < offset.natAbs → s.tb.stepped = false → 0 ≤ (u.zone : Int) + offset → t.tb.zone32 = ((u.zone : Int) + offset).toNat * 2 ^ 32 ∧ t.tb.stepped = true ∧ t.tb.state = 1) ∧
         (stepThreshold s < offset.natAbs → s.tb.stepped = true → s.tb.fault = false → t.tb.zone32 = u.tb.zone32 ∧ t.tb.pendingStep = offset ∧ t.tb.fault = true ∧ t.tb.state = 3))) ∧
    (∀ up t1 : Nat, up < 2 → ∀ s : State, timeBaseRuns (advance dt s) = true → (fld s.tb.cfg 0 1 ≠ 0 ∨ s.tb.source ≠ up + 1) →
      exec (.sync dt up (fld s.tb.cfg 1 1) t1) s = .next { advance dt s with net := { s.net with uplinkValid := (advance dt s).tb.now } }) ∧
    Runs (.syncTimeout dt false) dt (fun u => u.tb.source ≠ 0 ∧ u.tb.lastSync + 4 * u.tb.syncInterval ≤ u.tb.now ∧ u.tb.state = 2)
      (fun u => setTimeState 3 { u with tb := { u.tb with inBand := 0 } }) ∧
    Runs (.syncTimeout dt true) dt (fun u => u.tb.source = 1 ∨ u.tb.source = 2)
      (fun u => setSource (chooseSource (tabErase u.tb.masters (u.tb.source - 1))) { u with tb := { u.tb with masters := tabErase u.tb.masters (u.tb.source - 1) } }) ∧
    (∀ a : Nat, Runs (.holdoverLimit dt) dt (fun u => u.tb.holdoverAt = some a ∧ u.tb.state = 3 ∧ a + fld u.tb.cfg 8 4 * 1000000000 ≤ u.tb.now)
      (fun u => { u with tb := { u.tb with holdoverOver := true } })) ∧
    Runs (.t1lSyncTransmit dt) dt (fun u => serving u = true ∧ u.win.role ≠ .standby ∧ u.tb.t1lSync = none ∧ u.tb.t1lAnnounce = none)
      (fun u =>
        let v := sendT1l 8 (sendT1l 0 { u with tb := { u.tb with t1lSync := some u.tb.now } })
        sendT1l 11 { v with tb := { v.tb with t1lAnnounce := some v.tb.now } }) ∧
    Runs (.ppsInEdge dt) dt (fun u => timeBaseRuns u = true ∧ fld u.tb.cfg 0 1 ≠ 1)
      (fun u => { u with tb := { u.tb with captures := (u.tb.zone32 / 2 ^ 30 * 2 ^ 30 :: u.tb.captures).take 16 } }) ∧
    (∀ sec : Nat, Runs (.ppsInEdge dt) dt (fun u => timeBaseRuns u = true ∧ fld u.tb.cfg 0 1 = 1 ∧ u.tb.armed = some sec)
      (fun u => setTimeState 1 (stepZone (sec * 1000000000) { u with tb := { u.tb with captures := (u.tb.zone32 / 2 ^ 30 * 2 ^ 30 :: u.tb.captures).take 16, source := 3, lastSync := u.tb.now, armed := none, inBand := 0 } }))) ∧
    Runs (.ppsOutEdge dt) dt (fun u => timeBaseRuns u = true ∧ u.tb.ppsOut ≠ some (u.zone / 1000000000) ∧ fld u.tb.cfg 0x0E 1 = 2)
      (fun u => send (.pps (u.zone / 1000000000)) { u with tb := { u.tb with ppsOut := some (u.zone / 1000000000) } }) ∧
    (∀ d : Nat, ∀ p : Nat, (p = 1 ∨ p = 2) → ∀ s : State, timeBaseRuns (advance dt s) = true → s.tb.source = p →
      ∃ t, exec (.ptpMessage dt p (fld s.tb.cfg 1 1) (.delay d)) s = .next t ∧ t.tb.meanPath = d ∧ (tabGet {} t.net.ports p).meanPath = d ∧ t.net.uplinkValid = (advance dt s).tb.now) ∧
    (∀ p : Nat, ∀ s : State, timeBaseRuns (advance dt s) = true → 3 ≤ p → answersPdelay p (advance dt s) = true →
      exec (.ptpMessage dt p (fld s.tb.cfg 1 1) .pdelayReq) s = .next (send (.ptp p 10) (send (.ptp p 3) (advance dt s))))

/-- The RTC's rows: commits, alarms, the periodic wake, leap seconds, synchronisation, trimming and its faults. Accepted,
Rtc-Get-Time answers the counter, the calendar and the flags and clears FREEZE_TIMEOUT; Rtc-Stage stages the fields its MASK
names; Commit applies and empties the shadow; Discard empties it; Set-Alarm of a future instant stores it with the alarm's flags
kept; Get-Alarms answers the four alarms and clears their flags. A sync compares the RTC with zone time once a second. CAL gains
the measured error once 1,024 s of LOCKED have passed, within 511 either way. An enabled alarm whose instant has come fires; the
periodic wake is counted; a leap takes LEAP_NEW at LEAP_TIME; a stopped oscillator halts the counter; VBAT_LOW follows its
detector with its event; a pause of 1 ms in a read sequence releases the shadows and sets FREEZE_TIMEOUT. -/
def Obligations.RtcCountsSyncsAndWakes : Prop :=
  Acts .rtcGetTime cmdRtcGetTime always (fun _ u => { u with rtc := { u.rtc with freezeTimeout := false } })
      (fun _ u =>
        let sec := u.rtc.ticks / 32768
        let cal := calendar u.rtc sec
        le 8 (sec % 2 ^ 48) ++ le 2 (u.rtc.ticks % 32768) ++ leInt 2 (leapAt u.rtc sec) ++ le 2 (cal.getD 0 0) ++ (cal.drop 1).map (fun v => BitVec.ofNat 8 v) ++
          le 2 ((if u.rtc.oscStopped then 1 else 0) + (if u.rtc.vbatLow then 2 else 0) +
            (match u.rtc.syncedAt with | none => 0 | some t => if u.tb.now ≤ t + 2000000000 then 4 else 0) + (if u.rtc.leapTime ≠ 0 then 8 else 0) + (if u.rtc.freezeTimeout then 16 else 0)) ++
          leInt 2 u.rtc.cal ++ le 8 u.zone ++ zeros 8) ∧
    Acts .rtcStage cmdRtcStage always
      (fun c u =>
        let b := c.payload
        let m := fld b 0 2
        let h := u.rtc.shadow
        let w : RtcShadow :=
          { time := if bit m 0 then some (fld b 4 8, fld b 12 2) else h.time
            leap := if bit m 1 then some (sfld b 14 2, fld b 20 8) else h.leap
            cal := if bit m 2 then some (sfld b 28 2) else h.cal
            wake := if bit m 3 then some (fld b 32 4) else h.wake }
        { u with rtc := { u.rtc with shadow := w } })
      (fun _ _ => []) ∧
    Acts .rtcCommit cmdRtcCommit always (fun _ u => applyShadow u) (fun _ u => le 8 (applyShadow u).zone) ∧
    Acts .rtcDiscard cmdRtcDiscard always (fun _ u => { u with rtc := { u.rtc with shadow := {} } }) (fun _ _ => []) ∧
    Acts .rtcSetAlarm cmdRtcSetAlarm (fun c u => decide (u.rtc.ticks < fld c.payload 4 8 * 32768 + fld c.payload 12 2))
      (fun c u =>
        let b := c.payload
        let o := tabGet {} u.rtc.alarms (fld b 0 1)
        let a := { o with enable := bit (fld b 1 1) 0, wake := bit (fld b 1 1) 1, repeatS := fld b 16 4, seconds := fld b 4 8, subsec := fld b 12 2 }
        { u with rtc := { u.rtc with alarms := tabSet u.rtc.alarms (fld b 0 1) a } })
      (fun _ _ => []) ∧
    Acts .rtcGetAlarms cmdRtcGetAlarms always
      (fun _ u => { u with rtc := { u.rtc with alarms := u.rtc.alarms.map (fun e => (e.1, { e.2 with fired := false, skipped := false, missed := 0 })) } })
      (fun _ u => (List.range 4).flatMap (fun i => (tabGet {} u.rtc.alarms i).bytes) ++ le 4 u.rtc.wakeCount) ∧
    (∀ dt : Nat,
      Runs (.rtcSync dt) dt (fun u => timeBaseRuns u = true ∧ u.rtc.lastSync ≠ some (u.zone / 1000000000) ∧ ((u.zone : Int) - u.rtc.ns).natAbs ≤ 30518)
        (fun u => { u with rtc := { u.rtc with lastSync := some (u.zone / 1000000000), syncedAt := some u.tb.now } }) ∧
      Runs (.rtcSync dt) dt (fun u => timeBaseRuns u = true ∧ u.rtc.lastSync ≠ some (u.zone / 1000000000) ∧ 30518 < ((u.zone : Int) - u.rtc.ns).natAbs)
        (fun u =>
          let v := adjustRtc (u.zone * 32768 / 10 ^ 9) { u with rtc := { u.rtc with lastSync := some (u.zone / 1000000000) } }
          let ch : Int := (v.rtc.ns : Int) - u.rtc.ns
          let v := if 1000000 < ch.natAbs then emit 0x1003 [ch, 0] v else v
          if v.tb.state = 2 then clearOscStopped v else v) ∧
      (∀ (e : Int) (t : Nat), Runs (.calUpdate dt e) dt (fun u => u.tb.state = 2 ∧ u.rtc.calStart = some t ∧ t + 1024000000000 ≤ u.tb.now)
        (fun u => { u with rtc := { u.rtc with cal := max (-511) (min 511 (u.rtc.cal + e)), calStart := some u.tb.now } })) ∧
      (∀ i : Nat, i < 4 → Runs (.alarm dt i) dt
        (fun u => (tabGet {} u.rtc.alarms i).enable = true ∧ (tabGet {} u.rtc.alarms i).seconds * 32768 + (tabGet {} u.rtc.alarms i).subsec ≤ u.rtc.ticks) (fireAlarm i false 0)) ∧
      Runs (.periodicWake dt) dt (fun u => wakesBetween u.rtc.wakePeriod u.rtc.wakeSeen u.rtc.ticks ≠ 0 ∧ inStandby u = false)
        (fun u => { u with rtc := { u.rtc with wakeSeen := u.rtc.ticks, wakeCount := (u.rtc.wakeCount + wakesBetween u.rtc.wakePeriod u.rtc.wakeSeen u.rtc.ticks) % 2 ^ 32 } }) ∧
      Runs (.leap dt) dt (fun u => u.rtc.leapTime ≠ 0 ∧ u.rtc.leapTime ≤ u.rtc.ticks / 32768)
        (fun u => emit 0x1005 [u.rtc.leapOffset, u.rtc.leapNew] { u with rtc := { u.rtc with leapOffset := u.rtc.leapNew, leapTime := 0 } }) ∧
      Runs (.oscStopped dt) dt (fun u => u.rtc.oscStopped = false) (fun u => emit 0x1002 [0] { u with rtc := { u.rtc with halted := true, oscStopped := true } }) ∧
      (∀ low : Bool, Runs (.vbatLow dt low) dt (fun u => u.rtc.vbatLow ≠ low) (fun u => emit 0x1004 [if low then 0 else 1] { u with rtc := { u.rtc with vbatLow := low } })) ∧
      Runs (.freezeTimeout dt) dt (fun _ => True) (fun u => { u with rtc := { u.rtc with freezeTimeout := true } }))

/-- The Event class reads the ring by SEQ, sets and fires triggers, and takes marks. Accepted, Event-Read of a SEQ at or past the
next one answers no record; of an earlier one up to COUNT records from the later of it and the oldest, in SEQ order; Get-Trigger
and Get-Status answer the generation and definition, and the status; Set-Trigger installs the definition fresh from the next 1
ms instant and answers its new generation; Fire of a defined trigger and Mark wait for the instant that assigns their SEQ. -/
def Obligations.RecorderReadsSetsAndFires : Prop :=
  Reads .eventRead cmdEventRead (fun c u => decide (0 ≤ toSigned 32 ((fld c.payload 0 4 + 2 ^ 32 - u.recorder.nextWrite % 2 ^ 32) % 2 ^ 32)))
      (fun c u => le 4 (max 1 (u.recorder.nextWrite - 8192)) ++ le 4 u.recorder.nextWrite ++ le 4 (fld c.payload 0 4) ++ zeros 4) ∧
    (∀ first : Nat, Reads .eventRead cmdEventRead
      (fun c u => let ahead := toSigned 32 ((fld c.payload 0 4 + 2 ^ 32 - u.recorder.nextWrite % 2 ^ 32) % 2 ^ 32)
        decide (ahead < 0) && first == max (max 1 (u.recorder.nextWrite - 8192)) ((u.recorder.nextWrite : Int) + ahead).toNat)
      (fun c u => le 4 (max 1 (u.recorder.nextWrite - 8192)) ++ le 4 u.recorder.nextWrite ++ le 4 first ++ le 2 (min (fld c.payload 4 2) (u.recorder.nextWrite - first)) ++ zeros 2 ++
        (List.range (min (fld c.payload 4 2) (u.recorder.nextWrite - first))).flatMap (fun i => (readSeq (first + i) u.recorder).bytes))) ∧
    Reads .eventGetTrigger cmdEventGetTrigger always (fun c u => le 4 (trigger (fld c.payload 0 1) u).gen ++ (trigger (fld c.payload 0 1) u).defn) ∧
    Acts .eventSetTrigger cmdEventSetTrigger always
      (fun c u => setTrigger (fld c.payload 0 1)
        { defn := c.payload.drop 4, gen := ((trigger (fld c.payload 0 1) u).gen + 1) % 2 ^ 32, since := u.tb.now / 1000000 + 1 } u)
      (fun c u => le 4 (((trigger (fld c.payload 0 1) u).gen + 1) % 2 ^ 32)) ∧
    Defers .eventFire cmdEventFire (fun c u => fld (trigger (fld c.payload 0 1) u).defn 0 1 != 0)
      (fun c u => { u with recorder := { u.recorder with fires := u.recorder.fires ++ [(c.mbox, fld c.payload 0 1)] } }) ∧
    Defers .eventMark cmdEventMark always
      (fun c u => { u with recorder := { u.recorder with marks := u.recorder.marks ++ [(c.mbox, u.zone, slice c.payload 4 (fld c.payload 0 1))] } }) ∧
    Reads .eventGetStatus cmdEventGetStatus always
      (fun _ u => le 4 (max 1 (u.recorder.nextWrite - 8192)) ++ le 4 u.recorder.nextWrite ++ le 2 u.recorder.queue.length ++ le 2 u.recorder.queuePeak ++
        le 4 u.recorder.gapRecords ++ le 4 u.recorder.corruptSlots ++ le 2 u.recorder.boot ++ zeros 10)

/-- At each 1 ms instant events take their place before triggers and marks, and the ring is written oldest first. At a 1 ms instant
of a running recorder without triggers or marks waiting, the events of the span enter the queue in ascending code, those of one
code in order of arising, the span is empty and the instant is noted; with them, each of the 128 triggers in turn is then judged
on the codes queued, with the Event-Fires that name it answered, and after them each mark that waits is queued and answered;
before the next instant nothing changes but time. A ring write of a running recorder puts the oldest queued record into the slot
of its SEQ modulo 8192, takes that slot out of the bad ones, and then queues a GAP that is due; it leaves the queue as it is
while a last-gasp commit stands before it. -/
def Obligations.RecorderTicksAndWritesTheRing : Prop :=
  ∀ dt : Nat,
    Runs (.recorderTick dt) dt
      (fun u => recorderRuns u = true ∧ u.recorder.lastTick < u.tb.now / 1000000 ∧ u.recorder.triggers = [] ∧ u.recorder.marks = [] ∧ u.recorder.fires = [])
      (fun u => ((u.recorder.span.foldl (fun l e => insertEvent e l) []).foldl enterEvent
        { u with recorder := { u.recorder with span := [], newCodes := [], lastTick := u.tb.now / 1000000 } })) ∧
    Runs (.recorderTick dt) dt (fun u => recorderRuns u = true ∧ u.recorder.lastTick < u.tb.now / 1000000)
      (fun u =>
        let k := u.tb.now / 1000000
        let v := (u.recorder.span.foldl (fun l e => insertEvent e l) []).foldl enterEvent { u with recorder := { u.recorder with span := [], newCodes := [], lastTick := k } }
        let evs := v.recorder.queue.filter (fun r => r.kind == 1)
        let codes := u.recorder.newCodes ++ (evs.drop (evs.length - (v.recorder.nextSeq - u.recorder.nextSeq))).map (·.code)
        let w := (List.range 128).foldl (runTrigger codes u.recorder.lastTick k (zoneAt (k * 1000000) v)) v
        w.recorder.marks.foldl (fun x _ => runMark x) w) ∧
    Runs (.recorderTick dt) dt (fun u => u.tb.now / 1000000 ≤ u.recorder.lastTick) id ∧
    (∀ (q : EvRec) (rest : List EvRec), Runs (.ringWrite dt) dt (fun u => recorderRuns u = true ∧ gaspPending u = false ∧ u.recorder.queue = q :: rest)
      (fun u => queueGap { u with recorder := { u.recorder with
        queue := rest, nextWrite := u.recorder.nextWrite + 1, ring := tabSet u.recorder.ring (q.seq % 8192) q, badSlots := u.recorder.badSlots.filter (· != q.seq % 8192) } })) ∧
    Runs (.ringWrite dt) dt (fun u => gaspPending u = true) id

/-- A standby applies each replicated item once, acknowledges it every time, and ignores frames that do not verify. For the rows
JOURNAL, ENERGY, RETAINED, PLAN, MODEL_TABLES and KEY_EPOCH: a frame on a keyed link whose tag verifies refreshes the link; on
the standby a new item is applied, noted among the last received and acknowledged with RESULT 0, and a repeated one is
acknowledged again without being applied; on the active module nothing more happens. A frame whose tag does not verify is
counted as bad and has no other effect. An image change that names another image than the staged one, and model rows whose model
does not validate, are answered with RESULT 1 and not applied. MODEL_STATE is applied without an acknowledgement. -/
def Obligations.TwinItemsAreAppliedOnceAndAcknowledged : Prop :=
  (∀ (dt : Nat) (h : TwinHead) (data : Bytes) (i : Instr) (type : Nat) (apply : State → State),
    (i, type, apply) ∈ [(Instr.journal dt h data, 0x10, storeJournal data), (.energy dt h data, 0x11, storeEnergy data), (.retained dt h data, 0x12, storeRetained data),
      (.plan dt h data, 0x13, takePlan data), (.modelTables dt h data, 0x15, storeTables data), (.keyEpoch dt h data, 0x16, storeEpoch data)] →
    h.tagOk = true →
    Runs i dt (fun u => u.twin.keyed = true ∧ u.twin.wantActive = false ∧ u.twin.received.contains h.item = false ∧ (type = 0x12 → wrongImage data u = false) ∧ (type = 0x15 → modelRefused data u = false))
      (fun u =>
        let v := apply { u with twin := { u.twin with lastValid := u.tb.now, rxSeq := h.seq } }
        ackItem type h.item 0 { v with twin := { v.twin with received := (h.item :: v.twin.received).take 4096 } }) ∧
    Runs i dt (fun u => u.twin.keyed = true ∧ u.twin.wantActive = false ∧ u.twin.received.contains h.item = true)
      (fun u => ackItem type h.item 0 { u with twin := { u.twin with lastValid := u.tb.now, rxSeq := h.seq } }) ∧
    Runs i dt (fun u => u.twin.keyed = true ∧ u.twin.wantActive = false ∧ u.twin.received.contains h.item = false ∧
        ((type = 0x12 ∧ wrongImage data u = true) ∨ (type = 0x15 ∧ modelRefused data u = true)))
      (fun u => ackItem type h.item 1 { u with twin := { u.twin with lastValid := u.tb.now, rxSeq := h.seq } }) ∧
    Runs i dt (fun u => u.twin.keyed = true ∧ u.twin.wantActive = true) (fun u => { u with twin := { u.twin with lastValid := u.tb.now, rxSeq := h.seq } }) ∧
    Runs i dt (fun u => u.twin.keyed = false) id) ∧
  (∀ (dt : Nat) (h : TwinHead) (data : Bytes) (i : Instr),
    i ∈ [Instr.journal dt h data, .energy dt h data, .retained dt h data, .plan dt h data, .modelTables dt h data, .keyEpoch dt h data, .modelState dt h data,
      .heartbeat dt h data, .resign dt h, .twinAck dt h data] → h.tagOk = false →
    Runs i dt (fun u => u.twin.keyed = true) (fun u => { u with twin := { u.twin with badFrames := u.twin.badFrames + 1 } })) ∧
  (∀ (dt : Nat) (h : TwinHead) (data : Bytes), h.tagOk = true → Runs (.modelState dt h data) dt (fun u => u.twin.keyed = true ∧ u.twin.wantActive = false)
    (fun u => takeModelState data { u with twin := { u.twin with lastValid := u.tb.now, rxSeq := h.seq } }))

/-- Heartbeats, resigns, silence and takeover of the pair, acknowledgements, and the handshake. A heartbeat goes out every 10 ms on
a keyed link; a verified one refreshes the partner, and a standby follows its Oasis mode and SENDER_EPOCH, and has joined once
it says ACTIVE. A verified resign on a joined standby declares the active lost without listening; 50 ms of silence declare it
lost with listening, and on the active the standby lost; before the join both return to role resolution. 100 ms later an
untampered module takes over and a tampered one stays unpaired; one that hears the active announce itself while listening stays
standby unpaired. An acknowledgement with RESULT 0 releases its item; RESULT 1 declares the standby lost, or of the model tables
ends the load with TWIN_REFUSED; items without one for 5 ms are sent again. HELLO goes out every 10 ms until one is heard, and
is answered with HELLO_REPLY. A complete exchange decides the roles, a running loser letting go; without TWIN_KEY it is refused.
Confirmations without mismatch join the pair: the active sends its full copy, the standby empties its journal; any other is
refused. A refused handshake is tried again after 1 s. -/
def Obligations.TwinLinkLivesAndTakesOver : Prop :=
  ∀ dt : Nat,
    Runs (.twinHeartbeatTimer dt) dt (fun u => twinUp u = true ∧ u.twin.keyed = true ∧ (∀ b, u.twin.beatSent = some b → b + 10000000 ≤ u.tb.now)) sendBeat ∧
    (∀ (h : TwinHead) (data : Bytes), h.tagOk = true → Runs (.heartbeat dt h data) dt (fun u => u.twin.keyed = true ∧ u.twin.wantActive = true)
      (fun u => { u with twin := { u.twin with lastValid := u.tb.now, rxSeq := h.seq, beatHeard := some u.tb.now } })) ∧
    (∀ (h : TwinHead) (data : Bytes), h.tagOk = true → Runs (.heartbeat dt h data) dt
      (fun u => u.twin.keyed = true ∧ u.twin.wantActive = false ∧ u.twin.joined = true)
      (fun u => followActive data { u with twin := { u.twin with lastValid := u.tb.now, rxSeq := h.seq, beatHeard := some u.tb.now } })) ∧
    (∀ (h : TwinHead) (data : Bytes), h.tagOk = true → fld data 0 1 = Role.active.code → Runs (.heartbeat dt h data) dt
      (fun u => u.twin.keyed = true ∧ u.twin.wantActive = false ∧ u.twin.joined = false)
      (fun u =>
        let v := followActive data { u with twin := { u.twin with lastValid := u.tb.now, rxSeq := h.seq, beatHeard := some u.tb.now } }
        emit 0x0008 [2, (fld (v.twin.reply.getD []) 0 8 : Nat)] (becomeStandby { v with twin := { v.twin with joined := true } }))) ∧
    (∀ h : TwinHead, h.tagOk = true → Runs (.resign dt h) dt (fun u => u.twin.keyed = true ∧ u.twin.wantActive = false ∧ u.twin.joined = true ∧ u.twin.lostAt = none)
      (fun u =>
        let v := twinLoss 0 { u with twin := { u.twin with lastValid := u.tb.now, rxSeq := h.seq } }
        { v with twin := { v.twin with lostAt := some (u.tb.now, false) } })) ∧
    Runs (.twinSilence dt) dt
      (fun u => u.twin.keyed = true ∧ keeperUp u = true ∧ u.twin.lastValid + 50000000 ≤ u.tb.now ∧ u.twin.lostAt = none ∧ u.twin.joined = true ∧ u.twin.wantActive = false)
      (fun u => { twinLoss 0 u with twin := { (twinLoss 0 u).twin with lostAt := some (u.tb.now, true) } }) ∧
    Runs (.twinSilence dt) dt
      (fun u => u.twin.keyed = true ∧ keeperUp u = true ∧ u.twin.lastValid + 50000000 ≤ u.tb.now ∧ u.twin.lostAt = none ∧ u.twin.joined = true ∧ u.twin.wantActive = true) standbyLost ∧
    Runs (.twinSilence dt) dt
      (fun u => u.twin.keyed = true ∧ keeperUp u = true ∧ u.twin.lastValid + 50000000 ≤ u.tb.now ∧ u.twin.lostAt = none ∧ u.twin.joined = false)
      (fun u => releaseWaiters { dropLink u with twin := { (dropLink u).twin with resolve := if u.win.role = .standby then 3 else 0, waitFrom := u.tb.now } }) ∧
    (∀ (cut : Cut) (t : Nat) (l : Bool), Runs (.takeover dt cut) dt
      (fun u => u.twin.lostAt = some (t, l) ∧ keeperUp u = true ∧ t + 100000000 ≤ u.tb.now ∧ u.sec.tamper = .none) (takeOver cut)) ∧
    (∀ (cut : Cut) (t : Nat) (l : Bool), Runs (.takeover dt cut) dt
      (fun u => u.twin.lostAt = some (t, l) ∧ keeperUp u = true ∧ t + 100000000 ≤ u.tb.now ∧ u.sec.tamper ≠ .none) becomeUnpaired) ∧
    (∀ (h : TwinHead) (data : Bytes), h.tagOk = true → fld data 5 1 = 0 → Runs (.twinAck dt h data) dt
      (fun u => u.twin.keyed = true ∧ u.twin.wantActive = true ∧ (∃ x ∈ u.twin.unacked, x.id = fld data 0 4))
      (fun u => itemDurable (fld data 0 4) { u with twin := { u.twin with lastValid := u.tb.now, rxSeq := h.seq } })) ∧
    (∀ (h : TwinHead) (data : Bytes), h.tagOk = true → fld data 5 1 ≠ 0 → Runs (.twinAck dt h data) dt
      (fun u => u.twin.keyed = true ∧ u.twin.wantActive = true ∧ (∃ x ∈ u.twin.unacked, x.id = fld data 0 4) ∧ (fld data 4 1 ≠ 0x15 ∨ u.model.load = none))
      (fun u => standbyLost { u with twin := { u.twin with lastValid := u.tb.now, rxSeq := h.seq } })) ∧
    (∀ (h : TwinHead) (data : Bytes) (l : ModelLoad), h.tagOk = true → fld data 5 1 ≠ 0 → fld data 4 1 = 0x15 → Runs (.twinAck dt h data) dt
      (fun u => u.twin.keyed = true ∧ u.twin.wantActive = true ∧ (∃ x ∈ u.twin.unacked, x.id = fld data 0 4) ∧ u.model.load = some l)
      (fun u => loadFail l.entry (0x2D, 0, noRow, 0xFFFF, noRow) (itemDurable (fld data 0 4) { u with twin := { u.twin with lastValid := u.tb.now, rxSeq := h.seq } }))) ∧
    Runs (.twinAckTimeout dt) dt (fun u => feedsTwin u = true ∧ twinUp u = true)
      (fun u => (u.twin.unacked.filter (fun x => decide (x.sent + 5000000 ≤ u.tb.now))).foldl (fun w x => sendTwin x.type x.id x.data w)
        { u with twin := { u.twin with unacked := u.twin.unacked.map (fun x => if x.sent + 5000000 ≤ u.tb.now then { x with sent := u.tb.now } else x) } }) ∧
    Runs (.helloTimer dt) dt (fun u => twinUp u = true ∧ u.twin.nonce.isSome = true ∧ u.twin.hello = none ∧ (∀ t, u.twin.helloSent = some t → t + 10000000 ≤ u.tb.now)) sendHello ∧
    (∀ data : Bytes, data.length = 200 → Runs (.hello dt data) dt (fun u => twinUp u = true ∧ u.twin.resolve ≠ 0 ∧ u.twin.keyed = false)
      (fun u =>
        let v := if u.twin.nonce.isSome then u else beginHandshake u
        let v := { v with twin := { v.twin with hello := some data, resolve := if v.twin.resolve = 2 then 1 else v.twin.resolve } }
        send (.twin 0x21 0 (helloPayload (slice data 8 32) v)) v)) ∧
    (∀ data : Bytes, data.length = 200 → Runs (.helloReply dt data) dt
      (fun u => twinUp u = true ∧ u.twin.keyed = false ∧ u.twin.confirmed = false ∧ u.twin.nonce = some (slice data 0x28 32) ∧ bit (mismatchOf (helloPayload [] u) data) 8 = false ∧
        (wins (helloPayload [] u) data = true ∨ fld data 0x48 1 ≠ 1))
      (fun u => sendTwin 0x22 0 (le 1 (if mismatchOf (helloPayload [] u) data ≠ 0 then 1 else 0) ++ le 1 (if wins (helloPayload [] u) data then 1 else 2) ++ zeros 2 ++
          le 4 (mismatchOf (helloPayload [] u) data))
        { u with twin := { u.twin with reply := some data, wantActive := wins (helloPayload [] u) data, confirmed := true, txSeq := 1 } })) ∧
    (∀ data : Bytes, data.length = 200 → Runs (.helloReply dt data) dt
      (fun u => twinUp u = true ∧ u.twin.keyed = false ∧ u.twin.confirmed = false ∧ u.twin.nonce = some (slice data 0x28 32) ∧ bit (mismatchOf (helloPayload [] u) data) 8 = false ∧
        wins (helloPayload [] u) data = false ∧ fld (helloPayload [] u) 0x48 1 = 1 ∧ fld data 0x48 1 = 1)
      (fun u =>
        let a := abortAll 4 { u with twin := { u.twin with reply := some data, wantActive := false } }
        let v := letGo { a with sys := { a.sys with released := true } }
        sendTwin 0x22 0 (le 1 (if mismatchOf (helloPayload [] u) data ≠ 0 then 1 else 0) ++ le 1 2 ++ zeros 2 ++ le 4 (mismatchOf (helloPayload [] u) data))
          { v with twin := { v.twin with confirmed := true, txSeq := 1 } })) ∧
    (∀ data : Bytes, data.length = 200 → Runs (.helloReply dt data) dt
      (fun u => twinUp u = true ∧ u.twin.keyed = false ∧ u.twin.confirmed = false ∧ u.twin.nonce = some (slice data 0x28 32) ∧ bit (mismatchOf (helloPayload [] u) data) 8 = true ∧
        (wins (helloPayload [] u) data = true ∨ fld data 0x48 1 ≠ 1))
      (fun u => refuseJoin (mismatchOf (helloPayload [] u) data) data { u with twin := { u.twin with reply := some data, wantActive := wins (helloPayload [] u) data } })) ∧
    (∀ (h : TwinHead) (data peer : Bytes), h.tagOk = true → Runs (.helloConfirm dt h data) dt
      (fun u => u.twin.reply = some peer ∧ twinUp u = true ∧ u.twin.keyed = false ∧ u.twin.confirmed = true ∧
        (((mismatchOf (helloPayload [] u) peer) ||| fld data 4 4) ≠ 0 ∨ fld data 0 1 ≠ 0))
      (fun u => refuseJoin ((mismatchOf (helloPayload [] u) peer) ||| fld data 4 4) peer u)) ∧
    (∀ (h : TwinHead) (data peer : Bytes), h.tagOk = false → Runs (.helloConfirm dt h data) dt
      (fun u => u.twin.reply = some peer ∧ twinUp u = true ∧ u.twin.keyed = false ∧ u.twin.confirmed = true)
      (fun u => refuseJoin ((mismatchOf (helloPayload [] u) peer) ||| fld data 4 4) peer { u with twin := { u.twin with badFrames := u.twin.badFrames + 1 } })) ∧
    (∀ (h : TwinHead) (data peer : Bytes), h.tagOk = true → fld data 0 1 = 0 → fld data 4 4 = 0 → Runs (.helloConfirm dt h data) dt
      (fun u => u.twin.reply = some peer ∧ twinUp u = true ∧ u.twin.keyed = false ∧ u.twin.confirmed = true ∧ mismatchOf (helloPayload [] u) peer = 0 ∧ u.twin.wantActive = true)
      (fun u =>
        let v := resolved { u with
          twin := { u.twin with keyed := true, joined := false, lastValid := u.tb.now, rxSeq := h.seq, unacked := [], received := [], nonce := none, hello := none, confirmed := false, retryAt := none, unpaired := false, mismatch := 0, lostAt := none, txSeq := 2 }
          sec := { u.sec with twinKeyMissing := false } }
        tryJoined (fullCopy (sendBeat { v with sys := { v.sys with released := false, resignAt := none } })))) ∧
    (∀ (h : TwinHead) (data peer : Bytes), h.tagOk = true → fld data 0 1 = 0 → fld data 4 4 = 0 → Runs (.helloConfirm dt h data) dt
      (fun u => u.twin.reply = some peer ∧ twinUp u = true ∧ u.twin.keyed = false ∧ u.twin.confirmed = true ∧ mismatchOf (helloPayload [] u) peer = 0 ∧ u.twin.wantActive = false ∧
        u.boot.plant = false)
      (fun u =>
        let v := resolved { u with
          twin := { u.twin with keyed := true, joined := false, lastValid := u.tb.now, rxSeq := h.seq, unacked := [], received := [], nonce := none, hello := none, confirmed := false, retryAt := none, unpaired := false, mismatch := 0, lostAt := none, txSeq := 2 }
          sec := { u.sec with twinKeyMissing := false } }
        sendBeat { v with car := { v.car with slots := [] }, prog := { v.prog with retained := [], retPend := [], forces := [] } })) ∧
    (∀ t : Nat, Runs (.twinRetry dt) dt (fun u => u.twin.retryAt = some t ∧ twinUp u = true ∧ u.twin.keyed = false ∧ u.twin.resolve ≠ 0 ∧ t ≤ u.tb.now) beginHandshake) ∧
    (∀ f : FfpFrame, f.type = 0x06 → (f.port = 1 ∨ f.port = 2) → f.src = 0 → Runs (.announce dt f) dt
      (fun u => (receiveFfp f u).2 = true ∧ nakHeader f (receiveFfp f u).1 = none ∧ (∀ t, (receiveFfp f u).1.twin.lostAt ≠ some (t, true)) ∧ (receiveFfp f u).1.twin.resolve ≠ 2)
      (fun u => { (receiveFfp f u).1 with twin := { (receiveFfp f u).1.twin with announceHeard := (receiveFfp f u).1.tb.now, partnerEpoch := fld f.body 0 4 } })) ∧
    (∀ (f : FfpFrame) (t : Nat), f.type = 0x06 → (f.port = 1 ∨ f.port = 2) → f.src = 0 → Runs (.announce dt f) dt
      (fun u => (receiveFfp f u).2 = true ∧ nakHeader f (receiveFfp f u).1 = none ∧ (receiveFfp f u).1.twin.lostAt = some (t, true))
      (fun u => becomeUnpaired (twinLoss 2
        { (receiveFfp f u).1 with twin := { (receiveFfp f u).1.twin with announceHeard := (receiveFfp f u).1.tb.now, partnerEpoch := fld f.body 0 4 } })))

/-- The electrical class: configuration, values, registers, status and the acknowledgement of a loss. Accepted, Get-Config answers
the configuration and the pending one; Set-Config without a wiring, sharing or channel fault, and not too soon after another,
becomes pending for every feed, idle feeds taking it at once; Read-Values and Read-Registers of a feed that is enabled or has
latched answer its last latch set, a standby the registers of record; Get-Status the save and feed status; Acknowledge-Loss
clears a feed's loss mark. -/
def Obligations.ElectricalMeteringAnswers : Prop :=
  (∀ (b : Bytes) (l : List Nat), Reads .elecGetConfig cmdElecGetConfig (fun _ u => u.elec.pend == some (b, l)) (fun _ u => u.elec.cfg ++ le 1 1 ++ zeros 7 ++ b)) ∧
    Reads .elecGetConfig cmdElecGetConfig (fun _ u => u.elec.pend.isNone) (fun _ u => u.elec.cfg ++ le 1 0 ++ zeros 7 ++ zeros 864) ∧
    Acts .elecSetConfig cmdElecSetConfig
      (fun c u => (badWiring c.payload).isNone && (sharedFeed c.payload).isNone && (feedNoChannel c.payload).isNone && !applyTooSoon c.payload u)
      (fun c u => applyIdleFeeds { u with elec := { u.elec with pend := some (c.payload, [0, 1, 2, 3, 4]) } }) (fun _ _ => []) ∧
    (∀ b : Bytes, Reads .elecReadValues cmdElecReadValues (fun c u => (feed (fld c.payload 0 1) u).latched == some b) (fun _ _ => b)) ∧
    Reads .elecReadValues cmdElecReadValues (fun c u => (feed (fld c.payload 0 1) u).latched.isNone && wiring (feedRec u.elec.cfg (fld c.payload 0 1)) != 0)
      (fun c u => le 1 (fld c.payload 0 1) ++ le 1 (wiring (feedRec u.elec.cfg (fld c.payload 0 1))) ++ zeros 158) ∧
    Reads .elecReadRegisters cmdElecReadRegisters (fun c u => !feedDisabled (fld c.payload 0 1) u)
      (fun c u => let f := fld c.payload 0 1
        le 1 f ++ zeros 3 ++ le 4 (feed f u).latchSeq ++ le 8 (feed f u).latchTime ++ le 2 (setFlags f u) ++ zeros 14 ++
          (readRegs 31250 (u.win.role == .standby) (feed f u).latchedRegs (feed f u).snaps (feed f u).repl).flatMap Reg.bytes) ∧
    Reads .elecGetStatus cmdElecGetStatus always (fun _ u => le 8 (sampleCount u) ++
      (match newest (·.ok) u.elec with | none => zeros 13 | some r => le 8 r.cutTime ++ le 4 r.seq ++ le 1 r.kind) ++ zeros 3 ++
      (List.range 5).flatMap (fun f => le 2 (setFlags f u)) ++ zeros 2 ++ le 1 ((List.range 8).map (fun c => bitAt c (tabGet {} u.elec.vchan c).lost)).sum ++
      le 1 u.elec.vOver ++ le 2 u.elec.iOver ++ le 4 u.elec.unsaved ++ le 4 u.elec.offs ++ le 8 u.elec.lastGap.1 ++ le 8 u.elec.lastGap.2) ∧
    Acts .elecAcknowledgeLoss cmdElecAcknowledgeLoss (fun c u => (feed (fld c.payload 0 1) u).lost)
      (fun c u => setFeed (fld c.payload 0 1) { feed (fld c.payload 0 1) u with lost := false } u) (fun _ _ => [])

/-- The thermal class: configuration, values, registers, status, channels, glycol and the acknowledgement of a loss. Accepted,
Get-Config answers the configuration and the pending one; Set-Config whose enabled pairs have channels and flow inputs of their
own, whose CAN flow inputs fit, and which comes not too soon after another, becomes pending for every pair, idle pairs taking it
at once; the reads answer the last latch set, the registers, the status and the channels; Put-Glycol of an entry nothing uses
stores it and Get-Glycol answers it; Acknowledge-Loss clears a pair's loss mark. -/
def Obligations.ThermalMeteringAnswers : Prop :=
  (∀ (b : Bytes) (l : List Nat), Reads .thermGetConfig cmdThermGetConfig (fun _ u => u.therm.pend == some (b, l)) (fun _ u => u.therm.cfg ++ le 1 1 ++ zeros 7 ++ b)) ∧
    Reads .thermGetConfig cmdThermGetConfig (fun _ u => u.therm.pend.isNone) (fun _ u => u.therm.cfg ++ le 1 0 ++ zeros 7 ++ zeros 784) ∧
    Acts .thermSetConfig cmdThermSetConfig
      (fun c u => let b := c.payload
        (enabledPairs b).all (fun p => fld (rtdRec b (2 * p)) 0 1 != 0 && fld (rtdRec b (2 * p + 1)) 0 1 != 0 && fld (flowRec b (fld (pairRec b p) 1 1)) 0 1 != 0) &&
        (enabledPairs b).all (fun p => (enabledPairs b).all (fun q => !(decide (q < p)) || fld (pairRec b q) 1 1 != fld (pairRec b p) 1 1)) &&
        (List.range 8).all (fun n => fld (flowRec b n) 0 1 != 4 || canInputFits 5 (fld (flowRec b n) 12 4) u) && !applyTooSoon b u)
      (fun c u => applyIdlePairs { u with therm := { u.therm with pend := some (c.payload, [0, 1, 2, 3, 4, 5, 6, 7]) } }) (fun _ _ => []) ∧
    (∀ b : Bytes, Reads .thermReadValues cmdThermReadValues (fun c u => !pairDisabled (fld c.payload 0 1) u && (pair (fld c.payload 0 1) u).latched == some b) (fun _ _ => b)) ∧
    Reads .thermReadValues cmdThermReadValues (fun c u => !pairDisabled (fld c.payload 0 1) u && (pair (fld c.payload 0 1) u).latched.isNone)
      (fun c _ => le 1 (fld c.payload 0 1) ++ zeros 63) ∧
    Reads .thermReadRegisters cmdThermReadRegisters (fun c u => !pairDisabled (fld c.payload 0 1) u)
      (fun c u => let p := fld c.payload 0 1
        le 1 p ++ zeros 3 ++ le 4 (pair p u).latchSeq ++ le 8 (pair p u).latchTime ++ le 2 (setPairFlags p u) ++ zeros 14 ++
          (readRegs 0 (u.win.role == .standby) (pair p u).latchedRegs (pair p u).snaps (pair p u).repl).flatMap Reg.bytes) ∧
    Reads .thermGetStatus cmdThermGetStatus always (fun _ u => le 8 u.therm.stepCount ++
      (match newest (·.tok) u.elec with | none => zeros 13 | some r => le 8 r.cutTime ++ le 4 r.seq ++ le 1 r.kind) ++ zeros 3 ++
      (List.range 8).flatMap (fun p => le 2 (setPairFlags p u)) ++ le 2 ((List.range 16).map (fun n => bitAt n (tabGet {} u.therm.chans n).faultStep)).sum ++
      le 1 ((List.range 8).map (fun n => bitAt n ((tabGet {} u.therm.flows n).fault != 0))).sum ++ zeros 1 ++ le 4 u.therm.unsaved ++ le 4 u.therm.offs ++ zeros 4 ++
      le 8 u.therm.lastGap.1 ++ le 8 u.therm.lastGap.2 ++ zeros 8) ∧
    Reads .thermReadChannels cmdThermReadChannels always (fun _ u => le 8 u.therm.stepTime ++ (List.range 16).flatMap (fun n =>
      let x := tabGet {} u.therm.chans n
      le 4 x.resistance ++ le 4 x.temperature ++ le 1 (if x.faultStep then x.fault else 0) ++ zeros 1 ++ le 2 x.lead ++ zeros 4)) ∧
    Acts .thermPutGlycol cmdThermPutGlycol (fun c u => !glycolInUse (fld c.payload 0 1) u)
      (fun c u => { u with therm := { u.therm with glycol := tabSet u.therm.glycol (fld c.payload 0 1) (slice c.payload 4 64) } }) (fun _ _ => []) ∧
    Reads .thermGetGlycol cmdThermGetGlycol always (fun c u => tabGet (zeros 64) u.therm.glycol (fld c.payload 0 1)) ∧
    Acts .thermAcknowledgeLoss cmdThermAcknowledgeLoss (fun c u => (pair (fld c.payload 0 1) u).lost)
      (fun c u => setPair (fld c.payload 0 1) { pair (fld c.payload 0 1) u with lost := false } u) (fun _ _ => [])

/-- Line and timer cycles, lost and returned crossings, saves, thermal steps, flow pulses and bus readings. A fitting crossing on an
enabled feed that measures by line cycles closes the cycle with its samples, the first crossing only opening one; a timer cycle
closes once its samples have passed. A channel without a crossing for ZC_TIMEOUT_MS is lost with its event and a feed that has
lost them all goes to timer cycles; a returned channel is found again with its event and its feeds leave them. A periodic save
happens once a minute of zone time. A thermal step closes at its tick and latches the pairs. A flow pulse that is wide enough
and not too soon counts. A bus reading becomes the base; without one for BUS_TIMEOUT_S the input has timed out. -/
def Obligations.MeteringEventsRun : Prop :=
  ∀ dt : Nat,
    (∀ (f : Nat) (d : FeedData) (cut : Cut), f < 5 → Runs (.lineCycleEnd dt f d cut) dt
      (fun u => let v := applyIdleFeeds u
        wiring (feedRec v.elec.cfg f) ≠ 0 ∧ v.elec.running = true ∧ (feed f v).timer = false ∧ allLost f v = false ∧ crossingFits (feed f v) (samplePos v) = true ∧
          (feed f v).last = none ∧ (feed f v).first = none)
      (fun u => let v := applyIdleFeeds u
        addFeed f d (setFeed f { feed f v with last := some (samplePos v), first := some (samplePos v) } v))) ∧
    (∀ (f p : Nat) (d : FeedData) (cut : Cut), f < 5 → Runs (.lineCycleEnd dt f d cut) dt
      (fun u => let v := applyIdleFeeds u
        wiring (feedRec v.elec.cfg f) ≠ 0 ∧ v.elec.running = true ∧ (feed f v).timer = false ∧ allLost f v = false ∧ crossingFits (feed f v) (samplePos v) = true ∧
          (feed f v).last = some p ∧ (feed f v).first.isSome = true)
      (fun u => let v := applyIdleFeeds u
        closeCycle f d cut (setFeed f { feed f v with last := some (samplePos v) } v))) ∧
    (∀ (f : Nat) (d : FeedData) (cut : Cut), f < 5 → Runs (.timerCycleEnd dt f d cut) dt
      (fun u => let v := applyIdleFeeds u
        (feed f v).timer = true ∧ v.elec.running = true ∧ (feed f v).timerFrom + timerLength (feedRec v.elec.cfg f) (feed f v).timerCount ≤ sampleCount v)
      (fun u => let v := applyIdleFeeds u
        closeCycle f d cut (setFeed f { feed f v with
          timerFrom := (feed f v).timerFrom + timerLength (feedRec v.elec.cfg f) (feed f v).timerCount, timerCount := (feed f v).timerCount + 1 } v))) ∧
    (∀ k f : Nat, Runs (.zcTimeout dt k) dt
      (fun u => feedsOn k u = [f] ∧ (tabGet {} u.elec.vchan k).lost = false ∧ u.elec.running = true ∧
        (tabGet {} u.elec.vchan k).lastCross + fld (feedRec u.elec.cfg f) 8 2 * 1000000 ≤ u.tb.now ∧ (feed f u).timer = true)
      (fun u => emit 0x0D01 [k, 0] { u with elec := { u.elec with vchan := tabSet u.elec.vchan k { tabGet {} u.elec.vchan k with lost := true } } })) ∧
    (∀ k : Nat, Runs (.zcReturned dt k) dt (fun u => (tabGet {} u.elec.vchan k).lost = true ∧ feedsOn k u = [])
      (fun u => emit 0x0D01 [k, 1] { u with elec := { u.elec with vchan := tabSet u.elec.vchan k { lost := false, lastCross := u.tb.now } } })) ∧
    (∀ k f : Nat, Runs (.zcReturned dt k) dt (fun u => (tabGet {} u.elec.vchan k).lost = true ∧ feedsOn k u = [f] ∧ (feed f u).timer = true)
      (fun u =>
        let v := emit 0x0D01 [k, 1] { u with elec := { u.elec with vchan := tabSet u.elec.vchan k { lost := false, lastCross := u.tb.now } } }
        emit 0x0D02 [f, 1] (setFeed f { feed f v with timer := false } v))) ∧
    (∀ cut : Cut, Runs (.periodicSave dt cut) dt
      (fun u => (applyIdleFeeds u).elec.running = true ∧ (applyIdleFeeds u).elec.lastSave < (applyIdleFeeds u).zone / 60000000000)
      (fun u => saveMeters 1 cut { applyIdleFeeds u with elec := { (applyIdleFeeds u).elec with lastSave := (applyIdleFeeds u).zone / 60000000000 } })) ∧
    (∀ (d : ThermData) (cut : Cut) (t : Nat), Runs (.thermalStep dt d cut) dt
      (fun u => (applyIdlePairs u).therm.stepDue = some t ∧ (applyIdlePairs u).elec.running = true ∧ t ≤ (applyIdlePairs u).tb.now)
      (fun u => let v := applyIdlePairs u
        latchPairs cut (scanBlocks v (closeStep d
          { v with therm := { v.therm with stepDue := some (t + ((v.tb.now - t) / max 1 (stepNs v) + 1) * stepNs v) } })))) ∧
    (∀ n w e : Nat, n < 8 → Runs (.flowPulse dt n w) dt
      (fun u => fld (flowRec u.therm.cfg n) 0 1 = 1 ∧ fld (flowRec u.therm.cfg n) 2 2 ≤ w ∧ u.elec.running = true ∧ (tabGet {} u.therm.flows n).lastEdge = some e ∧ e + 100000 ≤ u.tb.now)
      (fun u =>
        let x := { tabGet {} u.therm.flows n with pulses := (tabGet {} u.therm.flows n).pulses + 1, lastEdge := some u.tb.now }
        { u with therm := { u.therm with flows := tabSet u.therm.flows n x } })) ∧
    (∀ n v : Nat, n < 8 → f32Finite v = true → Runs (.busReading dt n v) dt
      (fun u => 3 ≤ fld (flowRec u.therm.cfg n) 0 1 ∧ u.elec.running = true ∧ (tabGet {} u.therm.flows n).base = none ∧ (tabGet {} u.therm.flows n).timedOut = false)
      (fun u =>
        let x := { tabGet {} u.therm.flows n with base := some (v, u.zone / 10 ^ 9 % 2 ^ 32), heard := u.tb.now, timedOut := false }
        { u with therm := { u.therm with flows := tabSet u.therm.flows n x } })) ∧
    (∀ n : Nat, n < 8 → Runs (.busTimeout dt n) dt
      (fun u => 3 ≤ fld (flowRec u.therm.cfg n) 0 1 ∧ (tabGet {} u.therm.flows n).heard + fld (flowRec u.therm.cfg n) 0x10 2 * 1000000000 ≤ u.tb.now)
      (fun u => { u with therm := { u.therm with flows := tabSet u.therm.flows n { tabGet {} u.therm.flows n with timedOut := true } } }))

/-- The Loop class answers and acts, and the loop engine samples the loops due at each tick, outer loops first. Accepted, Get-Config
answers a slot's record; Set-Config of a record whose slot no caravan holds, whose targets no other writer owns, whose cascade,
guards and load are in order, waits for the slot's first sample at least 1 ms later and answers its instant; Set-Mode (not
MANUAL on a guard), Set-Setpoint (with a LOCAL source, not a guard) and Set-Output (in MANUAL, clamped to the output range) wait
likewise; Read-Status answers the status records and clears the SATURATED bits it read. A LOOP_SAMPLE at a new 100 µs tick with
the engine running applies what waits, samples the loops whose schedule holds the tick from the highest cascade level down, and
resolves the targets; with no new tick it changes nothing. The replication timer at a new 10 ms instant, when no T0 cycle runs
and a twin is fed, sends the changed loops and axes. -/
def Obligations.LoopClassAnswersAndEngineRuns : Prop :=
  Reads .loopGetConfig cmdLoopGetConfig always (fun c u => (loopSlot (fld c.payload 0 2) u).record) ∧
    Acts .loopSetConfig cmdLoopSetConfig
      (fun c u =>
        let n := fld c.payload 0 2
        let slots := (u.loops.slots.map (·.1)).filter (fun k => k != n) ++ [n]
        let view := fun k => if k = n then c.payload.drop 4 else latestRecord k u
        !caravanHolds (0x20000000 + n) u && !ownedFault view slots n u && !cascadeFault view slots && !guardFault view slots n u &&
          loadFits (loadItems (fun k => (loopSlot k u).record) view slots (fun k => k == n || (loopSlot k u).pend.isSome)))
      (fun c u =>
        let n := fld c.payload 0 2
        let view := fun k => if k = n then c.payload.drop 4 else latestRecord k u
        let p := (schedule n u).getD ((scheduleAt view 4 (c.payload.drop 4)).getD (1, 0))
        setLoop n { loopSlot n u with pend := some (c.payload.drop 4, firstSample p u) } u)
      (fun c u =>
        let n := fld c.payload 0 2
        let view := fun k => if k = n then c.payload.drop 4 else latestRecord k u
        le 8 (zoneAt (firstSample ((schedule n u).getD ((scheduleAt view 4 (c.payload.drop 4)).getD (1, 0))) u) u)) ∧
    Acts .loopSetMode cmdLoopSetMode (fun c u => !(fld c.payload 2 1 == 1 && lGuard (latestRecord (fld c.payload 0 2) u)))
      (fun c u => let n := fld c.payload 0 2
        setLoop n { loopSlot n u with reqPend := some (fld c.payload 2 1, hostInstant n u) } u)
      (fun c u => le 8 (zoneAt (hostInstant (fld c.payload 0 2) u) u)) ∧
    Acts .loopSetSetpoint cmdLoopSetSetpoint (fun c u => lSpSource (latestRecord (fld c.payload 0 2) u) == 0 && !lGuard (latestRecord (fld c.payload 0 2) u))
      (fun c u => let n := fld c.payload 0 2
        setLoop n { loopSlot n u with localPend := some (fld c.payload 4 4, hostInstant n u) } u)
      (fun c u => le 8 (zoneAt (hostInstant (fld c.payload 0 2) u) u)) ∧
    Acts .loopSetOutput cmdLoopSetOutput (fun c u => loopMode (fld c.payload 0 2) u == 1)
      (fun c u =>
        let n := fld c.payload 0 2
        let r := (loopSlot n u).record
        setLoop n { loopSlot n u with outPend := some (clampInt (lOutMin r) (lOutMax r) (sfld c.payload 4 4), hostInstant n u) } u)
      (fun c u => le 8 (zoneAt (hostInstant (fld c.payload 0 2) u) u)) ∧
    Acts .loopReadStatus cmdLoopReadStatus always
      (fun c u => ((List.range (fld c.payload 2 2)).map (fun i => fld c.payload 0 2 + i)).foldl
        (fun t n => if (loopSlot n t).saturated then setLoop n { loopSlot n t with saturated := false } t else t) u)
      (fun c u => c.payload ++ ((List.range (fld c.payload 2 2)).map (fun i => fld c.payload 0 2 + i)).flatMap (fun n => loopStatus n u)) ∧
  ∀ dt : Nat,
    Runs (.loopSample dt) dt (fun u => u.loops.lastTick < u.tb.now / 100000 ∧
        engineRuns (applyIoConfig { u with loops := { u.loops with lastTick := u.tb.now / 100000 } }) = true)
      (fun u =>
        let n := u.tb.now / 100000
        let v := applyOutWrites (applyWaitingAll (applyIoConfig { u with loops := { u.loops with lastTick := n } }))
        let due := (slotsWhere (fun r => lKind r != 0) v).filter (fun k => match schedule k v with | none => false | some p => tickIn p u.loops.lastTick n)
        let level := fun h => due.filter (fun k => heightAt (fun k => (loopSlot k v).record) 4 (loopSlot k v).record == h)
        let sampled := (level 0).foldl (fun t k => sampleLoop k t) ((level 1).foldl (fun t k => sampleLoop k t)
          ((level 2).foldl (fun t k => sampleLoop k t) ((level 3).foldl (fun t k => sampleLoop k t) v)))
        followCurrents (resolveAll sampled)) ∧
    Runs (.loopSample dt) dt (fun u => u.tb.now / 100000 ≤ u.loops.lastTick) (fun u => u) ∧
    Runs (.loopReplicationTimer dt) dt
      (fun u => u.loops.lastRepl < u.tb.now / 10000000 ∧ t0Runs u = false ∧ feedsTwin u = true)
      (fun u => replicatePlant { u with loops := { u.loops with lastRepl := u.tb.now / 10000000 } })

/-- What a modulating loop's law leaves: its output moves by the rate at most, stays in range, and stands in band. For every loop
with a record of ordered output limits, the law of R315 keeps the output between OUT_MIN and OUT_MAX whenever the error is
outside the band, and leaves it as it was in band; with a positive RATE and an output within its limits it moves by RATE at
most; the previous error it keeps is DIR × (SP_R − PV), saturated; and it changes no PV, set-point, ramp or mode. -/
def Obligations.LoopLawsFollowTheirRules : Prop :=
  ∀ l : Loop, lOutMin l.record ≤ lOutMax l.record →
    ((lawModulating l).inBand = false → lOutMin l.record ≤ (lawModulating l).y ∧ (lawModulating l).y ≤ lOutMax l.record) ∧
    ((lawModulating l).inBand = true → (lawModulating l).y = l.y) ∧
    (0 < sfld l.record 0x54 4 → lOutMin l.record ≤ l.y → l.y ≤ lOutMax l.record →
      -(2 ^ 31 : Int) ≤ lOutMin l.record → lOutMax l.record < (2 ^ 31 : Int) →
      (lawModulating l).y - l.y ≤ sfld l.record 0x54 4 ∧ l.y - (lawModulating l).y ≤ sfld l.record 0x54 4) ∧
    (lawModulating l).ePrev = (sat32 (lDir l.record * (l.spr - l.pv))).1 ∧
    (lawModulating l).pv = l.pv ∧ (lawModulating l).sp = l.sp ∧ (lawModulating l).spr = l.spr ∧ (lawModulating l).mode = l.mode

/-- The Program class: images, modes, steps, variables, forces and configuration. Accepted, Put-Image stages data that continues the
staged image or starts it; Commit-Image of a good image loads it in STOP or with none, answering the changes, or in RUN starts
the on-line change and answers later; Get-Info, Get-Status, Read-Vars, List-Forces and Get-Config answer what they name;
Set-Mode STOP stops, HOLD holds under an open debug session, RUN starts with a start kind; Step arms one cycle in HOLD;
Set-Force and Release-Force keep the forces, which the standby is told; Set-Config takes effect at once. -/
def Obligations.ProgramClassAnswers : Prop :=
  Acts .programPutImage cmdProgramPutImage
      (fun c u => (fld c.payload 0 4 == 0 || fld c.payload 0 4 == u.prog.staged.length) &&
        decide (((if fld c.payload 0 4 = 0 then [] else u.prog.staged) ++ c.payload.drop 8).length ≤ 6291456))
      (fun c u => setProg (fun p => { p with staged := (if fld c.payload 0 4 = 0 then [] else u.prog.staged) ++ c.payload.drop 8 }) u)
      (fun c u => le 4 ((if fld c.payload 0 4 = 0 then [] else u.prog.staged) ++ c.payload.drop 8).length) ∧
    Acts .programCommitImage cmdProgramCommitImage
      (fun c u => fld c.payload 0 1 == 0 && decide (progState u ≤ 1) && u.prog.change.isNone && (imageBad u.prog.staged u).isNone &&
        !(directory u.prog.staged).any (ownershipBad (directory u.prog.staged) u))
      (fun _ u => setProg (fun p => { p with req := 1, discarded := 0, queue := [], timers := [], tasks := p.tasks.map (fun e => (e.1, { e.2 with overruns := 0, skipped := 0, execLast := 0, execMax := 0 })) })
        (placeImage u.prog.staged (sendChange 0 u.prog.staged u)).1)
      (fun _ u => (placeImage u.prog.staged (sendChange 0 u.prog.staged u)).2) ∧
    Defers .programCommitImage cmdProgramCommitImage
      (fun c u => fld c.payload 0 1 == 1 && progState u == 2 && u.prog.change.isNone && (imageBad u.prog.staged u).isNone &&
        !(directory u.prog.staged).any (ownershipBad (directory u.prog.staged) u))
      (fun c u => setProg (fun p => { p with change := some { image := u.prog.staged, from_ := (sendChange 1 u.prog.staged u).tb.now, mbox := c.mbox } })
        (sendChange 1 u.prog.staged u)) ∧
    Reads .programGetInfo cmdProgramGetInfo always (fun _ u => slice (progImage u) 0 144 ++ slice (progImage u) (digestOffset (progImage u)) 48) ∧
    Acts .programSetMode cmdProgramSetMode (fun c u => fld c.payload 0 1 == 1 && u.prog.req != 1) (fun _ u => stopProgram 1 u) (fun _ u => le 8 u.zone) ∧
    Acts .programSetMode cmdProgramSetMode (fun c u => fld c.payload 0 1 == 3 && u.win.debug != .closed && u.prog.req != 3)
      (fun _ u => noteNoProgram (sendMode (setProg (fun p => { p with req := 3, holdAt := some u.tb.now }) u))) (fun _ u => le 8 u.zone) ∧
    Acts .programSetMode cmdProgramSetMode (fun c u => fld c.payload 0 1 == 2 && u.prog.req != 2 && (fld c.payload 1 1 != 2 || u.prog.req == 3 || u.prog.hot))
      (fun c u => runProgram (fld c.payload 1 1) u) (fun _ u => le 8 u.zone) ∧
    Acts .programStep cmdProgramStep always
      (fun c u => setTask (fld c.payload 0 1) { task (fld c.payload 0 1) u with step := true, from_ := 0, lastIn := u.tb.now / 100000 } u)
      (fun c u => le 8 (zoneAt (nextInstant (fld c.payload 0 1) u) u)) ∧
    Reads .programGetStatus cmdProgramGetStatus always (fun _ u =>
      le 1 (progState u) ++ le 1 u.prog.cause ++ le 1 u.prog.req ++ le 1 (programCaravans u) ++ le 4 (fld (progImage u) 8 4) ++ le 4 (fld (progImage u) 12 4) ++
        le 2 u.prog.forces.length ++ zeros 2 ++
        (List.range 5).flatMap (fun t => le 2 (task t u).overruns ++ le 2 (task t u).skipped ++ le 4 (task t u).execLast ++ le 4 (task t u).execMax) ++
        le 1 u.prog.trap.1 ++ le 1 u.prog.trap.2.1 ++ zeros 2 ++ le 4 u.prog.trap.2.2.1 ++ le 4 u.prog.trap.2.2.2 ++ le 4 u.prog.discarded ++ zeros 4) ∧
    Reads .programReadVars cmdProgramReadVars
      (fun c u => (List.range (fld c.payload 0 2)).all (fun i => (entryOf (progDir u) (fld c.payload (4 + 8 * i) 8)).isSome))
      (fun c u => le 2 (fld c.payload 0 2) ++ zeros 2 ++ ((List.range (fld c.payload 0 2)).map (fun i => fld c.payload (4 + 8 * i) 8)).flatMap
        (fun v => match entryOf (progDir u) v with | some e => varRecord e u | none => [])) ∧
    (∀ e : Bytes, Acts .programSetForce cmdProgramSetForce
      (fun c u => entryOf (progDir u) (fld c.payload 0 8) == some e && eType e != 0x0D && !entryGuard e &&
        ((tabGet? u.prog.forces (fld c.payload 0 8)).isSome || decide (u.prog.forces.length < 256)))
      (fun c u => sendForces (setProg (fun p => { p with forces := tabSet p.forces (fld c.payload 0 8) (slice c.payload 8 (eSize e)) }) u)) (fun _ _ => [])) ∧
    Acts .programReleaseForce cmdProgramReleaseForce (fun c u => fld c.payload 0 8 == 0 && u.prog.forces != [])
      (fun _ u => sendForces (setProg (fun p => { p with forces := [] }) u)) (fun _ u => le 2 u.prog.forces.length ++ zeros 2) ∧
    Acts .programReleaseForce cmdProgramReleaseForce
      (fun c u => fld c.payload 0 8 != 0 && decide ((tabErase u.prog.forces (fld c.payload 0 8)).length < u.prog.forces.length))
      (fun c u => sendForces (setProg (fun p => { p with forces := tabErase u.prog.forces (fld c.payload 0 8) }) u))
      (fun c u => le 2 (u.prog.forces.length - (tabErase u.prog.forces (fld c.payload 0 8)).length) ++ zeros 2) ∧
    Reads .programListForces cmdProgramListForces always (fun _ u =>
      le 2 u.prog.forces.length ++ zeros 2 ++ u.prog.forces.flatMap (fun f => le 8 f.1 ++ fit 8 f.2)) ∧
    Reads .programGetConfig cmdProgramGetConfig always (fun _ u => u.prog.cfg) ∧
    Acts .programSetConfig cmdProgramSetConfig always (fun c u => setProg (fun p => { p with cfg := c.payload }) u) (fun _ _ => [])

/-- Task instants, executions, watchdogs, traps, limits, switches, timers and TE events run as the rules say. At a cyclic task's
input instant in RUN with no cycle executing, the output instant passed is served and a cycle begins; an execution's end forms
the writes, the output image, the retained lines and the timers; a cycle past its watchdog stops the program with cause 3 and a
trap with cause 2, recorded; HOLD past its limit stops it with cause 4; an on-line change switches at a quiet T0 instant, or
ends CHANGE_TIMEOUT unswitched; a retained record becomes durable and is replicated; an armed timer due fires, and a detected
event is queued for TE, which takes it at its instant. -/
def Obligations.ProgramEventsRun : Prop :=
  ∀ dt : Nat,
    (∀ (t : Fin 5) (x : Task), t.val ≠ 4 → Runs (.taskInput dt t) dt
      (fun u => progRuns u = true ∧ progState u = 2 ∧ u.prog.change = none ∧ (taskGrid (progImage u) t.val).1 ≠ 0 ∧
        tickIn (taskGrid (progImage u) t.val) (task t.val u).lastIn (u.tb.now / 100000) = true ∧ task t.val (outputInstant t.val u) = x ∧
        (outputInstant t.val u).prog.change = none ∧ taskOn (progImage (outputInstant t.val u)) t.val = true ∧ progState (outputInstant t.val u) = 2 ∧
        x.from_ ≤ lastInstant (taskGrid (progImage (outputInstant t.val u)) t.val) (u.tb.now / 100000) * 100000 ∧ x.executing = false ∧ x.overrun = false)
      (fun u => let v := outputInstant t.val u
        cyclicInstant t.val (lastInstant (taskGrid (progImage v) t.val) (u.tb.now / 100000) * 100000) (setTask t.val { x with lastIn := u.tb.now / 100000 } v))) ∧
    (∀ (e : Nat × Nat × Nat × Nat) (rest : List (Nat × Nat × Nat × Nat)), Runs (.taskInput dt 4) dt
      (fun u => progRuns u = true ∧ (outputInstant 4 u).prog.queue = e :: rest ∧ progState (outputInstant 4 u) = 2 ∧ (outputInstant 4 u).prog.change = none ∧
        (task 4 (outputInstant 4 u)).tin = none ∧ taskOn (progImage (outputInstant 4 u)) 4 = true ∧ e.2.2.2 ≤ u.tb.now / 100000 * 100000)
      (fun u => let v := outputInstant 4 u
        beginCycle 4 (u.tb.now / 100000 * 100000) (setTask 4 { task 4 v with event := some (e.1, e.2.1, e.2.2.1) } (setProg (fun p => { p with queue := rest }) v)))) ∧
    (∀ (t : Fin 5) (fx : TaskEffects), Runs (.taskExecutionEnd dt t fx) dt (fun u => (task t.val u).executing = true ∧ progRuns u = true)
      (fun u =>
        let after := (fx.writes.filter (fun w => decide (w.1 + w.2.length ≤ fld (progImage u) 0x20 4))).foldl (fun m w => Memory.write m w.1 w.2) u.prog.mem
        let lines := changedLines (progDir u) u.prog.mem after
        let v := setProg (fun p => { p with mem := after, retPend := lines.foldl (fun r l => tabSet r l.1 l.2) p.retPend }) u
        let value := fun (e : Bytes) => match tabGet? v.prog.forces (varId e) with | some f => fit (eSize e) f | none => getVar v.prog.mem e
        let img := (taskVars 1 t.val v).map (fun e => (e, value e))
        fx.timers.foldl armTimer (setTask t.val { task t.val v with executing := false, image := some img, opens := fx.opens, aborts := fx.aborts, execLast := fx.time % 2 ^ 32, execMax := max (task t.val v).execMax (fx.time % 2 ^ 32) } v))) ∧
    (∀ (t : Fin 4) (i : Nat), Runs (.taskWatchdog dt t) dt
      (fun u => (task t.val u).tin = some i ∧ (task t.val u).executing = true ∧ i + fld (taskRec (progImage u) t.val) 2 1 * fld (taskRec (progImage u) t.val) 4 4 * 1000 ≤ u.tb.now)
      (stopProgram 3)) ∧
    (∀ (t : Fin 5) (code : TrapCode) (inst off : Nat), Runs (.trap dt t code inst off) dt (fun u => (task t.val u).executing = true)
      (fun u => stopProgram 2 (emit 0x0C02 [(trapNumber code : Int), (t.val : Int), (inst : Int), (off : Int)]
        (setProg (fun p => { p with trap := (trapNumber code, t.val, inst % 2 ^ 32, off % 2 ^ 32) }) u)))) ∧
    (∀ t : Nat, Runs (.holdLimit dt) dt (fun u => u.prog.holdAt = some t ∧ t + fld u.prog.cfg 4 4 * 1000000000 ≤ u.tb.now) (stopProgram 4)) ∧
    Runs (.changeSwitch dt) dt (fun u => u.prog.change.isSome = true ∧ progState u = 2 ∧ quiet u = true ∧ t0Instant u = true) switchImage ∧
    (∀ c : Change, Runs (.changeTimeout dt) dt (fun u => u.prog.change = some c ∧ c.from_ + fld u.prog.cfg 0 4 * 1000000 ≤ u.tb.now)
      (fun u => finish c.mbox (refuse 0x26) (setProg (fun p => { p with change := none }) u))) ∧
    Runs (.retainedRecordDurable dt) dt
      (fun u => u.prog.retPend ≠ [] ∧ (feedsTwin u && u.twin.unacked.any (fun i => i.type == 0x12 && i.data.take 1 == [1])) = false)
      (fun u =>
        let l := u.prog.retPend
        (replicate 0x12 true (le 1 1 ++ l.flatMap (fun e => le 4 e.1 ++ e.2))
          (setProg (fun p => { p with retained := l.foldl (fun m e => Memory.write m (64 * e.1) e.2) p.retained, retPend := [] }) u)).1) ∧
    (∀ (i k : Nat) (d : Nat × Nat), Runs (.teEvent dt i k) dt
      (fun u => progRuns u = true ∧ progState u = 2 ∧ i < eventCount (progImage u) ∧ eventData (eventRec (progImage u) i) k u = some d) (queueEvent i d.1 d.2)) ∧
    (∀ (n : Fin 64) (x : HwTimer), Runs (.hwTimer dt n) dt
      (fun u => tabGet? u.prog.timers n.val = some x ∧ x.target ≤ u.zone ∧ progRuns u = true ∧ progState u = 2 ∧ x.period = 0)
      (fun u => ((List.range (eventCount (progImage u))).filter (fun i => fld (eventRec (progImage u) i) 0 4 == 4 + n.val * 65536)).foldl
        (fun t i => queueEvent i (x.expiries + 1) x.target t) (setProg (fun p => { p with timers := tabErase p.timers n.val }) u))) ∧
    (∀ (n : Fin 64) (x : HwTimer), Runs (.hwTimer dt n) dt
      (fun u => tabGet? u.prog.timers n.val = some x ∧ x.target ≤ u.zone ∧ progRuns u = true ∧ progState u = 2 ∧ x.period ≠ 0)
      (fun u =>
        let y := { x with expiries := x.expiries + 1, target := x.target + x.period }
        ((List.range (eventCount (progImage u))).filter (fun i => fld (eventRec (progImage u) i) 0 4 == 4 + n.val * 65536)).foldl
          (fun t i => queueEvent i (x.expiries + 1) x.target t) (setProg (fun p => { p with timers := tabSet p.timers n.val y }) u)))

/-- The Motion class: records, modes, moves, homing, faults and status. Accepted, Get-Config answers an axis's record; Set-Config of
a record without a conflict waits for the next standstill, which a resting axis is at; Set-Mode changes the requested mode, STOP
running an unguarded axis out; Move of a homed axis in MANUAL starts its motion to the share of its stroke, and is the LOCAL
value where nothing else writes the axis; Home begins the search; Clear-Fault ends a fault whose cause is gone; Read-Status
answers the eight records and clears TARGET_CLAMPED and DEVIATION_MAX. -/
def Obligations.MotionClassAnswers : Prop :=
  Reads .axisGetConfig cmdAxisGetConfig always (fun c u => (axis (fld c.payload 0 1) u).record) ∧
    Acts .axisSetConfig cmdAxisSetConfig
      (fun c u => !caravanHolds (0x30000000 + fld c.payload 0 1) u && !axisConflict (fld c.payload 0 1) (slice c.payload 4 64) u)
      (fun c u => setAxis (fld c.payload 0 1) (applyPend u.tb.now { axis (fld c.payload 0 1) u with pend := some (slice c.payload 4 64) }) u) (fun _ _ => []) ∧
    Acts .axisSetMode cmdAxisSetMode (fun c u => fld c.payload 1 1 != 2 || axisGuarded (fld c.payload 0 1) u)
      (fun c u => setAxis (fld c.payload 0 1) { axis (fld c.payload 0 1) u with req := fld c.payload 1 1, dirty := true } u) (fun _ u => le 8 u.zone) ∧
    Acts .axisSetMode cmdAxisSetMode (fun c u => fld c.payload 1 1 == 2 && !axisGuarded (fld c.payload 0 1) u)
      (fun c u => setAxis (fld c.payload 0 1) (stopAxis u.tb.now { axis (fld c.payload 0 1) u with req := fld c.payload 1 1, dirty := true, homing := 0 }) u) (fun _ u => le 8 u.zone) ∧
    Acts .axisMove cmdAxisMove
      (fun c u => (axis (fld c.payload 0 1) u).homed && axisMode (fld c.payload 0 1) u == 1 && (loopOwner 3 (fld c.payload 0 1) u).isNone &&
        !(bindsTo (progDir u) 0x45 (fld c.payload 0 1)).any (fun e => !entryGuard e))
      (fun c u =>
        let n := fld c.payload 0 1
        let v := fld c.payload 4 4
        setAxis n (startMove u.tb.now (roundAway (f32Val v * (stroke (axis n u) : Rat))) { axis n u with dirty := true })
          (setTarget 3 n { target 3 n u with local_ := some v, value := f32Val v } u)) (fun _ u => le 8 u.zone) ∧
    Acts .axisHome cmdAxisHome
      (fun c u => !axisGuarded (fld c.payload 0 1) u && axisMode (fld c.payload 0 1) u != 0 && axisMode (fld c.payload 0 1) u != 6 &&
        axisMode (fld c.payload 0 1) u != 7 && (axis (fld c.payload 0 1) u).faultPend == 0)
      (fun c u => setAxis (fld c.payload 0 1) (homeStart u.tb.now (axis (fld c.payload 0 1) u)) u) (fun _ u => le 8 u.zone) ∧
    Acts .axisClearFault cmdAxisClearFault
      (fun c u => (axis (fld c.payload 0 1) u).faulted && !(axis (fld c.payload 0 1) u).causes.contains (axis (fld c.payload 0 1) u).fault)
      (fun c u =>
        let a := axis (fld c.payload 0 1) u
        let m := if a.current = 3 then (if fld a.record 0x1C 4 = 0 then 1 else 0) else a.current
        setAxis (fld c.payload 0 1) { a with faulted := false, fault := 0, target := a.pos, restAt := u.tb.now, current := m } u) (fun _ _ => []) ∧
    Acts .axisReadStatus cmdAxisReadStatus always
      (fun _ u => { u with motion := { u.motion with axes := u.motion.axes.map (fun e => (e.1, { e.2 with clamped := false, devMax := 0 })) } })
      (fun _ u => (List.range 8).flatMap (fun n => axisStatus n u))

/-- Motion ends, stalls, encoder errors, limits, driver faults, hold delays and standstill records run as the rules say. A ramp that
has run out leaves its axis at rest at the goal, where a waiting record applies; at a new 100 µs instant, without counts, the
eight deviations are judged; an illegal encoder step and a driver condition that appears fault their axis, and one that ends
leaves only its causes; a limit input's new level is taken; HOLD_DELAY_MS after the last step the current falls to the hold
current, or off; 1 s after it the standstill's position is recorded. -/
def Obligations.MotionEventsRun : Prop :=
  ∀ dt : Nat,
    (∀ (n : Fin 8) (r : Ramp), Runs (.axisMotionEnd dt n) dt
      (fun u => (axis n.val u).ramp = some r ∧ r.end_ ≤ u.tb.now ∧ (axis n.val u).faultPend = 0 ∧ (axis n.val u).homing = 0)
      (fun u =>
        let a := axis n.val u
        setAxis n.val (applyPend u.tb.now (restAt r.end_ (match r.goal with | some g => g | none => a.posAt u.tb.now) a)) u)) ∧
    Runs (.stallCheck dt []) dt (fun u => u.motion.lastCheck < u.tb.now / 100000)
      (fun u => (List.range 8).foldl checkStall { u with motion := { u.motion with lastCheck := u.tb.now / 100000 } }) ∧
    (∀ n : Fin 8, Runs (.encError dt n .illegal) dt (fun u => fld (axis n.val u).record 0x26 1 ≠ 0) (axisFault n.val 2)) ∧
    (∀ n : Fin 8, Runs (.encError dt n .openInput) dt (fun u => fld (axis n.val u).record 0x26 1 ≠ 0)
      (fun u => axisFault n.val 2 (setAxis n.val (setCause 2 true (axis n.val u)) u))) ∧
    (∀ (n : Fin 8) (k : Nat), Runs (.limitSwitch dt n true) dt
      (fun u => fld (axis n.val u).record 0x28 1 = k ∧ k ≠ 0xFF ∧ fld (axis n.val u).record 0 1 ≠ 0 ∧ (di k u).value = true ∧ (axis n.val u).highOn = false ∧
        fld (axis n.val u).record 0x34 4 < ((stroke (axis n.val u) : Int) - (axis n.val u).posAt u.tb.now).natAbs)
      (fun u => axisFault n.val 3 (setAxis n.val { axis n.val u with highOn := true } u))) ∧
    (∀ (n : Fin 8) (k : Nat), Runs (.limitSwitch dt n true) dt
      (fun u => fld (axis n.val u).record 0x28 1 = k ∧ k ≠ 0xFF ∧ fld (axis n.val u).record 0 1 ≠ 0 ∧ (di k u).value = false ∧ (axis n.val u).highOn = true)
      (fun u => setAxis n.val { axis n.val u with highOn := false, atHigh := false } u)) ∧
    (∀ (n : Fin 8) (f : DriverFault), Runs (.driverFault dt n f true) dt (fun _ => True)
      (fun u => axisFault n.val (driverCode f) (setAxis n.val (setCause (driverCode f) true (axis n.val u)) u))) ∧
    (∀ (n : Fin 8) (f : DriverFault), Runs (.driverFault dt n f false) dt (fun _ => True)
      (fun u => setAxis n.val (setCause (driverCode f) false (axis n.val u)) u)) ∧
    (∀ n : Fin 8, Runs (.holdDelay dt n) dt
      (fun u => (axis n.val u).moving = false ∧ (axis n.val u).current ≤ 1 ∧ (axis n.val u).restAt + fld (axis n.val u).record 0x24 2 * 1000000 ≤ u.tb.now)
      (fun u => setAxis n.val { axis n.val u with current := if fld (axis n.val u).record 0x22 2 = 0 then 3 else 2 } u)) ∧
    (∀ n : Fin 8, Runs (.standstillRecord dt n) dt
      (fun u => (axis n.val u).moving = false ∧ (axis n.val u).recorded = false ∧ (axis n.val u).restAt + 1000000000 ≤ u.tb.now)
      (fun u => setAxis n.val { axis n.val u with saved := some ((axis n.val u).posAt u.tb.now, (axis n.val u).homed, (axis n.val u).moving), recorded := true } u))

/-- A fault of an axis in use on a driving module is recorded, counted as a stall where it is one, and ends homing. Where axis n is
enabled, neither faulted nor on its way there, and the module is no STANDBY, a fault f leaves FAULT f, no homing run and the
fault pending or reached; a stall is counted; a fault of 5 or above removes drive and leaves the axis FAULTED at rest at once;
the axis of every other number is as it was. -/
def Obligations.EveryAxisFaultIsRemembered : Prop :=
  ∀ (n f : Nat) (s : State), fld (axis n s).record 0 1 ≠ 0 → s.win.role ≠ .standby → (axis n s).faulted = false → (axis n s).faultPend = 0 → f ≠ 0 →
    (axis n (axisFault n f s)).fault = f ∧ (axis n (axisFault n f s)).homing = 0 ∧
    ((axis n (axisFault n f s)).faulted = true ∨ (axis n (axisFault n f s)).faultPend = f) ∧
    (axis n (axisFault n f s)).stalls = (if f = 1 then ((axis n s).stalls + 1) % 2 ^ 32 else (axis n s).stalls) ∧
    (5 ≤ f → (axis n (axisFault n f s)).faulted = true ∧ (axis n (axisFault n f s)).current = 3 ∧ (axis n (axisFault n f s)).moving = false) ∧
    (∀ k : Nat, k ≠ n → axis k (axisFault n f s) = axis k s)

/-- The CAN half of the bus class: configuration, objects, sending, rate detection, recovery and status. Accepted, Get-Config
answers the configuration or the timing found; a Set-Config whose timing is in order is in force at once; Set-Objects that
leaves the fields of bound objects alone writes the records, Get-Objects answers them; Read-Objects answers the frames and ends
their NEW; Send writes a TX object's data, a HOST object requesting a send; Detect-Rate starts a detection, Recover the recovery
from BUS_OFF, and Get-Status answers the status. -/
def Obligations.CanClassAnswers : Prop :=
  Reads .canGetConfig cmdCanGetConfig always (fun c u => (canBus (fld c.payload 0 1) u).found.getD (canBus (fld c.payload 0 1) u).cfg) ∧
    Acts .canSetConfig cmdCanSetConfig (fun c _ => !badTiming (c.payload.drop 4) && fld (c.payload.drop 4) 0 1 == 0)
      (fun c u => setCan (fld c.payload 0 1) { canBus (fld c.payload 0 1) u with cfg := c.payload.drop 4, detect := none, found := none, err := 1, tec := 0, recCount := 0, recovering := false } u)
      (fun _ _ => []) ∧
    Acts .canSetConfig cmdCanSetConfig (fun c _ => !badTiming (c.payload.drop 4) && fld (c.payload.drop 4) 0 1 != 0)
      (fun c u =>
        let x := canBus (fld c.payload 0 1) u
        setCan (fld c.payload 0 1) { x with cfg := c.payload.drop 4, detect := none, found := none, recovering := x.recovering || (x.err == 3 && bit (fld (c.payload.drop 4) 1 1) 1) } u)
      (fun _ _ => []) ∧
    Acts .canSetObjects cmdCanSetObjects
      (fun c u => (chunks 16 (fld c.payload 3 1) (c.payload.drop 4)).zipIdx.all (fun e =>
        !(bindingFields (canObj (fld c.payload 0 1) (fld c.payload 2 1 + e.2) u).record e.1 && canBound (fld c.payload 0 1) (fld c.payload 2 1 + e.2) u)))
      (fun c u => (chunks 16 (fld c.payload 3 1) (c.payload.drop 4)).zipIdx.foldl (fun t e => setObject (fld c.payload 0 1) (fld c.payload 2 1 + e.2) e.1 t) u)
      (fun _ _ => []) ∧
    Reads .canGetObjects cmdCanGetObjects always
      (fun c u => c.payload ++ (List.range (fld c.payload 3 1)).flatMap (fun i => (canObj (fld c.payload 0 1) (fld c.payload 2 1 + i) u).record)) ∧
    Acts .canReadObjects cmdCanReadObjects always
      (fun c u => ((List.range (fld c.payload 3 1)).map (fun i => fld c.payload 2 1 + i)).foldl (fun t o =>
        let x := canObj (fld c.payload 0 1) o t
        if x.isNew || x.shadow.isSome then
          setCan (fld c.payload 0 1) ((canBus (fld c.payload 0 1) t).setObj o { x with isNew := false, cur := x.frame, shadow := none }) t
        else t) u)
      (fun c u => c.payload ++ ((List.range (fld c.payload 3 1)).map (fun i => fld c.payload 2 1 + i)).flatMap
        (fun o => frameRecord o (canObj (fld c.payload 0 1) o u))) ∧
    Acts .canSend cmdCanSend
      (fun c u => fld (canObj (fld c.payload 0 1) (fld c.payload 1 1) u).record 0 1 == 2 && !progSends (fld c.payload 0 1) (fld c.payload 1 1) u)
      (fun c u =>
        let b := fld c.payload 0 1
        let o := fld c.payload 1 1
        let x := canObj b o u
        let v := setCan b ((canBus b u).setObj o { x with data := patch x.data 0 (slice c.payload 4 (fld c.payload 2 1)) }) u
        if fld x.record 3 1 = 0 then requestSend b o v else v) (fun _ _ => []) ∧
    Acts .canDetectRate cmdCanDetectRate (fun c u => (canBus (fld c.payload 0 1) u).detect.isNone)
      (fun c u =>
        let d : Detect := { dwell := fld c.payload 2 2, timeout := fld c.payload 4 2, from_ := u.tb.now, since := u.tb.now, cand := 0, good := 0, nominal := 0, brs := false }
        setCan (fld c.payload 0 1) { canBus (fld c.payload 0 1) u with detect := some d, found := none, detResult := 0, detRates := (0, 0) } u) (fun _ _ => []) ∧
    Acts .canRecover cmdCanRecover (fun c u => (canBus (fld c.payload 0 1) u).err == 3)
      (fun c u => setCan (fld c.payload 0 1) { canBus (fld c.payload 0 1) u with recovering := true } u) (fun _ _ => []) ∧
    Reads .canGetStatus cmdCanGetStatus always (fun c u =>
      let b := fld c.payload 0 1
      let x := canBus b u
      le 1 b ++ le 1 (canState b u) ++ le 1 (canMode b u) ++ le 1 x.faults ++ le 1 (min 255 x.tec) ++ le 1 (min 255 x.recCount) ++ le 1 x.detResult ++
        zeros 1 ++ le 2 x.detRates.1 ++ le 2 x.detRates.2 ++ le 4 x.rx ++ le 4 x.tx ++ le 4 x.unmatched ++ le 4 x.overruns ++ le 4 x.busOffs)

/-- Frames received and sent, periodic sends, errors, bus-off, recovery, transceiver faults and rate detection run as the rules say.
A frame received in NORMAL mode goes to the lowest object that takes it, moves a rate detection and brings REC down; a
transmission starts, completes, or is lost or failed; PERIODIC objects whose instant has come request their sends; an error
moves TEC or REC and the error state; above 255 BUS_OFF is entered and a recovery run ends it with both counters 0; a
transceiver fault is shown and recorded at each change; a detection moves to the next candidate after its dwell and ends
NOT_FOUND at its time-out. -/
def Obligations.CanEventsRun : Prop :=
  ∀ dt : Nat,
    (∀ (b : Fin 4) (f : CanRx) (sof : Nat) (rd : CanReading), Runs (.canFrameReceived dt b f sof rd) dt
      (fun u => canMode b.val u = 1 ∧ (f.fd = false ∨ bit (fld (canBus b.val u).cfg 1 1) 0 = true) ∧
        canMode b.val (detectGood b.val (f.fd && f.brs) (offer b.val f (u.zone - sof) rd u)) = 1)
      (fun u =>
        let v := detectGood b.val (f.fd && f.brs) (offer b.val f (u.zone - sof) rd u)
        judgeCan b.val (setCan b.val { canBus b.val v with recCount := recAfterGood (canBus b.val v).recCount } v))) ∧
    (∀ b : Fin 4, Runs (.canFrameTransmitted dt b .started) dt (fun u => canMode b.val u ≠ 0) (beginSend b.val)) ∧
    (∀ b : Fin 4, Runs (.canFrameTransmitted dt b .completed) dt (fun u => canMode b.val u ≠ 0) (fun u => sendDone b.val (beginSend b.val u))) ∧
    (∀ b : Fin 4, Runs (.canFrameTransmitted dt b .lost) dt (fun u => canMode b.val u ≠ 0) (fun u => sendFailed b.val (beginSend b.val u))) ∧
    (∀ b : Fin 4, Runs (.canFrameTransmitted dt b .failed) dt (fun u => canMode b.val u ≠ 0) (fun u => sendFailed b.val (beginSend b.val u))) ∧
    Runs (.canPeriodicSend dt) dt (fun u => ∀ b : Nat, b < 4 → canMode b u ≠ 0)
      (fun u => (List.range 4).foldl (fun t b => if canMode b t = 0 then t else (periodicDue t.tb.now (canBus b t)).foldl (fun v o => takePeriod b o v) t) u) ∧
    (∀ b : Fin 4, Runs (.canBusError dt b .transmit) dt
      (fun u => (canMode b.val u = 1 ∨ canMode b.val u = 3) ∧ (canBus b.val u).err ≠ 3 ∧ (canBus b.val u).detect = none)
      (fun u => judgeCan b.val (setCan b.val { canBus b.val u with tec := (canBus b.val u).tec + 8 } u))) ∧
    (∀ b : Fin 4, Runs (.canBusError dt b .receive) dt
      (fun u => (canMode b.val u = 1 ∨ canMode b.val u = 3) ∧ (canBus b.val u).err ≠ 3 ∧ (canBus b.val u).detect = none)
      (fun u => judgeCan b.val (setCan b.val { canBus b.val u with recCount := (canBus b.val u).recCount + 1 } u))) ∧
    (∀ b : Fin 4, Runs (.busOff dt b) dt (fun u => canMode b.val u ≠ 0 ∧ (canBus b.val u).err ≠ 3 ∧ 255 < (canBus b.val u).tec)
      (fun u =>
        let v := setCanErr b.val 3 (sendFailed b.val u)
        setCan b.val { canBus b.val v with busOffs := ((canBus b.val v).busOffs + 1) % 2 ^ 32, recovering := bit (fld (canBus b.val v).cfg 1 1) 1 } v)) ∧
    (∀ b : Fin 4, Runs (.busOffRecovery dt b) dt (fun u => canMode b.val u ≠ 0 ∧ (canBus b.val u).err = 3 ∧ (canBus b.val u).recovering = true)
      (fun u => setCanErr b.val 1 (setCan b.val { canBus b.val u with tec := 0, recCount := 0, recovering := false } u))) ∧
    (∀ b k : Fin 4, Runs (.canTransceiverFault dt b k true) dt (fun u => canMode b.val u ≠ 0 ∧ bit (canBus b.val u).faults k.val = false)
      (fun u => emit 0x0902 [(b.val : Int), (k.val : Int), 0] (setCan b.val { canBus b.val u with faults := setBit (canBus b.val u).faults k.val } u))) ∧
    (∀ b k : Fin 4, Runs (.canTransceiverFault dt b k false) dt (fun u => canMode b.val u ≠ 0 ∧ bit (canBus b.val u).faults k.val = true)
      (fun u => emit 0x0902 [(b.val : Int), (k.val : Int), 1] (setCan b.val { canBus b.val u with faults := (canBus b.val u).faults - 2 ^ k.val } u))) ∧
    (∀ (b : Fin 4) (d : Detect), Runs (.detectDwell dt b) dt (fun u => (canBus b.val u).detect = some d ∧ d.since + d.dwell * 1000000 ≤ u.tb.now)
      (fun u =>
        let e : Detect := { d with cand := if d.cand < 5 then (d.cand + 1) % 5 else 5 + (d.cand - 4) % 5, good := 0, since := u.tb.now }
        setCan b.val { canBus b.val u with detect := some e } u)) ∧
    (∀ (b : Fin 4) (d : Detect), Runs (.detectTimeout dt b) dt
      (fun u => (canBus b.val u).detect = some d ∧ d.from_ + d.timeout * 1000000000 ≤ u.tb.now ∧ d.cand < 5)
      (fun u => emit 0x0903 [(b.val : Int), 2, 0, 0] (setCan b.val { canBus b.val u with detect := none, detResult := 2, detRates := (0, 0) } u)))

/-- The M-Bus master: configuration, records, status, transact, the cycle, replies, time-outs and line power. Accepted, the M-Bus
commands answer the configuration, a slave's records and the status, whose read ends COLLISION; a configuration of distinct
slaves waits for the cycle's next instant; a telegram to transact joins the queue and is answered later. At a cycle instant with
the line powered a cycle starts; a good reply in time to a request is stored, and the next slave follows; without one the
attempt fails or, after SND_NKE, the request follows. Overcurrent powers the line off and 10 s later it is powered again. -/
def Obligations.MbusAnswersAndRuns : Prop :=
  Reads .mbusGetConfig cmdMbusGetConfig always (fun _ u => u.buses.mbus.cfg) ∧
    Acts .mbusSetConfig cmdMbusSetConfig
      (fun c _ => (List.range (fld c.payload 3 1)).all (fun i => (List.range i).all (fun j => fld c.payload (16 + 4 * j) 1 != fld c.payload (16 + 4 * i) 1)))
      (fun c u => setMbus (fun m => { m with pend := some c.payload }) u) (fun _ _ => []) ∧
    Reads .mbusReadRecords cmdMbusReadRecords always (fun c u =>
      let x := slave (fld c.payload 0 1) u
      le 1 (fld c.payload 0 1) ++ le 1 x.status ++ le 2 x.records.length ++ le 2 (bitAt 0 x.silent + bitAt 1 x.unsupported) ++ zeros 2 ++ le 8 x.time ++
        (List.range (fld c.payload 2 1)).flatMap (fun i => recordEntry (fld c.payload 1 1 + i) x.records[fld c.payload 1 1 + i]?)) ∧
    Acts .mbusGetStatus cmdMbusGetStatus always (fun _ u => setMbus (fun m => { m with faults := m.faults % 2 }) u)
      (fun _ u =>
        let m := u.buses.mbus
        let addrs := (List.range (fld m.cfg 3 1)).map (fun i => fld (slaveEntry m i) 0 1)
        let silent := (addrs.filter (fun a => (slave a u).silent)).length
        le 1 m.line ++ le 1 m.faults ++ zeros 2 ++ le 2 (lineMeasure u).1 ++ le 2 (lineMeasure u).2 ++ le 8 m.cycleStart ++ le 4 m.cycleMs ++
          le 2 (addrs.length - silent) ++ le 2 silent ++ le 4 m.telegrams ++ le 4 m.errors) ∧
    Defers .mbusTransact cmdMbusTransact always (fun c u =>
      mbusNext (setMbus (fun m => { m with transacts := m.transacts ++ [{ mbox := c.mbox, telegram := c.payload.drop 4, from_ := u.tb.now }] }) u)) ∧
    ∀ dt : Nat,
    Runs (.mbusCycleInstant dt) dt
      (fun u => busesUp u = true ∧ u.buses.mbus.lastCycle < u.zone / (max 1 (fld u.buses.mbus.cfg 4 2) * 1000000000) ∧ u.buses.mbus.pend = none ∧
        u.buses.mbus.line = 1 ∧ u.buses.mbus.running = false ∧ serving u = true)
      (fun u => mbusNext (setMbus (fun m => { m with lastCycle := u.zone / (max 1 (fld u.buses.mbus.cfg 4 2) * 1000000000), running := true, next := 0, cycleStart := u.zone, cycleFrom := u.tb.now }) u)) ∧
    (∀ (r : MbusReply) (x : MbusExchange), Runs (.mbusReply dt r) dt
      (fun u => u.buses.mbus.line = 1 ∧ u.buses.mbus.exch = some x ∧ x.nke = false ∧ u.tb.now ≤ replyLimit x.sent (slaveBaud u.buses.mbus x.slot) + r.began ∧
        r.collision = false ∧ replyGood r = true ∧ (slave x.addr (storeReply x.addr r.bytes u)).chain = 0)
      (fun u => mbusNext (setMbus (fun m => { m with exch := none }) (storeReply x.addr r.bytes u)))) ∧
    (∀ x : MbusExchange, Runs (.mbusReplyTimeout dt) dt
      (fun u => u.buses.mbus.exch = some x ∧ replyLimit x.sent (slaveBaud u.buses.mbus x.slot) ≤ u.tb.now ∧ x.nke = false) (attemptFailed x)) ∧
    (∀ x : MbusExchange, Runs (.mbusReplyTimeout dt) dt
      (fun u => u.buses.mbus.exch = some x ∧ replyLimit x.sent (slaveBaud u.buses.mbus x.slot) ≤ u.tb.now ∧ x.nke = true) (nkeDone x)) ∧
    (∀ ma : Nat, Runs (.mbusOvercurrent dt ma) dt (fun u => u.buses.mbus.line = 1)
      (fun u => emit 0x0904 [2, (ma : Int)] (setMbus (fun m => { m with running := false, line := 2, faults := setBit m.faults 0, offAt := u.tb.now }) (mbusAbandon u)))) ∧
    Runs (.mbusPowerRetry dt) dt (fun u => u.buses.mbus.line = 2 ∧ u.buses.mbus.offAt + 10000000000 ≤ u.tb.now) mbusOn

/-- The I/O and panel class: configurations, status, counters, outputs, interlocks, keys and LEDs. Accepted, the Get commands answer
the configurations, the I/O status, the rise counters with their frequencies and the keys; Io-Set-Config without an interlock
conflict, a change of an interlock that is on, shared block channels or a presence input in use waits for the next 100 µs tick;
Io-Set-Output of an output nothing else writes is its LOCAL value from the first tick at least 1 ms later; Io-Clear-Output ends
a latch whose cause is gone, Io-Reset-Interlock an interlock whose input is inactive; Panel-Set-Config and Panel-Set-Leds of
host LEDs take effect at once. -/
def Obligations.IoAndPanelClassAnswers : Prop :=
  Reads .ioGetConfig cmdIoGetConfig always (fun _ u => u.io.cfg) ∧
    Acts .ioSetConfig cmdIoSetConfig
      (fun c u => (ilockConflict c.payload).isNone && (List.range 8).all (fun n => !(ilockOn n u && ilockRec c.payload n != ilockRec u.io.cfg n)) &&
        (blockOverlap c.payload).isNone && (presenceUsed c.payload u).isNone)
      (fun c u => { u with io := { u.io with pend := some (c.payload, (u.tb.now / 100000 + 1) * 100000) } }) (fun _ _ => []) ∧
    Reads .ioGetStatus cmdIoGetStatus always (fun _ u => ioStatus u) ∧
    Reads .ioReadCounters cmdIoReadCounters always
      (fun _ u => (List.range 32).flatMap (fun k => le 4 (di k u).rises ++ le 4 (toF32 (diFrequency (di k u) u.tb.now)))) ∧
    Acts .ioSetOutput cmdIoSetOutput
      (fun c u => (loopOwner (2 - fld c.payload 0 1) (fld c.payload 1 1) u).isNone &&
        !(bindsTo (progDir u) (bindKind (2 - fld c.payload 0 1)) (fld c.payload 1 1)).any (fun e => !entryGuard e))
      (fun c u => { u with io := { u.io with writes := u.io.writes ++ [{ kind := fld c.payload 0 1, index := fld c.payload 1 1, value := fld c.payload 4 4, due := (u.tb.now + 1099999) / 100000 * 100000 }] } })
      (fun _ u => le 8 (zoneAt ((u.tb.now + 1099999) / 100000 * 100000) u)) ∧
    Acts .ioClearOutput cmdIoClearOutput
      (fun c u => let d := dout (fld c.payload 0 1) u
        d.latched && !d.reversed && d.test != 3)
      (fun c u => let n := fld c.payload 0 1
        ioChange 1 n (fun v => redrive n (setDout n { dout n v with latched := false, trip := 0, retries := 0 } v)) u) (fun _ _ => []) ∧
    Acts .ioResetInterlock cmdIoResetInterlock
      (fun c u => ilockOn (fld c.payload 0 1) u && !(fld (ilockRec u.io.cfg (fld c.payload 0 1)) 0 1 == 1 && ilockActive (ilockRec u.io.cfg (fld c.payload 0 1)) u))
      (fun c u => resolveAll (emit 0x0F03 [(fld c.payload 0 1 : Int), 1] { u with io := { u.io with ilocks := tabSet u.io.ilocks (fld c.payload 0 1) { on := false } } }))
      (fun _ _ => []) ∧
    Reads .panelGetConfig cmdPanelGetConfig always (fun _ u => u.panel.cfg) ∧
    Acts .panelSetConfig cmdPanelSetConfig always (fun c u => { u with panel := { u.panel with cfg := c.payload } }) (fun _ _ => []) ∧
    Reads .panelGetKeys cmdPanelGetKeys always (fun _ u =>
      le 1 ((List.range 8).map (fun k => bitAt k (key k u).touched)).sum ++ le 1 ((List.range 8).map (fun k => bitAt k (key k u).stuck)).sum ++
        le 1 u.panel.ledOpen ++ le 1 u.panel.ledShort ++ le 4 u.panel.covered ++
        (List.range 8).flatMap (fun n => let k := key n u
          le 2 k.presses ++ le 2 k.longs ++ le 2 k.brushes ++ le 1 (min 255 (k.delta / 65536).toNat) ++ zeros 1)) ∧
    Acts .panelSetLeds cmdPanelSetLeds
      (fun c u => (List.range 8).all (fun n => !(fld u.panel.cfg (0x11 + 4 * n) 1 == 1 && (fld c.payload (2 * n) 1, fld c.payload (2 * n + 1) 1) != tabGet (0, 0) u.panel.leds n)))
      (fun c u => { u with panel := { u.panel with leds := (List.range 8).foldl (fun t n => tabSet t n (fld c.payload (2 * n) 1, fld c.payload (2 * n + 1) 1)) u.panel.leds } })
      (fun _ _ => [])

/-- Field inputs and outputs, keys and LEDs are judged as the rules say. With the field running, a pad voltage held FILTER_US in a
band becomes the accepted one, and out of every band for 100 ms in WIRE_CHECK is a fault; a state of 1 for STUCK_S is stuck and
a whole window with at most one edge ends chattering, the interlocks being judged again; an analogue window gives its value and
fault; an overload switches an output off, to be retried or latched, and RETRY_MS later it is driven again; the open test every
100 ms and the analogue output's judgement set their codes; each change brings its fault events. At a new 5 ms instant with no
enabled key touched more than MAX_KEYS allows, every enabled key is measured and its touch judged, and when none is touched the
panel is no longer blanked; a lit LED without current is open, one with current below 1 V forward is short. -/
def Obligations.FieldAndPanelEventsRun : Prop :=
  ∀ dt : Nat,
    (∀ (n : Fin 32) (mv vdo : Int) (h : Nat), Runs (.diLevelAccepted dt n mv vdo h) dt
      (fun u => fieldRuns u = true ∧ fld (diRec u.io.cfg n.val) 2 2 ≤ h ∧ judgePad (diRec u.io.cfg n.val) mv vdo ≠ .between)
      (fun u => acceptBand n.val (judgePad (diRec u.io.cfg n.val) mv vdo) (u.zone - h * 1000) u)) ∧
    (∀ (n : Fin 32) (mv vdo : Int) (h : Nat), Runs (.diOutOfBand dt n mv vdo h) dt
      (fun u => fieldRuns u = true ∧ fld (diRec u.io.cfg n.val) 0 1 = 1 ∧ judgePad (diRec u.io.cfg n.val) mv vdo = .between ∧ 100000 ≤ h)
      (acceptBand n.val .between 0)) ∧
    (∀ (n : Fin 32) (t : Nat), Runs (.diStuck dt n) dt
      (fun u => (di n.val u).highFrom = some t ∧ fld (diRec u.io.cfg n.val) 4 2 ≠ 0 ∧ t + fld (diRec u.io.cfg n.val) 4 2 * 1000000000 ≤ u.tb.now)
      (fun u => judgeIlocks (ioChange 0 n.val (fun v => setDi n.val { di n.val v with stuck := true } v) u))) ∧
    (∀ n : Fin 32, Runs (.chatterWindowEnd dt n) dt
      (fun u => (di n.val u).chatter.isSome = true ∧ ((di n.val u).edges.filter (fun e => decide (u.tb.now < e.1 + chatterNs (diRec u.io.cfg n.val)))).length ≤ 1)
      (fun u => judgeIlocks (ioChange 0 n.val (fun v => setDi n.val { di n.val v with chatter := none, edges := (di n.val u).edges.filter (fun e => decide (u.tb.now < e.1 + chatterNs (diRec u.io.cfg n.val))) } v) u))) ∧
    (∀ (n : Fin 16) (mean : Int) (moved : Bool), Runs (.ainWindow dt n mean moved) dt
      (fun u => fieldRuns u = true ∧ fld (ainRec u.io.cfg n.val) 0 1 = 1 ∧ (tabGet {} u.io.ain n.val).last < u.tb.now / (max 1 (fld (ainRec u.io.cfg n.val) 2 2) * 1000000))
      (fun u =>
        let a : Ain := { value := toF32 (mkRat (min 25000 mean) 1000), stamp := some u.zone, fault := ainFault 1 (min 25000 mean) moved, last := u.tb.now / (max 1 (fld (ainRec u.io.cfg n.val) 2 2) * 1000000) }
        ioChange 2 n.val (fun v => { v with io := { v.io with ain := tabSet v.io.ain n.val a } }) u)) ∧
    (∀ (n : Fin 24) (hot : Bool), Runs (.doOverload dt n hot) dt (fun u => (dout n.val u).on = true)
      (fun u => ioChange 1 n.val (fun v =>
        let spent := decide (fld (doRec v.io.cfg n.val) 1 1 ≤ (dout n.val v).retries)
        setDout n.val { dout n.val v with on := false, trip := if hot then 5 else 2, latched := spent, offAt := if spent then none else some v.tb.now } v) u)) ∧
    (∀ (n : Fin 24) (t : Nat), Runs (.doRetry dt n) dt
      (fun u => (dout n.val u).offAt = some t ∧ t + fld (doRec u.io.cfg n.val) 2 2 * 1000000 ≤ u.tb.now)
      (fun u => ioChange 1 n.val (fun v => redrive n.val (setDout n.val { dout n.val v with offAt := none, trip := 0, retries := (dout n.val v).retries + 1 } v)) u)) ∧
    (∀ (n : Fin 24) (cur bef dur : Int), Runs (.doOpenTest dt n cur bef dur) dt
      (fun u => (dout n.val u).lastTest < u.tb.now / 100000000 ∧ fieldRuns u = true ∧ u.win.role ≠ .standby ∧ bit (fld (doRec u.io.cfg n.val) 0 1) 0 = true ∧ (dout n.val u).on = true)
      (fun u => ioChange 1 n.val (fun v => setDout n.val { dout n.val v with reversed := decide (bef < -1000), test := if bit (fld (doRec v.io.cfg n.val) 0 1) 0 then (if (dout n.val v).on then (if cur < 5000 then 1 else 0) else if 4000 < bef then 3 else if 4000 < dur then 1 else 0) else 0, lastTest := u.tb.now / 100000000 } v) u)) ∧
    (∀ (n : Fin 8) (cur pad : Int) (h : Nat), Runs (.aoutFault dt n cur pad h) dt
      (fun u => fieldRuns u = true ∧ u.win.role ≠ .standby ∧ -500 ≤ pad ∧ 20000 ≤ cur ∧ 10 ≤ h)
      (ioChange 3 n.val (fun v => { v with io := { v.io with aoutFault := tabSet v.io.aoutFault n.val 2 } }))) ∧
    (∀ b : Fin 16, Runs (.blockRemovalWindow dt b) dt (fun _ => True) (endSpan b.val)) ∧
    (∀ b : Fin 16, Runs (.blockReinsert dt b) dt (fun _ => True) (reinsert b.val)) ∧
    (∀ sg : List Int, Runs (.keyMeasurement dt sg) dt
      (fun u => u.panel.lastMeas < u.tb.now / 5000000 ∧ fieldRuns u = true ∧
        (let on := (List.range 8).filter (fun n => bit (fld u.panel.cfg 7 1) n)
         let v := on.foldl (fun t n => setKey n (measureKey u.panel.cfg t.tb.now (sg.getD n 0) (key n t)) t)
           { u with panel := { u.panel with lastMeas := u.tb.now / 5000000 } }
         (on.filter (fun n => (key n v).touched)).length ≤ fld u.panel.cfg 6 1 ∧ on.filter (fun n => (key n v).touched) ≠ []))
      (fun u =>
        let on := (List.range 8).filter (fun n => bit (fld u.panel.cfg 7 1) n)
        let v := on.foldl (fun t n => setKey n (measureKey u.panel.cfg t.tb.now (sg.getD n 0) (key n t)) t)
          { u with panel := { u.panel with lastMeas := u.tb.now / 5000000 } }
        on.foldl (fun t n => judgeTouch n (sg.getD n 0) (key n u) t) v)) ∧
    (∀ (n : Fin 8) (cur fwd : Nat), Runs (.ledFault dt n cur fwd) dt
      (fun u => ledLit n.val u = true ∧ fieldRuns u = true ∧ cur = 0)
      (fun u => { u with panel := { u.panel with ledOpen := setBit u.panel.ledOpen n.val, ledShort := u.panel.ledShort - bitAt n.val (bit u.panel.ledShort n.val) } })) ∧
    (∀ (n : Fin 8) (cur fwd : Nat), Runs (.ledFault dt n cur fwd) dt
      (fun u => ledLit n.val u = true ∧ fieldRuns u = true ∧ cur ≠ 0 ∧ fwd < 1000)
      (fun u => { u with panel := { u.panel with ledOpen := u.panel.ledOpen - bitAt n.val (bit u.panel.ledOpen n.val), ledShort := setBit u.panel.ledShort n.val } }))

/-- A terminal block's open span ends in REMOVED, with one event, or in the events it withheld; a REMOVED block returns after
REINSERT_MS. At REMOVAL_WINDOW_MS after a span began, a block none of whose open-detectable members lacks an open indication
becomes REMOVED and only its withheld events that are no OPEN are recorded; where a member shows none, the block is not REMOVED
and every withheld event is recorded in order. Before that instant, and with no span, nothing changes. A REMOVED block whose
members have shown no open for REINSERT_MS is REMOVED no more. -/
def Obligations.TerminalBlocksAreJudged : Prop :=
  ∀ (b : Nat) (s : State),
    ((block b s).span = none → endSpan b s = s) ∧
    (∀ t : Nat, (block b s).span = some t → s.tb.now < t + fld s.io.cfg 0 2 * 1000000 → endSpan b s = s) ∧
    (∀ t : Nat, (block b s).span = some t → t + fld s.io.cfg 0 2 * 1000000 ≤ s.tb.now →
      (blockOpens b s ≠ [] ∧ (blockOpens b s).all (·) = true → (block b (endSpan b s)).removed = true) ∧
      ((blockOpens b s).all (·) = false → (block b (endSpan b s)).removed = (block b s).removed) ∧
      (block b (endSpan b s)).span = none ∧ (block b (endSpan b s)).held = [] ∧
      (∀ k : Nat, k ≠ b → block k (endSpan b s) = block k s)) ∧
    (∀ t : Nat, (block b s).removed = true → (block b s).clearFrom = some t → t + fld s.io.cfg 2 2 * 1000000 ≤ s.tb.now →
      (block b (reinsert b s)).removed = false ∧ (block b (reinsert b s)).clearFrom = none)

/-- The Security class: identity, key slots, enrolment, epochs, tamper configuration, re-arming, debug and signing. Accepted, the
reads answer the status, a certificate, a signed attestation of the caller's nonce, the slots and the tamper configuration;
Install-Authority fills an empty slot 0 and its bank image; a Key-Update that passes its checks, in their order, waits for its
commit record and one that fails ends its operation with the first reason; Enrol-Node gives a node its key sealed to it;
Set-Key-Epoch waits as a rollover; Zeroise runs the tamper response; Rearm erases the store and starts key epoch 1; a debug
challenge is drawn, a fitting token opens FIELD or VENDOR, Close-Debug closes FIELD; Raise-Min-Version, Put-Server-Chain and
Sign have their effects. -/
def Obligations.SecurityClassAnswers : Prop :=
  Reads .secGetStatus cmdSecGetStatus always (fun _ u => secStatus u) ∧
    Reads .secGetCertificate cmdSecGetCertificate always
      (fun c _ => le 2 (Config.certificate (fld c.payload 0 1)).length ++ zeros 2 ++ Config.certificate (fld c.payload 0 1)) ∧
    Reads .secAttest cmdSecAttest always
      (fun c u => attestReport c.payload u ++ fit 96 (Config.ecdsaSign identityPrivate (Config.sha384 (attestReport c.payload u)))) ∧
    Reads .secListSlots cmdSecListSlots always (fun _ u => (List.range 64).flatMap (fun n =>
      let k := keySlot n u
      le 1 n ++ le 1 k.state ++ le 1 k.type ++ le 1 k.owner ++ le 2 k.usage ++ zeros 2 ++ fingerprint k)) ∧
    Acts .secInstallAuthority cmdSecInstallAuthority always
      (fun c u =>
        let v := setBank u.sec.bank (tabSet (bankOf u.sec.bank u) 0 (wrap 0 u.sec.bank 3 0 1 c.payload u)) u
        setSec (fun x => { x with slots := tabSet x.slots 0 (loadedSlot 0 3 0 1 c.payload v) }) v)
      (fun c _ => fit 8 (Config.sha384 c.payload)) ∧
    (∀ n : Nat, Completes .secKeyUpdate cmdSecKeyUpdate (fun _ u => freeEntry u == some n)
      (fun c u =>
        let v := takeEntry n c.path c.code c.tag c.mbox (fld c.payload 6 2) u
        match kuCheck c.payload v with
        | .inl r => opFail n r (if r = 0x29 ∧ (keySlot 0 v).state = 1 then faultSlot 0 v else v)
        | .inr m =>
          let w : KeyUpdate := { entry := n, counter := fld c.payload 0x18 8, written := ((List.range (fld c.payload 6 2)).map (fun i => 2 ^ fld (kuEntry c.payload i) 0 1)).sum, bank := kuBank c.payload m v }
          progressTo n (fld c.payload 6 2) (setSec (fun x => { x with update := some w }) v))
      (fun _ _ => .accepted n)) ∧
    (∀ master : Bytes, Acts .secEnrolNode cmdSecEnrolNode (fun _ u => (keySlot 1 u).state == 1 && (keySlot 1 u).usage &&& 8 == 8 && slotSound 1 (keySlot 1 u) u && (keySlot 1 u).material == master)
      (fun _ u => (draw 48 u).2)
      (fun c u =>
        let id := slice c.payload 0 2 ++ slice c.payload 4 4
        let e := Config.gcmSeal (kdf (Config.ecdh (draw 48 u).1 (slice c.payload 8 96)) "FFP-ENROL" id 256) (zeros 12) id (nodeKey master (fld c.payload 0 2) (fld c.payload 4 4))
        fit 96 (Config.ecPublic (draw 48 u).1) ++ fit 32 e.1 ++ fit 16 e.2)) ∧
    Acts .secSetKeyEpoch cmdSecSetKeyEpoch (fun _ u => !feedsTwin u)
      (fun c u => setSec (fun x => { x with roll := some { next := fld c.payload 0 4, overlap := fld c.payload 4 4, switch := fld c.payload 8 8 } }) u) (fun _ _ => []) ∧
    Reads .secGetTamperConfig cmdSecGetTamperConfig always (fun _ u => u.sec.tampCfg) ∧
    Acts .secRearm cmdSecRearm (fun _ u => u.win.st == .tampered)
      (fun _ u =>
        let v := setModState .ready (setSec (fun x => { x with keyEpoch := 1, roll := none, tamper := .none }) (eraseStore u))
        emit 0x0302 [(epochE v : Int)] v)
      (fun _ u => le 4 (epochE u)) ∧
    Acts .secGetDebugChallenge cmdSecGetDebugChallenge always
      (fun _ u => setSec (fun x => { x with challenge := some ((draw 32 u).1, u.zone + 300 * 10 ^ 9) }) (draw 32 u).2)
      (fun _ u => (draw 32 u).1 ++ le 8 (u.zone + 300 * 10 ^ 9)) ∧
    (∀ (ch : Bytes) (t : Nat), Acts .secOpenDebug cmdSecOpenDebug
      (fun c u => u.sec.challenge == some (ch, t) && tokenFits c.payload ch u && fld c.payload 6 1 == 1 && u.win.debug != .vendor)
      (fun c u =>
        let v := setSec (fun x => { x with challenge := none, notAfter := fld c.payload 0x40 8 }) u
        emit 0x0305 [1, 0] { v with win := { v.win with debug := .field } })
      (fun _ u => le 8 u.zone)) ∧
    (∀ (ch : Bytes) (t : Nat), Completes .secOpenDebug cmdSecOpenDebug
      (fun c u => u.sec.challenge == some (ch, t) && !tokenFits c.payload ch u)
      (fun _ u => setSec (fun x => { x with challenge := none }) u) (fun _ _ => refuse 0x2D)) ∧
    Acts .secCloseDebug cmdSecCloseDebug (fun _ u => u.win.debug == .field)
      (fun _ u => emit 0x0305 [0, 1] { u with win := { u.win with debug := .closed } }) (fun _ _ => []) ∧
    Acts .secRaiseMinVersion cmdSecRaiseMinVersion (fun c u => fld c.payload 0 1 != u.sec.minVersion)
      (fun c u => emit 0x0307 [(fld c.payload 0 1 : Int)] (setSec (fun x => { x with minVersion := fld c.payload 0 1 }) u))
      (fun c u =>
        let v := emit 0x0307 [(fld c.payload 0 1 : Int)] (setSec (fun x => { x with minVersion := fld c.payload 0 1 }) u)
        le 1 (b2n (bootable (fwSlot (1 - v.win.imageSlot) v) v)) ++ zeros 3) ∧
    Acts .secPutServerChain cmdSecPutServerChain
      (fun c u => (keySlot 4 u).state == 1 && Config.certKey (slice c.payload 4 (fld c.payload 2 2)) == Config.ecPublic (keySlot 4 u).material)
      (fun c u => setSec (fun x => { x with chain := some (fld c.payload 0 1, slice c.payload 4 (fld c.payload 2 2)) }) u) (fun _ _ => []) ∧
    Acts .secZeroise cmdSecZeroise always (fun _ u => tamperResponse 0x0B u) (fun _ _ => []) ∧
    Reads .secSign cmdSecSign
      (fun c u => let n := fld c.payload 0 1
        n != 4 && (keySlot n u).state == 1 && (keySlot n u).usage &&& 2 == 2 && slotSound n (keySlot n u) u)
      (fun c u => fit 96 (Config.ecdsaSign (keySlot (fld c.payload 0 1) u).material (slice c.payload 4 48)))

/-- Commits, epoch switches, ends of overlap, tamper sources and debug expiry run as the rules say. A key update's commit record
puts its bank in force, moves UPDATE_COUNTER and completes its operation; at SWITCH_TIME a module that is no STANDBY switches
its key epoch, and OVERLAP_S later the overlap ends; an armed source that is not active yet runs the tamper response, and a
source that clears may latch the module; FIELD debug closes at NOT_AFTER. -/
def Obligations.SecurityEventsRun : Prop :=
  ∀ dt : Nat,
    (∀ w : KeyUpdate, Runs (.keyUpdateCommit dt) dt (fun u => u.sec.update = some w ∧ (u.sec.tamper ≠ .none ∨ u.win.debug = .vendor))
      (fun u =>
        let v := setBank (1 - u.sec.bank) w.bank u
        let v := setSec (fun x => { x with bank := 1 - u.sec.bank, updateCounter := w.counter, commitSeq := (x.commitSeq + 1) % 2 ^ 32, update := none }) v
        opDone w.entry (le 8 w.counter ++ le 8 w.written) (emit 0x0304 [(w.counter : Int), (w.written : Int)] v))) ∧
    (∀ w : KeyUpdate, Runs (.keyUpdateCommit dt) dt (fun u => u.sec.update = some w ∧ u.sec.tamper = .none ∧ u.win.debug ≠ .vendor)
      (fun u =>
        let v := setBank (1 - u.sec.bank) w.bank u
        let v := loadKeys (setSec (fun x => { x with bank := 1 - u.sec.bank, updateCounter := w.counter, commitSeq := (x.commitSeq + 1) % 2 ^ 32, update := none }) v)
        opDone w.entry (le 8 w.counter ++ le 8 w.written) (emit 0x0304 [(w.counter : Int), (w.written : Int)] v))) ∧
    (∀ r : Rollover, Runs (.keyEpochSwitch dt) dt
      (fun u => u.sec.roll = some r ∧ r.old = none ∧ keeperUp u = true ∧ u.win.role ≠ .standby ∧ r.switch ≤ u.zone)
      (fun u =>
        let v := emit 0x0306 [(r.next : Int)] (setSec (fun x => { x with keyEpoch := r.next, roll := some { r with old := some x.keyEpoch } }) u)
        (replicate 0x16 true (epochItem v) v).1)) ∧
    (∀ r : Rollover, Runs (.overlapEnd dt) dt
      (fun u => u.sec.roll = some r ∧ r.old.isSome = true ∧ keeperUp u = true ∧ r.switch + r.overlap * 10 ^ 9 ≤ u.zone)
      (setSec (fun x => { x with roll := none }))) ∧
    (∀ n : Fin 10, Runs (.tamperDetected dt n) dt (fun u => armed n.val u = true ∧ bit u.sec.active (n.val - 1) = false)
      (fun u => tamperResponse n.val (setSec (fun x => { x with active := x.active + 2 ^ (n.val - 1) }) u))) ∧
    (∀ n : Fin 10, n.val ≠ 0 → Runs (.tamperSourceClear dt n) dt (fun u => bit u.sec.active (n.val - 1) = true)
      (fun u => latchTamper (setSec (fun x => { x with active := x.active - 2 ^ (n.val - 1) }) u))) ∧
    Runs (.debugExpiry dt) dt (fun u => keeperUp u = true ∧ u.sec.notAfter ≤ u.zone) closeField

/-- No key outlives a tamper response. Whatever the source and the state, after the tamper response the key register is empty, no
key update is in progress, FIELD debug is closed in a module awake, TAMPER_STATE is not NONE, the epoch of the VBAT domain has
advanced exactly where the store held an image, and the last source is the one that tripped. -/
def Obligations.TamperTakesTheKeys : Prop :=
  ∀ (n : Nat) (s : State),
    (tamperResponse n s).sec.slots = [] ∧ (tamperResponse n s).sec.update = none ∧ (tamperResponse n s).sec.tamper ≠ .none ∧
    (tamperResponse n s).sec.eVbat = s.sec.eVbat + b2n (storeHolds s) ∧ (tamperResponse n s).sec.lastSource = n ∧
    (tamperAwake s = true → (tamperResponse n s).win.debug ≠ .field)

/-- The Clocks class: configuration, status, gates and the TCXO's start. Accepted, Get-Config, Get-Gates and Get-Osc-Start answer
the configuration, the eighteen gate nodes and the start record; Get-Status answers the status and clears FORCED_SWITCH;
Set-Config of a valid list and a CLKOUT within 62.5 MHz takes effect, CLKOUT, sources and multiplexers following; Set-Gate turns
a node on with its ancestors, turns an idle unprotected one off, and is refused on a busy or protected one, naming the node that
keeps it; Set-Osc-Start writes the start record. -/
def Obligations.ClocksClassAnswers : Prop :=
  Reads .clkGetConfig cmdClkGetConfig always (fun _ u => u.clocks.cfg) ∧
    Acts .clkSetConfig cmdClkSetConfig
      (fun c _ => !badList c.payload && decide (clkoutHz (fld c.payload 0x08 1) ≤ 62500000 * (fld c.payload 0x0A 2 + 1)))
      (fun c u => followOrder (followSources 2 (setClk (fun k => { k with cfg := c.payload }) (clkoutSwitch (fld u.clocks.cfg 0x08 1) (fld c.payload 0x08 1) u)))) (fun _ _ => []) ∧
    Acts .clkGetStatus cmdClkGetStatus always (fun _ u => setClk (fun k => { k with forced := false }) u) (fun _ u => clockStatus u) ∧
    Reads .clkGetGates cmdClkGetGates always (fun _ u => (List.range 18).flatMap (fun n =>
      le 1 n ++ le 1 (b2n (bit u.clocks.gates n)) ++ le 1 (bitAt 0 (gateProtected n) + bitAt 1 (blockInUse n u) + bitAt 2 (bit u.clocks.hostOff n)) ++ le 1 ((gateParent n).getD 0xFF))) ∧
    Acts .clkSetGate cmdClkSetGate (fun c _ => fld c.payload 1 1 == 1) (fun c u => gateOn (fld c.payload 0 1) u) (fun _ _ => [0xFF, 0, 0, 0]) ∧
    Acts .clkSetGate cmdClkSetGate (fun c u => fld c.payload 1 1 == 0 && !gateProtected (fld c.payload 0 1) && (busyNode (fld c.payload 0 1) u).isNone)
      (fun c u => setClk (fun k => { k with gates := k.gates - bitAt (fld c.payload 0 1) (bit k.gates (fld c.payload 0 1)), hostOff := setBit k.hostOff (fld c.payload 0 1) }) u)
      (fun _ _ => [0xFF, 0, 0, 0]) ∧
    (∀ m : Nat, Completes .clkSetGate cmdClkSetGate
      (fun c u => fld c.payload 1 1 == 0 && !gateProtected (fld c.payload 0 1) && busyNode (fld c.payload 0 1) u == some m)
      (fun _ u => u) (fun _ _ => .err 0x20 32 (le 1 m ++ zeros 3))) ∧
    Reads .clkGetOscStart cmdClkGetOscStart always
      (fun _ u => le 1 u.clocks.osc.1 ++ zeros 1 ++ le 2 u.clocks.osc.2 ++ le 1 (b2n u.clocks.oscValid) ++ zeros 3) ∧
    Acts .clkSetOscStart cmdClkSetOscStart always
      (fun c u => setClk (fun k => { k with osc := (fld c.payload 0 1, fld c.payload 2 2), oscValid := true }) u) (fun _ _ => [])

/-- Qualifications, trips, limits, retries, reverts and PLL lock run as the rules say. A source that qualifies after its count takes
its offset, and the multiplexers without a better source take it; a stopped source, and one whose frequency leaves its window,
is tripped and the multiplexers that use it fall back; each source past its limit fails and is tried again 1 s later; a TCXO
qualified for WTR_S takes the CM multiplexer back; SYS_PLL locks at least 1 s after its reference was selected. -/
def Obligations.ClockEventsRun : Prop :=
  ∀ dt : Nat,
    (∀ (x : Fin 8) (o : Int), 2 ≤ x.val → x.val ≠ 5 → Runs (.sourceQualified dt x o false) dt
      (fun u => u.power.off = false ∧ (clkSource x.val u).state = 1 ∧ (clkSource x.val u).countFrom + countNs x.val u ≤ u.tb.now)
      (fun u => followDegraded (takeSource x.val 1 (takeSource x.val 0
        (sourceTo x.val 2 (fun k => { k with offset := max (-32768) (min 32767 o), qualAt := u.tb.now }) u))))) ∧
    (∀ x : Fin 8, x.val ≠ 0 → Runs (.sourceTrip dt x .stopped) dt
      (fun u => u.power.off = false ∧ ((clkSource x.val u).state = 1 ∨ (clkSource x.val u).state = 2)) (tripSource x.val 1)) ∧
    (∀ (x : Fin 8) (o : Int), x.val ≠ 0 → x.val ≠ 5 → Runs (.sourceTrip dt x (.freq o)) dt
      (fun u => u.power.off = false ∧ ((clkSource x.val u).state = 1 ∨ (clkSource x.val u).state = 2) ∧ freqWindow x.val u < o.natAbs)
      (fun u => tripSource x.val 2 (setClkSource x.val (fun k => { k with offset := max (-32768) (min 32767 o) }) u))) ∧
    Runs (.qualificationLimit dt) dt (fun u => u.power.off = false)
      (fun u => ([1, 2, 3, 4, 6].filter (fun x => (clkSource x u).state == 1 &&
          (match limitNs x u with | none => false | some l => decide ((clkSource x u).since + l ≤ u.tb.now)))).foldl
        (fun t x => dropSource x 0 (sourceTo x 3 (fun k => { k with failedAt := u.tb.now }) t)) u) ∧
    Runs (.sourceRetry dt) dt (fun u => u.power.off = false)
      (fun u => ([1, 2, 3, 4, 6].filter (fun x => (clkSource x u).state == 3 && decide ((clkSource x u).failedAt + 1000000000 ≤ u.tb.now))).foldl
        (fun t x => followDegraded (sourceTo x 1 (fun k => { k with since := u.tb.now + (if x = 1 then 10000000 else 0), countFrom := u.tb.now + (if x = 1 then 10000000 else 0) }) t)) u) ∧
    Runs (.wtrRevert dt) dt
      (fun u => u.power.off = false ∧ u.clocks.cm.source ≠ 1 ∧ u.clocks.cm.held = none ∧ (clkSource 1 u).state = 2 ∧
        (clkSource 1 u).qualAt + wtrNs u ≤ u.tb.now ∧ (switchTo 1 1 1 u).clocks.ref.source = 0)
      (fun u => followDegraded (switchTo 1 1 1 u)) ∧
    Runs (.pllLocked dt) dt (fun u => u.power.off = false ∧ u.clocks.pll = 1 ∧ u.clocks.pllFrom + 1000000000 ≤ u.tb.now)
      (fun u => setClk (fun k => { k with pll := 2, pllFrom := u.tb.now }) u)

/-- The Power class: status, power states, configuration and the measurement of the hold-up capacitor. Accepted, Get-Status and
Get-Config answer the status and the configuration, Set-Config takes effect at once. Set-State ACTIVE from QUIET waits for the
next epoch, QUIET from ACTIVE abandons the running solves at once, and STANDBY without a blocker and with a wake source enabled
is answered and entered; what blocks it is named and nothing changes. Measure-Holdup with HOLD_READY and no measurement waiting
waits for one. -/
def Obligations.PowerClassAnswers : Prop :=
  Reads .powerGetStatus cmdPowerGetStatus always (fun _ u => powerStatus u) ∧
    Reads .powerGetConfig cmdPowerGetConfig always (fun _ u => u.power.cfg) ∧
    Acts .powerSetConfig cmdPowerSetConfig always (fun c u => setPow (fun p => { p with cfg := c.payload }) u) (fun _ _ => []) ∧
    (∀ cut : Cut,
      Acts (fun dt r => .powerSetState dt r cut) (cmdPowerSetState cut) (fun c u => u.win.power == .quiet && fld c.payload 0 1 == 0)
        (fun _ u => setPow (fun p => { p with returnAt := some (u.power.returnAt.getD (nextEpoch u)) }) u)
        (fun _ u => le 8 (u.power.returnAt.getD (nextEpoch u))) ∧
      Acts (fun dt r => .powerSetState dt r cut) (cmdPowerSetState cut) (fun c u => u.win.power == .active && fld c.payload 0 1 == 1)
        (fun _ u => setPower .quiet (abandonReplan (abandonSolve u))) (fun _ u => le 8 u.zone) ∧
      Defers (fun dt r => .powerSetState dt r cut) (cmdPowerSetState cut)
        (fun c u => (u.win.power == .active || u.win.power == .quiet) && fld c.payload 0 1 == 2 && standbyBlockers u == 0 && (List.range 5).any (fun k => wakeEnabled k u))
        (fun c u => enterStandby cut (finish c.mbox (.ok (le 8 u.zone)) u)) ∧
      Completes (fun dt r => .powerSetState dt r cut) (cmdPowerSetState cut)
        (fun c u => (u.win.power == .active || u.win.power == .quiet) && fld c.payload 0 1 == 2 && standbyBlockers u != 0 && (List.range 5).any (fun k => wakeEnabled k u))
        (fun _ u => u) (fun _ u => .err 0x06 0xFFFF (le 4 (standbyBlockers u)))) ∧
    Defers .powerMeasureHoldup cmdPowerMeasureHoldup (fun _ u => u.power.holdReady && !u.power.measuring && u.power.measureWait.isNone)
      (fun c u => setPow (fun p => { p with measureWait := some c.mbox }) u)

/-- Supply losses and returns, the hold-up sequence, the pace governor, core undervoltage, wakes and the hold-up measurement run as
the rules say. VIN below 16 V for 2 ms in ACTIVE or QUIET enters HOLDUP; above 34 V the input switch opens with its event; the
last-gasp set made durable leaves its duration and bytes; an orderly power-down zeroes the keys and ends in OFF or, VIN back, in
a start; VDO and VMOT losses and returns set their flags, events and faults; the governor's steps follow VCORE's sag; below 0.63
V for 10 µs the core is held in reset; a latched wake past the entry wakes the module, and VIN lost in STANDBY turns it off;
HOLD_READY follows HOLD, and a measurement runs from 45 V to 42 V and gives C_HOLD and E_AVAIL. -/
def Obligations.PowerEventsRun : Prop :=
  ∀ dt : Nat,
    (∀ vin hold h : Nat, 2000000 ≤ h → vin < 16000 → Runs (.vinLow dt vin hold h) dt
      (fun u => u.power.off = false ∧ u.boot.held = false ∧ (u.win.power = .active ∨ u.win.power = .quiet)) (enterHoldup vin hold)) ∧
    (∀ vin : Nat, 34000 < vin → Runs (.vinOvervoltage dt vin) dt (fun u => u.power.off = false ∧ u.power.vinOver = false)
      (fun u => emit 0x0106 [0, 0] (setPow (fun p => { p with vinOver := true }) u))) ∧
    (∀ (cut : Cut) (us n : Nat), Runs (.lastGaspComplete dt cut us n) dt
      (fun u => gaspPending u = true ∧ u.boot.restored = true ∧ (lastGasp cut u).boot.pinAt = none)
      (fun u => setPow (fun p => { p with gaspOk := true, gasp := (us, n) }) (lastGasp cut u))) ∧
    (∀ hold : Nat, hold ≤ 12000 → Runs (.orderlyPowerDown dt hold) dt (fun u => u.power.off = false ∧ u.win.power = .holdup ∧ u.power.vin = false)
      (fun u => powerOff (setPow (fun p => { p with tail := u.recorder.queue.length }) (zeroKeys u)))) ∧
    (∀ mv h : Nat, 2000000 ≤ h → mv < 16000 → Runs (.vdoLow dt mv h) dt (fun u => u.power.off = false ∧ u.power.vdoLow = false)
      (fun u => resolveAll (setPow (fun p => { p with vdoLow := true, vdoUnder6 := decide (mv < 6000) }) (emit 0x0106 [1, 0] u)))) ∧
    (∀ mv : Nat, mv < 10500 → Runs (.vmotLow dt mv) dt (fun u => u.power.off = false ∧ u.power.vmotLow = false)
      (fun u => (List.range 8).foldl (fun t n => axisFault n 8 (setAxis n (setCause 8 true (axis n t)) t))
        (emit 0x0106 [2, 0] (setPow (fun p => { p with vmotLow := true }) u)))) ∧
    (∀ mv : Nat, 11000 < mv → Runs (.supplyRestored dt true mv) dt (fun u => u.power.off = false ∧ u.power.vmotLow = true)
      (fun u => (List.range 8).foldl (fun t n => setAxis n (setCause 8 false (axis n t)) t) (emit 0x0106 [2, 1] (setPow (fun p => { p with vmotLow := false }) u)))) ∧
    (∀ mv : Nat, 17000 < mv → Runs (.supplyRestored dt false mv) dt (fun u => u.power.off = false ∧ u.power.vdoLow = true)
      (fun u => resolveAll (emit 0x0106 [1, 1] (setPow (fun p => { p with vdoLow := false }) (setPow (fun p => { p with vdoUnder6 := decide (mv < 6000) }) u))))) ∧
    (∀ mv : Nat, 700 < mv → mv ≤ 720 → Runs (.governorStepEntry dt mv) dt (fun u => u.power.off = false ∧ u.power.govStep = 0)
      (setPow (fun p => { p with govStep := 1, govEntries := (List.range 4).map (fun i => (p.govEntries.getD i 0 + b2n (decide (i = 0))) % 65536) }))) ∧
    (∀ mv h : Nat, 10000 ≤ h → 730 < mv → Runs (.governorStepExit dt mv h) dt (fun u => u.power.off = false) (setPow (fun p => { p with govStep := 0 }))) ∧
    (∀ mv h : Nat, 10000 ≤ h → 550 ≤ mv → mv < 630 → Runs (.coreUndervoltage dt mv h) dt
      (fun u => u.power.off = false ∧ u.power.standby = none ∧ u.boot.held = false)
      (fun u => holdReset .coreUv (setPow (fun p => { p with uvLow := mv, resetTime := some u.rtc.ns }) u))) ∧
    (∀ e : Standby, Runs (.wake dt 0 false) dt (fun u => u.power.standby = some e ∧ e.wakes ≠ 0 ∧ e.from_ + 20000000 ≤ u.tb.now) (wakeUp e.wakes)) ∧
    (∀ (e : Standby) (vin h : Nat), vin < 16000 → 2000000 ≤ h → Runs (.vinLostInStandby dt vin h) dt
      (fun u => u.power.standby = some e ∧ u.power.off = false ∧ e.from_ + 20000000 ≤ u.tb.now) (fun u => powerOff (setPow (fun p => { p with vin := false }) u))) ∧
    (∀ hold : Nat, Runs (.holdReady dt hold) dt (fun u => u.power.off = false) (setPow (fun p => { p with holdReady := decide (40000 ≤ hold) }))) ∧
    (∀ hold : Nat, 45000 ≤ hold → Runs (.holdMeasurement dt hold) dt
      (fun u => awake u = true ∧ u.boot.held = false ∧ u.power.measuring = false ∧ u.power.charging = true ∧ measureDue u = true)
      (fun u => setPow (fun p => { p with measuring := true, measuredOnce := true, charging := false, measureFrom := u.tb.now }) u)) ∧
    (∀ (hold k : Nat), hold ≤ 42000 → Runs (.holdMeasurementEnd dt hold) dt
      (fun u => u.power.measuring = true ∧ u.power.measureWait = some k ∧
        u.power.holdWeak = decide ((holdFigures (u.tb.now - u.power.measureFrom)).1 < 800 ∨ (holdFigures (u.tb.now - u.power.measureFrom)).2 < 300))
      (fun u =>
        let f := holdFigures (u.tb.now - u.power.measureFrom)
        let c := min 65535 (roundAway f.1).toNat
        let e := min (2 ^ 32 - 1) (roundAway f.2).toNat
        finish k (.ok (le 2 c ++ zeros 2 ++ le 4 e)) (setPow (fun p => { p with measuring := false, charging := true, cHold := c, eAvail := e, measureTime := u.zone, measureWait := none }) u)))

/-- Starts, resets, boot failures, role resolution, plant start, trials and takeover of an unpaired standby run as the rules say.
VIN within range for 100 ms starts a module that is OFF; a PIN reset is requested after 10 µs low, takes effect at once in
STANDBY, and its release starts the module; PERST resets the MSI configuration; a boot failure is held; with no lock and no
partner before, the role is SINGLE, with one before it is waited for 5 s; 50 ms after it the plant starts and the module is
READY; an unpaired standby that has heard no ANNOUNCE for 5 s takes over; a trial not READY within 30 s ends, and READY for 300
s confirms it. A cycle's output instant is served while the engine runs. -/
def Obligations.StartUpRolesAndResetsRun : Prop :=
  ∀ dt : Nat,
    (∀ (vin h : Nat) (f : StartFacts), 100000000 ≤ h → 18000 ≤ vin → vin ≤ 32000 → Runs (.vinPresent dt vin h f) dt (fun u => u.power.off = true)
      (fun u => startUp f (powerOn .powerOn (setPow (fun p => { p with vin := true, vinOver := false }) u)))) ∧
    (∀ h : Nat, 10000 ≤ h → Runs (.pinReset dt h) dt
      (fun u => u.power.off = false ∧ u.boot.held = false ∧ u.boot.pinAt = none ∧ u.win.power = .standby) (holdReset .pin)) ∧
    (∀ h : Nat, 10000 ≤ h → Runs (.pinReset dt h) dt
      (fun u => u.power.off = false ∧ u.boot.held = false ∧ u.boot.pinAt = none ∧ (u.win.power = .active ∨ u.win.power = .quiet))
      (fun u => { u with power := { u.power with gaspOk := false }, boot := { u.boot with pinAt := some u.tb.now } })) ∧
    Runs (.pciePerst dt) dt (fun u => u.power.off = false ∧ u.win.qspi = false) (fun u => { u with win := { u.win with msiConfigured := false } }) ∧
    (∀ f : StartFacts, Runs (.resetRelease dt f) dt (fun u => u.boot.held = true ∧ u.boot.pinAt = none) (startUp f)) ∧
    (∀ (f : StartFacts) (t : Nat), Runs (.resetRelease dt f) dt (fun u => u.boot.pinAt = some t ∧ t + 5000000 ≤ u.tb.now)
      (fun u => startUp f (holdReset .pin u))) ∧
    (∀ k : Fin 5, Runs (.bootFailure dt k) dt
      (fun u => u.power.off = false ∧ u.boot.held = false ∧ u.boot.restored = false ∧ u.boot.failure = 0 ∧ 3 ≤ k.val ∧ (∃ p, chooseSlot u = .inr p))
      (setBoot (fun b => { b with failure := k.val }))) ∧
    Runs (.roleResolution dt false) dt
      (fun u => keeperUp u = true ∧ u.win.st = .booting ∧ u.twin.resolve = 0 ∧ u.boot.kind ≠ .keeper ∧ u.boot.lastRole = .single) becomeSingle ∧
    Runs (.roleResolution dt false) dt
      (fun u => keeperUp u = true ∧ u.win.st = .booting ∧ u.twin.resolve = 0 ∧ u.boot.kind ≠ .keeper ∧ u.boot.lastRole ≠ .single)
      (fun u => setTwin (fun t => { t with resolve := 2, waitFrom := u.tb.now }) u) ∧
    Runs (.roleWaitTimeout dt) dt (fun u => keeperUp u = true ∧ u.twin.resolve = 2 ∧ u.twin.waitFrom + 5000000000 ≤ u.tb.now) becomeSingle ∧
    (∀ cut : Cut, Runs (.unpairedStandbyTimeout dt cut) dt
      (fun u => twinUp u = true ∧ u.twin.unpaired = true ∧ u.sec.tamper = .none ∧ (portUp 1 u = true ∨ portUp 2 u = true) ∧ u.twin.announceHeard + 5000000000 ≤ u.tb.now)
      (fun u => takeOver cut (setSec (fun x => { x with twinKeyMissing := false }) u))) ∧
    (∀ t : Nat, Runs (.plantStart dt) dt
      (fun u => u.boot.resolvedAt = some t ∧ keeperUp u = true ∧ awake u = true ∧ u.win.st = .booting ∧ t + 50000000 ≤ u.tb.now ∧ u.boot.kind ≠ .keeper)
      (fun u => reachReady (startPlant u))) ∧
    (∀ t : Nat, Runs (.plantStart dt) dt
      (fun u => u.boot.resolvedAt = some t ∧ keeperUp u = true ∧ awake u = true ∧ u.win.st = .booting ∧ t + 50000000 ≤ u.tb.now ∧ u.boot.kind = .keeper)
      reachReady) ∧
    Runs (.trialTimeout dt) dt
      (fun u => onTrial u = true ∧ u.power.off = false ∧ u.boot.held = false ∧ u.boot.restored = true ∧ u.boot.reached = false ∧ u.boot.t0 + 30000000000 ≤ u.tb.now)
      (fun u => endTrial { u with sys := { u.sys with fatalAt := none } }) ∧
    (∀ t : Nat, Runs (.trialConfirm dt) dt
      (fun u => u.boot.readyAt = some t ∧ onTrial u = true ∧ u.win.st = .ready ∧ t + 300000000000 ≤ u.tb.now) (setBoot (fun b => { b with trial := false }))) ∧
    (∀ n : Fin 5, Runs (.taskOutput dt n) dt (fun u => engineRuns u = true) (outputInstant n.val))

/-- A command of a class that its path's mask bars is refused with PATH_NOT_PERMITTED; the host port has no mask. For every row of
the command set, a request taken over USB or a TLS session whose class bit is 0 in USB_CLASS_MASK or TLS_CLASS_MASK is refused
with PATH_NOT_PERMITTED and has no other effect, unless its code is System-Identify's or System-Get-State's; those two are
permitted on every path, and every code is permitted on the host port. -/
def Obligations.ClassMasksBarTheirPath : Prop :=
  ∀ (i : Instr) (cmd : Command) (dt : Nat) (r : Request) (s : State), commandRow i = some (cmd, dt, r) → taken cmd dt r s = true →
    (((r.path = .usb ∧ (judged cmd dt r s).win.usbMask.getLsbD (cmd.code / 256) = false) ∨
        ((∃ n, r.path = .tls n) ∧ (judged cmd dt r s).win.tlsMask.getLsbD (cmd.code / 256) = false)) → cmd.code ≠ 0x0001 → cmd.code ≠ 0x0002 →
      exec i s = .next (finish r.mbox.val (.err 0x05 0xFFFF []) (judged cmd dt r s))) ∧
    (∀ p : Path, pathPermits p 0x0001 (judged cmd dt r s) = true ∧ pathPermits p 0x0002 (judged cmd dt r s) = true) ∧
    pathPermits .host cmd.code (judged cmd dt r s) = true

/-- An input at 1 for STUCK_S is STUCK with its value kept, leaves STUCK at its next accepted 0, and STUCK_S 0 disables the rule.
Once an input's state has been 1 for STUCK_S, not 0, it is STUCK, and its state is what it was; before that, or with STUCK_S 0,
DI_STUCK changes nothing but time. A level that is 0 after INVERT, accepted on an input whose state is 1, ends STUCK. -/
def Obligations.StuckInputsKeepTheirValue : Prop :=
  ∀ (dt : Nat) (n : Fin 32) (s : State),
    (∀ (t : Nat) (u : State), u = advance dt s → (di n.val u).highFrom = some t → fld (diRec u.io.cfg n.val) 4 2 ≠ 0 →
      t + fld (diRec u.io.cfg n.val) 4 2 * 1000000000 ≤ u.tb.now →
      ∃ v : State, exec (.diStuck dt n) s = .next v ∧ (di n.val v).stuck = true ∧ (di n.val v).state = (di n.val u).state ∧ (di n.val v).value = (di n.val u).value) ∧
    (∀ (t : Nat) (u : State), u = advance dt s → (di n.val u).highFrom = some t → u.tb.now < t + fld (diRec u.io.cfg n.val) 4 2 * 1000000000 →
      exec (.diStuck dt n) s = .next u) ∧
    (fld (diRec (advance dt s).io.cfg n.val) 4 2 = 0 → exec (.diStuck dt n) s = .next (advance dt s)) ∧
    (∀ (v : Bool) (pad : Nat), v = bit (fld (diRec s.io.cfg n.val) 1 1) 0 → (di n.val s).known = true → (di n.val s).state = true →
      (di n.val (acceptBand n.val (.level v) pad s)).stuck = false)

/-- Sec-Set-Tamper-Config arms freely, and any other change of a mode that is not OFF runs the tamper response. An accepted
Sec-Set-Tamper-Config in which every MODE that differs was OFF applies the configuration and runs no tamper response; one that
changes a MODE that was not OFF applies the configuration and at once runs the tamper response with source DISARM. In both,
inputs whose MODE is now OFF are active no longer, and the answer is empty. -/
def Obligations.DisarmingRunsTheTamperResponse : Prop :=
  Acts .secSetTamperConfig cmdSecSetTamperConfig
      (fun c u => (List.range 4).all (fun i => fld u.sec.tampCfg i 1 == 0 || fld c.payload i 1 == fld u.sec.tampCfg i 1))
      (fun c u => latchTamper (setSec (fun x => { x with tampCfg := c.payload, tampCellar := c.payload, active := x.active - (((List.range 4).filter (fun i => fld c.payload i 1 == 0 && bit u.sec.active i)).map (2 ^ ·)).sum }) u))
      (fun _ _ => []) ∧
    Acts .secSetTamperConfig cmdSecSetTamperConfig
      (fun c u => !(List.range 4).all (fun i => fld u.sec.tampCfg i 1 == 0 || fld c.payload i 1 == fld u.sec.tampCfg i 1))
      (fun c u => tamperResponse 0x0A (setSec (fun x => { x with tampCfg := c.payload, tampCellar := c.payload, active := x.active - (((List.range 4).filter (fun i => fld c.payload i 1 == 0 && bit u.sec.active i)).map (2 ^ ·)).sum }) u))
      (fun _ _ => [])

/-- A step that answers a next state leaves the queue as it was without its front command. Whatever the state, if a step answers a
next state, then the commands waiting afterwards are those that waited before, without the first: no command puts a command into
the queue, takes one from it or reorders it, a reset included. The queue is the model's own (log 1). -/
def Obligations.EveryStepTakesOneCommand : Prop :=
  ∀ s t : State, step s = .next t → t.pending = s.pending.tail

/-- Every step keeps the byte memories in canonical form and the reserved bits of the host registers clear. From every state in
which the mailbox window, the free area, the program's memory and its retained region list their bytes at strictly rising
addresses with no zero byte, and the reserved bits of HOST_CONTROL, of the two class masks and of the event enables read 0,
every step that answers a next state leaves them so. The canonical form is the model's (log 7); the reserved bits are the
spec's. -/
def Obligations.StepsKeepMemoriesCanonical : Prop :=
  ∀ s t : State, s.memoriesCanonical → s.reservedClear → step s = .next t → t.memoriesCanonical ∧ t.reservedClear

/-- After reset the memories are in canonical form and the reserved bits of the host registers read 0. The reset state has canonical
byte memories, which list nothing, clear reserved bits in the host registers, and no command waiting. -/
def Obligations.ResetMemoriesAreCanonical : Prop :=
  State.reset.memoriesCanonical ∧ State.reset.reservedClear ∧ State.reset.win.mem = [] ∧ State.reset.sys.free = [] ∧ State.reset.prog.mem = [] ∧
    State.reset.prog.retained = [] ∧ State.reset.pending = []
end

