-- ==== Sys2Proof/Laws/Bytes.lean ====
section
/-! SUPPORT. Fields of a byte string as digits of one number: what `fld`, `slice` and `allZero` read, as quotients and remainders. -/

namespace Sys2Proof.Machine
open Sys2Proof

/-- Dropping bytes divides. -/
theorem leNat_drop (n : Nat) (b : Bytes) : leNat (b.drop n) = leNat b / 256 ^ n := by
  induction n generalizing b with
  | zero => simp
  | succ n ih =>
    cases b with
    | nil => simp [leNat]
    | cons x t =>
      have hx : x.toNat < 256 := x.isLt
      simp only [List.drop_succ_cons, ih, leNat]
      rw [Nat.pow_succ', ← Nat.div_div_eq_div_mul]
      congr 1; omega

/-- Taking bytes is a remainder. -/
theorem leNat_take (n : Nat) (b : Bytes) : leNat (b.take n) = leNat b % 256 ^ n := by
  induction n generalizing b with
  | zero => simp [leNat, Nat.mod_one]
  | succ n ih =>
    cases b with
    | nil => simp [leNat]
    | cons x t =>
      have hx : x.toNat < 256 := x.isLt
      simp only [List.take_succ_cons, ih, leNat]
      rw [Nat.pow_succ', Nat.mod_mul]
      congr 1
      · omega
      · congr 1; congr 1; omega

/-- A slice as a number. -/
theorem leNat_slice (b : Bytes) (off n : Nat) : leNat (slice b off n) = leNat b / 256 ^ off % 256 ^ n := by
  rw [slice, leNat_take, leNat_drop]

/-- A field is a digit of the whole. -/
theorem fld_eq_div (b : Bytes) (off n : Nat) : fld b off n = leNat b / 256 ^ off % 256 ^ n := leNat_slice b off n

/-- A field is below its size. -/
theorem fld_lt (b : Bytes) (off n : Nat) : fld b off n < 256 ^ n := by
  rw [fld_eq_div]; exact Nat.mod_lt _ (Nat.pow_pos (by decide))

/-- A byte string is the number 0 exactly when all its bytes are. -/
theorem leNat_eq_zero (b : Bytes) : leNat b = 0 ↔ allZero b = true := by
  induction b with
  | nil => simp [leNat, allZero]
  | cons x t ih =>
    simp only [leNat, allZero, List.all_cons, Bool.and_eq_true, beq_iff_eq] at *
    rw [← ih]
    constructor
    · intro h; refine ⟨?_, by omega⟩; apply BitVec.eq_of_toNat_eq; simp; omega
    · rintro ⟨rfl, h⟩; simp [h]

/-- A reserved field is all zero exactly when it reads 0. -/
theorem allZero_slice (b : Bytes) (off n : Nat) : allZero (slice b off n) = (fld b off n == 0) := by
  rw [Bool.eq_iff_iff, ← leNat_eq_zero]; simp [fld]

end Sys2Proof.Machine
end

