-- ==== Sys2Proof/Laws/Exchange.lean ====
section
/-! SUPPORT. What one exchange of the command set comes to, said once: an accepted request, a refused one, one that is not taken. -/

namespace Sys2Proof.Machine
open Sys2Proof

/-- A request that is taken is served on the state in which it stands written. -/
theorem exchange_taken {cmd : Command} {dt : Nat} {r : Request} {s : State} (h : taken cmd dt r s = true) :
    exchange cmd r (advance dt s) = serve (some cmd) r.mbox.val r.path (headerOf cmd r) (sentPayload dt r s) (written cmd dt r s) := by
  simp only [taken, reachable, Bool.and_eq_true, Bool.not_eq_true', bne_iff_ne, ne_eq] at h
  obtain ⟨⟨⟨⟨⟨hw, hr⟩, hb⟩, hf⟩, hg⟩, hh⟩ := h
  unfold exchange
  simp only [hw, hr, Bool.not_true, Bool.false_eq_true, if_false]
  have hb' : (touchTls r.path (advance dt s)).win.busy.getLsbD r.mbox.val = false := hb
  simp only [hb', Bool.false_eq_true, if_false]
  have key : ∀ u : State, u.win.st ≠ .fatal → u.win.st ≠ .booting → barrierHeld r.path (headerOf cmd r).flags u = false → ∀ p : Bytes,
      (if u.win.st = .fatal then u else if (u.win.st = .booting || barrierHeld r.path (headerOf cmd r).flags u) = true then hold r.mbox.val r.path u
        else serve (some cmd) r.mbox.val r.path (headerOf cmd r) p u) = serve (some cmd) r.mbox.val r.path (headerOf cmd r) p u := by
    intro u h1 h2 h3 p
    simp [h1, h2, h3]
  exact key (written cmd dt r s) hf hg hh _

/-- An accepted request runs its command's body on the judged state, and is answered unless the answer comes later. -/
theorem runCommand_accepted {cmd : Command} {dt : Nat} {r : Request} {s : State} (h : accepts cmd dt r s = true) :
    runCommand cmd dt r s = .next (match cmd.body (requestOf cmd dt r s) (judged cmd dt r s) with
      | (t, .deferred) => gateFollow t
      | (t, rep) => finish r.mbox.val rep (gateFollow t)) := by
  simp only [accepts, Bool.and_eq_true, Option.isNone_iff_eq_none] at h
  obtain ⟨ht, hc⟩ := h
  unfold runCommand
  rw [exchange_taken ht]
  unfold serve
  have hc' : refusal cmd { mbox := r.mbox.val, path := r.path, code := (headerOf cmd r).code, tag := (headerOf cmd r).tag, payload := sentPayload dt r s }
      (headerOf cmd r) (takeRequest r.mbox.val r.path (headerOf cmd r) (sentPayload dt r s) (written cmd dt r s)) = none := hc
  simp only [hc']
  rfl

/-- A row of the command set completes as its command's body says. -/
theorem completes_of_body {row : Nat → Request → Instr} {cmd : Command} {cond : Ctx → State → Bool} {effect : Ctx → State → State}
    {reply : Ctx → State → Reply} (hrow : ∀ dt r s, exec (row dt r) s = runCommand cmd dt r s)
    (hbody : ∀ c u, c.code = cmd.code → cond c u = true → cmd.body c u = (effect c u, reply c u) ∧ reply c u ≠ .deferred) : Completes row cmd cond effect reply := by
  intro dt r s ha hc
  rw [hrow, runCommand_accepted ha]
  obtain ⟨hb, hd⟩ := hbody _ _ rfl hc
  rw [hb]
  revert hd
  generalize reply (requestOf cmd dt r s) (judged cmd dt r s) = rep
  intro hd
  cases rep <;> first | rfl | exact absurd rfl hd

/-- A row that reads completes as its command's body says. -/
theorem reads_of_body {row : Nat → Request → Instr} {cmd : Command} {cond : Ctx → State → Bool} {payload : Ctx → State → Bytes}
    (hrow : ∀ dt r s, exec (row dt r) s = runCommand cmd dt r s)
    (hbody : ∀ c u, c.code = cmd.code → cond c u = true → cmd.body c u = (u, .ok (payload c u))) : Reads row cmd cond payload :=
  completes_of_body hrow (fun c u hk h => ⟨hbody c u hk h, fun e => Reply.noConfusion e⟩)

/-- A row that acts completes as its command's body says. -/
theorem acts_of_body {row : Nat → Request → Instr} {cmd : Command} {cond : Ctx → State → Bool} {effect : Ctx → State → State}
    {payload : Ctx → State → Bytes} (hrow : ∀ dt r s, exec (row dt r) s = runCommand cmd dt r s)
    (hbody : ∀ c u, c.code = cmd.code → cond c u = true → cmd.body c u = (effect c u, .ok (payload c u))) : Acts row cmd cond effect payload :=
  completes_of_body hrow (fun c u hk h => ⟨hbody c u hk h, fun e => Reply.noConfusion e⟩)

/-- A row whose answer comes later runs as its command's body says. -/
theorem defers_of_body {row : Nat → Request → Instr} {cmd : Command} {cond : Ctx → State → Bool} {effect : Ctx → State → State}
    (hrow : ∀ dt r s, exec (row dt r) s = runCommand cmd dt r s)
    (hbody : ∀ c u, c.code = cmd.code → cond c u = true → cmd.body c u = (effect c u, .deferred)) : Defers row cmd cond effect := by
  intro dt r s ha hc
  rw [hrow, runCommand_accepted ha, hbody _ _ rfl hc]

/-- A row of the command set is its command's exchange. -/
theorem exec_commandRow {i : Instr} {cmd : Command} {dt : Nat} {r : Request} (h : commandRow i = some (cmd, dt, r)) (s : State) :
    exec i s = runCommand cmd dt r s := by
  cases i <;> simp only [commandRow, Option.some.injEq, Prod.mk.injEq, reduceCtorEq] at h <;> (obtain ⟨rfl, rfl, rfl⟩ := h; rfl)

/-- A taken request that fails a check is answered with that error. -/
theorem runCommand_refused {cmd : Command} {dt : Nat} {r : Request} {s : State} {reason detail : Nat} (ht : taken cmd dt r s = true)
    (hc : checkFailure cmd dt r s = some (reason, detail)) :
    runCommand cmd dt r s = .next (finish r.mbox.val (.err reason detail [])
      (let u := judged cmd dt r s
       { u with win := { u.win with checkFailedCount := (u.win.checkFailedCount + b2n (reason == 0x04)) % 2 ^ 32 } })) := by
  unfold runCommand
  rw [exchange_taken ht]
  unfold serve
  have hc' : refusal cmd { mbox := r.mbox.val, path := r.path, code := (headerOf cmd r).code, tag := (headerOf cmd r).tag, payload := sentPayload dt r s }
      (headerOf cmd r) (takeRequest r.mbox.val r.path (headerOf cmd r) (sentPayload dt r s) (written cmd dt r s)) = some (reason, detail) := hc
  simp only [hc']
  rfl

/-- An event row that answers its own function of the state after its time completes as that function says. -/
theorem runs_of_eq {i : Instr} {dt : Nat} {cond : State → Prop} {f g : State → State} (h : ∀ s, exec i s = .next (g (advance dt s)))
    (he : ∀ u, cond u → g u = f u) : Runs i dt cond f := by
  intro s hs
  rw [h s, he _ hs]

end Sys2Proof.Machine
end

