-- ==== Sys2Proof/Laws/Memory.lean ====
section
/-! SUPPORT. Byte memories: what a write leaves, and that every operation keeps the canonical form. -/

namespace Sys2Proof.Machine
open Sys2Proof

/-- A byte written reads back, and every other address reads as before. -/
theorem Memory.get_set (m : List Host.Cell) (a : Nat) (b : Byte) (x : Nat) (h : Memory.wf m = true) :
    Memory.get (Memory.set m a b) x = if x = a then b else Memory.get m x := by
  induction m with
  | nil =>
    simp only [Memory.set]
    by_cases hb : b = 0
    · rw [if_pos hb]; by_cases hx : x = a
      · rw [if_pos hx, hb]; rfl
      · rw [if_neg hx]
    · rw [if_neg hb]; simp only [Memory.get]; by_cases hx : x = a
      · rw [if_pos hx, if_pos hx.symm]
      · rw [if_neg hx, if_neg (Ne.symm hx)]
  | cons e t ih =>
    obtain ⟨k, v⟩ := e
    have ht : Memory.wf t = true := by simp [Memory.wf] at h; exact h.2
    have low : ∀ y, y ≤ k → Memory.get t y = 0 := by
      clear ih
      intro y hy
      induction t generalizing k v with
      | nil => rfl
      | cons e t iht =>
        obtain ⟨j, w⟩ := e
        simp only [Memory.wf, Bool.and_eq_true, decide_eq_true_eq] at h ht
        have hj := h.1.2
        simp only [Memory.get]
        rw [if_neg (by omega)]
        exact iht j w (by simpa [Memory.wf] using ht) (by simpa using ht.2) (by omega)
    simp only [Memory.set]
    split
    · rename_i hak
      by_cases hb : b = 0
      · subst hb
        simp only [if_true]
        split
        · subst x; simp only [Memory.get]; rw [if_neg (by omega)]; exact low _ (by omega)
        · rfl
      · simp only [if_neg hb, Memory.get]
        by_cases hx : x = a
        · simp [hx]
        · rw [if_neg (Ne.symm hx), if_neg hx]
    · split
      · rename_i _ hak
        subst hak
        by_cases hb : b = 0
        · subst hb
          simp only [if_true, Memory.get]
          by_cases hx : x = a
          · simp [hx, low a (Nat.le_refl _)]
          · rw [if_neg hx, if_neg (Ne.symm hx)]
        · simp only [if_neg hb, Memory.get]
          by_cases hx : x = a
          · simp [hx]
          · simp [hx, Ne.symm hx]
      · simp only [Memory.get, ih ht]
        by_cases hx : x = a
        · subst hx; rw [if_neg (by omega), if_pos rfl, if_pos rfl]
        · simp [hx]

/-- A write of one byte keeps the canonical form. -/
theorem Memory.wf_set (m : List Host.Cell) (a : Nat) (b : Byte) (h : Memory.wf m = true) : Memory.wf (Memory.set m a b) = true := by
  suffices hs : Memory.wf (Memory.set m a b) = true ∧
      (∀ k v t, Memory.set m a b = (k, v) :: t → k = a ∨ (∃ w t', m = (k, w) :: t') ∨ (∃ j w t', m = (j, w) :: t' ∧ j = a ∧ a < k)) from hs.1
  induction m with
  | nil =>
    simp only [Memory.set]
    by_cases hb : b = 0
    · rw [if_pos hb]; exact ⟨rfl, fun _ _ _ e => by simp at e⟩
    · rw [if_neg hb]; exact ⟨by simpa [Memory.wf] using hb, fun k v t e => by simp at e; exact .inl e.1.1.symm⟩
  | cons e t ih =>
    obtain ⟨k, v⟩ := e
    have h' := h
    simp only [Memory.wf, Bool.and_eq_true] at h
    obtain ⟨⟨hv, hk⟩, ht⟩ := h
    obtain ⟨i1, i2⟩ := ih ht
    simp only [Memory.set]
    split
    · rename_i hak
      by_cases hb : b = 0
      · simp only [hb, if_true]; exact ⟨h', fun k' v' t' e => by simp at e; simp [e]⟩
      · simp only [if_neg hb]
        refine ⟨?_, fun k' v' t' e => by simp at e; exact .inl e.1.1.symm⟩
        have h2 : Memory.wf ((a, b) :: (k, v) :: t) = (b != 0 && decide (a < k) && Memory.wf ((k, v) :: t)) := rfl
        rw [h2, h']; simp only [Bool.and_true, Bool.and_eq_true, decide_eq_true_eq]; exact ⟨by simpa using hb, hak⟩
    · split
      · rename_i _ hak
        subst hak
        by_cases hb : b = 0
        · simp only [hb, if_true]
          refine ⟨ht, fun k' v' t' e => .inr (.inr ⟨a, v, t, rfl, rfl, ?_⟩)⟩
          subst e; simpa using hk
        · simp only [if_neg hb]
          have hb' : (b != 0) = true := by simpa using hb
          exact ⟨by simp only [Memory.wf, hb', hk, ht, Bool.and_true], fun k' v' t' e => by simp at e; exact .inl e.1.1.symm⟩
      · refine ⟨?_, fun k' v' t' e => by simp at e; exact .inr (.inl ⟨v, t, by simp [e.1.1]⟩)⟩
        simp only [Memory.wf, hv, i1, Bool.and_true, Bool.true_and]
        cases hs : Memory.set t a b with
        | nil => rfl
        | cons e2 t2 =>
          obtain ⟨k2, v2⟩ := e2
          simp only [decide_eq_true_eq]
          obtain h3 | ⟨w, t3, h3⟩ | ⟨j, w, t3, h3, h4, h5⟩ := i2 k2 v2 t2 hs
          · omega
          · subst h3; simpa using hk
          · omega

/-- A write of a byte string keeps the canonical form. -/
theorem Memory.wf_write (bs : Bytes) (m : List Host.Cell) (a : Nat) (h : Memory.wf m = true) : Memory.wf (Memory.write m a bs) = true := by
  induction bs generalizing m a with
  | nil => exact h
  | cons b t ih => exact ih _ _ (Memory.wf_set m a b h)

/-- A byte string written reads back, and every other address reads as before. -/
theorem Memory.get_write (bs : Bytes) (m : List Host.Cell) (a x : Nat) (h : Memory.wf m = true) :
    Memory.get (Memory.write m a bs) x = if a ≤ x ∧ x < a + bs.length then bs.getD (x - a) 0 else Memory.get m x := by
  induction bs generalizing m a with
  | nil => rw [if_neg (by simp only [List.length_nil, Nat.add_zero]; omega)]; rfl
  | cons b t ih =>
    simp only [Memory.write, ih _ _ (Memory.wf_set m a b h), Memory.get_set m a b x h, List.length_cons]
    by_cases h1 : a ≤ x ∧ x < a + (t.length + 1)
    · rw [if_pos h1]
      by_cases h2 : x = a
      · subst h2; rw [if_neg (by omega)]; simp
      · rw [if_pos (by omega)]
        obtain ⟨n, hn⟩ : ∃ n, x - a = n + 1 := ⟨x - a - 1, by omega⟩
        rw [hn, show x - (a + 1) = n by omega]; rfl
    · rw [if_neg h1, if_neg (by omega), if_neg (by omega)]

/-- The bytes a read answers. -/
theorem Memory.getElem?_read (m : List Host.Cell) (n a i : Nat) (h : i < n) : (Memory.read m a n)[i]? = some (Memory.get m (a + i)) := by
  induction n generalizing a i with
  | zero => omega
  | succ n ih =>
    cases i with
    | zero => simp [Memory.read]
    | succ i => simp only [Memory.read, List.getElem?_cons_succ, ih (a + 1) i (by omega)]; congr 2; omega

/-- A read answers as many bytes as were asked for. -/
@[simp] theorem Memory.length_read (m : List Host.Cell) (a n : Nat) : (Memory.read m a n).length = n := by
  induction n generalizing a with
  | zero => rfl
  | succ n ih => simp [Memory.read, ih]

end Sys2Proof.Machine
end

