-- ==== Sys2Proof/Laws/Ops.lean ====
section
/-! SUPPORT. What each shared operation over the window can do, said once: which parts of the state it may change, and how. -/

namespace Sys2Proof.Machine
open Sys2Proof

/-- Of the window, only the PROGRESS_DONE bits and the MSI count differ; the queue is the same. -/
def KeepsWindow (u v : State) : Prop :=
  v.win = { u.win with progressDone := v.win.progressDone, msiSent := v.win.msiSent } ∧ v.pending = u.pending

theorem KeepsWindow.rfl {u : State} : KeepsWindow u u := ⟨Eq.refl _, Eq.refl _⟩

theorem KeepsWindow.trans {u v w : State} (h : KeepsWindow u v) (k : KeepsWindow v w) : KeepsWindow u w := by
  obtain ⟨h1, h2⟩ := h
  obtain ⟨k1, k2⟩ := k
  refine ⟨?_, k2.trans h2⟩
  rw [k1, h1]

theorem KeepsWindow.foldl {α : Type} {f : State → α → State} (h : ∀ u a, KeepsWindow u (f u a)) (l : List α) (u : State) :
    KeepsWindow u (l.foldl f u) := by
  induction l generalizing u with
  | nil => exact .rfl
  | cons a t ih => exact (h u a).trans (ih (f u a))

theorem keepsWindow_send (o : Output) (s : State) : KeepsWindow s (send o s) := ⟨rfl, rfl⟩

theorem keepsWindow_notify (p : Path) (a : Nat) (s : State) : KeepsWindow s (notify p a s) := by
  unfold notify; split
  · exact keepsWindow_send _ _
  · exact .rfl

theorem keepsWindow_notifyAll (a : Nat) (s : State) : KeepsWindow s (notifyAll a s) :=
  (keepsWindow_notify _ _ _).trans (.foldl (fun _ _ => keepsWindow_notify _ _ _) _ _)

theorem keepsWindow_emitItems (c : Nat) (l : List (BitVec 64)) (s : State) : KeepsWindow s (emitItems c l s) := by
  unfold emitItems; dsimp only; split <;> exact ⟨rfl, rfl⟩

theorem keepsWindow_emit (c : Nat) (l : List Int) (s : State) : KeepsWindow s (emit c l s) := keepsWindow_emitItems _ _ _

theorem keepsWindow_yieldRow (r k y : Nat) (s : State) : KeepsWindow s (yieldRow r k y s) := by
  unfold yieldRow; split
  · split
    · exact ⟨rfl, rfl⟩
    · exact keepsWindow_emit _ _ _
  · exact keepsWindow_emit _ _ _

theorem keepsWindow_gateOn (n : Nat) (s : State) : KeepsWindow s (gateOn n s) := by
  unfold gateOn; refine .foldl (fun _ _ => ?_) _ _; exact ⟨rfl, rfl⟩

theorem keepsWindow_gateFollow (s : State) : KeepsWindow s (gateFollow s) := by
  unfold gateFollow; split
  · exact .rfl
  · refine .foldl (fun u n => ?_) _ _
    split
    · exact keepsWindow_gateOn _ _
    · exact .rfl

theorem keepsWindow_endEntry (n st r : Nat) (b : Bytes) (s : State) : KeepsWindow s (endEntry n st r b s) := by
  unfold endEntry; split
  · exact .rfl
  · split
    · dsimp only
      split
      · exact ⟨rfl, rfl⟩
      · exact KeepsWindow.trans ⟨rfl, rfl⟩ (keepsWindow_notify _ _ _)
    · exact .rfl

theorem keepsWindow_dropOp (n : Nat) (s : State) : KeepsWindow s (dropOp n s) := ⟨rfl, rfl⟩

theorem keepsWindow_opCancel (n : Nat) (s : State) : KeepsWindow s (opCancel n s) :=
  (keepsWindow_dropOp n s).trans (keepsWindow_endEntry _ _ _ _ _)

theorem keepsWindow_sessionOps (p : Path) (s : State) : KeepsWindow s (sessionOps p s) := by
  unfold sessionOps
  refine KeepsWindow.trans (.foldl (fun u e => ?_) _ s) ⟨rfl, rfl⟩
  split
  · exact keepsWindow_opCancel _ _
  · exact .rfl

theorem keepsWindow_endTls (n : Nat) (s : State) : KeepsWindow s (endTls n s) := by
  unfold endTls; split
  · exact .rfl
  · dsimp only
    exact KeepsWindow.trans (v := { s with sys := { s.sys with sessions := tabErase s.sys.sessions n } }) ⟨rfl, rfl⟩
      ((keepsWindow_sessionOps _ _).trans (keepsWindow_send _ _))

theorem keepsWindow_endAllTls (s : State) : KeepsWindow s (endAllTls s) := .foldl (fun _ _ => keepsWindow_endTls _ _) _ _

/-- Putting a written assignment in force changes the assignment in force alone, beside what ending sessions changes. -/
theorem applyAssign_window (k : Nat) (s : State) :
    ∃ e : BitVec 64, KeepsWindow { s with win := { s.win with effAssign := e } } (applyAssign k s) ∧
      (e = s.win.effAssign ∧ assignOf s.win.effAssign k = assignOf s.win.assign k ∨
        e = BitVec.ofNat 64 (s.win.effAssign.toNat - assignOf s.win.effAssign k * 2 ^ (2 * k) + assignOf s.win.assign k * 2 ^ (2 * k))) := by
  unfold applyAssign; dsimp only; split
  · rename_i h; exact ⟨s.win.effAssign, .rfl, .inl ⟨rfl, h⟩⟩
  · exact ⟨_, .foldl (fun _ _ => keepsWindow_endTls _ _) _ _, .inr rfl⟩

theorem keepsWindow_touchTls (p : Path) (s : State) : KeepsWindow s (touchTls p s) := by
  unfold touchTls; split
  · split <;> exact ⟨rfl, rfl⟩
  · exact .rfl

/-- The assignment of one mailbox in a word whose field for another was replaced. -/
theorem assignOf_replaced (a : BitVec 64) (k j n : Nat) (hk : k < 32) (hj : j < 32) (hn : n < 4) :
    assignOf (BitVec.ofNat 64 (a.toNat - assignOf a k * 2 ^ (2 * k) + n * 2 ^ (2 * k))) j = if j = k then n else assignOf a j := by
  have key : ∀ (x p : Nat), 0 < p → (x - x / p % 4 * p + n * p) = (x / (4 * p)) * (4 * p) + n * p + x % p := by
    intro x p hp
    have h1 : x / (4 * p) = x / p / 4 := by rw [Nat.mul_comm, Nat.div_div_eq_div_mul]
    have h2 := Nat.div_add_mod x p
    have h3 := Nat.div_add_mod (x / p) 4
    rw [h1]
    generalize hq : x / p = q at *
    generalize hr : q % 4 = r at *
    generalize hd : q / 4 = d at *
    have h4 : p * q = 4 * (p * d) + p * r := by rw [← h3]; ring
    have e1 : d * (4 * p) = 4 * (p * d) := by ring
    have e2 : r * p = p * r := by ring
    rw [e1, e2]
    omega
  unfold assignOf
  rw [key _ _ (by positivity)]
  have hx := a.isLt
  have hb : a.toNat / (4 * 2 ^ (2 * k)) * (4 * 2 ^ (2 * k)) + n * 2 ^ (2 * k) + a.toNat % 2 ^ (2 * k) < 2 ^ 64 := by
    have e : (2 : Nat) ^ 64 = 2 ^ (62 - 2 * k) * (4 * 2 ^ (2 * k)) := by
      rw [show (4 : Nat) = 2 ^ 2 by norm_num, ← pow_add, ← pow_add]; congr 1; omega
    have h1 : a.toNat / (4 * 2 ^ (2 * k)) < 2 ^ (62 - 2 * k) := by
      rw [Nat.div_lt_iff_lt_mul (by positivity), ← e]; exact hx
    have h2 : a.toNat % 2 ^ (2 * k) < 2 ^ (2 * k) := Nat.mod_lt _ (by positivity)
    rw [e]
    generalize a.toNat / (4 * 2 ^ (2 * k)) = q at *
    generalize 2 ^ (62 - 2 * k) = m at *
    generalize (2 : Nat) ^ (2 * k) = p at *
    calc q * (4 * p) + n * p + a.toNat % p < q * (4 * p) + n * p + p := by omega
      _ = q * (4 * p) + (n + 1) * p := by ring
      _ ≤ q * (4 * p) + 4 * p := by gcongr; omega
      _ = (q + 1) * (4 * p) := by ring
      _ ≤ m * (4 * p) := by gcongr; omega
  rw [BitVec.toNat_ofNat, Nat.mod_eq_of_lt hb]
  generalize hx' : a.toNat = x at *
  have hp : (0 : Nat) < 2 ^ (2 * k) := by positivity
  split
  · rename_i e
    subst e
    rw [show x / (4 * 2 ^ (2 * j)) * (4 * 2 ^ (2 * j)) + n * 2 ^ (2 * j) + x % 2 ^ (2 * j) = x % 2 ^ (2 * j) + (x / (4 * 2 ^ (2 * j)) * 4 + n) * 2 ^ (2 * j) by ring,
      Nat.add_mul_div_right _ _ hp, Nat.div_eq_of_lt (Nat.mod_lt _ hp)]
    omega
  · rename_i e
    rcases Nat.lt_or_gt_of_ne e with h | h
    · obtain ⟨d, rfl⟩ : ∃ d, k = j + 1 + d := ⟨k - j - 1, by omega⟩
      have e1 : (2 : Nat) ^ (2 * (j + 1 + d)) = 2 ^ (2 * j) * (4 * 2 ^ (2 * d)) := by
        rw [show 2 * (j + 1 + d) = 2 * j + (2 + 2 * d) by ring, pow_add, pow_add]; norm_num
      rw [e1]
      have hj0 : (0 : Nat) < 2 ^ (2 * j) := by positivity
      generalize (2 : Nat) ^ (2 * j) = p at *
      generalize (2 : Nat) ^ (2 * d) = r at *
      rw [show x / (4 * (p * (4 * r))) * (4 * (p * (4 * r))) + n * (p * (4 * r)) + x % (p * (4 * r)) =
        x % (p * (4 * r)) + ((x / (4 * (p * (4 * r))) * (4 * r) + n * r) * 4) * p by ring, Nat.add_mul_div_right _ _ hj0,
        Nat.mod_mul_right_div_self, Nat.add_mul_mod_self_right, Nat.mod_mul_right_mod]
    · obtain ⟨d, rfl⟩ : ∃ d, j = k + 1 + d := ⟨j - k - 1, by omega⟩
      have e1 : (2 : Nat) ^ (2 * (k + 1 + d)) = (4 * 2 ^ (2 * k)) * 2 ^ (2 * d) := by
        rw [show 2 * (k + 1 + d) = 2 * k + 2 + 2 * d by ring, pow_add, pow_add]; norm_num; ring
      rw [e1]
      generalize (2 : Nat) ^ (2 * k) = p at *
      generalize (2 : Nat) ^ (2 * d) = r at *
      have h2 : n * p + x % p < 4 * p := by
        have := Nat.mod_lt x hp
        calc n * p + x % p < n * p + p := by omega
          _ = (n + 1) * p := by ring
          _ ≤ 4 * p := by gcongr; omega
      have h3 : (x / (4 * p) * (4 * p) + n * p + x % p) / (4 * p) = x / (4 * p) := by
        rw [Nat.add_assoc, Nat.add_comm, Nat.add_mul_div_right _ _ (by omega), Nat.div_eq_of_lt h2, Nat.zero_add]
      rw [← Nat.div_div_eq_div_mul _ (4 * p), ← Nat.div_div_eq_div_mul x (4 * p), h3]

/-! ### What the shared operations change, as one record update each -/

/-- Turning gates on changes the gates alone. -/
theorem gateOn_clocks (n : Nat) (s : State) : ∃ g h, gateOn n s = { s with clocks := { s.clocks with gates := g, hostOff := h } } := by
  unfold gateOn
  generalize gateChain n = l
  induction l generalizing s with
  | nil => exact ⟨s.clocks.gates, s.clocks.hostOff, rfl⟩
  | cons a t ih => obtain ⟨g, h, e⟩ := ih { s with clocks := { s.clocks with gates := setBit s.clocks.gates a, hostOff := s.clocks.hostOff - bitAt a (bit s.clocks.hostOff a) } }; exact ⟨g, h, e⟩

/-- The gates following the blocks in use changes the gates alone. -/
theorem gateFollow_clocks (s : State) : ∃ g h, gateFollow s = { s with clocks := { s.clocks with gates := g, hostOff := h } } := by
  unfold gateFollow; split
  · exact ⟨s.clocks.gates, s.clocks.hostOff, rfl⟩
  · generalize List.range 18 = l
    induction l generalizing s with
    | nil => exact ⟨s.clocks.gates, s.clocks.hostOff, rfl⟩
    | cons n t ih =>
      simp only [List.foldl_cons]
      split
      · obtain ⟨g, h, e⟩ := gateOn_clocks n s
        rw [e]
        exact ih _ (by assumption)
      · exact ih _ (by assumption)

/-- An event changes the recorder alone. -/
theorem emitItems_recorder (c : Nat) (l : List (BitVec 64)) (s : State) : ∃ r, emitItems c l s = { s with recorder := r } := by
  unfold emitItems; dsimp only; split
  · exact ⟨_, rfl⟩
  · exact ⟨_, rfl⟩

/-- An event with integer data changes the recorder alone. -/
theorem emit_recorder (c : Nat) (l : List Int) (s : State) : ∃ r, emit c l s = { s with recorder := r } := emitItems_recorder _ _ _

/-! ### The answer of a command -/

/-- The bytes that answer a request. -/
def answerBytes (e : Taken) (rep : Reply) (s : State) : Bytes :=
  responseBytes e.code (replyFields e.code rep).1 e.tag (replyFields e.code rep).2.1 (replyFields e.code rep).2.2.1 s.zone (replyFields e.code rep).2.2.2

/-- What an answer does to the window: the response, the two mailbox bits, and the assignment that may have waited. -/
theorem finish_window {k : Nat} {e : Taken} {rep : Reply} {s : State} (ht : tabGet? s.win.taken k = some e) :
    ∃ a : BitVec 64, KeepsWindow { s with win := { s.win with
        mem := Memory.write s.win.mem (rspAddr k) (answerBytes e rep s), complete := s.win.complete ||| BitVec.ofNat 32 (2 ^ k),
        busy := s.win.busy &&& ~~~ BitVec.ofNat 32 (2 ^ k), taken := tabErase s.win.taken k, effAssign := a } } (finish k rep s) := by
  unfold finish
  simp only [ht]
  change ∃ a, KeepsWindow _ (notify _ _ (applyAssign k (irq (fun w => { w with mem := Memory.write w.mem (rspAddr k) (answerBytes e rep s), complete := w.complete ||| BitVec.ofNat 32 (2 ^ k), busy := w.busy &&& ~~~ BitVec.ofNat 32 (2 ^ k), taken := tabErase w.taken k }) _)))
  generalize answerBytes e rep s = rsp
  refine Exists.imp (fun a h => KeepsWindow.trans (KeepsWindow.trans ?_ h.1) (keepsWindow_notify _ _ _)) (applyAssign_window k _)
  exact ⟨rfl, rfl⟩

/-- A mailbox with no request taken has nothing to answer. -/
theorem finish_untaken {k : Nat} {rep : Reply} {s : State} (ht : tabGet? s.win.taken k = none) : finish k rep s = s := by
  unfold finish; simp only [ht]

end Sys2Proof.Machine
end

