-- ==== Sys2Proof/Laws/State.lean ====
section
/-! SUPPORT. What an update of one component reads as: one lemma per field of State and per named update, each by `rfl`. -/

namespace Sys2Proof.Machine
open Sys2Proof

/-! ### setDi -/

@[simp] theorem setDi_pending (n : Nat) (d : Di) (s : State) : (setDi n d s).pending = s.pending := rfl
@[simp] theorem setDi_tb (n : Nat) (d : Di) (s : State) : (setDi n d s).tb = s.tb := rfl
@[simp] theorem setDi_win (n : Nat) (d : Di) (s : State) : (setDi n d s).win = s.win := rfl
@[simp] theorem setDi_sys (n : Nat) (d : Di) (s : State) : (setDi n d s).sys = s.sys := rfl
@[simp] theorem setDi_rtc (n : Nat) (d : Di) (s : State) : (setDi n d s).rtc = s.rtc := rfl
@[simp] theorem setDi_recorder (n : Nat) (d : Di) (s : State) : (setDi n d s).recorder = s.recorder := rfl
@[simp] theorem setDi_model (n : Nat) (d : Di) (s : State) : (setDi n d s).model = s.model := rfl
@[simp] theorem setDi_solver (n : Nat) (d : Di) (s : State) : (setDi n d s).solver = s.solver := rfl
@[simp] theorem setDi_opt (n : Nat) (d : Di) (s : State) : (setDi n d s).opt = s.opt := rfl
@[simp] theorem setDi_car (n : Nat) (d : Di) (s : State) : (setDi n d s).car = s.car := rfl
@[simp] theorem setDi_net (n : Nat) (d : Di) (s : State) : (setDi n d s).net = s.net := rfl
@[simp] theorem setDi_twin (n : Nat) (d : Di) (s : State) : (setDi n d s).twin = s.twin := rfl
@[simp] theorem setDi_elec (n : Nat) (d : Di) (s : State) : (setDi n d s).elec = s.elec := rfl
@[simp] theorem setDi_therm (n : Nat) (d : Di) (s : State) : (setDi n d s).therm = s.therm := rfl
@[simp] theorem setDi_loops (n : Nat) (d : Di) (s : State) : (setDi n d s).loops = s.loops := rfl
@[simp] theorem setDi_prog (n : Nat) (d : Di) (s : State) : (setDi n d s).prog = s.prog := rfl
@[simp] theorem setDi_motion (n : Nat) (d : Di) (s : State) : (setDi n d s).motion = s.motion := rfl
@[simp] theorem setDi_buses (n : Nat) (d : Di) (s : State) : (setDi n d s).buses = s.buses := rfl
@[simp] theorem setDi_io (n : Nat) (d : Di) (s : State) : (setDi n d s).io = { s.io with di := tabSet s.io.di n d } := rfl
@[simp] theorem setDi_panel (n : Nat) (d : Di) (s : State) : (setDi n d s).panel = s.panel := rfl
@[simp] theorem setDi_sec (n : Nat) (d : Di) (s : State) : (setDi n d s).sec = s.sec := rfl
@[simp] theorem setDi_clocks (n : Nat) (d : Di) (s : State) : (setDi n d s).clocks = s.clocks := rfl
@[simp] theorem setDi_power (n : Nat) (d : Di) (s : State) : (setDi n d s).power = s.power := rfl
@[simp] theorem setDi_boot (n : Nat) (d : Di) (s : State) : (setDi n d s).boot = s.boot := rfl
@[simp] theorem setDi_out (n : Nat) (d : Di) (s : State) : (setDi n d s).out = s.out := rfl

/-! ### setDout -/

@[simp] theorem setDout_pending (n : Nat) (d : Dout) (s : State) : (setDout n d s).pending = s.pending := rfl
@[simp] theorem setDout_tb (n : Nat) (d : Dout) (s : State) : (setDout n d s).tb = s.tb := rfl
@[simp] theorem setDout_win (n : Nat) (d : Dout) (s : State) : (setDout n d s).win = s.win := rfl
@[simp] theorem setDout_sys (n : Nat) (d : Dout) (s : State) : (setDout n d s).sys = s.sys := rfl
@[simp] theorem setDout_rtc (n : Nat) (d : Dout) (s : State) : (setDout n d s).rtc = s.rtc := rfl
@[simp] theorem setDout_recorder (n : Nat) (d : Dout) (s : State) : (setDout n d s).recorder = s.recorder := rfl
@[simp] theorem setDout_model (n : Nat) (d : Dout) (s : State) : (setDout n d s).model = s.model := rfl
@[simp] theorem setDout_solver (n : Nat) (d : Dout) (s : State) : (setDout n d s).solver = s.solver := rfl
@[simp] theorem setDout_opt (n : Nat) (d : Dout) (s : State) : (setDout n d s).opt = s.opt := rfl
@[simp] theorem setDout_car (n : Nat) (d : Dout) (s : State) : (setDout n d s).car = s.car := rfl
@[simp] theorem setDout_net (n : Nat) (d : Dout) (s : State) : (setDout n d s).net = s.net := rfl
@[simp] theorem setDout_twin (n : Nat) (d : Dout) (s : State) : (setDout n d s).twin = s.twin := rfl
@[simp] theorem setDout_elec (n : Nat) (d : Dout) (s : State) : (setDout n d s).elec = s.elec := rfl
@[simp] theorem setDout_therm (n : Nat) (d : Dout) (s : State) : (setDout n d s).therm = s.therm := rfl
@[simp] theorem setDout_loops (n : Nat) (d : Dout) (s : State) : (setDout n d s).loops = s.loops := rfl
@[simp] theorem setDout_prog (n : Nat) (d : Dout) (s : State) : (setDout n d s).prog = s.prog := rfl
@[simp] theorem setDout_motion (n : Nat) (d : Dout) (s : State) : (setDout n d s).motion = s.motion := rfl
@[simp] theorem setDout_buses (n : Nat) (d : Dout) (s : State) : (setDout n d s).buses = s.buses := rfl
@[simp] theorem setDout_io (n : Nat) (d : Dout) (s : State) : (setDout n d s).io = { s.io with dout := tabSet s.io.dout n d } := rfl
@[simp] theorem setDout_panel (n : Nat) (d : Dout) (s : State) : (setDout n d s).panel = s.panel := rfl
@[simp] theorem setDout_sec (n : Nat) (d : Dout) (s : State) : (setDout n d s).sec = s.sec := rfl
@[simp] theorem setDout_clocks (n : Nat) (d : Dout) (s : State) : (setDout n d s).clocks = s.clocks := rfl
@[simp] theorem setDout_power (n : Nat) (d : Dout) (s : State) : (setDout n d s).power = s.power := rfl
@[simp] theorem setDout_boot (n : Nat) (d : Dout) (s : State) : (setDout n d s).boot = s.boot := rfl
@[simp] theorem setDout_out (n : Nat) (d : Dout) (s : State) : (setDout n d s).out = s.out := rfl

/-! ### setBlock -/

@[simp] theorem setBlock_pending (b : Nat) (x : Block) (s : State) : (setBlock b x s).pending = s.pending := rfl
@[simp] theorem setBlock_tb (b : Nat) (x : Block) (s : State) : (setBlock b x s).tb = s.tb := rfl
@[simp] theorem setBlock_win (b : Nat) (x : Block) (s : State) : (setBlock b x s).win = s.win := rfl
@[simp] theorem setBlock_sys (b : Nat) (x : Block) (s : State) : (setBlock b x s).sys = s.sys := rfl
@[simp] theorem setBlock_rtc (b : Nat) (x : Block) (s : State) : (setBlock b x s).rtc = s.rtc := rfl
@[simp] theorem setBlock_recorder (b : Nat) (x : Block) (s : State) : (setBlock b x s).recorder = s.recorder := rfl
@[simp] theorem setBlock_model (b : Nat) (x : Block) (s : State) : (setBlock b x s).model = s.model := rfl
@[simp] theorem setBlock_solver (b : Nat) (x : Block) (s : State) : (setBlock b x s).solver = s.solver := rfl
@[simp] theorem setBlock_opt (b : Nat) (x : Block) (s : State) : (setBlock b x s).opt = s.opt := rfl
@[simp] theorem setBlock_car (b : Nat) (x : Block) (s : State) : (setBlock b x s).car = s.car := rfl
@[simp] theorem setBlock_net (b : Nat) (x : Block) (s : State) : (setBlock b x s).net = s.net := rfl
@[simp] theorem setBlock_twin (b : Nat) (x : Block) (s : State) : (setBlock b x s).twin = s.twin := rfl
@[simp] theorem setBlock_elec (b : Nat) (x : Block) (s : State) : (setBlock b x s).elec = s.elec := rfl
@[simp] theorem setBlock_therm (b : Nat) (x : Block) (s : State) : (setBlock b x s).therm = s.therm := rfl
@[simp] theorem setBlock_loops (b : Nat) (x : Block) (s : State) : (setBlock b x s).loops = s.loops := rfl
@[simp] theorem setBlock_prog (b : Nat) (x : Block) (s : State) : (setBlock b x s).prog = s.prog := rfl
@[simp] theorem setBlock_motion (b : Nat) (x : Block) (s : State) : (setBlock b x s).motion = s.motion := rfl
@[simp] theorem setBlock_buses (b : Nat) (x : Block) (s : State) : (setBlock b x s).buses = s.buses := rfl
@[simp] theorem setBlock_io (b : Nat) (x : Block) (s : State) : (setBlock b x s).io = { s.io with blocks := tabSet s.io.blocks b x } := rfl
@[simp] theorem setBlock_panel (b : Nat) (x : Block) (s : State) : (setBlock b x s).panel = s.panel := rfl
@[simp] theorem setBlock_sec (b : Nat) (x : Block) (s : State) : (setBlock b x s).sec = s.sec := rfl
@[simp] theorem setBlock_clocks (b : Nat) (x : Block) (s : State) : (setBlock b x s).clocks = s.clocks := rfl
@[simp] theorem setBlock_power (b : Nat) (x : Block) (s : State) : (setBlock b x s).power = s.power := rfl
@[simp] theorem setBlock_boot (b : Nat) (x : Block) (s : State) : (setBlock b x s).boot = s.boot := rfl
@[simp] theorem setBlock_out (b : Nat) (x : Block) (s : State) : (setBlock b x s).out = s.out := rfl

/-! ### setCan -/

@[simp] theorem setCan_pending (b : Nat) (c : CanBus) (s : State) : (setCan b c s).pending = s.pending := rfl
@[simp] theorem setCan_tb (b : Nat) (c : CanBus) (s : State) : (setCan b c s).tb = s.tb := rfl
@[simp] theorem setCan_win (b : Nat) (c : CanBus) (s : State) : (setCan b c s).win = s.win := rfl
@[simp] theorem setCan_sys (b : Nat) (c : CanBus) (s : State) : (setCan b c s).sys = s.sys := rfl
@[simp] theorem setCan_rtc (b : Nat) (c : CanBus) (s : State) : (setCan b c s).rtc = s.rtc := rfl
@[simp] theorem setCan_recorder (b : Nat) (c : CanBus) (s : State) : (setCan b c s).recorder = s.recorder := rfl
@[simp] theorem setCan_model (b : Nat) (c : CanBus) (s : State) : (setCan b c s).model = s.model := rfl
@[simp] theorem setCan_solver (b : Nat) (c : CanBus) (s : State) : (setCan b c s).solver = s.solver := rfl
@[simp] theorem setCan_opt (b : Nat) (c : CanBus) (s : State) : (setCan b c s).opt = s.opt := rfl
@[simp] theorem setCan_car (b : Nat) (c : CanBus) (s : State) : (setCan b c s).car = s.car := rfl
@[simp] theorem setCan_net (b : Nat) (c : CanBus) (s : State) : (setCan b c s).net = s.net := rfl
@[simp] theorem setCan_twin (b : Nat) (c : CanBus) (s : State) : (setCan b c s).twin = s.twin := rfl
@[simp] theorem setCan_elec (b : Nat) (c : CanBus) (s : State) : (setCan b c s).elec = s.elec := rfl
@[simp] theorem setCan_therm (b : Nat) (c : CanBus) (s : State) : (setCan b c s).therm = s.therm := rfl
@[simp] theorem setCan_loops (b : Nat) (c : CanBus) (s : State) : (setCan b c s).loops = s.loops := rfl
@[simp] theorem setCan_prog (b : Nat) (c : CanBus) (s : State) : (setCan b c s).prog = s.prog := rfl
@[simp] theorem setCan_motion (b : Nat) (c : CanBus) (s : State) : (setCan b c s).motion = s.motion := rfl
@[simp] theorem setCan_buses (b : Nat) (c : CanBus) (s : State) : (setCan b c s).buses = { s.buses with can := tabSet s.buses.can b c } := rfl
@[simp] theorem setCan_io (b : Nat) (c : CanBus) (s : State) : (setCan b c s).io = s.io := rfl
@[simp] theorem setCan_panel (b : Nat) (c : CanBus) (s : State) : (setCan b c s).panel = s.panel := rfl
@[simp] theorem setCan_sec (b : Nat) (c : CanBus) (s : State) : (setCan b c s).sec = s.sec := rfl
@[simp] theorem setCan_clocks (b : Nat) (c : CanBus) (s : State) : (setCan b c s).clocks = s.clocks := rfl
@[simp] theorem setCan_power (b : Nat) (c : CanBus) (s : State) : (setCan b c s).power = s.power := rfl
@[simp] theorem setCan_boot (b : Nat) (c : CanBus) (s : State) : (setCan b c s).boot = s.boot := rfl
@[simp] theorem setCan_out (b : Nat) (c : CanBus) (s : State) : (setCan b c s).out = s.out := rfl

/-! ### setClk -/

@[simp] theorem setClk_pending (f : Clocks → Clocks) (s : State) : (setClk f s).pending = s.pending := rfl
@[simp] theorem setClk_tb (f : Clocks → Clocks) (s : State) : (setClk f s).tb = s.tb := rfl
@[simp] theorem setClk_win (f : Clocks → Clocks) (s : State) : (setClk f s).win = s.win := rfl
@[simp] theorem setClk_sys (f : Clocks → Clocks) (s : State) : (setClk f s).sys = s.sys := rfl
@[simp] theorem setClk_rtc (f : Clocks → Clocks) (s : State) : (setClk f s).rtc = s.rtc := rfl
@[simp] theorem setClk_recorder (f : Clocks → Clocks) (s : State) : (setClk f s).recorder = s.recorder := rfl
@[simp] theorem setClk_model (f : Clocks → Clocks) (s : State) : (setClk f s).model = s.model := rfl
@[simp] theorem setClk_solver (f : Clocks → Clocks) (s : State) : (setClk f s).solver = s.solver := rfl
@[simp] theorem setClk_opt (f : Clocks → Clocks) (s : State) : (setClk f s).opt = s.opt := rfl
@[simp] theorem setClk_car (f : Clocks → Clocks) (s : State) : (setClk f s).car = s.car := rfl
@[simp] theorem setClk_net (f : Clocks → Clocks) (s : State) : (setClk f s).net = s.net := rfl
@[simp] theorem setClk_twin (f : Clocks → Clocks) (s : State) : (setClk f s).twin = s.twin := rfl
@[simp] theorem setClk_elec (f : Clocks → Clocks) (s : State) : (setClk f s).elec = s.elec := rfl
@[simp] theorem setClk_therm (f : Clocks → Clocks) (s : State) : (setClk f s).therm = s.therm := rfl
@[simp] theorem setClk_loops (f : Clocks → Clocks) (s : State) : (setClk f s).loops = s.loops := rfl
@[simp] theorem setClk_prog (f : Clocks → Clocks) (s : State) : (setClk f s).prog = s.prog := rfl
@[simp] theorem setClk_motion (f : Clocks → Clocks) (s : State) : (setClk f s).motion = s.motion := rfl
@[simp] theorem setClk_buses (f : Clocks → Clocks) (s : State) : (setClk f s).buses = s.buses := rfl
@[simp] theorem setClk_io (f : Clocks → Clocks) (s : State) : (setClk f s).io = s.io := rfl
@[simp] theorem setClk_panel (f : Clocks → Clocks) (s : State) : (setClk f s).panel = s.panel := rfl
@[simp] theorem setClk_sec (f : Clocks → Clocks) (s : State) : (setClk f s).sec = s.sec := rfl
@[simp] theorem setClk_clocks (f : Clocks → Clocks) (s : State) : (setClk f s).clocks = f s.clocks := rfl
@[simp] theorem setClk_power (f : Clocks → Clocks) (s : State) : (setClk f s).power = s.power := rfl
@[simp] theorem setClk_boot (f : Clocks → Clocks) (s : State) : (setClk f s).boot = s.boot := rfl
@[simp] theorem setClk_out (f : Clocks → Clocks) (s : State) : (setClk f s).out = s.out := rfl

/-! ### setKey -/

@[simp] theorem setKey_pending (n : Nat) (k : Key) (s : State) : (setKey n k s).pending = s.pending := rfl
@[simp] theorem setKey_tb (n : Nat) (k : Key) (s : State) : (setKey n k s).tb = s.tb := rfl
@[simp] theorem setKey_win (n : Nat) (k : Key) (s : State) : (setKey n k s).win = s.win := rfl
@[simp] theorem setKey_sys (n : Nat) (k : Key) (s : State) : (setKey n k s).sys = s.sys := rfl
@[simp] theorem setKey_rtc (n : Nat) (k : Key) (s : State) : (setKey n k s).rtc = s.rtc := rfl
@[simp] theorem setKey_recorder (n : Nat) (k : Key) (s : State) : (setKey n k s).recorder = s.recorder := rfl
@[simp] theorem setKey_model (n : Nat) (k : Key) (s : State) : (setKey n k s).model = s.model := rfl
@[simp] theorem setKey_solver (n : Nat) (k : Key) (s : State) : (setKey n k s).solver = s.solver := rfl
@[simp] theorem setKey_opt (n : Nat) (k : Key) (s : State) : (setKey n k s).opt = s.opt := rfl
@[simp] theorem setKey_car (n : Nat) (k : Key) (s : State) : (setKey n k s).car = s.car := rfl
@[simp] theorem setKey_net (n : Nat) (k : Key) (s : State) : (setKey n k s).net = s.net := rfl
@[simp] theorem setKey_twin (n : Nat) (k : Key) (s : State) : (setKey n k s).twin = s.twin := rfl
@[simp] theorem setKey_elec (n : Nat) (k : Key) (s : State) : (setKey n k s).elec = s.elec := rfl
@[simp] theorem setKey_therm (n : Nat) (k : Key) (s : State) : (setKey n k s).therm = s.therm := rfl
@[simp] theorem setKey_loops (n : Nat) (k : Key) (s : State) : (setKey n k s).loops = s.loops := rfl
@[simp] theorem setKey_prog (n : Nat) (k : Key) (s : State) : (setKey n k s).prog = s.prog := rfl
@[simp] theorem setKey_motion (n : Nat) (k : Key) (s : State) : (setKey n k s).motion = s.motion := rfl
@[simp] theorem setKey_buses (n : Nat) (k : Key) (s : State) : (setKey n k s).buses = s.buses := rfl
@[simp] theorem setKey_io (n : Nat) (k : Key) (s : State) : (setKey n k s).io = s.io := rfl
@[simp] theorem setKey_panel (n : Nat) (k : Key) (s : State) : (setKey n k s).panel = { s.panel with keys := tabSet s.panel.keys n k } := rfl
@[simp] theorem setKey_sec (n : Nat) (k : Key) (s : State) : (setKey n k s).sec = s.sec := rfl
@[simp] theorem setKey_clocks (n : Nat) (k : Key) (s : State) : (setKey n k s).clocks = s.clocks := rfl
@[simp] theorem setKey_power (n : Nat) (k : Key) (s : State) : (setKey n k s).power = s.power := rfl
@[simp] theorem setKey_boot (n : Nat) (k : Key) (s : State) : (setKey n k s).boot = s.boot := rfl
@[simp] theorem setKey_out (n : Nat) (k : Key) (s : State) : (setKey n k s).out = s.out := rfl

/-! ### setMbus -/

@[simp] theorem setMbus_pending (f : Mbus → Mbus) (s : State) : (setMbus f s).pending = s.pending := rfl
@[simp] theorem setMbus_tb (f : Mbus → Mbus) (s : State) : (setMbus f s).tb = s.tb := rfl
@[simp] theorem setMbus_win (f : Mbus → Mbus) (s : State) : (setMbus f s).win = s.win := rfl
@[simp] theorem setMbus_sys (f : Mbus → Mbus) (s : State) : (setMbus f s).sys = s.sys := rfl
@[simp] theorem setMbus_rtc (f : Mbus → Mbus) (s : State) : (setMbus f s).rtc = s.rtc := rfl
@[simp] theorem setMbus_recorder (f : Mbus → Mbus) (s : State) : (setMbus f s).recorder = s.recorder := rfl
@[simp] theorem setMbus_model (f : Mbus → Mbus) (s : State) : (setMbus f s).model = s.model := rfl
@[simp] theorem setMbus_solver (f : Mbus → Mbus) (s : State) : (setMbus f s).solver = s.solver := rfl
@[simp] theorem setMbus_opt (f : Mbus → Mbus) (s : State) : (setMbus f s).opt = s.opt := rfl
@[simp] theorem setMbus_car (f : Mbus → Mbus) (s : State) : (setMbus f s).car = s.car := rfl
@[simp] theorem setMbus_net (f : Mbus → Mbus) (s : State) : (setMbus f s).net = s.net := rfl
@[simp] theorem setMbus_twin (f : Mbus → Mbus) (s : State) : (setMbus f s).twin = s.twin := rfl
@[simp] theorem setMbus_elec (f : Mbus → Mbus) (s : State) : (setMbus f s).elec = s.elec := rfl
@[simp] theorem setMbus_therm (f : Mbus → Mbus) (s : State) : (setMbus f s).therm = s.therm := rfl
@[simp] theorem setMbus_loops (f : Mbus → Mbus) (s : State) : (setMbus f s).loops = s.loops := rfl
@[simp] theorem setMbus_prog (f : Mbus → Mbus) (s : State) : (setMbus f s).prog = s.prog := rfl
@[simp] theorem setMbus_motion (f : Mbus → Mbus) (s : State) : (setMbus f s).motion = s.motion := rfl
@[simp] theorem setMbus_buses (f : Mbus → Mbus) (s : State) : (setMbus f s).buses = { s.buses with mbus := f s.buses.mbus } := rfl
@[simp] theorem setMbus_io (f : Mbus → Mbus) (s : State) : (setMbus f s).io = s.io := rfl
@[simp] theorem setMbus_panel (f : Mbus → Mbus) (s : State) : (setMbus f s).panel = s.panel := rfl
@[simp] theorem setMbus_sec (f : Mbus → Mbus) (s : State) : (setMbus f s).sec = s.sec := rfl
@[simp] theorem setMbus_clocks (f : Mbus → Mbus) (s : State) : (setMbus f s).clocks = s.clocks := rfl
@[simp] theorem setMbus_power (f : Mbus → Mbus) (s : State) : (setMbus f s).power = s.power := rfl
@[simp] theorem setMbus_boot (f : Mbus → Mbus) (s : State) : (setMbus f s).boot = s.boot := rfl
@[simp] theorem setMbus_out (f : Mbus → Mbus) (s : State) : (setMbus f s).out = s.out := rfl

/-! ### setSlave -/

@[simp] theorem setSlave_pending (a : Nat) (x : MbusSlave) (s : State) : (setSlave a x s).pending = s.pending := rfl
@[simp] theorem setSlave_tb (a : Nat) (x : MbusSlave) (s : State) : (setSlave a x s).tb = s.tb := rfl
@[simp] theorem setSlave_win (a : Nat) (x : MbusSlave) (s : State) : (setSlave a x s).win = s.win := rfl
@[simp] theorem setSlave_sys (a : Nat) (x : MbusSlave) (s : State) : (setSlave a x s).sys = s.sys := rfl
@[simp] theorem setSlave_rtc (a : Nat) (x : MbusSlave) (s : State) : (setSlave a x s).rtc = s.rtc := rfl
@[simp] theorem setSlave_recorder (a : Nat) (x : MbusSlave) (s : State) : (setSlave a x s).recorder = s.recorder := rfl
@[simp] theorem setSlave_model (a : Nat) (x : MbusSlave) (s : State) : (setSlave a x s).model = s.model := rfl
@[simp] theorem setSlave_solver (a : Nat) (x : MbusSlave) (s : State) : (setSlave a x s).solver = s.solver := rfl
@[simp] theorem setSlave_opt (a : Nat) (x : MbusSlave) (s : State) : (setSlave a x s).opt = s.opt := rfl
@[simp] theorem setSlave_car (a : Nat) (x : MbusSlave) (s : State) : (setSlave a x s).car = s.car := rfl
@[simp] theorem setSlave_net (a : Nat) (x : MbusSlave) (s : State) : (setSlave a x s).net = s.net := rfl
@[simp] theorem setSlave_twin (a : Nat) (x : MbusSlave) (s : State) : (setSlave a x s).twin = s.twin := rfl
@[simp] theorem setSlave_elec (a : Nat) (x : MbusSlave) (s : State) : (setSlave a x s).elec = s.elec := rfl
@[simp] theorem setSlave_therm (a : Nat) (x : MbusSlave) (s : State) : (setSlave a x s).therm = s.therm := rfl
@[simp] theorem setSlave_loops (a : Nat) (x : MbusSlave) (s : State) : (setSlave a x s).loops = s.loops := rfl
@[simp] theorem setSlave_prog (a : Nat) (x : MbusSlave) (s : State) : (setSlave a x s).prog = s.prog := rfl
@[simp] theorem setSlave_motion (a : Nat) (x : MbusSlave) (s : State) : (setSlave a x s).motion = s.motion := rfl
@[simp] theorem setSlave_io (a : Nat) (x : MbusSlave) (s : State) : (setSlave a x s).io = s.io := rfl
@[simp] theorem setSlave_panel (a : Nat) (x : MbusSlave) (s : State) : (setSlave a x s).panel = s.panel := rfl
@[simp] theorem setSlave_sec (a : Nat) (x : MbusSlave) (s : State) : (setSlave a x s).sec = s.sec := rfl
@[simp] theorem setSlave_clocks (a : Nat) (x : MbusSlave) (s : State) : (setSlave a x s).clocks = s.clocks := rfl
@[simp] theorem setSlave_power (a : Nat) (x : MbusSlave) (s : State) : (setSlave a x s).power = s.power := rfl
@[simp] theorem setSlave_boot (a : Nat) (x : MbusSlave) (s : State) : (setSlave a x s).boot = s.boot := rfl
@[simp] theorem setSlave_out (a : Nat) (x : MbusSlave) (s : State) : (setSlave a x s).out = s.out := rfl

/-! ### setFeed -/

@[simp] theorem setFeed_pending (f : Nat) (x : Feed) (s : State) : (setFeed f x s).pending = s.pending := rfl
@[simp] theorem setFeed_tb (f : Nat) (x : Feed) (s : State) : (setFeed f x s).tb = s.tb := rfl
@[simp] theorem setFeed_win (f : Nat) (x : Feed) (s : State) : (setFeed f x s).win = s.win := rfl
@[simp] theorem setFeed_sys (f : Nat) (x : Feed) (s : State) : (setFeed f x s).sys = s.sys := rfl
@[simp] theorem setFeed_rtc (f : Nat) (x : Feed) (s : State) : (setFeed f x s).rtc = s.rtc := rfl
@[simp] theorem setFeed_recorder (f : Nat) (x : Feed) (s : State) : (setFeed f x s).recorder = s.recorder := rfl
@[simp] theorem setFeed_model (f : Nat) (x : Feed) (s : State) : (setFeed f x s).model = s.model := rfl
@[simp] theorem setFeed_solver (f : Nat) (x : Feed) (s : State) : (setFeed f x s).solver = s.solver := rfl
@[simp] theorem setFeed_opt (f : Nat) (x : Feed) (s : State) : (setFeed f x s).opt = s.opt := rfl
@[simp] theorem setFeed_car (f : Nat) (x : Feed) (s : State) : (setFeed f x s).car = s.car := rfl
@[simp] theorem setFeed_net (f : Nat) (x : Feed) (s : State) : (setFeed f x s).net = s.net := rfl
@[simp] theorem setFeed_twin (f : Nat) (x : Feed) (s : State) : (setFeed f x s).twin = s.twin := rfl
@[simp] theorem setFeed_elec (f : Nat) (x : Feed) (s : State) : (setFeed f x s).elec = { s.elec with feeds := tabSet s.elec.feeds f x } := rfl
@[simp] theorem setFeed_therm (f : Nat) (x : Feed) (s : State) : (setFeed f x s).therm = s.therm := rfl
@[simp] theorem setFeed_loops (f : Nat) (x : Feed) (s : State) : (setFeed f x s).loops = s.loops := rfl
@[simp] theorem setFeed_prog (f : Nat) (x : Feed) (s : State) : (setFeed f x s).prog = s.prog := rfl
@[simp] theorem setFeed_motion (f : Nat) (x : Feed) (s : State) : (setFeed f x s).motion = s.motion := rfl
@[simp] theorem setFeed_buses (f : Nat) (x : Feed) (s : State) : (setFeed f x s).buses = s.buses := rfl
@[simp] theorem setFeed_io (f : Nat) (x : Feed) (s : State) : (setFeed f x s).io = s.io := rfl
@[simp] theorem setFeed_panel (f : Nat) (x : Feed) (s : State) : (setFeed f x s).panel = s.panel := rfl
@[simp] theorem setFeed_sec (f : Nat) (x : Feed) (s : State) : (setFeed f x s).sec = s.sec := rfl
@[simp] theorem setFeed_clocks (f : Nat) (x : Feed) (s : State) : (setFeed f x s).clocks = s.clocks := rfl
@[simp] theorem setFeed_power (f : Nat) (x : Feed) (s : State) : (setFeed f x s).power = s.power := rfl
@[simp] theorem setFeed_boot (f : Nat) (x : Feed) (s : State) : (setFeed f x s).boot = s.boot := rfl
@[simp] theorem setFeed_out (f : Nat) (x : Feed) (s : State) : (setFeed f x s).out = s.out := rfl

/-! ### setPair -/

@[simp] theorem setPair_pending (p : Nat) (x : Pair) (s : State) : (setPair p x s).pending = s.pending := rfl
@[simp] theorem setPair_tb (p : Nat) (x : Pair) (s : State) : (setPair p x s).tb = s.tb := rfl
@[simp] theorem setPair_win (p : Nat) (x : Pair) (s : State) : (setPair p x s).win = s.win := rfl
@[simp] theorem setPair_sys (p : Nat) (x : Pair) (s : State) : (setPair p x s).sys = s.sys := rfl
@[simp] theorem setPair_rtc (p : Nat) (x : Pair) (s : State) : (setPair p x s).rtc = s.rtc := rfl
@[simp] theorem setPair_recorder (p : Nat) (x : Pair) (s : State) : (setPair p x s).recorder = s.recorder := rfl
@[simp] theorem setPair_model (p : Nat) (x : Pair) (s : State) : (setPair p x s).model = s.model := rfl
@[simp] theorem setPair_solver (p : Nat) (x : Pair) (s : State) : (setPair p x s).solver = s.solver := rfl
@[simp] theorem setPair_opt (p : Nat) (x : Pair) (s : State) : (setPair p x s).opt = s.opt := rfl
@[simp] theorem setPair_car (p : Nat) (x : Pair) (s : State) : (setPair p x s).car = s.car := rfl
@[simp] theorem setPair_net (p : Nat) (x : Pair) (s : State) : (setPair p x s).net = s.net := rfl
@[simp] theorem setPair_twin (p : Nat) (x : Pair) (s : State) : (setPair p x s).twin = s.twin := rfl
@[simp] theorem setPair_elec (p : Nat) (x : Pair) (s : State) : (setPair p x s).elec = s.elec := rfl
@[simp] theorem setPair_therm (p : Nat) (x : Pair) (s : State) : (setPair p x s).therm = { s.therm with pairs := tabSet s.therm.pairs p x } := rfl
@[simp] theorem setPair_loops (p : Nat) (x : Pair) (s : State) : (setPair p x s).loops = s.loops := rfl
@[simp] theorem setPair_prog (p : Nat) (x : Pair) (s : State) : (setPair p x s).prog = s.prog := rfl
@[simp] theorem setPair_motion (p : Nat) (x : Pair) (s : State) : (setPair p x s).motion = s.motion := rfl
@[simp] theorem setPair_buses (p : Nat) (x : Pair) (s : State) : (setPair p x s).buses = s.buses := rfl
@[simp] theorem setPair_io (p : Nat) (x : Pair) (s : State) : (setPair p x s).io = s.io := rfl
@[simp] theorem setPair_panel (p : Nat) (x : Pair) (s : State) : (setPair p x s).panel = s.panel := rfl
@[simp] theorem setPair_sec (p : Nat) (x : Pair) (s : State) : (setPair p x s).sec = s.sec := rfl
@[simp] theorem setPair_clocks (p : Nat) (x : Pair) (s : State) : (setPair p x s).clocks = s.clocks := rfl
@[simp] theorem setPair_power (p : Nat) (x : Pair) (s : State) : (setPair p x s).power = s.power := rfl
@[simp] theorem setPair_boot (p : Nat) (x : Pair) (s : State) : (setPair p x s).boot = s.boot := rfl
@[simp] theorem setPair_out (p : Nat) (x : Pair) (s : State) : (setPair p x s).out = s.out := rfl

/-! ### setLoop -/

@[simp] theorem setLoop_pending (n : Nat) (l : Loop) (s : State) : (setLoop n l s).pending = s.pending := rfl
@[simp] theorem setLoop_tb (n : Nat) (l : Loop) (s : State) : (setLoop n l s).tb = s.tb := rfl
@[simp] theorem setLoop_win (n : Nat) (l : Loop) (s : State) : (setLoop n l s).win = s.win := rfl
@[simp] theorem setLoop_sys (n : Nat) (l : Loop) (s : State) : (setLoop n l s).sys = s.sys := rfl
@[simp] theorem setLoop_rtc (n : Nat) (l : Loop) (s : State) : (setLoop n l s).rtc = s.rtc := rfl
@[simp] theorem setLoop_recorder (n : Nat) (l : Loop) (s : State) : (setLoop n l s).recorder = s.recorder := rfl
@[simp] theorem setLoop_model (n : Nat) (l : Loop) (s : State) : (setLoop n l s).model = s.model := rfl
@[simp] theorem setLoop_solver (n : Nat) (l : Loop) (s : State) : (setLoop n l s).solver = s.solver := rfl
@[simp] theorem setLoop_opt (n : Nat) (l : Loop) (s : State) : (setLoop n l s).opt = s.opt := rfl
@[simp] theorem setLoop_car (n : Nat) (l : Loop) (s : State) : (setLoop n l s).car = s.car := rfl
@[simp] theorem setLoop_net (n : Nat) (l : Loop) (s : State) : (setLoop n l s).net = s.net := rfl
@[simp] theorem setLoop_twin (n : Nat) (l : Loop) (s : State) : (setLoop n l s).twin = s.twin := rfl
@[simp] theorem setLoop_elec (n : Nat) (l : Loop) (s : State) : (setLoop n l s).elec = s.elec := rfl
@[simp] theorem setLoop_therm (n : Nat) (l : Loop) (s : State) : (setLoop n l s).therm = s.therm := rfl
@[simp] theorem setLoop_loops (n : Nat) (l : Loop) (s : State) : (setLoop n l s).loops = { s.loops with slots := tabSet s.loops.slots n l } := rfl
@[simp] theorem setLoop_prog (n : Nat) (l : Loop) (s : State) : (setLoop n l s).prog = s.prog := rfl
@[simp] theorem setLoop_motion (n : Nat) (l : Loop) (s : State) : (setLoop n l s).motion = s.motion := rfl
@[simp] theorem setLoop_buses (n : Nat) (l : Loop) (s : State) : (setLoop n l s).buses = s.buses := rfl
@[simp] theorem setLoop_io (n : Nat) (l : Loop) (s : State) : (setLoop n l s).io = s.io := rfl
@[simp] theorem setLoop_panel (n : Nat) (l : Loop) (s : State) : (setLoop n l s).panel = s.panel := rfl
@[simp] theorem setLoop_sec (n : Nat) (l : Loop) (s : State) : (setLoop n l s).sec = s.sec := rfl
@[simp] theorem setLoop_clocks (n : Nat) (l : Loop) (s : State) : (setLoop n l s).clocks = s.clocks := rfl
@[simp] theorem setLoop_power (n : Nat) (l : Loop) (s : State) : (setLoop n l s).power = s.power := rfl
@[simp] theorem setLoop_boot (n : Nat) (l : Loop) (s : State) : (setLoop n l s).boot = s.boot := rfl
@[simp] theorem setLoop_out (n : Nat) (l : Loop) (s : State) : (setLoop n l s).out = s.out := rfl

/-! ### setAxis -/

@[simp] theorem setAxis_pending (n : Nat) (a : Axis) (s : State) : (setAxis n a s).pending = s.pending := rfl
@[simp] theorem setAxis_tb (n : Nat) (a : Axis) (s : State) : (setAxis n a s).tb = s.tb := rfl
@[simp] theorem setAxis_win (n : Nat) (a : Axis) (s : State) : (setAxis n a s).win = s.win := rfl
@[simp] theorem setAxis_sys (n : Nat) (a : Axis) (s : State) : (setAxis n a s).sys = s.sys := rfl
@[simp] theorem setAxis_rtc (n : Nat) (a : Axis) (s : State) : (setAxis n a s).rtc = s.rtc := rfl
@[simp] theorem setAxis_recorder (n : Nat) (a : Axis) (s : State) : (setAxis n a s).recorder = s.recorder := rfl
@[simp] theorem setAxis_model (n : Nat) (a : Axis) (s : State) : (setAxis n a s).model = s.model := rfl
@[simp] theorem setAxis_solver (n : Nat) (a : Axis) (s : State) : (setAxis n a s).solver = s.solver := rfl
@[simp] theorem setAxis_opt (n : Nat) (a : Axis) (s : State) : (setAxis n a s).opt = s.opt := rfl
@[simp] theorem setAxis_car (n : Nat) (a : Axis) (s : State) : (setAxis n a s).car = s.car := rfl
@[simp] theorem setAxis_net (n : Nat) (a : Axis) (s : State) : (setAxis n a s).net = s.net := rfl
@[simp] theorem setAxis_twin (n : Nat) (a : Axis) (s : State) : (setAxis n a s).twin = s.twin := rfl
@[simp] theorem setAxis_elec (n : Nat) (a : Axis) (s : State) : (setAxis n a s).elec = s.elec := rfl
@[simp] theorem setAxis_therm (n : Nat) (a : Axis) (s : State) : (setAxis n a s).therm = s.therm := rfl
@[simp] theorem setAxis_loops (n : Nat) (a : Axis) (s : State) : (setAxis n a s).loops = s.loops := rfl
@[simp] theorem setAxis_prog (n : Nat) (a : Axis) (s : State) : (setAxis n a s).prog = s.prog := rfl
@[simp] theorem setAxis_motion (n : Nat) (a : Axis) (s : State) : (setAxis n a s).motion = { s.motion with axes := tabSet s.motion.axes n a } := rfl
@[simp] theorem setAxis_buses (n : Nat) (a : Axis) (s : State) : (setAxis n a s).buses = s.buses := rfl
@[simp] theorem setAxis_io (n : Nat) (a : Axis) (s : State) : (setAxis n a s).io = s.io := rfl
@[simp] theorem setAxis_panel (n : Nat) (a : Axis) (s : State) : (setAxis n a s).panel = s.panel := rfl
@[simp] theorem setAxis_sec (n : Nat) (a : Axis) (s : State) : (setAxis n a s).sec = s.sec := rfl
@[simp] theorem setAxis_clocks (n : Nat) (a : Axis) (s : State) : (setAxis n a s).clocks = s.clocks := rfl
@[simp] theorem setAxis_power (n : Nat) (a : Axis) (s : State) : (setAxis n a s).power = s.power := rfl
@[simp] theorem setAxis_boot (n : Nat) (a : Axis) (s : State) : (setAxis n a s).boot = s.boot := rfl
@[simp] theorem setAxis_out (n : Nat) (a : Axis) (s : State) : (setAxis n a s).out = s.out := rfl

/-! ### setPow -/

@[simp] theorem setPow_pending (f : Power → Power) (s : State) : (setPow f s).pending = s.pending := rfl
@[simp] theorem setPow_tb (f : Power → Power) (s : State) : (setPow f s).tb = s.tb := rfl
@[simp] theorem setPow_win (f : Power → Power) (s : State) : (setPow f s).win = s.win := rfl
@[simp] theorem setPow_sys (f : Power → Power) (s : State) : (setPow f s).sys = s.sys := rfl
@[simp] theorem setPow_rtc (f : Power → Power) (s : State) : (setPow f s).rtc = s.rtc := rfl
@[simp] theorem setPow_recorder (f : Power → Power) (s : State) : (setPow f s).recorder = s.recorder := rfl
@[simp] theorem setPow_model (f : Power → Power) (s : State) : (setPow f s).model = s.model := rfl
@[simp] theorem setPow_solver (f : Power → Power) (s : State) : (setPow f s).solver = s.solver := rfl
@[simp] theorem setPow_opt (f : Power → Power) (s : State) : (setPow f s).opt = s.opt := rfl
@[simp] theorem setPow_car (f : Power → Power) (s : State) : (setPow f s).car = s.car := rfl
@[simp] theorem setPow_net (f : Power → Power) (s : State) : (setPow f s).net = s.net := rfl
@[simp] theorem setPow_twin (f : Power → Power) (s : State) : (setPow f s).twin = s.twin := rfl
@[simp] theorem setPow_elec (f : Power → Power) (s : State) : (setPow f s).elec = s.elec := rfl
@[simp] theorem setPow_therm (f : Power → Power) (s : State) : (setPow f s).therm = s.therm := rfl
@[simp] theorem setPow_loops (f : Power → Power) (s : State) : (setPow f s).loops = s.loops := rfl
@[simp] theorem setPow_prog (f : Power → Power) (s : State) : (setPow f s).prog = s.prog := rfl
@[simp] theorem setPow_motion (f : Power → Power) (s : State) : (setPow f s).motion = s.motion := rfl
@[simp] theorem setPow_buses (f : Power → Power) (s : State) : (setPow f s).buses = s.buses := rfl
@[simp] theorem setPow_io (f : Power → Power) (s : State) : (setPow f s).io = s.io := rfl
@[simp] theorem setPow_panel (f : Power → Power) (s : State) : (setPow f s).panel = s.panel := rfl
@[simp] theorem setPow_sec (f : Power → Power) (s : State) : (setPow f s).sec = s.sec := rfl
@[simp] theorem setPow_clocks (f : Power → Power) (s : State) : (setPow f s).clocks = s.clocks := rfl
@[simp] theorem setPow_power (f : Power → Power) (s : State) : (setPow f s).power = f s.power := rfl
@[simp] theorem setPow_boot (f : Power → Power) (s : State) : (setPow f s).boot = s.boot := rfl
@[simp] theorem setPow_out (f : Power → Power) (s : State) : (setPow f s).out = s.out := rfl

/-! ### setProg -/

@[simp] theorem setProg_pending (f : Program → Program) (s : State) : (setProg f s).pending = s.pending := rfl
@[simp] theorem setProg_tb (f : Program → Program) (s : State) : (setProg f s).tb = s.tb := rfl
@[simp] theorem setProg_win (f : Program → Program) (s : State) : (setProg f s).win = s.win := rfl
@[simp] theorem setProg_sys (f : Program → Program) (s : State) : (setProg f s).sys = s.sys := rfl
@[simp] theorem setProg_rtc (f : Program → Program) (s : State) : (setProg f s).rtc = s.rtc := rfl
@[simp] theorem setProg_recorder (f : Program → Program) (s : State) : (setProg f s).recorder = s.recorder := rfl
@[simp] theorem setProg_model (f : Program → Program) (s : State) : (setProg f s).model = s.model := rfl
@[simp] theorem setProg_solver (f : Program → Program) (s : State) : (setProg f s).solver = s.solver := rfl
@[simp] theorem setProg_opt (f : Program → Program) (s : State) : (setProg f s).opt = s.opt := rfl
@[simp] theorem setProg_car (f : Program → Program) (s : State) : (setProg f s).car = s.car := rfl
@[simp] theorem setProg_net (f : Program → Program) (s : State) : (setProg f s).net = s.net := rfl
@[simp] theorem setProg_twin (f : Program → Program) (s : State) : (setProg f s).twin = s.twin := rfl
@[simp] theorem setProg_elec (f : Program → Program) (s : State) : (setProg f s).elec = s.elec := rfl
@[simp] theorem setProg_therm (f : Program → Program) (s : State) : (setProg f s).therm = s.therm := rfl
@[simp] theorem setProg_loops (f : Program → Program) (s : State) : (setProg f s).loops = s.loops := rfl
@[simp] theorem setProg_prog (f : Program → Program) (s : State) : (setProg f s).prog = f s.prog := rfl
@[simp] theorem setProg_motion (f : Program → Program) (s : State) : (setProg f s).motion = s.motion := rfl
@[simp] theorem setProg_buses (f : Program → Program) (s : State) : (setProg f s).buses = s.buses := rfl
@[simp] theorem setProg_io (f : Program → Program) (s : State) : (setProg f s).io = s.io := rfl
@[simp] theorem setProg_panel (f : Program → Program) (s : State) : (setProg f s).panel = s.panel := rfl
@[simp] theorem setProg_sec (f : Program → Program) (s : State) : (setProg f s).sec = s.sec := rfl
@[simp] theorem setProg_clocks (f : Program → Program) (s : State) : (setProg f s).clocks = s.clocks := rfl
@[simp] theorem setProg_power (f : Program → Program) (s : State) : (setProg f s).power = s.power := rfl
@[simp] theorem setProg_boot (f : Program → Program) (s : State) : (setProg f s).boot = s.boot := rfl
@[simp] theorem setProg_out (f : Program → Program) (s : State) : (setProg f s).out = s.out := rfl

/-! ### setTask -/

@[simp] theorem setTask_pending (t : Nat) (x : Task) (s : State) : (setTask t x s).pending = s.pending := rfl
@[simp] theorem setTask_tb (t : Nat) (x : Task) (s : State) : (setTask t x s).tb = s.tb := rfl
@[simp] theorem setTask_win (t : Nat) (x : Task) (s : State) : (setTask t x s).win = s.win := rfl
@[simp] theorem setTask_sys (t : Nat) (x : Task) (s : State) : (setTask t x s).sys = s.sys := rfl
@[simp] theorem setTask_rtc (t : Nat) (x : Task) (s : State) : (setTask t x s).rtc = s.rtc := rfl
@[simp] theorem setTask_recorder (t : Nat) (x : Task) (s : State) : (setTask t x s).recorder = s.recorder := rfl
@[simp] theorem setTask_model (t : Nat) (x : Task) (s : State) : (setTask t x s).model = s.model := rfl
@[simp] theorem setTask_solver (t : Nat) (x : Task) (s : State) : (setTask t x s).solver = s.solver := rfl
@[simp] theorem setTask_opt (t : Nat) (x : Task) (s : State) : (setTask t x s).opt = s.opt := rfl
@[simp] theorem setTask_car (t : Nat) (x : Task) (s : State) : (setTask t x s).car = s.car := rfl
@[simp] theorem setTask_net (t : Nat) (x : Task) (s : State) : (setTask t x s).net = s.net := rfl
@[simp] theorem setTask_twin (t : Nat) (x : Task) (s : State) : (setTask t x s).twin = s.twin := rfl
@[simp] theorem setTask_elec (t : Nat) (x : Task) (s : State) : (setTask t x s).elec = s.elec := rfl
@[simp] theorem setTask_therm (t : Nat) (x : Task) (s : State) : (setTask t x s).therm = s.therm := rfl
@[simp] theorem setTask_loops (t : Nat) (x : Task) (s : State) : (setTask t x s).loops = s.loops := rfl
@[simp] theorem setTask_motion (t : Nat) (x : Task) (s : State) : (setTask t x s).motion = s.motion := rfl
@[simp] theorem setTask_buses (t : Nat) (x : Task) (s : State) : (setTask t x s).buses = s.buses := rfl
@[simp] theorem setTask_io (t : Nat) (x : Task) (s : State) : (setTask t x s).io = s.io := rfl
@[simp] theorem setTask_panel (t : Nat) (x : Task) (s : State) : (setTask t x s).panel = s.panel := rfl
@[simp] theorem setTask_sec (t : Nat) (x : Task) (s : State) : (setTask t x s).sec = s.sec := rfl
@[simp] theorem setTask_clocks (t : Nat) (x : Task) (s : State) : (setTask t x s).clocks = s.clocks := rfl
@[simp] theorem setTask_power (t : Nat) (x : Task) (s : State) : (setTask t x s).power = s.power := rfl
@[simp] theorem setTask_boot (t : Nat) (x : Task) (s : State) : (setTask t x s).boot = s.boot := rfl
@[simp] theorem setTask_out (t : Nat) (x : Task) (s : State) : (setTask t x s).out = s.out := rfl

/-! ### setRec -/

@[simp] theorem setRec_pending (f : Recorder → Recorder) (s : State) : (setRec f s).pending = s.pending := rfl
@[simp] theorem setRec_tb (f : Recorder → Recorder) (s : State) : (setRec f s).tb = s.tb := rfl
@[simp] theorem setRec_win (f : Recorder → Recorder) (s : State) : (setRec f s).win = s.win := rfl
@[simp] theorem setRec_sys (f : Recorder → Recorder) (s : State) : (setRec f s).sys = s.sys := rfl
@[simp] theorem setRec_rtc (f : Recorder → Recorder) (s : State) : (setRec f s).rtc = s.rtc := rfl
@[simp] theorem setRec_recorder (f : Recorder → Recorder) (s : State) : (setRec f s).recorder = f s.recorder := rfl
@[simp] theorem setRec_model (f : Recorder → Recorder) (s : State) : (setRec f s).model = s.model := rfl
@[simp] theorem setRec_solver (f : Recorder → Recorder) (s : State) : (setRec f s).solver = s.solver := rfl
@[simp] theorem setRec_opt (f : Recorder → Recorder) (s : State) : (setRec f s).opt = s.opt := rfl
@[simp] theorem setRec_car (f : Recorder → Recorder) (s : State) : (setRec f s).car = s.car := rfl
@[simp] theorem setRec_net (f : Recorder → Recorder) (s : State) : (setRec f s).net = s.net := rfl
@[simp] theorem setRec_twin (f : Recorder → Recorder) (s : State) : (setRec f s).twin = s.twin := rfl
@[simp] theorem setRec_elec (f : Recorder → Recorder) (s : State) : (setRec f s).elec = s.elec := rfl
@[simp] theorem setRec_therm (f : Recorder → Recorder) (s : State) : (setRec f s).therm = s.therm := rfl
@[simp] theorem setRec_loops (f : Recorder → Recorder) (s : State) : (setRec f s).loops = s.loops := rfl
@[simp] theorem setRec_prog (f : Recorder → Recorder) (s : State) : (setRec f s).prog = s.prog := rfl
@[simp] theorem setRec_motion (f : Recorder → Recorder) (s : State) : (setRec f s).motion = s.motion := rfl
@[simp] theorem setRec_buses (f : Recorder → Recorder) (s : State) : (setRec f s).buses = s.buses := rfl
@[simp] theorem setRec_io (f : Recorder → Recorder) (s : State) : (setRec f s).io = s.io := rfl
@[simp] theorem setRec_panel (f : Recorder → Recorder) (s : State) : (setRec f s).panel = s.panel := rfl
@[simp] theorem setRec_sec (f : Recorder → Recorder) (s : State) : (setRec f s).sec = s.sec := rfl
@[simp] theorem setRec_clocks (f : Recorder → Recorder) (s : State) : (setRec f s).clocks = s.clocks := rfl
@[simp] theorem setRec_power (f : Recorder → Recorder) (s : State) : (setRec f s).power = s.power := rfl
@[simp] theorem setRec_boot (f : Recorder → Recorder) (s : State) : (setRec f s).boot = s.boot := rfl
@[simp] theorem setRec_out (f : Recorder → Recorder) (s : State) : (setRec f s).out = s.out := rfl

/-! ### setTrigger -/

@[simp] theorem setTrigger_pending (n : Nat) (t : Trigger) (s : State) : (setTrigger n t s).pending = s.pending := rfl
@[simp] theorem setTrigger_tb (n : Nat) (t : Trigger) (s : State) : (setTrigger n t s).tb = s.tb := rfl
@[simp] theorem setTrigger_win (n : Nat) (t : Trigger) (s : State) : (setTrigger n t s).win = s.win := rfl
@[simp] theorem setTrigger_sys (n : Nat) (t : Trigger) (s : State) : (setTrigger n t s).sys = s.sys := rfl
@[simp] theorem setTrigger_rtc (n : Nat) (t : Trigger) (s : State) : (setTrigger n t s).rtc = s.rtc := rfl
@[simp] theorem setTrigger_model (n : Nat) (t : Trigger) (s : State) : (setTrigger n t s).model = s.model := rfl
@[simp] theorem setTrigger_solver (n : Nat) (t : Trigger) (s : State) : (setTrigger n t s).solver = s.solver := rfl
@[simp] theorem setTrigger_opt (n : Nat) (t : Trigger) (s : State) : (setTrigger n t s).opt = s.opt := rfl
@[simp] theorem setTrigger_car (n : Nat) (t : Trigger) (s : State) : (setTrigger n t s).car = s.car := rfl
@[simp] theorem setTrigger_net (n : Nat) (t : Trigger) (s : State) : (setTrigger n t s).net = s.net := rfl
@[simp] theorem setTrigger_twin (n : Nat) (t : Trigger) (s : State) : (setTrigger n t s).twin = s.twin := rfl
@[simp] theorem setTrigger_elec (n : Nat) (t : Trigger) (s : State) : (setTrigger n t s).elec = s.elec := rfl
@[simp] theorem setTrigger_therm (n : Nat) (t : Trigger) (s : State) : (setTrigger n t s).therm = s.therm := rfl
@[simp] theorem setTrigger_loops (n : Nat) (t : Trigger) (s : State) : (setTrigger n t s).loops = s.loops := rfl
@[simp] theorem setTrigger_prog (n : Nat) (t : Trigger) (s : State) : (setTrigger n t s).prog = s.prog := rfl
@[simp] theorem setTrigger_motion (n : Nat) (t : Trigger) (s : State) : (setTrigger n t s).motion = s.motion := rfl
@[simp] theorem setTrigger_buses (n : Nat) (t : Trigger) (s : State) : (setTrigger n t s).buses = s.buses := rfl
@[simp] theorem setTrigger_io (n : Nat) (t : Trigger) (s : State) : (setTrigger n t s).io = s.io := rfl
@[simp] theorem setTrigger_panel (n : Nat) (t : Trigger) (s : State) : (setTrigger n t s).panel = s.panel := rfl
@[simp] theorem setTrigger_sec (n : Nat) (t : Trigger) (s : State) : (setTrigger n t s).sec = s.sec := rfl
@[simp] theorem setTrigger_clocks (n : Nat) (t : Trigger) (s : State) : (setTrigger n t s).clocks = s.clocks := rfl
@[simp] theorem setTrigger_power (n : Nat) (t : Trigger) (s : State) : (setTrigger n t s).power = s.power := rfl
@[simp] theorem setTrigger_boot (n : Nat) (t : Trigger) (s : State) : (setTrigger n t s).boot = s.boot := rfl
@[simp] theorem setTrigger_out (n : Nat) (t : Trigger) (s : State) : (setTrigger n t s).out = s.out := rfl

/-! ### setSec -/

@[simp] theorem setSec_pending (f : Security → Security) (s : State) : (setSec f s).pending = s.pending := rfl
@[simp] theorem setSec_tb (f : Security → Security) (s : State) : (setSec f s).tb = s.tb := rfl
@[simp] theorem setSec_win (f : Security → Security) (s : State) : (setSec f s).win = s.win := rfl
@[simp] theorem setSec_sys (f : Security → Security) (s : State) : (setSec f s).sys = s.sys := rfl
@[simp] theorem setSec_rtc (f : Security → Security) (s : State) : (setSec f s).rtc = s.rtc := rfl
@[simp] theorem setSec_recorder (f : Security → Security) (s : State) : (setSec f s).recorder = s.recorder := rfl
@[simp] theorem setSec_model (f : Security → Security) (s : State) : (setSec f s).model = s.model := rfl
@[simp] theorem setSec_solver (f : Security → Security) (s : State) : (setSec f s).solver = s.solver := rfl
@[simp] theorem setSec_opt (f : Security → Security) (s : State) : (setSec f s).opt = s.opt := rfl
@[simp] theorem setSec_car (f : Security → Security) (s : State) : (setSec f s).car = s.car := rfl
@[simp] theorem setSec_net (f : Security → Security) (s : State) : (setSec f s).net = s.net := rfl
@[simp] theorem setSec_twin (f : Security → Security) (s : State) : (setSec f s).twin = s.twin := rfl
@[simp] theorem setSec_elec (f : Security → Security) (s : State) : (setSec f s).elec = s.elec := rfl
@[simp] theorem setSec_therm (f : Security → Security) (s : State) : (setSec f s).therm = s.therm := rfl
@[simp] theorem setSec_loops (f : Security → Security) (s : State) : (setSec f s).loops = s.loops := rfl
@[simp] theorem setSec_prog (f : Security → Security) (s : State) : (setSec f s).prog = s.prog := rfl
@[simp] theorem setSec_motion (f : Security → Security) (s : State) : (setSec f s).motion = s.motion := rfl
@[simp] theorem setSec_buses (f : Security → Security) (s : State) : (setSec f s).buses = s.buses := rfl
@[simp] theorem setSec_io (f : Security → Security) (s : State) : (setSec f s).io = s.io := rfl
@[simp] theorem setSec_panel (f : Security → Security) (s : State) : (setSec f s).panel = s.panel := rfl
@[simp] theorem setSec_sec (f : Security → Security) (s : State) : (setSec f s).sec = f s.sec := rfl
@[simp] theorem setSec_clocks (f : Security → Security) (s : State) : (setSec f s).clocks = s.clocks := rfl
@[simp] theorem setSec_power (f : Security → Security) (s : State) : (setSec f s).power = s.power := rfl
@[simp] theorem setSec_boot (f : Security → Security) (s : State) : (setSec f s).boot = s.boot := rfl
@[simp] theorem setSec_out (f : Security → Security) (s : State) : (setSec f s).out = s.out := rfl

/-! ### setBoot -/

@[simp] theorem setBoot_pending (f : Boot → Boot) (s : State) : (setBoot f s).pending = s.pending := rfl
@[simp] theorem setBoot_tb (f : Boot → Boot) (s : State) : (setBoot f s).tb = s.tb := rfl
@[simp] theorem setBoot_win (f : Boot → Boot) (s : State) : (setBoot f s).win = s.win := rfl
@[simp] theorem setBoot_sys (f : Boot → Boot) (s : State) : (setBoot f s).sys = s.sys := rfl
@[simp] theorem setBoot_rtc (f : Boot → Boot) (s : State) : (setBoot f s).rtc = s.rtc := rfl
@[simp] theorem setBoot_recorder (f : Boot → Boot) (s : State) : (setBoot f s).recorder = s.recorder := rfl
@[simp] theorem setBoot_model (f : Boot → Boot) (s : State) : (setBoot f s).model = s.model := rfl
@[simp] theorem setBoot_solver (f : Boot → Boot) (s : State) : (setBoot f s).solver = s.solver := rfl
@[simp] theorem setBoot_opt (f : Boot → Boot) (s : State) : (setBoot f s).opt = s.opt := rfl
@[simp] theorem setBoot_car (f : Boot → Boot) (s : State) : (setBoot f s).car = s.car := rfl
@[simp] theorem setBoot_net (f : Boot → Boot) (s : State) : (setBoot f s).net = s.net := rfl
@[simp] theorem setBoot_twin (f : Boot → Boot) (s : State) : (setBoot f s).twin = s.twin := rfl
@[simp] theorem setBoot_elec (f : Boot → Boot) (s : State) : (setBoot f s).elec = s.elec := rfl
@[simp] theorem setBoot_therm (f : Boot → Boot) (s : State) : (setBoot f s).therm = s.therm := rfl
@[simp] theorem setBoot_loops (f : Boot → Boot) (s : State) : (setBoot f s).loops = s.loops := rfl
@[simp] theorem setBoot_prog (f : Boot → Boot) (s : State) : (setBoot f s).prog = s.prog := rfl
@[simp] theorem setBoot_motion (f : Boot → Boot) (s : State) : (setBoot f s).motion = s.motion := rfl
@[simp] theorem setBoot_buses (f : Boot → Boot) (s : State) : (setBoot f s).buses = s.buses := rfl
@[simp] theorem setBoot_io (f : Boot → Boot) (s : State) : (setBoot f s).io = s.io := rfl
@[simp] theorem setBoot_panel (f : Boot → Boot) (s : State) : (setBoot f s).panel = s.panel := rfl
@[simp] theorem setBoot_sec (f : Boot → Boot) (s : State) : (setBoot f s).sec = s.sec := rfl
@[simp] theorem setBoot_clocks (f : Boot → Boot) (s : State) : (setBoot f s).clocks = s.clocks := rfl
@[simp] theorem setBoot_power (f : Boot → Boot) (s : State) : (setBoot f s).power = s.power := rfl
@[simp] theorem setBoot_boot (f : Boot → Boot) (s : State) : (setBoot f s).boot = f s.boot := rfl
@[simp] theorem setBoot_out (f : Boot → Boot) (s : State) : (setBoot f s).out = s.out := rfl

/-! ### setTwin -/

@[simp] theorem setTwin_pending (f : Twin → Twin) (s : State) : (setTwin f s).pending = s.pending := rfl
@[simp] theorem setTwin_tb (f : Twin → Twin) (s : State) : (setTwin f s).tb = s.tb := rfl
@[simp] theorem setTwin_win (f : Twin → Twin) (s : State) : (setTwin f s).win = s.win := rfl
@[simp] theorem setTwin_sys (f : Twin → Twin) (s : State) : (setTwin f s).sys = s.sys := rfl
@[simp] theorem setTwin_rtc (f : Twin → Twin) (s : State) : (setTwin f s).rtc = s.rtc := rfl
@[simp] theorem setTwin_recorder (f : Twin → Twin) (s : State) : (setTwin f s).recorder = s.recorder := rfl
@[simp] theorem setTwin_model (f : Twin → Twin) (s : State) : (setTwin f s).model = s.model := rfl
@[simp] theorem setTwin_solver (f : Twin → Twin) (s : State) : (setTwin f s).solver = s.solver := rfl
@[simp] theorem setTwin_opt (f : Twin → Twin) (s : State) : (setTwin f s).opt = s.opt := rfl
@[simp] theorem setTwin_car (f : Twin → Twin) (s : State) : (setTwin f s).car = s.car := rfl
@[simp] theorem setTwin_net (f : Twin → Twin) (s : State) : (setTwin f s).net = s.net := rfl
@[simp] theorem setTwin_twin (f : Twin → Twin) (s : State) : (setTwin f s).twin = f s.twin := rfl
@[simp] theorem setTwin_elec (f : Twin → Twin) (s : State) : (setTwin f s).elec = s.elec := rfl
@[simp] theorem setTwin_therm (f : Twin → Twin) (s : State) : (setTwin f s).therm = s.therm := rfl
@[simp] theorem setTwin_loops (f : Twin → Twin) (s : State) : (setTwin f s).loops = s.loops := rfl
@[simp] theorem setTwin_prog (f : Twin → Twin) (s : State) : (setTwin f s).prog = s.prog := rfl
@[simp] theorem setTwin_motion (f : Twin → Twin) (s : State) : (setTwin f s).motion = s.motion := rfl
@[simp] theorem setTwin_buses (f : Twin → Twin) (s : State) : (setTwin f s).buses = s.buses := rfl
@[simp] theorem setTwin_io (f : Twin → Twin) (s : State) : (setTwin f s).io = s.io := rfl
@[simp] theorem setTwin_panel (f : Twin → Twin) (s : State) : (setTwin f s).panel = s.panel := rfl
@[simp] theorem setTwin_sec (f : Twin → Twin) (s : State) : (setTwin f s).sec = s.sec := rfl
@[simp] theorem setTwin_clocks (f : Twin → Twin) (s : State) : (setTwin f s).clocks = s.clocks := rfl
@[simp] theorem setTwin_power (f : Twin → Twin) (s : State) : (setTwin f s).power = s.power := rfl
@[simp] theorem setTwin_boot (f : Twin → Twin) (s : State) : (setTwin f s).boot = s.boot := rfl
@[simp] theorem setTwin_out (f : Twin → Twin) (s : State) : (setTwin f s).out = s.out := rfl

end Sys2Proof.Machine
end

