-- ==== Sys2Proof/WellFormed.lean ====
section
/-! DEFINITION. When a command is one the block can be sent: its operands fit the fields, frames and devices they stand for. The
meanings do not consult it; they are total on every operand. -/

namespace Sys2Proof

/-- A request fits its mailbox: 16 reserved header bytes and at most 8160 payload bytes (R57). -/
def Request.wf (r : Request) : Bool := r.reserved.length == 16 && decide (r.payload.length ≤ 8160)

/-- A record header's fields fit their sizes (R50). -/
def RecordHead.wf (h : RecordHead) : Bool :=
  decide (h.kind < 256 ∧ h.seq < 256 ∧ h.length < 2 ^ 16 ∧ h.address < 2 ^ 32 ∧ h.result < 2 ^ 16 ∧ h.reserved < 2 ^ 16)

/-- A client chain is a leaf and at most some intermediates (R476). -/
def TlsOffer.wf (o : TlsOffer) : Bool := o.chain != []

/-- A frame came in on a field or uplink port, and its fields fit their sizes (R234, R235). -/
def FfpFrame.wf (f : FfpFrame) : Bool :=
  decide (1 ≤ f.port ∧ f.port ≤ 10 ∧ f.udpPort < 2 ^ 16 ∧ f.version < 256 ∧ f.type < 256 ∧ f.flags < 2 ^ 16 ∧ f.src < 2 ^ 16 ∧ f.dst < 2 ^ 16) &&
    decide (f.keyEpoch < 2 ^ 32 ∧ f.seq < 2 ^ 64 ∧ f.length < 2 ^ 16 ∧ f.reserved < 2 ^ 16)

/-- A twin frame header's fields fit their sizes (R250). -/
def TwinHead.wf (h : TwinHead) : Bool := decide (h.item < 2 ^ 32 ∧ h.seq < 2 ^ 64)

/-- A feed's samples name at most three line currents and their voltages, and channels that exist (R258). -/
def FeedData.wf (d : FeedData) : Bool :=
  d.samples.all (fun x => decide (x.v.length ≤ 3 ∧ x.vq.length ≤ 3 ∧ x.i.length ≤ 3)) && d.clipped.all (fun c => decide (c < 24)) &&
    d.crossed.all (fun c => decide (c < 8)) && decide (d.angles.length ≤ 6 ∧ d.latchAngles.length ≤ 6)

/-- A thermal step names 16 RTD channels at most (R282). -/
def ThermData.wf (d : ThermData) : Bool := decide (d.rtd.length ≤ 16 ∧ d.currents.length ≤ 8)

/-- A cut measures the five feeds (R271). -/
def Cut.wf (c : Cut) : Bool := c.feeds.all (fun e => decide (e.1 < 5) && e.2.wf) && (match c.therm with | none => true | some d => d.wf)

/-- What a task wrote lies in the program memory, and its timers and caravans are ones it may use (R333). -/
def TaskEffects.wf (e : TaskEffects) : Bool := e.opens.all (fun o => decide (1 ≤ o.1)) && e.aborts.all (fun c => decide (1 ≤ c))

/-- A CAN frame's identifier and data fit its format (R389). -/
def CanRx.wf (f : CanRx) : Bool :=
  decide (f.id < (if f.ide then 2 ^ 29 else 2 ^ 11)) && decide (f.data.length ≤ (if f.fd then 64 else 8)) && (f.fd || !f.brs)

/-- An M-Bus reply is at most a long frame (R397). -/
def MbusReply.wf (m : MbusReply) : Bool := decide (m.bytes.length ≤ 261)

/-- A solve's modes are codes and its lists name the model's parts. -/
def SolveResult.wf (r : SolveResult) : Bool := r.modes.all (fun m => decide (m < 256)) && decide (r.times.length ≤ 8)

/-- A replan names each plant unit, store, group and pump at most once. -/
def ReplanResult.wf (r : ReplanResult) : Bool :=
  decide (r.plants.map (·.1)).Nodup && decide (r.stores.map (·.1)).Nodup && decide (r.groups.map (·.1)).Nodup && decide (r.pumps.map (·.1)).Nodup

/-- A store fit's figures are binary32 patterns (R165). -/
def FitResult.wf (r : FitResult) : Bool := decide (r.kappa < 2 ^ 32 ∧ r.loss < 2 ^ 32 ∧ r.rms < 2 ^ 32)

/-- An Announce carries a one-byte clock class (R229). -/
def PtpMsg.wf : PtpMsg → Bool
  | .announce _ c _ _ _ => decide (c < 256)
  | _ => true

/-- What a start finds names each record once (R594). -/
def StartFacts.wf (f : StartFacts) : Bool := decide f.journal.Nodup && decide f.ring.Nodup

/-- The operands of a command fit what they stand for. -/
def Instr.wf : Instr → Bool
  | .registerWrite _ _ data => data != []
  | .doorbell _ _ => true
  | .hostControl _ _ => true
  | .mboxAssign _ _ _ => true
  | .interruptBlockWrite _ off _ => decide (off < 0x1000 ∧ off % 4 = 0)
  | .accessFault _ => true
  | .readTargetStatus _ => true
  | .qspiWordCut _ _ part => decide (part.length ≤ 3)
  | .qspiUnknownOpcode _ _ => true
  | .recordRead _ path h => path != .host && h.wf
  | .recordWrite _ path h data => path != .host && h.wf && decide (data.length ≤ 8192)
  | .recordRing _ path h => path != .host && h.wf
  | .mailboxTake _ cut => cut.wf
  | .tlsHandshake _ offer => offer.wf
  | .tlsIdleTimeout _ _ => true
  | .usbAttach _ _ _ => true
  | .usbDetach _ _ => true
  | .usbStable _ => true
  | .systemIdentify _ r => r.wf
  | .systemGetState _ r => r.wf
  | .systemEcho _ r => r.wf
  | .systemReleaseOperation _ r => r.wf
  | .systemCancelOperation _ r => r.wf
  | .systemFirmwareBegin _ r => r.wf
  | .systemFirmwarePut _ r => r.wf
  | .systemFirmwareCommit _ r => r.wf
  | .fwVerifyComplete _ _ => true
  | .fwTimeout _ => true
  | .systemFreeRead _ r => r.wf
  | .systemFreeWrite _ r => r.wf
  | .fatalError _ _ _ _ => true
  | .keeperRestart _ facts => facts.wf
  | .resignRelease _ => true
  | .atticGetHeader _ r => r.wf
  | .atticRead _ r => r.wf
  | .atticReadoutComplete _ _ => true
  | .atticGetBlock _ r => r.wf
  | .atticClear _ r => r.wf
  | .modelBeginLoad _ r => r.wf
  | .modelPutRows _ r => r.wf
  | .modelCommitLoad _ r => r.wf
  | .modelValidationComplete _ => true
  | .loadTimeout _ => true
  | .modelGetInfo _ r => r.wf
  | .modelReadRows _ r => r.wf
  | .epochInstant _ => true
  | .estimationDeadline _ => true
  | .newtonDeadline _ => true
  | .solveComplete _ result => result.wf
  | .scratchUncorrectable _ _ => true
  | .quarantineExpiry _ _ => true
  | .solverGetConfig _ r => r.wf
  | .solverSetConfig _ r => r.wf
  | .solverGetStatus _ r => r.wf
  | .solverReadState _ r => r.wf
  | .solverReleaseBinding _ r => r.wf
  | .solverWarmStart _ r => r.wf
  | .warmStartComplete _ result => result.result.wf
  | .replanInstant _ => true
  | .replanDeadline _ result => result.wf
  | .replanComplete _ result => result.wf
  | .stepBoundary _ => true
  | .planAgeLimit _ => true
  | .uplinkLoss _ => true
  | .oasisHoldEnd _ => true
  | .storeFitComplete _ result => result.wf
  | .optimiserGetConfig _ r => r.wf
  | .optimiserSetConfig _ r => r.wf
  | .optimiserPutCurves _ r => r.wf
  | .optimiserPutSeries _ r => r.wf
  | .optimiserGetStatus _ r => r.wf
  | .optimiserReadPlan _ r => r.wf
  | .optimiserReconcile _ r => r.wf
  | .optimiserFitStore _ r => r.wf
  | .optimiserGetStoreModel _ r => r.wf
  | .caravanStage _ r => r.wf
  | .caravanCommit _ r => r.wf
  | .caravanAbort _ r => r.wf
  | .caravanGetStatus _ r => r.wf
  | .caravanReadMembers _ r => r.wf
  | .caravanList _ r => r.wf
  | .caravanGetConfig _ r => r.wf
  | .caravanSetConfig _ r => r.wf
  | .caravanAck _ frame => frame.wf
  | .decisionDurable _ caravan => decide (1 ≤ caravan ∧ caravan < 2 ^ 32)
  | .decisionAck _ frame => frame.wf
  | .report _ frame => frame.wf
  | .query _ frame => frame.wf
  | .caravanRetry _ caravan => decide (1 ≤ caravan ∧ caravan < 2 ^ 32)
  | .stageDeadline _ caravan => decide (1 ≤ caravan ∧ caravan < 2 ^ 32)
  | .activationInstant _ => true
  | .confirmWindowEnd _ caravan => decide (1 ≤ caravan ∧ caravan < 2 ^ 32)
  | .orphanInstant _ caravan => decide (1 ≤ caravan ∧ caravan < 2 ^ 32)
  | .telemetry _ frame => frame.wf
  | .writeAck _ frame => frame.wf
  | .writeRetry _ _ => true
  | .nak _ frame => frame.wf
  | .announceTimer _ => true
  | .announce _ frame => frame.wf
  | .nodeSilence _ node => decide (1 ≤ node ∧ node ≤ 0xFFFD)
  | .prpSupervision _ => true
  | .sync _ uplink domain _ => decide (uplink < 2) && decide (domain < 256)
  | .syncTimeout _ _ => true
  | .holdoverLimit _ => true
  | .t1lSyncTransmit _ => true
  | .ppsInEdge _ => true
  | .ppsOutEdge _ => true
  | .netGetConfig _ r => r.wf
  | .netSetConfig _ r => r.wf
  | .portGetStatus _ r => r.wf
  | .portCableTest _ r => r.wf
  | .ffpGetCounters _ r => r.wf
  | .nodeGetStatus _ r => r.wf
  | .timeGet _ r => r.wf
  | .timeGetConfig _ r => r.wf
  | .timeSetConfig _ r => r.wf
  | .timeSet _ r => r.wf
  | .timeStep _ r => r.wf
  | .timeReadCaptures _ r => r.wf
  | .twinHeartbeatTimer _ => true
  | .heartbeat _ head data => head.wf && decide (data.length ≤ 1440)
  | .twinSilence _ => true
  | .resign _ head => head.wf
  | .takeover _ cut => cut.wf
  | .twinAck _ head _ => head.wf
  | .twinAckTimeout _ => true
  | .journal _ head _ => head.wf
  | .energy _ head _ => head.wf
  | .retained _ head _ => head.wf
  | .plan _ head _ => head.wf
  | .modelState _ head _ => head.wf
  | .modelTables _ head _ => head.wf
  | .keyEpoch _ head _ => head.wf
  | .hello _ _ => true
  | .helloTimer _ => true
  | .helloReply _ _ => true
  | .helloConfirm _ head _ => head.wf
  | .twinRetry _ => true
  | .lineCycleEnd _ feed data cut => decide (feed < 5) && data.wf && cut.wf
  | .zcTimeout _ channel => decide (channel < 8)
  | .timerCycleEnd _ feed data cut => decide (feed < 5) && data.wf && cut.wf
  | .periodicSave _ cut => cut.wf
  | .thermalStep _ data cut => data.wf && cut.wf
  | .flowPulse _ input _ => decide (input < 8)
  | .busReading _ input _ => decide (input < 8)
  | .busTimeout _ input => decide (input < 8)
  | .elecGetConfig _ r => r.wf
  | .elecSetConfig _ r => r.wf
  | .elecReadValues _ r => r.wf
  | .elecReadRegisters _ r => r.wf
  | .elecGetStatus _ r => r.wf
  | .elecAcknowledgeLoss _ r => r.wf
  | .thermGetConfig _ r => r.wf
  | .thermSetConfig _ r => r.wf
  | .thermReadValues _ r => r.wf
  | .thermReadRegisters _ r => r.wf
  | .thermGetStatus _ r => r.wf
  | .thermReadChannels _ r => r.wf
  | .thermPutGlycol _ r => r.wf
  | .thermGetGlycol _ r => r.wf
  | .thermAcknowledgeLoss _ r => r.wf
  | .loopSample _ => true
  | .loopGetConfig _ r => r.wf
  | .loopSetConfig _ r => r.wf
  | .loopSetMode _ r => r.wf
  | .loopSetSetpoint _ r => r.wf
  | .loopSetOutput _ r => r.wf
  | .loopReadStatus _ r => r.wf
  | .loopReplicationTimer _ => true
  | .taskInput _ _ => true
  | .taskExecutionEnd _ _ fx => fx.wf
  | .taskOutput _ _ => true
  | .taskWatchdog _ _ => true
  | .teEvent _ _ caravan => decide (1 ≤ caravan ∧ caravan < 2 ^ 32)
  | .trap _ _ _ _ _ => true
  | .hwTimer _ _ => true
  | .holdLimit _ => true
  | .changeSwitch _ => true
  | .changeTimeout _ => true
  | .retainedRecordDurable _ => true
  | .programPutImage _ r => r.wf
  | .programCommitImage _ r => r.wf
  | .programGetInfo _ r => r.wf
  | .programSetMode _ r => r.wf
  | .programStep _ r => r.wf
  | .programGetStatus _ r => r.wf
  | .programReadVars _ r => r.wf
  | .programSetForce _ r => r.wf
  | .programReleaseForce _ r => r.wf
  | .programListForces _ r => r.wf
  | .programGetConfig _ r => r.wf
  | .programSetConfig _ r => r.wf
  | .axisMotionEnd _ _ => true
  | .stallCheck _ samples => decide (samples.Pairwise (fun a b => a.axis.val < b.axis.val))
  | .encError _ _ _ => true
  | .limitSwitch _ _ _ => true
  | .driverFault _ _ _ _ => true
  | .holdDelay _ _ => true
  | .standstillRecord _ _ => true
  | .axisGetConfig _ r => r.wf
  | .axisSetConfig _ r => r.wf
  | .axisSetMode _ r => r.wf
  | .axisMove _ r => r.wf
  | .axisHome _ r => r.wf
  | .axisClearFault _ r => r.wf
  | .axisReadStatus _ r => r.wf
  | .canFrameReceived _ _ frame _ _ => frame.wf
  | .canFrameTransmitted _ _ _ => true
  | .canPeriodicSend _ => true
  | .busOff _ _ => true
  | .busOffRecovery _ _ => true
  | .canTransceiverFault _ _ _ _ => true
  | .detectDwell _ _ => true
  | .detectTimeout _ _ => true
  | .mbusCycleInstant _ => true
  | .mbusReply _ reply => reply.wf
  | .mbusReplyTimeout _ => true
  | .mbusOvercurrent _ _ => true
  | .mbusPowerRetry _ => true
  | .canGetConfig _ r => r.wf
  | .canSetConfig _ r => r.wf
  | .canSetObjects _ r => r.wf
  | .canGetObjects _ r => r.wf
  | .canReadObjects _ r => r.wf
  | .canSend _ r => r.wf
  | .canDetectRate _ r => r.wf
  | .canRecover _ r => r.wf
  | .canGetStatus _ r => r.wf
  | .mbusGetConfig _ r => r.wf
  | .mbusSetConfig _ r => r.wf
  | .mbusReadRecords _ r => r.wf
  | .mbusGetStatus _ r => r.wf
  | .mbusTransact _ r => r.wf
  | .diLevelAccepted _ _ _ _ _ => true
  | .diOutOfBand _ _ _ _ _ => true
  | .diStuck _ _ => true
  | .chatterWindowEnd _ _ => true
  | .ainWindow _ _ _ _ => true
  | .doOverload _ _ _ => true
  | .doRetry _ _ => true
  | .doOpenTest _ _ _ _ _ => true
  | .aoutFault _ _ _ _ _ => true
  | .blockRemovalWindow _ _ => true
  | .blockReinsert _ _ => true
  | .keyMeasurement _ signals => signals.length == 8
  | .ioGetConfig _ r => r.wf
  | .ioSetConfig _ r => r.wf
  | .ioGetStatus _ r => r.wf
  | .ioReadCounters _ r => r.wf
  | .ioSetOutput _ r => r.wf
  | .ioClearOutput _ r => r.wf
  | .ioResetInterlock _ r => r.wf
  | .panelGetConfig _ r => r.wf
  | .panelSetConfig _ r => r.wf
  | .panelGetKeys _ r => r.wf
  | .panelSetLeds _ r => r.wf
  | .rtcSync _ => true
  | .calUpdate _ _ => true
  | .alarm _ index => decide (index < 4)
  | .periodicWake _ => true
  | .leap _ => true
  | .oscStopped _ => true
  | .vbatLow _ _ => true
  | .freezeTimeout _ => true
  | .rtcGetTime _ r => r.wf
  | .rtcStage _ r => r.wf
  | .rtcCommit _ r => r.wf
  | .rtcDiscard _ r => r.wf
  | .rtcSetAlarm _ r => r.wf
  | .rtcGetAlarms _ r => r.wf
  | .recorderTick _ => true
  | .ringWrite _ => true
  | .eventRead _ r => r.wf
  | .eventGetTrigger _ r => r.wf
  | .eventSetTrigger _ r => r.wf
  | .eventFire _ r => r.wf
  | .eventMark _ r => r.wf
  | .eventGetStatus _ r => r.wf
  | .tamperDetected _ _ => true
  | .tamperSourceClear _ _ => true
  | .keyUpdateCommit _ => true
  | .keyEpochSwitch _ => true
  | .overlapEnd _ => true
  | .debugExpiry _ => true
  | .secGetStatus _ r => r.wf
  | .secGetCertificate _ r => r.wf
  | .secAttest _ r => r.wf
  | .secListSlots _ r => r.wf
  | .secInstallAuthority _ r => r.wf
  | .secKeyUpdate _ r => r.wf
  | .secEnrolNode _ r => r.wf
  | .secSetKeyEpoch _ r => r.wf
  | .secGetTamperConfig _ r => r.wf
  | .secSetTamperConfig _ r => r.wf
  | .secRearm _ r => r.wf
  | .secGetDebugChallenge _ r => r.wf
  | .secOpenDebug _ r => r.wf
  | .secCloseDebug _ r => r.wf
  | .secRaiseMinVersion _ r => r.wf
  | .secPutServerChain _ r => r.wf
  | .secZeroise _ r => r.wf
  | .secSign _ r => r.wf
  | .sourceQualified _ _ _ _ => true
  | .sourceTrip _ _ _ => true
  | .qualificationLimit _ => true
  | .sourceRetry _ => true
  | .wtrRevert _ => true
  | .pllLocked _ => true
  | .clkGetConfig _ r => r.wf
  | .clkSetConfig _ r => r.wf
  | .clkGetStatus _ r => r.wf
  | .clkGetGates _ r => r.wf
  | .clkSetGate _ r => r.wf
  | .clkGetOscStart _ r => r.wf
  | .clkSetOscStart _ r => r.wf
  | .vinLow _ _ _ _ => true
  | .vinOvervoltage _ _ => true
  | .vinPresent _ _ _ facts => facts.wf
  | .lastGaspComplete _ cut _ _ => cut.wf
  | .orderlyPowerDown _ _ => true
  | .vdoLow _ _ _ => true
  | .vmotLow _ _ => true
  | .governorStepEntry _ _ => true
  | .governorStepExit _ _ _ => true
  | .coreUndervoltage _ _ _ => true
  | .wake _ _ _ => true
  | .vinLostInStandby _ _ _ => true
  | .holdMeasurement _ _ => true
  | .holdMeasurementEnd _ _ => true
  | .powerGetStatus _ r => r.wf
  | .powerSetState _ r cut => r.wf && cut.wf
  | .powerGetConfig _ r => r.wf
  | .powerSetConfig _ r => r.wf
  | .powerMeasureHoldup _ r => r.wf
  | .pinReset _ _ => true
  | .pciePerst _ => true
  | .resetRelease _ facts => facts.wf
  | .bootFailure _ _ => true
  | .roleResolution _ _ => true
  | .roleWaitTimeout _ => true
  | .unpairedStandbyTimeout _ cut => cut.wf
  | .plantStart _ => true
  | .trialTimeout _ => true
  | .trialConfirm _ => true
  | .tlsSessionEnd _ _ => true
  | .portLinkChange _ port _ => decide (1 ≤ port.val)
  | .ptpMessage _ port domain msg => decide (1 ≤ port ∧ port ≤ 10) && decide (domain < 256) && msg.wf
  | .canBusError _ _ _ => true
  | .supplyRestored _ _ _ => true
  | .holdReady _ _ => true
  | .modelActivationPassed _ => true
  | .zcReturned _ channel => decide (channel < 8)
  | .ledFault _ _ _ _ => true
  | .heartbeatCount _ => true

end Sys2Proof
end

