-- ==== Sys2Proof/Tests/Slice0.lean ====
section
/-! SUPPORT. Tests of the model: an ill-formed term for each check of WellFormed, results the spec's worked examples give, and for
every statement of the obligations a concrete state and operands that meet its hypotheses (witness_<statement>). -/

set_option maxRecDepth 100000
set_option Elab.async false
open Sys2Proof Sys2Proof.Machine

/-- A single module that is READY, its plant started, with nothing running. -/
def ready : State :=
  { win := { st := .ready }, boot := { restored := true, plant := true }, recorder := { ready := true }, elec := { running := true } }

/-- A request for mailbox 0 from the host port with a payload. -/
def rq (p : Bytes) : Request :=
  { mbox := 0, flags := 0, tag := 0x51, check := 0, reserved := zeros 16, length := BitVec.ofNat 32 p.length, payload := p }

/-! ### Ill-formed terms, one for each check -/

/-- An FFP frame on port 1 with an empty body. -/
def okFrame : FfpFrame :=
  { port := 1, vid := none, rct := none, queued := 0, udpPort := 49312, udpLen := 40, sender := none, version := 1, type := 1, flags := 0, src := 5, dst := 0, keyEpoch := 1, seq := 1, length := 40, reserved := 0, body := [], tagOk := true }

/-- A record header with every field 0. -/
def okHead : RecordHead := { kind := 0, seq := 0, length := 0, address := 0, result := 0, reserved := 0 }

/-- A twin frame's header. -/
def okTwin : TwinHead := { item := 1, seq := 1, tagOk := true }

/-- Metering data of no samples. -/
def noFeed : FeedData := { samples := [], clipped := [], crossed := [], angles := [], latchAngles := [] }

/-- A reply with nothing decided. -/
def noReplan : ReplanResult :=
  { plants := [], stores := [], groups := [], pumps := [], relaxed := [], unserved := false, surplus := false, figures := [], ipmIter := 0, commitIter := 0, ergTime := 0 }

/-- A solve's figures, all empty. -/
def noSolve : SolveResult :=
  { pressures := [], pipes := [], elements := [], modes := [], estLimit := false, frozen := false, estIter := 0, newtonIter := 0, cgIter := 0, suspects := [], residuals := [], j := 0, times := [] }

/-- A start that finds everything whole. -/
def okStart : StartFacts :=
  { straps := 0, vbatKept := true, tcxo := some 5000, dram := true, cellar := true, defaulted := [], journal := [], ring := [], elecSaves := (true, true), thermSaves := (true, true), retained := true, program := true, published := true, plan := true, spares := 4 }

theorem test_wf_request_reserved : (Instr.systemEcho 0 { rq [] with reserved := [] }).wf = false := by decide
theorem test_wf_request_payload : ({ rq [] with payload := zeros 8161 } : Request).wf = false := by decide +kernel
theorem test_wf_request : (Instr.systemEcho 0 (rq [1, 2])).wf = true := by decide
theorem test_wf_record_field : (Instr.recordRead 0 .usb { okHead with kind := 256 }).wf = false := by decide
theorem test_wf_record_path : (Instr.recordRead 0 .host okHead).wf = false := by decide
theorem test_wf_record_ring_path : (Instr.recordRing 0 .host okHead).wf = false := by decide
theorem test_wf_record_data : (Instr.recordWrite 0 .usb okHead (zeros 8193)).wf = false := by decide +kernel
theorem test_wf_register_write_empty : (Instr.registerWrite 0 0x100 []).wf = false := by decide
theorem test_wf_interrupt_block_offset : (Instr.interruptBlockWrite 0 0x1000 0).wf = false := by decide
theorem test_wf_interrupt_block_alignment : (Instr.interruptBlockWrite 0 2 0).wf = false := by decide
theorem test_wf_qspi_part : (Instr.qspiWordCut 0 0 (zeros 4)).wf = false := by decide
theorem test_wf_tls_chain :
    (Instr.tlsHandshake 0 { tls13 := true, suite := true, group := true, scheme := true, certificate := true, resumption := false, anchored := true, chain := [], intermediate := true, usage := true }).wf = false := by decide
theorem test_wf_ffp_port : (Instr.telemetry 0 { okFrame with port := 11 }).wf = false := by decide
theorem test_wf_ffp_type : (Instr.nak 0 { okFrame with type := 256 }).wf = false := by decide
theorem test_wf_ffp_epoch : (Instr.report 0 { okFrame with keyEpoch := 2 ^ 32 }).wf = false := by decide
theorem test_wf_twin_item : (Instr.resign 0 { okTwin with item := 2 ^ 32 }).wf = false := by decide
theorem test_wf_heartbeat_length : (Instr.heartbeat 0 okTwin (zeros 1441)).wf = false := by decide +kernel
theorem test_wf_feed_clipped : (Instr.lineCycleEnd 0 0 { noFeed with clipped := [24] } {}).wf = false := by decide
theorem test_wf_feed_crossed : (Instr.lineCycleEnd 0 0 { noFeed with crossed := [8] } {}).wf = false := by decide
theorem test_wf_feed_index : (Instr.timerCycleEnd 0 5 noFeed {}).wf = false := by decide
theorem test_wf_line_feed_index : (Instr.lineCycleEnd 0 5 noFeed {}).wf = false := by decide
theorem test_wf_cut_feed : (Instr.mailboxTake 0 { feeds := [(5, noFeed)] }).wf = false := by decide
theorem test_wf_therm_currents : (Instr.thermalStep 0 { rtd := [], currents := List.replicate 9 [] } {}).wf = false := by decide
theorem test_wf_zc_channel : (Instr.zcTimeout 0 8).wf = false := by decide
theorem test_wf_zc_returned : (Instr.zcReturned 0 8).wf = false := by decide
theorem test_wf_flow_input : (Instr.flowPulse 0 8 0).wf = false := by decide
theorem test_wf_task_caravan : (Instr.taskExecutionEnd 0 0 { time := 1, aborts := [0] }).wf = false := by decide
theorem test_wf_can_identifier :
    (Instr.canFrameReceived 0 0 { id := 2 ^ 11, ide := false, fd := false, brs := false, remote := false, data := [] } 0 .idle).wf = false := by decide
theorem test_wf_can_length :
    (Instr.canFrameReceived 0 0 { id := 1, ide := false, fd := false, brs := false, remote := false, data := zeros 9 } 0 .idle).wf = false := by decide
theorem test_wf_mbus_length : (Instr.mbusReply 0 { bytes := zeros 262, whole := true, collision := false, began := 0 }).wf = false := by decide
theorem test_wf_solve_mode : (Instr.solveComplete 0 { noSolve with modes := [256] }).wf = false := by decide
theorem test_wf_warm_mode : (Instr.warmStartComplete 0 { iterations := 0, converged := true, mass := 0, head := 0, result := { noSolve with modes := [256] } }).wf = false := by decide
theorem test_wf_replan_twice : (Instr.replanComplete 0 { noReplan with pumps := [(1, []), (1, [])] }).wf = false := by decide
theorem test_wf_fit_width : (Instr.storeFitComplete 0 { kappa := 2 ^ 32, loss := 0, spread := 0, rms := 0 }).wf = false := by decide
theorem test_wf_ptp_class : (Instr.ptpMessage 0 1 0 (.announce 0 256 none false false)).wf = false := by decide
theorem test_wf_ptp_port : (Instr.ptpMessage 0 0 0 .followUp).wf = false := by decide
theorem test_wf_start_twice : (Instr.resetRelease 0 { okStart with journal := [1, 1] }).wf = false := by decide
theorem test_wf_start : (Instr.resetRelease 0 okStart).wf = true := by decide
theorem test_wf_caravan_zero : (Instr.decisionDurable 0 0).wf = false := by decide
theorem test_wf_retry_zero : (Instr.caravanRetry 0 0).wf = false := by decide
theorem test_wf_deadline_zero : (Instr.stageDeadline 0 0).wf = false := by decide
theorem test_wf_confirm_wide : (Instr.confirmWindowEnd 0 (2 ^ 32)).wf = false := by decide
theorem test_wf_orphan_zero : (Instr.orphanInstant 0 0).wf = false := by decide
theorem test_wf_te_zero : (Instr.teEvent 0 0 0).wf = false := by decide
theorem test_wf_silent_node : (Instr.nodeSilence 0 0xFFFE).wf = false := by decide
theorem test_wf_sync_uplink : (Instr.sync 0 2 0 0).wf = false := by decide
theorem test_wf_stall_order :
    (Instr.stallCheck 0 [{ axis := 2, count := 0, index := none }, { axis := 1, count := 0, index := none }]).wf = false := by decide
theorem test_wf_key_signals : (Instr.keyMeasurement 0 []).wf = false := by decide
theorem test_wf_alarm_index : (Instr.alarm 0 4).wf = false := by decide
theorem test_wf_link_port : (Instr.portLinkChange 0 0 { up := true, amplitude := false, polarity := false, synce := false }).wf = false := by decide

/-! ### Results the spec's worked examples give -/

/-- 41,000 in a payload (00, R12's example). -/
theorem test_little_endian : le 4 41000 = [0x28, 0xA0, 0x00, 0x00] ∧ le 2 1212 = [0xBC, 0x04] := by decide

/-- A module at stepping B2 with firmware 4.1.0 (02, System-Identify's example). -/
theorem test_identify_bytes :
    (identBytes { ready with sys := { ready.sys with steppingLetter := 0x42, steppingDigit := 2, fwMajor := 4, fwMinor := 1, fwPatch := 0 } }).take 6 =
      [0x42, 0x02, 0x04, 0x01, 0x00, 0x00] := by decide

/-- Error statuses (02, after the reasons; 04, CONFLICT; 13, BAD_TIMING). -/
theorem test_error_status :
    errorStatus 0x0402 0x02 = 0x8402 ∧ errorStatus 0x1103 0x02 = 0x9102 ∧ errorStatus 0x0502 0x0A = 0x850A ∧ errorStatus 0x0902 0x20 = 0x8920 ∧
      errorStatus 0x1202 0x09 = 0x9209 := by decide

/-- 700 of the Attic's 1,088 blocks (02, the Attic read-out's table). -/
theorem test_permille : permilleOf 700 1088 = 643 := by decide

/-- Two channel entries of a TELEMETRY body: 72.5 °C at the base time and 24,000 W 250 µs earlier (07, R243's example). -/
theorem test_channel_entries :
    f32Rat (fld [0x01, 0x00, 0x00, 0x00, 0x00, 0x00, 0x91, 0x42] 4 4) = 145 / 2 ∧ sfld [0x02, 0x00, 0x06, 0xFF, 0x00, 0x80, 0xBB, 0x46] 2 2 = -250 ∧
      f32Rat (fld [0x02, 0x00, 0x06, 0xFF, 0x00, 0x80, 0xBB, 0x46] 4 4) = 24000 := by decide +kernel

/-- W with the default settings is 500 ms (07, R243's example). -/
theorem test_push_window : pushWindow ready = 500 := by decide +kernel

/-- INCR of a TCXO 12.5 ppm fast lies inside the servo's range and reads 7 and 0xFFF9_724D (07, R233's example). -/
theorem test_servo_increment :
    clampIncr (8 * 2 ^ 32 - 429491) / 2 ^ 32 = 7 ∧ clampIncr (8 * 2 ^ 32 - 429491) % 2 ^ 32 = 0xFFF9724D := by decide

/-- Eight BCD digits at VIF 0x13 (13, the M-Bus example): 12,345.678 m³. -/
theorem test_mbus_record :
    vifScale 0x13 = some (3, -3) ∧ dataLength 0x0C = some 4 ∧ bcdValue [0x78, 0x56, 0x34, 0x12] = 12345678 ∧
      mbusValue 0x0C [0x78, 0x56, 0x34, 0x12] (-3) = 0x40C81CD6C8B43958 := by decide +kernel

/-- A reply may take 187.5 ms at 2,400 baud, and five characters of a REQ_UD2 take 22.917 ms (13, R397). -/
theorem test_mbus_times : replyLimit 0 2400 = 187500000 ∧ bitTimes 55 2400 = 22916666 := by decide

/-- A WIRE_CHECK input below 0.10 VDO is OPEN (14, the pulled block's step 1). -/
theorem test_wire_check_open : judgePad [1, 0, 0, 0, 0, 0, 0, 0] 100 24000 = .fault 1 := by decide

/-- A forward adjustment of 2,000 s over three instances of a quarter-hourly alarm (15, R443's example, step 1). -/
theorem test_alarm_passed_over :
    (let s := adjustRtc (11900 * 32768) { ready with rtc := { ready.rtc with ticks := 9900 * 32768, alarms := [(0, { enable := true, repeatS := 900, seconds := 10000 })] } }
     (tabGet ({} : Alarm) s.rtc.alarms 0 : Alarm)) = { enable := true, fired := true, skipped := true, missed := 2, repeatS := 900, seconds := 12700 } := by
  decide +kernel

/-- The PRF input of block 1 for node 0x0312 at key epoch 7 (16, R472's example): its context and its 23 bytes. -/
theorem test_node_key_context :
    be 4 1 ++ ascii "FFP-NODE" ++ [0] ++ (le 2 0x0312 ++ le 4 7) ++ be 4 256 =
      [0, 0, 0, 1, 0x46, 0x46, 0x50, 0x2D, 0x4E, 0x4F, 0x44, 0x45, 0, 0x12, 0x03, 0x07, 0, 0, 0, 0, 0, 1, 0] := by decide +kernel

/-- No row of the table has bits, so no word spells a command. -/
theorem test_no_word_decodes (n w : Nat) : decodeTableWord n w = none := rfl

/-- C_HOLD of 2,150 µF gives E_AVAIL 1.8199 J (18, the power cut's example); it is the discharge of 64.5 ms. -/
theorem test_hold_energy : holdFigures 64500000 = (2150, 1819.8675) := by decide +kernel

/-! ### HostSide -/

namespace HostSide

def s1 : State := { ready with pending := [.doorbell 5 3, .hostControl 1 2] }

def s2 : State := { ready with sys := { sessions := [(0, { mbox := 49, lastRecord := 0 })] } }

def s3 : State := { ready with win := { ready.win with complete := 7 } }

def s4 : State := { ready with win := { ready.win with eventStatus := 0x7FF } }

def s5 : State := { ready with win := { ready.win with progressDone := BitVec.allOnes 256 } }

def s6 : State := { ready with win := { ready.win with qspi := true } }

def s7 : State := { ready with win := { ready.win with accessFault := 5 } }

def s8 : State := { ready with win := { ready.win with qspi := true, writeError := true } }

def usbUp : State := { ready with panel := { attached := true }, win := { ready.win with assign := 0x5555555555555555, effAssign := 0x5555555555555555 } }

def hd (kind len addr : Nat) : RecordHead := { kind := kind, seq := 3, length := len, address := addr, result := 0, reserved := 0 }

def s9 : State := { usbUp with win := { usbUp.win with busy := 0x80000000 } }

def certs : List CertFacts := [{ algorithms := true, notBefore := 0, notAfter := 2 ^ 62 }]

def offer : TlsOffer := { tls13 := true, suite := true, group := true, scheme := true, certificate := true, resumption := false, anchored := true, chain := certs, intermediate := true, usage := true }

def tlsReady : State := { ready with win := { ready.win with hostControl := 0x300 }, sec := { slots := [(3, { state := 1 })] }, tb := { state := 2 } }

def s10 : TlsSession := { mbox := 0, lastRecord := 0 }

def s11 : State := { tlsReady with tb := { now := 300000000000 }, sys := { sessions := [(0, { mbox := 0, lastRecord := 0 })] } }

def s12 : State := { tlsReady with sys := { sessions := [(0, { mbox := 0, lastRecord := 0 })] } }

def s13 : State := { ready with panel := { unstable := true } }

def s14 : State := { ready with power := { standby := some { from_ := 0 } } }

def s15 : State := { usbUp with panel := { attached := true, detaches := [0, 0] } }

def s16 : State := { ready with tb := { now := 60000000000 }, panel := { unstable := true, detaches := [0] } }

def s17 : State := { ready with tb := { now := 10000000 } }

def s18 : State := { ready with power := { off := true } }

def s19 : Instr := (.systemIdentify 0 { rq [] with path := .usb })

def s20 : Request := { rq [] with path := .usb }

def s21 : State := { ready with win := { ready.win with busy := 1 } }

def s22 : State := { ready with win := { ready.win with st := .fatal } }

def s23 : State := { ready with win := { ready.win with st := .booting } }

def tk : Taken := { code := 1, flags := 0, tag := 7, path := .host, payload := [] }

def s24 : Instr := (.systemIdentify 0 { rq [] with flags := 1 })

def s25 : Request := { rq [] with flags := 1 }

def s26 : State := { ready with win := { ready.win with taken := [(9, tk)] } }

/-- What meets the hypotheses of StepRunsTheFrontCommand, clause by clause. -/
theorem witness_StepRunsTheFrontCommand :
    (s1.pending = [Instr.doorbell 5 3, Instr.hostControl 1 2]) ∧
    (ready.pending = []) := by
  decide +kernel

/-- What meets the hypotheses of HostWordWritesReachTheirRegisters, clause by clause. -/
theorem witness_HostWordWritesReachTheirRegisters :
    (windowUp (advance 3 ready) = true) ∧
    (windowUp (advance 3 s2) = true) ∧
    (windowUp (advance 3 s3) = true) ∧
    (windowUp (advance 3 s4) = true) ∧
    (windowUp (advance 3 s5) = true) ∧
    (28 % 4 = 0 ∧ (28 = 28 ∨ 96 ≤ 28) ∧ 28 < 4096 ∧ windowUp (advance 3 ready) = true) ∧
    (96 % 4 = 0 ∧ (96 = 28 ∨ 96 ≤ 96) ∧ 96 < 4096 ∧ windowUp (advance 3 ready) = true) ∧
    (4092 % 4 = 0 ∧ (4092 = 28 ∨ 96 ≤ 4092) ∧ 4092 < 4096 ∧ windowUp (advance 3 ready) = true) := by
  refine ⟨?_, ?_, ?_, ?_, ?_, ?_, ?_, ?_⟩ <;> decide +kernel

/-- What meets the hypotheses of HostByteWritesLandInRequestAreas, clause by clause. -/
theorem witness_HostByteWritesLandInRequestAreas :
    (8192 ≤ 1048575 ∧ Memory.wf ready.win.mem = true ∧ ready.win.qspi = false ∧ 1048576 < 1048575 + [1, 2].length) := by
  decide +kernel

/-- What meets the hypotheses of HostPortDiscardsAndAnswers, clause by clause. -/
theorem witness_HostPortDiscardsAndAnswers :
    (8191 < 8192 ∧ (8191 % 4 ≠ 0 ∨ [1].length % 4 ≠ 0) ∧ 8191 + [1].length ≤ 1048576 ∧ (windowUp (advance 0 s6) = true ∧ (advance 0 s6).win.qspi = true)) ∧
    (4098 < 8192 ∧ (4098 % 4 ≠ 0 ∨ [1, 2, 3, 4].length % 4 ≠ 0) ∧ 4098 + [1, 2, 3, 4].length ≤ 1048576 ∧ (windowUp (advance 0 ready) = true ∧ (advance 0 ready).win.qspi = false)) ∧
    (4096 < 8192 ∧ (4096 % 4 ≠ 0 ∨ [1, 2, 3].length % 4 ≠ 0) ∧ 4096 + [1, 2, 3].length ≤ 1048576 ∧ (windowUp (advance 0 s6) = true ∧ (advance 0 s6).win.qspi = true)) ∧
    (windowUp (advance 0 s7) = true) ∧
    ((windowUp (advance 0 s8) = true ∧ (advance 0 s8).win.qspi = true)) ∧
    (0 ≠ 11 ∧ 0 ≠ 2 ∧ 0 ≠ 235 ∧ 0 ≠ 56 ∧ 0 ≠ 5 ∧ (windowUp (advance 0 s6) = true ∧ (advance 0 s6).win.qspi = true)) := by
  refine ⟨?_, ?_, ?_, ?_, ?_, ?_⟩ <;> decide +kernel

/-- What meets the hypotheses of RecordsReachOnlyTheirOwnMailboxes, clause by clause. -/
theorem witness_RecordsReachOnlyTheirOwnMailboxes :
    ((hd 1 4 8188).result = 0 ∧ (hd 1 4 8188).reserved = 0 ∧ Path.usb ≠ Path.host ∧ (hd 1 4 8188).kind = 1 ∧ 1 ≤ (hd 1 4 8188).length ∧ (hd 1 4 8188).length ≤ 8192 ∧ (windowUp (advance 0 usbUp) = true ∧ pathLive Path.usb (advance 0 usbUp) = true ∧ ∀ (a : Nat), a ∈ span (hd 1 4 8188).address (hd 1 4 8188).length → readable Path.usb (touchTls Path.usb (advance 0 usbUp)) a = true)) ∧
    ((hd 1 1 8192).result = 0 ∧ (hd 1 1 8192).reserved = 0 ∧ Path.usb ≠ Path.host ∧ (hd 1 1 8192).kind = 1 ∧ 1 ≤ (hd 1 1 8192).length ∧ (hd 1 1 8192).length ≤ 8192 ∧ (windowUp (advance 0 usbUp) = true ∧ pathLive Path.usb (advance 0 usbUp) = true ∧ ∃ (a : Nat), a ∈ span (hd 1 1 8192).address (hd 1 1 8192).length ∧ readable Path.usb (touchTls Path.usb (advance 0 usbUp)) a = false)) ∧
    ((hd 2 2 532479).result = 0 ∧ (hd 2 2 532479).reserved = 0 ∧ Path.usb ≠ Path.host ∧ (hd 2 2 532479).kind = 2 ∧ 1 ≤ (hd 2 2 532479).length ∧ (hd 2 2 532479).length ≤ 8192 ∧ [1, 2].length = (hd 2 2 532479).length ∧ (windowUp (advance 0 usbUp) = true ∧ pathLive Path.usb (advance 0 usbUp) = true ∧ ∃ (a : Nat), a ∈ span (hd 2 2 532479).address (hd 2 2 532479).length ∧ recordWritable Path.usb (touchTls Path.usb (advance 0 usbUp)) a = false)) ∧
    ((hd 3 0 31).result = 0 ∧ (hd 3 0 31).reserved = 0 ∧ Path.usb ≠ Path.host ∧ (hd 3 0 31).kind = 3 ∧ (hd 3 0 31).length = 0 ∧ (windowUp (advance 0 usbUp) = true ∧ pathLive Path.usb (advance 0 usbUp) = true ∧ owns Path.usb (hd 3 0 31).address (touchTls Path.usb (advance 0 usbUp)) = true ∧ (advance 0 usbUp).win.busy.getLsbD (hd 3 0 31).address = false ∧ (advance 0 usbUp).win.rung.getLsbD (hd 3 0 31).address = false ∧ (advance 0 usbUp).win.st ≠ ModState.fatal)) ∧
    ((hd 3 0 31).result = 0 ∧ (hd 3 0 31).reserved = 0 ∧ Path.usb ≠ Path.host ∧ (hd 3 0 31).kind = 3 ∧ (hd 3 0 31).length = 0 ∧ (windowUp (advance 0 s9) = true ∧ pathLive Path.usb (advance 0 s9) = true ∧ owns Path.usb (hd 3 0 31).address (touchTls Path.usb (advance 0 s9)) = true ∧ (advance 0 s9).win.busy.getLsbD (hd 3 0 31).address = true)) := by
  refine ⟨?_, ?_, ?_, ?_, ?_⟩ <;> decide +kernel

/-- What meets the hypotheses of SessionsOpenAndEnd, clause by clause. -/
theorem witness_SessionsOpenAndEnd :
    ((serving (advance 0 tlsReady) = true ∧ (advance 0 tlsReady).win.hostControl.getLsbD 9 = true ∧ (advance 0 tlsReady).win.st ≠ ModState.tampered ∧ handshakeAlert offer (advance 0 tlsReady) = none ∧ freeTlsMailbox (advance 0 tlsReady) = some 28)) ∧
    ((tabGet? (advance 0 s11).sys.sessions 0 = some s10 ∧ s10.lastRecord + 300000000000 ≤ (advance 0 s11).tb.now)) ∧
    (tabGet? (advance 0 s12).sys.sessions 0 = some s10) ∧
    (((advance 0 ready).power.off = false ∧ (advance 0 ready).panel.attached = false ∧ (inStandby (advance 0 ready) && bit (fld (advance 0 ready).panel.cfg 9 1) 0) = false ∧ (if (advance 0 ready).panel.unstable = true then 2000 else 200) ≤ 200)) ∧
    (((advance 0 s13).power.off = false ∧ (advance 0 s13).panel.attached = false ∧ (inStandby (advance 0 s13) && bit (fld (advance 0 s13).panel.cfg 9 1) 0) = false ∧ (if (advance 0 s13).panel.unstable = true then 2000 else 200) ≤ 2000)) ∧
    (((advance 0 s14).power.off = false ∧ (advance 0 s14).panel.attached = false ∧ (inStandby (advance 0 s14) && bit (fld (advance 0 s14).panel.cfg 9 1) 0) = true ∧ (if (advance 0 s14).panel.unstable = true then 2000 else 200) ≤ 200)) ∧
    (20 ≤ 20 ∧ ((advance 0 usbUp).power.off = false ∧ (advance 0 usbUp).panel.attached = true ∧ ((advance 0 usbUp).panel.unstable = true ∨ (List.filter (fun (t : Nat) => decide ((advance 0 usbUp).tb.now ≤ t + 10000000000)) (advance 0 usbUp).panel.detaches).length < 2))) ∧
    (20 ≤ 20 ∧ ((advance 0 s15).power.off = false ∧ (advance 0 s15).panel.attached = true ∧ (advance 0 s15).panel.unstable = false ∧ 2 ≤ (List.filter (fun (t : Nat) => decide ((advance 0 s15).tb.now ≤ t + 10000000000)) (advance 0 s15).panel.detaches).length)) ∧
    (((advance 0 s16).panel.detaches.head? = some 0 ∧ (advance 0 s16).panel.unstable = true ∧ 0 + 60000000000 ≤ (advance 0 s16).tb.now)) ∧
    ((serving (advance 0 s17) = true ∧ (advance 0 s17).win.heartbeatAt + 10000000 ≤ (advance 0 s17).tb.now)) := by
  refine ⟨?_, ?_, ?_, ?_, ?_, ?_, ?_, ?_, ?_, ?_⟩ <;> decide +kernel

/-- What meets the hypotheses of RefusedRequestsAreAnsweredAndChangeNothing, clause by clause. -/
theorem witness_RefusedRequestsAreAnsweredAndChangeNothing :
    (commandRow (Instr.systemFreeRead 0 (rq [1])) = some (cmdSystemFreeRead, 0, rq [1]) ∧ taken cmdSystemFreeRead 0 (rq [1]) ready = true ∧ checkFailure cmdSystemFreeRead 0 (rq [1]) ready = some (3, 8)) := by
  and_intros <;> first | decide +kernel | rfl | simp

/-- What meets the hypotheses of UntakenRequestsWaitOrAreDiscarded, clause by clause. -/
theorem witness_UntakenRequestsWaitOrAreDiscarded :
    (commandRow (Instr.systemIdentify 0 (rq [])) = some (cmdSystemIdentify, 0, rq []) ∧ windowUp (advance 0 s18) = false) ∧
    (commandRow s19 = some (cmdSystemIdentify, 0, s20) ∧ windowUp (advance 0 ready) = true ∧ s20.path ≠ Path.host ∧ reaches s20.path 0 (advance 0 ready) = false) ∧
    (commandRow (Instr.systemIdentify 0 (rq [])) = some (cmdSystemIdentify, 0, rq []) ∧ windowUp (advance 0 s21) = true ∧ reaches (rq []).path 0 (advance 0 s21) = true ∧ s21.win.busy.getLsbD 0 = true) ∧
    (commandRow (Instr.systemIdentify 0 (rq [])) = some (cmdSystemIdentify, 0, rq []) ∧ reachable 0 (rq []) s22 = true ∧ s22.win.st = ModState.fatal) ∧
    (commandRow (Instr.systemIdentify 0 (rq [])) = some (cmdSystemIdentify, 0, rq []) ∧ reachable 0 (rq []) s23 = true ∧ s23.win.st ≠ ModState.fatal ∧ (s23.win.st = ModState.booting ∨ barrierHeld (rq []).path (rq []).flags.toNat (written cmdSystemIdentify 0 (rq []) s23) = true)) ∧
    (commandRow s24 = some (cmdSystemIdentify, 0, s25) ∧ reachable 0 s25 s26 = true ∧ s26.win.st ≠ ModState.fatal ∧ (s26.win.st = ModState.booting ∨ barrierHeld s25.path s25.flags.toNat (written cmdSystemIdentify 0 s25 s26) = true)) := by
  and_intros <;> first | decide +kernel | rfl | simp

end HostSide

/-! ### Module -/

namespace Module

def rd : State := { ready with sys := { readoutDone := some (64, [63]) } }

def op (e : Progress) : State := { ready with sys := { ops := [(255, e)] } }

def s1 : Progress := { state := 2 }

def s2 : State := (op { state := 2 })

def s3 : Progress := { code := 6 }

def s4 : State := (op { code := 6 })

def upd : FwUpdate := { entry := 0, slot := 1, bodyLength := 4, last := 0 }

def updS : State := { ready with sys := { fw := some upd, ops := [(0, { code := 6 })], slot1 := { body := [1, 2] } } }

def s5 : FwUpdate := { upd with bodyLength := 2 }

def s6 : State := { updS with sys := { updS.sys with fw := some { upd with bodyLength := 2 } } }

def s7 : FwUpdate := { upd with commit := some 0 }

def s8 : State := { updS with sys := { updS.sys with fw := some { upd with commit := some 0 }, slot1 := { header := zeros 256, body := [1,2] } } }

def s9 : State := { updS with sys := { updS.sys with fw := some { upd with commit := some 0 } } }

def facts : StartFacts := { straps := 7, vbatKept := true, tcxo := some 900, dram := true, cellar := true, defaulted := [], journal := [], ring := [], elecSaves := (true, true), thermSaves := (true, true), retained := true, program := true, published := false, plan := false, spares := 4 }

def s10 : State := { ready with sys := { fatalAt := some 0 }, win := { ready.win with st := .fatal } }

def s11 : State := { ready with sys := { resignAt := some 0 } }

def s12 : Readout := { entry := 0, total := 64 }

def s13 : State := { ready with sys := { readout := some { entry := 0, total := 64 }, ops := [(0, { code := 0x1202 })] } }

def img : ModelImage := {}

def ml : ModelLoad := { entry := 0, image := img, last := 0 }

def mlS : State := { ready with model := { load := some ml }, sys := { ops := [(0, { code := 0x0401 })] } }

def act : State := { ready with model := { active := some img } }

def s14 : ModelImage := { img with nodes := [zeros 32] }

def s15 : State := { ready with model := { active := some { img with nodes := [zeros 32] } } }

def s16 : ModelLoad := { ml with commit := some (0, 0) }

def s17 : State := { mlS with model := { load := some { ml with commit := some (0, 0) } } }

def s18 : ModelLoad := { ml with commit := some (1, 0) }

def s19 : State := { mlS with model := { load := some { ml with commit := some (1, 0) } } }

def atticS : State := let h := recordOf 252 [(0, 4, 0x43545441)]; { ready with sys := { atticHeader := h ++ le 4 (crc32c h) } }

def f0 : Nat := 0

def mhead : Bytes := recordOf 64 [(0, 4, 0x4C444F4D), (4, 2, 1), (0x0C, 4, 1), (0x10, 4, 2), (0x18, 4, 2), (0x2C, 4, 0x42A00000), (0x30, 4, 0x42200000), (0x38, 4, 4)]

def node (net fl : Nat) : Bytes := recordOf 16 [(0, 1, net), (1, 1, fl), (0x0C, 4, 0x49742400)]

def plantEl : Bytes := recordOf 48 [(0, 1, 3), (2, 2, 0xFFFF), (4, 4, 1), (8, 4, 0)]

def consEl : Bytes := recordOf 48 [(0, 1, 2), (2, 2, 0xFFFF), (4, 4, 0), (8, 4, 1)]

def small : ModelImage := { header := mhead, nodes := [node 0 1, node 1 0], elements := [plantEl, consEl] }

def ml2 : ModelLoad := { entry := 0, image := { header := mhead }, last := 0 }

def mlS2 : State := { ready with model := { load := some ml2 }, sys := { ops := [(0, { code := 0x0401 })] } }

def ml3 (c : Nat × Nat) : ModelLoad := { entry := 0, image := small, last := 0, commit := some c }

def mlS3 (c : Nat × Nat) : State := { ready with model := { load := some (ml3 c) }, sys := { ops := [(0, { code := 0x0401 })] } }

/-- What meets the hypotheses of SystemAndAtticClassesAnswer, clause by clause. -/
theorem witness_SystemAndAtticClassesAnswer :
    (accepts cmdSystemIdentify 0 (rq []) ready = true) ∧
    (accepts cmdSystemGetState 0 (rq []) ready = true) ∧
    (accepts cmdSystemEcho 0 (rq [1, 2, 3]) ready = true) ∧
    (accepts cmdSystemFreeRead 0 (rq (le 4 65280 ++ [1, 0, 0, 0])) ready = true) ∧
    (accepts cmdAtticGetHeader 0 (rq []) ready = true) ∧
    (accepts cmdAtticGetBlock 0 (rq (le 4 0)) rd = true ∧ ((judged cmdAtticGetBlock 0 (rq (le 4 0)) rd).sys.readoutDone == some (64, [63]) && !([63]).contains (fld (requestOf cmdAtticGetBlock 0 (rq (le 4 0)) rd).payload 0 4)) = true) ∧
    (accepts cmdAtticGetBlock 0 (rq (le 4 63)) rd = true ∧ ((judged cmdAtticGetBlock 0 (rq (le 4 63)) rd).sys.readoutDone == some (64, [63]) && [63].contains (fld (requestOf cmdAtticGetBlock 0 (rq (le 4 63)) rd).payload 0 4)) = true) ∧
    (accepts cmdSystemReleaseOperation 0 (rq [255, 0, 0, 0]) s2 = true ∧ (namedOp (requestOf cmdSystemReleaseOperation 0 (rq [255, 0, 0, 0]) s2) (judged cmdSystemReleaseOperation 0 (rq [255, 0, 0, 0]) s2) == some s1 && s1.state != 1) = true) ∧
    (accepts cmdSystemCancelOperation 0 (rq [255, 0, 0, 0]) s4 = true ∧ (namedOp (requestOf cmdSystemCancelOperation 0 (rq [255, 0, 0, 0]) s4) (judged cmdSystemCancelOperation 0 (rq [255, 0, 0, 0]) s4) == some s3 && s3.code != 774 && s3.state == 1 && !pastPoint (fld (requestOf cmdSystemCancelOperation 0 (rq [255, 0, 0, 0]) s4).payload 0 2) (judged cmdSystemCancelOperation 0 (rq [255, 0, 0, 0]) s4)) = true) ∧
    (accepts cmdSystemCancelOperation 0 (rq [255, 0, 0, 0]) s2 = true ∧ (namedOp (requestOf cmdSystemCancelOperation 0 (rq [255, 0, 0, 0]) s2) (judged cmdSystemCancelOperation 0 (rq [255, 0, 0, 0]) s2) == some s1 && s1.code != 774 && s1.state != 1) = true) ∧
    (accepts cmdSystemFirmwarePut 0 (rq ([0, 0, 0, 0] ++ le 4 2 ++ [2, 0, 0, 0, 5, 6])) updS = true ∧ (decide (namedFw (requestOf cmdSystemFirmwarePut 0 (rq ([0, 0, 0, 0] ++ le 4 2 ++ [2, 0, 0, 0, 5, 6])) updS) (judged cmdSystemFirmwarePut 0 (rq ([0, 0, 0, 0] ++ le 4 2 ++ [2, 0, 0, 0, 5, 6])) updS) = Sum.inr upd) && fld (requestOf cmdSystemFirmwarePut 0 (rq ([0, 0, 0, 0] ++ le 4 2 ++ [2, 0, 0, 0, 5, 6])) updS).payload 4 4 == List.length (fwSlot upd.slot (judged cmdSystemFirmwarePut 0 (rq ([0, 0, 0, 0] ++ le 4 2 ++ [2, 0, 0, 0, 5, 6])) updS)).body && decide (fld (requestOf cmdSystemFirmwarePut 0 (rq ([0, 0, 0, 0] ++ le 4 2 ++ [2, 0, 0, 0, 5, 6])) updS).payload 4 4 + fld (requestOf cmdSystemFirmwarePut 0 (rq ([0, 0, 0, 0] ++ le 4 2 ++ [2, 0, 0, 0, 5, 6])) updS).payload 8 2 ≤ upd.bodyLength)) = true) ∧
    (accepts cmdSystemFirmwareCommit 0 (rq [0, 0, 1, 0]) s6 = true ∧ (decide (namedFw (requestOf cmdSystemFirmwareCommit 0 (rq [0, 0, 1, 0]) s6) (judged cmdSystemFirmwareCommit 0 (rq [0, 0, 1, 0]) s6) = Sum.inr s5) && List.length (fwSlot s5.slot (judged cmdSystemFirmwareCommit 0 (rq [0, 0, 1, 0]) s6)).body == s5.bodyLength) = true) ∧
    (accepts cmdSystemFreeWrite 0 (rq (le 4 65535 ++ [1, 0, 0, 0, 9])) ready = true) ∧
    (accepts cmdAtticClear 0 (rq []) ready = true) ∧
    (accepts cmdAtticRead 0 (rq []) atticS = true ∧ (freeEntry (judged cmdAtticRead 0 (rq []) atticS) == some 0) = true) := by
  refine ⟨?_, ?_, ?_, ?_, ?_, ?_, ?_, ?_, ?_, ?_, ?_, ?_, ?_, ?_, ?_⟩ <;> decide +kernel

/-- What meets the hypotheses of FirmwareAndFatalEventsRun, clause by clause. -/
theorem witness_FirmwareAndFatalEventsRun :
    (((advance 0 s9).sys.fw = some s7 ∧ s7.commit = some 0)) ∧
    (upd.commit = none ∧ ((advance 60000000000 updS).sys.fw = some upd ∧ upd.last + 60000000000 ≤ (advance 60000000000 updS).tb.now)) ∧
    (7 ≠ 0 ∧ (keeperUp (advance 0 ready) = true ∧ (advance 0 ready).sys.fatalAt = none)) ∧
    ((keeperUp (advance 60000000 s10) = true ∧ (advance 60000000 s10).sys.fatalAt = some 0 ∧ 0 + 60000000 ≤ (advance 60000000 s10).tb.now ∧ onTrial (advance 60000000 s10) = false ∧ chooseSlot (restartKeeper facts (writeDump (advance 60000000 s10))) = Sum.inr (0, false))) ∧
    (((advance 100000000 s11).sys.resignAt = some 0 ∧ 0 + 100000000 ≤ (advance 100000000 s11).tb.now)) ∧
    ((advance 0 s13).sys.readout = some s12) := by
  refine ⟨?_, ?_, ?_, ?_, ?_, ?_⟩ <;> decide +kernel

/-- What meets the hypotheses of ModelLoadsAreStagedCheckedAndCommitted, clause by clause. -/
theorem witness_ModelLoadsAreStagedCheckedAndCommitted :
    (accepts cmdModelCommitLoad 0 (rq ([0, 0, 0, 0] ++ zeros 8)) mlS = true ∧ (decide (namedLoad (requestOf cmdModelCommitLoad 0 (rq ([0, 0, 0, 0] ++ zeros 8)) mlS) (judged cmdModelCommitLoad 0 (rq ([0, 0, 0, 0] ++ zeros 8)) mlS) = Sum.inr ml) && ml.image.count == fld ml.image.header 56 4) = true) ∧
    (accepts cmdModelGetInfo 0 (rq []) act = true ∧ ((judged cmdModelGetInfo 0 (rq []) act).model.active == some img) = true) ∧
    (accepts cmdModelGetInfo 0 (rq []) ready = true ∧ (judged cmdModelGetInfo 0 (rq []) ready).model.active.isNone = true) ∧
    (accepts cmdModelReadRows 0 (rq [1, 0, 1, 0, 0, 0, 0, 0]) s15 = true ∧ ((judged cmdModelReadRows 0 (rq [1, 0, 1, 0, 0, 0, 0, 0]) s15).model.active == some s14 && decide (fld (requestOf cmdModelReadRows 0 (rq [1, 0, 1, 0, 0, 0, 0, 0]) s15).payload 4 4 + fld (requestOf cmdModelReadRows 0 (rq [1, 0, 1, 0, 0, 0, 0, 0]) s15).payload 2 2 ≤ (s14.table (fld (requestOf cmdModelReadRows 0 (rq [1, 0, 1, 0, 0, 0, 0, 0]) s15).payload 0 1)).length)) = true) ∧
    (((advance 0 s17).model.load = some s16 ∧ s16.commit = some (0, 0) ∧ s16.validated = false ∧ (validate s16.image (generation (advance 0 s17).model.active) (advance 0 s17)).isSome = true)) ∧
    (ml.commit = none ∧ ((advance 60000000000 mlS).model.load = some ml ∧ ml.last + 60000000000 ≤ (advance 60000000000 mlS).tb.now)) ∧
    (s18.commit = some (1, 0) ∧ ((advance 0 s19).model.load = some s18 ∧ 0 ≤ (advance 0 s19).zone + 10000000)) ∧
    (accepts cmdModelBeginLoad 0 (rq mhead) ready = true ∧ (freeEntry (judged cmdModelBeginLoad 0 (rq mhead) ready) == some 0) = true) ∧
    (accepts cmdModelPutRows 0 (rq (recordOf 12 [(2, 1, 1), (8, 2, 2)] ++ node 0 1 ++ node 1 0)) mlS2 = true ∧ (decide (namedLoad (requestOf cmdModelPutRows 0 (rq (recordOf 12 [(2, 1, 1), (8, 2, 2)] ++ node 0 1 ++ node 1 0)) mlS2) (judged cmdModelPutRows 0 (rq (recordOf 12 [(2, 1, 1), (8, 2, 2)] ++ node 0 1 ++ node 1 0)) mlS2) = Sum.inr ml2) && nextRow ml2.image == some (fld (requestOf cmdModelPutRows 0 (rq (recordOf 12 [(2, 1, 1), (8, 2, 2)] ++ node 0 1 ++ node 1 0)) mlS2).payload 2 1, fld (requestOf cmdModelPutRows 0 (rq (recordOf 12 [(2, 1, 1), (8, 2, 2)] ++ node 0 1 ++ node 1 0)) mlS2).payload 4 4) && decide (fld (requestOf cmdModelPutRows 0 (rq (recordOf 12 [(2, 1, 1), (8, 2, 2)] ++ node 0 1 ++ node 1 0)) mlS2).payload 4 4 + fld (requestOf cmdModelPutRows 0 (rq (recordOf 12 [(2, 1, 1), (8, 2, 2)] ++ node 0 1 ++ node 1 0)) mlS2).payload 8 2 ≤ rowsOf ml2.image.header (fld (requestOf cmdModelPutRows 0 (rq (recordOf 12 [(2, 1, 1), (8, 2, 2)] ++ node 0 1 ++ node 1 0)) mlS2).payload 2 1)) && (rowsFail ml2.image.header (fld (requestOf cmdModelPutRows 0 (rq (recordOf 12 [(2, 1, 1), (8, 2, 2)] ++ node 0 1 ++ node 1 0)) mlS2).payload 2 1) 12 (putRows (requestOf cmdModelPutRows 0 (rq (recordOf 12 [(2, 1, 1), (8, 2, 2)] ++ node 0 1 ++ node 1 0)) mlS2).payload)).isNone) = true) ∧
    (((advance 0 (mlS3 (1, 10000000))).model.load = some (ml3 (1, 10000000)) ∧ (ml3 (1, 10000000)).commit = some (1, 10000000) ∧ (ml3 (1, 10000000)).validated = false ∧ validate (ml3 (1, 10000000)).image (generation (advance 0 (mlS3 (1, 10000000))).model.active) (advance 0 (mlS3 (1, 10000000))) = none ∧ feedsTwin (advance 0 (mlS3 (1, 10000000))) = false ∧ (advance 0 (mlS3 (1, 10000000))).zone + 10000000 ≤ 10000000)) ∧
    (((advance 0 (mlS3 (0, 0))).model.load = some (ml3 (0, 0)) ∧ (ml3 (0, 0)).commit = some (0, 0) ∧ (ml3 (0, 0)).validated = false ∧ (ml3 (0, 0)).chosen = none ∧ validate (ml3 (0, 0)).image (generation (advance 0 (mlS3 (0, 0))).model.active) (advance 0 (mlS3 (0, 0))) = none ∧ feedsTwin (advance 0 (mlS3 (0, 0))) = false)) := by
  refine ⟨?_, ?_, ?_, ?_, ?_, ?_, ?_, ?_, ?_, ?_, ?_⟩ <;> decide +kernel

/-- A firmware image read back as it was written. -/
theorem witness_FirmwareAndFatalEventsRun_intact (h : fit 48 (Config.sha384 [1, 2]) = zeros 48) :
    (advance 0 s8).sys.fw = some s7 ∧ s7.commit = some 0 ∧
      slice (fwSlot s7.slot (advance 0 s8)).header 16 48 = fit 48 (Config.sha384 (fwSlot s7.slot (advance 0 s8)).body) := by
  refine ⟨by decide +kernel, by decide +kernel, ?_⟩
  rw [show (fwSlot s7.slot (advance 0 s8)).body = [1, 2] by decide +kernel, h]
  decide +kernel

end Module

/-! ### Solve -/

namespace Solve

def s1 : State := { ready with solver := { pend := some ([1], 5) } }

def img : ModelImage := { nodes := [zeros 16] }

def ps : PubState := { epoch := 0, nodes := [zeros 32], pipes := [], elements := [], bindings := [], stores := [] }

def pubS : State := { ready with model := { active := some img }, solver := { pub := some ps } }

def s2 : State := { ready with solver := { quarantine := [(7, 0)] } }

def solv : Solve := { t0 := 0, aligned := [], startedAt := 0, flat := true }

def solS : State := { pubS with solver := { run := some solv }, tb := { now := 120000000, zone32 := 120000000 * 2 ^ 32 } }

def sr : SolveResult := { pressures := [], pipes := [], elements := [], modes := [], estLimit := false, frozen := false, estIter := 0, newtonIter := 0, cgIter := 0, suspects := [], residuals := [], j := 0, times := [] }

def s3 : State := { solS with solver := { run := some solv, spares := 0 } }

def rp : Replan := { tr := 0, deadline := 0, due := 0, lin := 0, stepMs := 450000, horizon := 4, reconcile := false, flags := 0, model := img, inputs := { cfg := [], curves := [], series := [], storeModels := [] }, step1 := 0, layers := [], deferred := [] }

def s4 : State := { ready with opt := { run := some rp } }

def s5 : State := { ready with solver := { quarantine := [(7, 0)] }, tb := { now := 3600000000000 } }

def wrm : WarmStart := { entry := 0, mode := 0 }

def wrmS : State := { ready with solver := { warm := some wrm }, sys := { ops := [(0, { code := 0x0506 })] } }

def s6 : WarmResult := { iterations := 200, converged := true, mass := 0, head := 0, result := sr }

def s7 : WarmResult := { iterations := 200, converged := false, mass := 0, head := 0, result := sr }

def s8 : State := { ready with opt := { pend := some ([1], 5) } }

def plan : Plan := { basis := 0, publish := 0, lin := 0, step1 := 0, stepMs := 450000, horizon := 2, outcome := 1, units := [(0, [zeros 16, zeros 16, zeros 16])], pumps := [] }

def s9 : State := { ready with opt := { plan := some plan } }

def s10 : State := { ready with win := { ready.win with oasis := true }, opt := { outcome := 1 }, tb := { state := 2 }, net := { ports := [(1, { link := 1 })] } }

def stS : State := { ready with model := { active := some { elements := [recordOf 48 [(0,1,4)]] } } }

def due : State := { ready with tb := { zone32 := 60000000000 * 2 ^ 32 }, opt := { cfg := ready.opt.cfg } }

def s11 : ReplanResult := { plants := [], stores := [], groups := [], pumps := [], relaxed := [], unserved := false, surplus := false, figures := [], ipmIter := 0, commitIter := 0, ergTime := 0 }

def rr : ReplanResult := { plants := [], stores := [], groups := [], pumps := [], relaxed := [], unserved := false, surplus := false, figures := [], ipmIter := 0, commitIter := 0, ergTime := 0 }

def s12 : State := { ready with opt := { plan := some plan }, tb := { zone32 := 1800000000001 * 2 ^ 32 } }

def s13 : State := { ready with win := { ready.win with oasis := true }, opt := { oasisPhase := 1 }, tb := { zone32 := 900000000000 * 2 ^ 32 } }

def fitN : Fit := { entry := 0, store := 0, samples := 60 }

def s14 : FitResult := { kappa := 0, loss := 0, spread := 0, rms := 0 }

def s15 : Fit := { fitN with samples := 59 }

def s16 : State := { ready with opt := { fit := some { fitN with samples := 59 } }, sys := { ops := [(0, { code := 0x0608 })] } }

def s17 : State := { ready with opt := { fit := some fitN }, sys := { ops := [(0, { code := 0x0608 })] } }

/-- What meets the hypotheses of SolverClassAnswers, clause by clause. -/
theorem witness_SolverClassAnswers :
    (accepts cmdSolverGetConfig 0 (rq []) ready = true ∧ (judged cmdSolverGetConfig 0 (rq []) ready).solver.pend.isNone = true) ∧
    (accepts cmdSolverGetConfig 0 (rq []) s1 = true ∧ ((judged cmdSolverGetConfig 0 (rq []) s1).solver.pend == some ([1], 5)) = true) ∧
    (accepts cmdSolverSetConfig 0 (rq (recordOf 4 [(0, 4, 2000)] ++ List.drop 4 ready.solver.cfg)) ready = true ∧ ((epochFits (judged cmdSolverSetConfig 0 (rq (recordOf 4 [(0, 4, 2000)] ++ List.drop 4 ready.solver.cfg)) ready).opt.cfg (fld (requestOf cmdSolverSetConfig 0 (rq (recordOf 4 [(0, 4, 2000)] ++ List.drop 4 ready.solver.cfg)) ready).payload 0 4) && match (judged cmdSolverSetConfig 0 (rq (recordOf 4 [(0, 4, 2000)] ++ List.drop 4 ready.solver.cfg)) ready).opt.pend with | some (o, snd) => epochFits o (fld (requestOf cmdSolverSetConfig 0 (rq (recordOf 4 [(0, 4, 2000)] ++ List.drop 4 ready.solver.cfg)) ready).payload 0 4) | none => true) && (fld (requestOf cmdSolverSetConfig 0 (rq (recordOf 4 [(0, 4, 2000)] ++ List.drop 4 ready.solver.cfg)) ready).payload 0 4 == fld (judged cmdSolverSetConfig 0 (rq (recordOf 4 [(0, 4, 2000)] ++ List.drop 4 ready.solver.cfg)) ready).solver.cfg 0 4 || decide (nextGrid ((fld (judged cmdSolverSetConfig 0 (rq (recordOf 4 [(0, 4, 2000)] ++ List.drop 4 ready.solver.cfg)) ready).solver.cfg 0 4).lcm (fld (requestOf cmdSolverSetConfig 0 (rq (recordOf 4 [(0, 4, 2000)] ++ List.drop 4 ready.solver.cfg)) ready).payload 0 4) * 1000000) (judged cmdSolverSetConfig 0 (rq (recordOf 4 [(0, 4, 2000)] ++ List.drop 4 ready.solver.cfg)) ready).zone ≤ (judged cmdSolverSetConfig 0 (rq (recordOf 4 [(0, 4, 2000)] ++ List.drop 4 ready.solver.cfg)) ready).zone + 3600000000000))) = true) ∧
    (accepts cmdSolverGetStatus 0 (rq []) ready = true) ∧
    (accepts cmdSolverReadState 0 (rq [0, 0, 1, 0, 0, 0, 0, 0]) pubS = true ∧ ((judged cmdSolverReadState 0 (rq [0, 0, 1, 0, 0, 0, 0, 0]) pubS).solver.pub == some ps) = true) ∧
    (accepts cmdSolverReleaseBinding 0 (rq (le 4 7)) s2 = true ∧ (tabGet? (judged cmdSolverReleaseBinding 0 (rq (le 4 7)) s2).solver.quarantine (fld (requestOf cmdSolverReleaseBinding 0 (rq (le 4 7)) s2).payload 0 4)).isSome = true) ∧
    (accepts cmdSolverWarmStart 0 (rq [1, 0, 0, 0]) pubS = true ∧ (freeEntry (judged cmdSolverWarmStart 0 (rq [1, 0, 0, 0]) pubS) == some 0) = true) := by
  refine ⟨?_, ?_, ?_, ?_, ?_, ?_, ?_⟩ <;> decide +kernel

/-- What meets the hypotheses of SolverInstantsRun, clause by clause. -/
theorem witness_SolverInstantsRun :
    (((advance 0 solS).solver.run = some solv ∧ solv.t0 + 80000000 ≤ (advance 0 solS).zone)) ∧
    (((advance 0 solS).solver.run = some solv ∧ solv.t0 + 120000000 ≤ (advance 0 solS).zone)) ∧
    (((advance 0 solS).solver.run = some solv ∧ (advance 0 solS).model.active = some img)) ∧
    (solv.restarted = false ∧ ((advance 0 solS).solver.run = some solv ∧ 0 < (advance 0 solS).solver.spares ∧ (advance 0 solS).solver.faulted = false)) ∧
    (((advance 0 s3).solver.run = some solv ∧ (solv.restarted = true ∨ (advance 0 s3).solver.spares = 0))) ∧
    ((advance 0 s4).opt.run.isSome = true) ∧
    ((tabGet? (advance 0 s5).solver.quarantine 7 = some 0 ∧ 0 + fld (advance 0 s5).solver.cfg 34 2 * 1000000000 ≤ (advance 0 s5).tb.now)) ∧
    (s6.converged = true ∧ ((advance 0 wrmS).solver.warm = some wrm ∧ s6.iterations ≤ fld (advance 0 wrmS).solver.cfg 84 2 ∧ f32Val s6.mass ≤ f32Rat (fld (advance 0 wrmS).solver.cfg 20 4) ∧ f32Val s6.head ≤ f32Rat (fld (advance 0 wrmS).solver.cfg 24 4))) ∧
    (s7.converged = false ∧ ((advance 0 wrmS).solver.warm = some wrm ∧ fld (advance 0 wrmS).solver.cfg 84 2 ≤ s7.iterations)) := by
  refine ⟨?_, ?_, ?_, ?_, ?_, ?_, ?_, ?_, ?_⟩ <;> decide +kernel

/-- What meets the hypotheses of OptimiserClassAnswers, clause by clause. -/
theorem witness_OptimiserClassAnswers :
    (accepts cmdOptimiserGetConfig 0 (rq []) ready = true ∧ (judged cmdOptimiserGetConfig 0 (rq []) ready).opt.pend.isNone = true) ∧
    (accepts cmdOptimiserGetConfig 0 (rq []) s8 = true ∧ ((judged cmdOptimiserGetConfig 0 (rq []) s8).opt.pend == some ([1], 5)) = true) ∧
    (accepts cmdOptimiserSetConfig 0 (rq ready.opt.cfg) ready = true ∧ (optFits (requestOf cmdOptimiserSetConfig 0 (rq ready.opt.cfg) ready).payload (judged cmdOptimiserSetConfig 0 (rq ready.opt.cfg) ready) && slice (requestOf cmdOptimiserSetConfig 0 (rq ready.opt.cfg) ready).payload 0 8 == slice (judged cmdOptimiserSetConfig 0 (rq ready.opt.cfg) ready).opt.cfg 0 8 && decide (nextGrid (replanNs (judged cmdOptimiserSetConfig 0 (rq ready.opt.cfg) ready)) (judged cmdOptimiserSetConfig 0 (rq ready.opt.cfg) ready).zone ≤ (judged cmdOptimiserSetConfig 0 (rq ready.opt.cfg) ready).zone + 86400000000000)) = true) ∧
    (accepts cmdOptimiserSetConfig 0 (rq (le 4 120000 ++ List.drop 4 ready.opt.cfg)) ready = true ∧ (optFits (requestOf cmdOptimiserSetConfig 0 (rq (le 4 120000 ++ List.drop 4 ready.opt.cfg)) ready).payload (judged cmdOptimiserSetConfig 0 (rq (le 4 120000 ++ List.drop 4 ready.opt.cfg)) ready) && slice (requestOf cmdOptimiserSetConfig 0 (rq (le 4 120000 ++ List.drop 4 ready.opt.cfg)) ready).payload 0 8 != slice (judged cmdOptimiserSetConfig 0 (rq (le 4 120000 ++ List.drop 4 ready.opt.cfg)) ready).opt.cfg 0 8 && decide (1800000000000 ≤ (judged cmdOptimiserSetConfig 0 (rq (le 4 120000 ++ List.drop 4 ready.opt.cfg)) ready).zone + 86400000000000) && 1800000000000 == nextGrid (((fld (requestOf cmdOptimiserSetConfig 0 (rq (le 4 120000 ++ List.drop 4 ready.opt.cfg)) ready).payload 0 4).lcm (fld (requestOf cmdOptimiserSetConfig 0 (rq (le 4 120000 ++ List.drop 4 ready.opt.cfg)) ready).payload 4 4)).lcm ((fld (judged cmdOptimiserSetConfig 0 (rq (le 4 120000 ++ List.drop 4 ready.opt.cfg)) ready).opt.cfg 0 4).lcm (fld (judged cmdOptimiserSetConfig 0 (rq (le 4 120000 ++ List.drop 4 ready.opt.cfg)) ready).opt.cfg 4 4)) * 1000000) (judged cmdOptimiserSetConfig 0 (rq (le 4 120000 ++ List.drop 4 ready.opt.cfg)) ready).zone) = true) ∧
    (accepts cmdOptimiserPutCurves 0 (rq ([255, 0, 1, 0] ++ recordOf 64 [(0, 1, 255)])) ready = true ∧ ((putCurves (requestOf cmdOptimiserPutCurves 0 (rq ([255, 0, 1, 0] ++ recordOf 64 [(0, 1, 255)])) ready).payload).zipIdx.all fun (e : Bytes × Nat) => (entryFail (fld (requestOf cmdOptimiserPutCurves 0 (rq ([255, 0, 1, 0] ++ recordOf 64 [(0, 1, 255)])) ready).payload 0 2 + e.snd) e.fst (judged cmdOptimiserPutCurves 0 (rq ([255, 0, 1, 0] ++ recordOf 64 [(0, 1, 255)])) ready)).isNone) = true) ∧
    (accepts cmdOptimiserPutSeries 0 (rq ([1, 0, 0, 0, 1, 0, 0, 0] ++ zeros 12)) ready = true ∧ (disorder 0 (putPoints (requestOf cmdOptimiserPutSeries 0 (rq ([1, 0, 0, 0, 1, 0, 0, 0] ++ zeros 12)) ready).payload)).isNone = true) ∧
    (accepts cmdOptimiserGetStatus 0 (rq []) ready = true) ∧
    (accepts cmdOptimiserReadPlan 0 (rq (recordOf 12 [(2, 2, 1), (4, 2, 2)])) s9 = true ∧ ((judged cmdOptimiserReadPlan 0 (rq (recordOf 12 [(2, 2, 1), (4, 2, 2)])) s9).opt.plan == some plan && tabGet? (if fld (requestOf cmdOptimiserReadPlan 0 (rq (recordOf 12 [(2, 2, 1), (4, 2, 2)])) s9).payload 0 1 = 0 then plan.units else plan.pumps) (fld (requestOf cmdOptimiserReadPlan 0 (rq (recordOf 12 [(2, 2, 1), (4, 2, 2)])) s9).payload 8 4) == some [zeros 16, zeros 16, zeros 16]) = true) ∧
    (accepts cmdOptimiserReconcile 0 (rq []) s10 = true) ∧
    (accepts cmdOptimiserFitStore 0 (rq (le 4 0 ++ le 4 604800)) stS = true ∧ (freeEntry (judged cmdOptimiserFitStore 0 (rq (le 4 0 ++ le 4 604800)) stS) == some 0 && isStore (fld (requestOf cmdOptimiserFitStore 0 (rq (le 4 0 ++ le 4 604800)) stS).payload 0 4) (judged cmdOptimiserFitStore 0 (rq (le 4 0 ++ le 4 604800)) stS)) = true) ∧
    (accepts cmdOptimiserGetStoreModel 0 (rq (le 4 0)) stS = true ∧ isStore (fld (requestOf cmdOptimiserGetStoreModel 0 (rq (le 4 0)) stS).payload 0 4) (judged cmdOptimiserGetStoreModel 0 (rq (le 4 0)) stS) = true) := by
  refine ⟨?_, ?_, ?_, ?_, ?_, ?_, ?_, ?_, ?_, ?_, ?_⟩ <;> decide +kernel

/-- What meets the hypotheses of OptimiserInstantsRun, clause by clause. -/
theorem witness_OptimiserInstantsRun :
    ((advance 0 s4).opt.suspended = false) ∧
    (((advance 0 s4).opt.run = some rp ∧ rp.deadline ≤ (advance 0 s4).zone)) ∧
    ((planBasis (advance 0 s12) = some 0 ∧ driving (advance 0 s12) = true ∧ (advance 0 s12).win.oasis = false ∧ 0 + fld (advance 0 s12).opt.cfg 24 4 * 1000000000 < (advance 0 s12).zone)) ∧
    ((driving (advance 5000000000 ready) = true ∧ switchUp (advance 5000000000 ready) = true ∧ uplinkAlive (advance 5000000000 ready) = false ∧ (advance 5000000000 ready).win.oasis = false)) ∧
    (((advance 0 s13).opt.oasisPhase = 1 ∧ driving (advance 0 s13) = true ∧ (advance 0 s13).opt.oasisEntry + fld (advance 0 s13).opt.cfg 28 4 * 1000000000 ≤ (advance 0 s13).zone)) ∧
    (s15.samples < 60 ∧ (advance 0 s16).opt.fit = some s15) ∧
    (60 ≤ fitN.samples ∧ ((advance 0 s17).opt.fit = some fitN ∧ storeBindings fitN.store (advance 0 s17) < 3)) := by
  refine ⟨?_, ?_, ?_, ?_, ?_, ?_, ?_⟩ <;> decide +kernel

end Solve

/-! ### Field -/

namespace Field

def at_ (n : Nat) : State := { ready with tb := { now := n, zone32 := n * 2 ^ 32 } }

def s1 : ModelImage := { nodes := [zeros 16] }

def s2 : State := { at_ 1000000000 with model := { active := some { nodes := [zeros 16] } } }

def s3 : State := { at_ 1000000000 with model := { active := some {} }, solver := { run := some { t0 := 0, aligned := [], startedAt := 0, flat := true } } }

def s4 : ModelImage := {}

def s5 : State := { at_ 60000000000 with model := { active := some {} }, opt := { solved := true, series := [(1 * 65536, [(0, 0)]), (2 * 65536, [(0,0)]), (3 * 65536, [(0,0)])] } }

def s6 : FitResult := { kappa := 0, loss := 0, spread := 0, rms := 0 }

def s7 : Fit := { entry := 0, store := 5, samples := 60 }

def s8 : State := { ready with opt := { fit := some { entry := 0, store := 5, samples := 60 } }, sys := { ops := [(0, { code := 0x0608 })] }, model := { active := some { sensors := List.replicate 3 (recordOf 28 [(0,1,3),(1,1,2),(4,4,5)]) } } }

def stage (fl n t : Nat) : Bytes := le 4 0 ++ le 2 fl ++ le 2 n ++ le 8 t

def tgt (k low : Nat) : Bytes := le 4 (k * 2 ^ 28 + low)

def s9 : State := { ready with car := { slots := [(0, { id := 3, origin := 1, tAct := 0, tStage := 0, lateMs := 0, confirmMs := 0, retryMs := 0 })], nextId := 4 } }

def car0 : Caravan := { id := 3, origin := 1, tAct := 600000000, tStage := 500000000, lateMs := 100, confirmMs := 2000, retryMs := 100 }

def carS (x : Caravan) : State := { ready with car := { slots := [(15, x)], nextId := 4 } }

def s10 : Caravan := { car0 with state := 1, isSealed := true }

def s11 : State := (carS { car0 with state := 1, isSealed := true })

def mem0 : Member := { target := 0x50000003, value := 0x3F800000 }

def s12 : Caravan := { car0 with members := [mem0] }

def s13 : State := (carS { car0 with members := [mem0] })

def linked : State := { ready with net := { cfg := le 8 5 ++ ready.net.cfg.drop 8, ports := [(3, { link := 1 }), (1, { link := 1 }), (2, { link := 1 })] }, sec := { slots := [(1, { state := 1 })] } }

def fr (type udp : Nat) (body : Bytes) : FfpFrame := { port := 3, vid := none, rct := none, queued := 0, udpPort := udp, udpLen := 40 + body.length, sender := some 7, version := 1, type := type, flags := 0, src := 7, dst := 0, keyEpoch := 1, seq := 1, length := body.length, reserved := 0, body := body, tagOk := true }

def carBody (msg n : Nat) (es : Bytes) : Bytes := recordOf 24 [(0,1,msg),(1,1,1),(2,1,n),(4,4,3)] ++ es

def dec (d : Option Nat) : Caravan := { car0 with state := 1, deciding := some d }

def s14 : Caravan := { car0 with state := 4 }

def s15 : State := { ready with car := { ended := [{ car0 with state := 4 }] } }

def s16 : State := (carS { car0 with state := 2, members := [mem0] })

def s17 : Caravan := { car0 with state := 2 }

def s18 : State := (carS { car0 with state := 2 })

def s19 : Caravan := { car0 with state := 2, members := [mem0] }

def s20 : Caravan := { car0 with state := 3, members := [mem0] }

def s21 : State := (carS { car0 with state := 3, members := [mem0] })

def s22 : FfpFrame := { fr 1 49312 [] with tagOk := false }

def s23 : Instr := (.nak 0 { fr 1 49312 [] with tagOk := false })

def s24 : FfpFrame := { fr 1 49312 [] with length := 1 }

def s25 : Instr := (.telemetry 0 { fr 1 49312 [] with length := 1 })

def src (n : BitVec 8) : State := { ready with tb := { cfg := [n] ++ ready.tb.cfg.drop 1 } }

def s26 : State := { ready with tb := { pendingStep := 5, fault := true } }

def wr : Write := { node := 7, entries := [(0, 5)], sends := 4, last := 0 }

def s27 : State := { linked with net := { linked.net with writes := [(2, wr)] } }

def s28 : Write := { wr with sends := 5 }

def s29 : State := { linked with net := { linked.net with writes := [(2, { wr with sends := 5 })] } }

def s30 : State := { linked with boot := { ready.boot with resolvedAt := some 0 } }

def s31 : State := { linked with boot := { ready.boot with resolvedAt := some 0 }, net := { linked.net with announced := some 0 } }

def s32 : Node := { state := 1 }

def s33 : State := { linked with net := { linked.net with nodes := [(7, { state := 1 })] } }

def s34 : PortLink := { up := true, amplitude := true, polarity := true, synce := false }

def s35 : State := { ready with net := { cfg := zeros 20 ++ [255] ++ ready.net.cfg.drop 21 } }

def s36 : PortLink := { up := true, amplitude := false, polarity := true, synce := true }

def s37 : PortLink := { up := true, amplitude := false, polarity := true, synce := false }

def s38 : State := { ready with tb := { state := 2, source := 1 } }

def s39 : State := { ready with tb := { source := 1, masters := [(0, { rank := 1, clockClass := 6, utc := none, leap61 := false, leap59 := false, at_ := 0 })] } }

def s40 : State := { ready with tb := { holdoverAt := some 0, state := 3 } }

def s41 : State := { src 1 with tb := { (src 1).tb with armed := some 9 } }

def s42 : State := { ready with tb := { cfg := ready.tb.cfg.take 14 ++ [2] ++ ready.tb.cfg.drop 15 } }

def s43 : State := { ready with rtc := { shadow := { cal := some 3 } } }

def s44 : State := { ready with tb := { state := 2 }, rtc := { calStart := some 0 } }

def s45 : State := { ready with rtc := { ticks := 32768, alarms := [(3, { enable := true, seconds := 1 })] } }

def s46 : State := { ready with rtc := { ticks := 65536, wakePeriod := 1, wakeSeen := 32768 } }

def s47 : State := { ready with rtc := { ticks := 65536, leapTime := 2, leapNew := 1 } }

def s48 : State := { ready with rtc := { oscStopped := false } }

/-- What meets the hypotheses of SolverInstantsRun, clause by clause. -/
theorem witness_SolverInstantsRun :
    ((keeperUp (advance 0 s2) = true ∧ awake (advance 0 s2) = true ∧ (advance 0 s2).solver.lastEpoch < (advance 0 s2).zone / epochNs (advance 0 s2) ∧ 0 < epochNs (advance 0 s2) ∧ have v := returnActive (applyNetConfig (applySolverConfig { pending := (advance 0 s2).pending, tb := (advance 0 s2).tb, win := (advance 0 s2).win, sys := (advance 0 s2).sys, rtc := (advance 0 s2).rtc, recorder := (advance 0 s2).recorder, model := (advance 0 s2).model, solver := have __src := (advance 0 s2).solver; { cfg := __src.cfg, pend := __src.pend, faulted := __src.faulted, run := __src.run, lastEpoch := (advance 0 s2).zone / epochNs (advance 0 s2), attempt := __src.attempt, outcome := __src.outcome, flags := __src.flags, estIter := __src.estIter, newtonIter := __src.newtonIter, cgIter := __src.cgIter, massResid := __src.massResid, headResid := __src.headResid, jFinal := __src.jFinal, dof := __src.dof, bindCounts := __src.bindCounts, nodesIsolated := __src.nodesIsolated, dpShort := __src.dpShort, parcels := __src.parcels, tolMul := __src.tolMul, times := __src.times, consec := __src.consec, spares := __src.spares, skipped := __src.skipped, published := __src.published, notConverged := __src.notConverged, hwRetries := __src.hwRetries, correctable := __src.correctable, pub := __src.pub, prev := __src.prev, sens := __src.sens, hydro := __src.hydro, iter := __src.iter, thermal := __src.thermal, thermTo := __src.thermTo, suspect := __src.suspect, quarantine := __src.quarantine, flatNext := __src.flatNext, warm := __src.warm, warmIter := __src.warmIter, history := __src.history, optCell := __src.optCell : Solver }, opt := (advance 0 s2).opt, car := (advance 0 s2).car, net := (advance 0 s2).net, twin := (advance 0 s2).twin, elec := (advance 0 s2).elec, therm := (advance 0 s2).therm, loops := (advance 0 s2).loops, prog := (advance 0 s2).prog, motion := (advance 0 s2).motion, buses := (advance 0 s2).buses, io := (advance 0 s2).io, panel := (advance 0 s2).panel, sec := (advance 0 s2).sec, clocks := (advance 0 s2).clocks, power := (advance 0 s2).power, boot := (advance 0 s2).boot, out := (advance 0 s2).out : State })); v.solver.run = none ∧ v.solver.optCell = false ∧ (swapDue ((advance 0 s2).zone / epochNs (advance 0 s2) * epochNs (advance 0 s2)) v).model.active = some s1 ∧ solverRuns (swapDue ((advance 0 s2).zone / epochNs (advance 0 s2) * epochNs (advance 0 s2)) v) = true)) ∧
    ((keeperUp (advance 0 s3) = true ∧ awake (advance 0 s3) = true ∧ (advance 0 s3).solver.lastEpoch < (advance 0 s3).zone / epochNs (advance 0 s3) ∧ 0 < epochNs (advance 0 s3) ∧ have v := returnActive (applyNetConfig (applySolverConfig { pending := (advance 0 s3).pending, tb := (advance 0 s3).tb, win := (advance 0 s3).win, sys := (advance 0 s3).sys, rtc := (advance 0 s3).rtc, recorder := (advance 0 s3).recorder, model := (advance 0 s3).model, solver := have __src := (advance 0 s3).solver; { cfg := __src.cfg, pend := __src.pend, faulted := __src.faulted, run := __src.run, lastEpoch := (advance 0 s3).zone / epochNs (advance 0 s3), attempt := __src.attempt, outcome := __src.outcome, flags := __src.flags, estIter := __src.estIter, newtonIter := __src.newtonIter, cgIter := __src.cgIter, massResid := __src.massResid, headResid := __src.headResid, jFinal := __src.jFinal, dof := __src.dof, bindCounts := __src.bindCounts, nodesIsolated := __src.nodesIsolated, dpShort := __src.dpShort, parcels := __src.parcels, tolMul := __src.tolMul, times := __src.times, consec := __src.consec, spares := __src.spares, skipped := __src.skipped, published := __src.published, notConverged := __src.notConverged, hwRetries := __src.hwRetries, correctable := __src.correctable, pub := __src.pub, prev := __src.prev, sens := __src.sens, hydro := __src.hydro, iter := __src.iter, thermal := __src.thermal, thermTo := __src.thermTo, suspect := __src.suspect, quarantine := __src.quarantine, flatNext := __src.flatNext, warm := __src.warm, warmIter := __src.warmIter, history := __src.history, optCell := __src.optCell : Solver }, opt := (advance 0 s3).opt, car := (advance 0 s3).car, net := (advance 0 s3).net, twin := (advance 0 s3).twin, elec := (advance 0 s3).elec, therm := (advance 0 s3).therm, loops := (advance 0 s3).loops, prog := (advance 0 s3).prog, motion := (advance 0 s3).motion, buses := (advance 0 s3).buses, io := (advance 0 s3).io, panel := (advance 0 s3).panel, sec := (advance 0 s3).sec, clocks := (advance 0 s3).clocks, power := (advance 0 s3).power, boot := (advance 0 s3).boot, out := (advance 0 s3).out : State })); v.solver.run.isSome = true ∧ v.solver.optCell = false)) := by
  decide +kernel

/-- What meets the hypotheses of OptimiserInstantsRun, clause by clause. -/
theorem witness_OptimiserInstantsRun :
    ((0 < replanNs (advance 0 s5) ∧ (advance 0 s5).opt.lastReplan < (advance 0 s5).zone / replanNs (advance 0 s5) ∧ have v := applyOptConfig (publishPlan { pending := (advance 0 s5).pending, tb := (advance 0 s5).tb, win := (advance 0 s5).win, sys := (advance 0 s5).sys, rtc := (advance 0 s5).rtc, recorder := (advance 0 s5).recorder, model := (advance 0 s5).model, solver := (advance 0 s5).solver, opt := have __src := (advance 0 s5).opt; { cfg := __src.cfg, pend := __src.pend, curves := __src.curves, series := __src.series, storeModels := __src.storeModels, demandHist := __src.demandHist, plan := __src.plan, ready := __src.ready, waiting := __src.waiting, run := __src.run, lastReplan := (advance 0 s5).zone / replanNs (advance 0 s5), lastStep := __src.lastStep, suspended := __src.suspended, outcome := __src.outcome, flags := __src.flags, ipmIter := __src.ipmIter, commitIter := __src.commitIter, figures := __src.figures, ergTime := __src.ergTime, ergPublished := __src.ergPublished, solveTimes := __src.solveTimes, published := __src.published, failed := __src.failed, undelivered := __src.undelivered, solved := __src.solved, oasisEntry := __src.oasisEntry, oasisCause := __src.oasisCause, oasisPhase := __src.oasisPhase, reconcileRun := __src.reconcileRun, reconcileDue := __src.reconcileDue, reconcileId := __src.reconcileId, heldStep := __src.heldStep, anchor := __src.anchor, fit := __src.fit, stalePlan := __src.stalePlan, repl := __src.repl : Optimiser }, car := (advance 0 s5).car, net := (advance 0 s5).net, twin := (advance 0 s5).twin, elec := (advance 0 s5).elec, therm := (advance 0 s5).therm, loops := (advance 0 s5).loops, prog := (advance 0 s5).prog, motion := (advance 0 s5).motion, buses := (advance 0 s5).buses, io := (advance 0 s5).io, panel := (advance 0 s5).panel, sec := (advance 0 s5).sec, clocks := (advance 0 s5).clocks, power := (advance 0 s5).power, boot := (advance 0 s5).boot, out := (advance 0 s5).out : State }); v.opt.run = none ∧ v.win.power = PowerState.active ∧ driving v = true ∧ v.opt.solved = true ∧ safeStart v = false ∧ v.model.active = some s4 ∧ inputsThere s4 v = true)) ∧
    ((0 < planStepNs (advance 0 (at_ 450000000000)) ∧ (advance 0 (at_ 450000000000)).opt.lastStep < (advance 0 (at_ 450000000000)).zone / planStepNs (advance 0 (at_ 450000000000)) * planStepNs (advance 0 (at_ 450000000000)) ∧ have v := keepDemand ((advance 0 (at_ 450000000000)).zone / planStepNs (advance 0 (at_ 450000000000)) * planStepNs (advance 0 (at_ 450000000000))) { pending := (advance 0 (at_ 450000000000)).pending, tb := (advance 0 (at_ 450000000000)).tb, win := (advance 0 (at_ 450000000000)).win, sys := (advance 0 (at_ 450000000000)).sys, rtc := (advance 0 (at_ 450000000000)).rtc, recorder := (advance 0 (at_ 450000000000)).recorder, model := (advance 0 (at_ 450000000000)).model, solver := (advance 0 (at_ 450000000000)).solver, opt := have __src := (advance 0 (at_ 450000000000)).opt; { cfg := __src.cfg, pend := __src.pend, curves := __src.curves, series := __src.series, storeModels := __src.storeModels, demandHist := __src.demandHist, plan := __src.plan, ready := __src.ready, waiting := __src.waiting, run := __src.run, lastReplan := __src.lastReplan, lastStep := (advance 0 (at_ 450000000000)).zone / planStepNs (advance 0 (at_ 450000000000)) * planStepNs (advance 0 (at_ 450000000000)), suspended := __src.suspended, outcome := __src.outcome, flags := __src.flags, ipmIter := __src.ipmIter, commitIter := __src.commitIter, figures := __src.figures, ergTime := __src.ergTime, ergPublished := __src.ergPublished, solveTimes := __src.solveTimes, published := __src.published, failed := __src.failed, undelivered := __src.undelivered, solved := __src.solved, oasisEntry := __src.oasisEntry, oasisCause := __src.oasisCause, oasisPhase := __src.oasisPhase, reconcileRun := __src.reconcileRun, reconcileDue := __src.reconcileDue, reconcileId := __src.reconcileId, heldStep := __src.heldStep, anchor := __src.anchor, fit := __src.fit, stalePlan := __src.stalePlan, repl := __src.repl : Optimiser }, car := (advance 0 (at_ 450000000000)).car, net := (advance 0 (at_ 450000000000)).net, twin := (advance 0 (at_ 450000000000)).twin, elec := (advance 0 (at_ 450000000000)).elec, therm := (advance 0 (at_ 450000000000)).therm, loops := (advance 0 (at_ 450000000000)).loops, prog := (advance 0 (at_ 450000000000)).prog, motion := (advance 0 (at_ 450000000000)).motion, buses := (advance 0 (at_ 450000000000)).buses, io := (advance 0 (at_ 450000000000)).io, panel := (advance 0 (at_ 450000000000)).panel, sec := (advance 0 (at_ 450000000000)).sec, clocks := (advance 0 (at_ 450000000000)).clocks, power := (advance 0 (at_ 450000000000)).power, boot := (advance 0 (at_ 450000000000)).boot, out := (advance 0 (at_ 450000000000)).out : State }; driving v = true ∧ (v.win.power = PowerState.active ∨ v.win.power = PowerState.quiet))) ∧
    (60 ≤ s7.samples ∧ ((advance 0 s8).opt.fit = some s7 ∧ 3 ≤ storeBindings s7.store (advance 0 s8))) := by
  decide +kernel

/-- What meets the hypotheses of CaravanClassAnswers, clause by clause. -/
theorem witness_CaravanClassAnswers :
    (accepts cmdCaravanStage 0 (rq (stage 7 1 600000000 ++ le 4 1073741824 ++ le 4 1073741824)) ready = true ∧ ((fld (requestOf cmdCaravanStage 0 (rq (stage 7 1 600000000 ++ le 4 1073741824 ++ le 4 1073741824)) ready).payload 0 4 == 0 && !(stageEntries (requestOf cmdCaravanStage 0 (rq (stage 7 1 600000000 ++ le 4 1073741824 ++ le 4 1073741824)) ready).payload).any fun (e : Nat × Nat) => (judged cmdCaravanStage 0 (rq (stage 7 1 600000000 ++ le 4 1073741824 ++ le 4 1073741824)) ready).win.oasis && tgtKind e.fst == 1) && (findCar 0 (judged cmdCaravanStage 0 (rq (stage 7 1 600000000 ++ le 4 1073741824 ++ le 4 1073741824)) ready)).isNone && (busyEntry none (fld (requestOf cmdCaravanStage 0 (rq (stage 7 1 600000000 ++ le 4 1073741824 ++ le 4 1073741824)) ready).payload 8 8) [] (judged cmdCaravanStage 0 (rq (stage 7 1 600000000 ++ le 4 1073741824 ++ le 4 1073741824)) ready) (stageEntries (requestOf cmdCaravanStage 0 (rq (stage 7 1 600000000 ++ le 4 1073741824 ++ le 4 1073741824)) ready).payload) 0).isNone && !tooMany [] (stageEntries (requestOf cmdCaravanStage 0 (rq (stage 7 1 600000000 ++ le 4 1073741824 ++ le 4 1073741824)) ready).payload) && List.find? (fun (j : Nat) => (tabGet? (judged cmdCaravanStage 0 (rq (stage 7 1 600000000 ++ le 4 1073741824 ++ le 4 1073741824)) ready).car.slots j).isNone) (List.range 16) == some 0) = true) ∧
    (accepts cmdCaravanStage 0 (rq (stage 0 1 600000000 ++ le 4 268435457 ++ le 4 1073741824)) s9 = true ∧ ((fld (requestOf cmdCaravanStage 0 (rq (stage 0 1 600000000 ++ le 4 268435457 ++ le 4 1073741824)) s9).payload 0 4 == 0 && !(stageEntries (requestOf cmdCaravanStage 0 (rq (stage 0 1 600000000 ++ le 4 268435457 ++ le 4 1073741824)) s9).payload).any fun (e : Nat × Nat) => (judged cmdCaravanStage 0 (rq (stage 0 1 600000000 ++ le 4 268435457 ++ le 4 1073741824)) s9).win.oasis && tgtKind e.fst == 1) && (findCar 0 (judged cmdCaravanStage 0 (rq (stage 0 1 600000000 ++ le 4 268435457 ++ le 4 1073741824)) s9)).isNone && (busyEntry none (fld (requestOf cmdCaravanStage 0 (rq (stage 0 1 600000000 ++ le 4 268435457 ++ le 4 1073741824)) s9).payload 8 8) [] (judged cmdCaravanStage 0 (rq (stage 0 1 600000000 ++ le 4 268435457 ++ le 4 1073741824)) s9) (stageEntries (requestOf cmdCaravanStage 0 (rq (stage 0 1 600000000 ++ le 4 268435457 ++ le 4 1073741824)) s9).payload) 0).isNone && !tooMany [] (stageEntries (requestOf cmdCaravanStage 0 (rq (stage 0 1 600000000 ++ le 4 268435457 ++ le 4 1073741824)) s9).payload) && List.find? (fun (j : Nat) => (tabGet? (judged cmdCaravanStage 0 (rq (stage 0 1 600000000 ++ le 4 268435457 ++ le 4 1073741824)) s9).car.slots j).isNone) (List.range 16) == some 1) = true) ∧
    (accepts cmdCaravanStage 0 (rq (le 4 3 ++ le 2 1 ++ le 2 1 ++ le 8 0 ++ le 4 1342177283 ++ le 4 1065353216)) (carS car0) = true ∧ ((fld (requestOf cmdCaravanStage 0 (rq (le 4 3 ++ le 2 1 ++ le 2 1 ++ le 8 0 ++ le 4 1342177283 ++ le 4 1065353216)) (carS car0)).payload 0 4 != 0 && !(stageEntries (requestOf cmdCaravanStage 0 (rq (le 4 3 ++ le 2 1 ++ le 2 1 ++ le 8 0 ++ le 4 1342177283 ++ le 4 1065353216)) (carS car0)).payload).any fun (e : Nat × Nat) => (judged cmdCaravanStage 0 (rq (le 4 3 ++ le 2 1 ++ le 2 1 ++ le 8 0 ++ le 4 1342177283 ++ le 4 1065353216)) (carS car0)).win.oasis && tgtKind e.fst == 1) && carSlot (fld (requestOf cmdCaravanStage 0 (rq (le 4 3 ++ le 2 1 ++ le 2 1 ++ le 8 0 ++ le 4 1342177283 ++ le 4 1065353216)) (carS car0)).payload 0 4) (judged cmdCaravanStage 0 (rq (le 4 3 ++ le 2 1 ++ le 2 1 ++ le 8 0 ++ le 4 1342177283 ++ le 4 1065353216)) (carS car0)) == some (15, car0) && tabGet? (judged cmdCaravanStage 0 (rq (le 4 3 ++ le 2 1 ++ le 2 1 ++ le 8 0 ++ le 4 1342177283 ++ le 4 1065353216)) (carS car0)).car.slots 15 == some car0 && !car0.isSealed && car0.state == 0 && car0.deciding.isNone && (busyEntry (some car0.id) car0.tAct (List.map (fun (x : Member) => x.target) car0.members) (judged cmdCaravanStage 0 (rq (le 4 3 ++ le 2 1 ++ le 2 1 ++ le 8 0 ++ le 4 1342177283 ++ le 4 1065353216)) (carS car0)) (stageEntries (requestOf cmdCaravanStage 0 (rq (le 4 3 ++ le 2 1 ++ le 2 1 ++ le 8 0 ++ le 4 1342177283 ++ le 4 1065353216)) (carS car0)).payload) 0).isNone && !tooMany (List.map (fun (x : Member) => x.target) car0.members) (stageEntries (requestOf cmdCaravanStage 0 (rq (le 4 3 ++ le 2 1 ++ le 2 1 ++ le 8 0 ++ le 4 1342177283 ++ le 4 1065353216)) (carS car0)).payload)) = true) ∧
    (accepts cmdCaravanStage 0 (rq (le 4 3 ++ le 2 1 ++ le 2 0 ++ le 8 0)) (carS car0) = true ∧ ((fld (requestOf cmdCaravanStage 0 (rq (le 4 3 ++ le 2 1 ++ le 2 0 ++ le 8 0)) (carS car0)).payload 0 4 != 0 && !(stageEntries (requestOf cmdCaravanStage 0 (rq (le 4 3 ++ le 2 1 ++ le 2 0 ++ le 8 0)) (carS car0)).payload).any fun (e : Nat × Nat) => (judged cmdCaravanStage 0 (rq (le 4 3 ++ le 2 1 ++ le 2 0 ++ le 8 0)) (carS car0)).win.oasis && tgtKind e.fst == 1) && carSlot (fld (requestOf cmdCaravanStage 0 (rq (le 4 3 ++ le 2 1 ++ le 2 0 ++ le 8 0)) (carS car0)).payload 0 4) (judged cmdCaravanStage 0 (rq (le 4 3 ++ le 2 1 ++ le 2 0 ++ le 8 0)) (carS car0)) == some (15, car0) && tabGet? (judged cmdCaravanStage 0 (rq (le 4 3 ++ le 2 1 ++ le 2 0 ++ le 8 0)) (carS car0)).car.slots 15 == some car0 && !car0.isSealed && car0.state == 0 && car0.deciding.isNone && (busyEntry (some car0.id) car0.tAct (List.map (fun (x : Member) => x.target) car0.members) (judged cmdCaravanStage 0 (rq (le 4 3 ++ le 2 1 ++ le 2 0 ++ le 8 0)) (carS car0)) (stageEntries (requestOf cmdCaravanStage 0 (rq (le 4 3 ++ le 2 1 ++ le 2 0 ++ le 8 0)) (carS car0)).payload) 0).isNone && !tooMany (List.map (fun (x : Member) => x.target) car0.members) (stageEntries (requestOf cmdCaravanStage 0 (rq (le 4 3 ++ le 2 1 ++ le 2 0 ++ le 8 0)) (carS car0)).payload)) = true) ∧
    (accepts cmdCaravanCommit 0 (rq (le 4 3)) s11 = true ∧ (carSlot (fld (requestOf cmdCaravanCommit 0 (rq (le 4 3)) s11).payload 0 4) (judged cmdCaravanCommit 0 (rq (le 4 3)) s11) == some (15, s10) && s10.id == fld (requestOf cmdCaravanCommit 0 (rq (le 4 3)) s11).payload 0 4 && s10.origin == 1 && s10.standing == 0 && s10.state == 1) = true) ∧
    (accepts cmdCaravanAbort 0 (rq (le 4 3)) (carS car0) = true ∧ (carSlot (fld (requestOf cmdCaravanAbort 0 (rq (le 4 3)) (carS car0)).payload 0 4) (judged cmdCaravanAbort 0 (rq (le 4 3)) (carS car0)) == some (15, car0) && car0.id == fld (requestOf cmdCaravanAbort 0 (rq (le 4 3)) (carS car0)).payload 0 4 && car0.origin == 1 && car0.standing == 0) = true) ∧
    (accepts cmdCaravanGetStatus 0 (rq (le 4 3)) (carS car0) = true ∧ (findCar (fld (requestOf cmdCaravanGetStatus 0 (rq (le 4 3)) (carS car0)).payload 0 4) (judged cmdCaravanGetStatus 0 (rq (le 4 3)) (carS car0)) == some car0) = true) ∧
    (accepts cmdCaravanReadMembers 0 (rq (le 4 3 ++ le 2 0 ++ le 2 1)) s13 = true ∧ (findCar (fld (requestOf cmdCaravanReadMembers 0 (rq (le 4 3 ++ le 2 0 ++ le 2 1)) s13).payload 0 4) (judged cmdCaravanReadMembers 0 (rq (le 4 3 ++ le 2 0 ++ le 2 1)) s13) == some s12 && decide (fld (requestOf cmdCaravanReadMembers 0 (rq (le 4 3 ++ le 2 0 ++ le 2 1)) s13).payload 4 2 + fld (requestOf cmdCaravanReadMembers 0 (rq (le 4 3 ++ le 2 0 ++ le 2 1)) s13).payload 6 2 ≤ s12.members.length)) = true) ∧
    (accepts cmdCaravanList 0 (rq []) (carS car0) = true) ∧
    (accepts cmdCaravanGetConfig 0 (rq []) ready = true) ∧
    (accepts cmdCaravanSetConfig 0 (rq ready.car.cfg) ready = true ∧ leadFits (fld (requestOf cmdCaravanSetConfig 0 (rq ready.car.cfg) ready).payload 0 4) (judged cmdCaravanSetConfig 0 (rq ready.car.cfg) ready) = true) := by
  refine ⟨?_, ?_, ?_, ?_, ?_, ?_, ?_, ?_, ?_, ?_, ?_⟩ <;> decide +kernel

/-- What meets the hypotheses of CaravanMessagesAndTimersRun, clause by clause. -/
theorem witness_CaravanMessagesAndTimersRun :
    ((fr 16 49313 (carBody 2 0 [])).type = 16 ∧ caravanBody 2 (fr 16 49313 (carBody 2 0 [])) = true ∧ ((receiveFfp (fr 16 49313 (carBody 2 0 [])) (advance 0 linked)).snd = true ∧ nakHeader (fr 16 49313 (carBody 2 0 [])) (receiveFfp (fr 16 49313 (carBody 2 0 [])) (advance 0 linked)).fst = none)) ∧
    ((fr 16 49313 (carBody 5 0 [])).type = 16 ∧ caravanBody 5 (fr 16 49313 (carBody 5 0 [])) = true ∧ ((receiveFfp (fr 16 49313 (carBody 5 0 [])) (advance 0 linked)).snd = true ∧ nakHeader (fr 16 49313 (carBody 5 0 [])) (receiveFfp (fr 16 49313 (carBody 5 0 [])) (advance 0 linked)).fst = none)) ∧
    ((fr 16 49313 (carBody 6 1 (zeros 8))).type = 16 ∧ caravanBody 6 (fr 16 49313 (carBody 6 1 (zeros 8))) = true ∧ ((receiveFfp (fr 16 49313 (carBody 6 1 (zeros 8))) (advance 0 linked)).snd = true ∧ nakHeader (fr 16 49313 (carBody 6 1 (zeros 8))) (receiveFfp (fr 16 49313 (carBody 6 1 (zeros 8))) (advance 0 linked)).fst = none)) ∧
    ((fr 16 49313 (carBody 8 0 [])).type = 16 ∧ caravanBody 8 (fr 16 49313 (carBody 8 0 [])) = true ∧ ((receiveFfp (fr 16 49313 (carBody 8 0 [])) (advance 0 linked)).snd = true ∧ nakHeader (fr 16 49313 (carBody 8 0 [])) (receiveFfp (fr 16 49313 (carBody 8 0 [])) (advance 0 linked)).fst = none)) ∧
    ((carSlot 3 (advance 0 (carS (dec none))) = some (15, dec none) ∧ tabGet? (advance 0 (carS (dec none))).car.slots 15 = some (dec none) ∧ (dec none).deciding = some none ∧ (dec none).twinItem = none)) ∧
    ((carSlot 3 (advance 0 (carS (dec (some 2)))) = some (15, dec (some 2)) ∧ tabGet? (advance 0 (carS (dec (some 2)))).car.slots 15 = some (dec (some 2)) ∧ (dec (some 2)).deciding = some (some 2) ∧ (dec (some 2)).twinItem = none)) ∧
    ((carSlot 3 (advance 100000000 (carS car0)) = some (15, car0) ∧ car0.lastSend + car0.retryMs * 1000000 ≤ (advance 100000000 (carS car0)).tb.now)) ∧
    ((carSlot 3 (advance 100000000 s15) = none ∧ findCar 3 (advance 100000000 s15) = some s14 ∧ s14.lastSend + s14.retryMs * 1000000 ≤ (advance 100000000 s15).tb.now)) ∧
    ((carSlot 3 (advance 500000000 (carS car0)) = some (15, car0) ∧ car0.standing = 0 ∧ car0.tStage ≤ (advance 500000000 (carS car0)).zone)) ∧
    ((dueCaravans (advance 600000000 s16) ≠ [] ∧ engineRuns (advance 600000000 s16) = true ∧ driving (advance 600000000 s16) = true)) ∧
    ((carSlot 3 (advance 2600000000 s18) = some (15, s17) ∧ s17.state = 2 ∧ s17.tAct + s17.confirmMs * 1000000 ≤ (advance 2600000000 s18).zone ∧ (s17.members.all fun (x : Member) => x.resolved) = true)) ∧
    ((carSlot 3 (advance 2600000000 s16) = some (15, s19) ∧ s19.state = 2 ∧ s19.tAct + s19.confirmMs * 1000000 ≤ (advance 2600000000 s16).zone ∧ (s19.members.all fun (x : Member) => x.resolved) = false)) ∧
    ((carSlot 3 (advance 2700000000 s21) = some (15, s20) ∧ (s20.state = 2 ∨ s20.state = 3) ∧ s20.tAct + (s20.lateMs + s20.confirmMs) * 1000000 ≤ (advance 2700000000 s21).zone)) := by
  refine ⟨?_, ?_, ?_, ?_, ?_, ?_, ?_, ?_, ?_, ?_, ?_, ?_, ?_⟩ <;> decide +kernel

/-- What meets the hypotheses of FramesThatFailAreCountedAndIgnored, clause by clause. -/
theorem witness_FramesThatFailAreCountedAndIgnored :
    (s23 ∈ [Instr.telemetry 0 s22, Instr.writeAck 0 s22, Instr.nak 0 s22, Instr.announce 0 s22, Instr.caravanAck 0 s22, Instr.decisionAck 0 s22, Instr.report 0 s22, Instr.query 0 s22] ∧ (ffpOn (advance 0 linked) = true ∧ 1 ≤ s22.port ∧ s22.port ≤ 10 ∧ portUp s22.port (advance 0 linked) = true ∧ (s22.vid = none ∨ s22.vid = some (fld (advance 0 linked).net.cfg 8 2)) ∧ have v := setPort s22.port (fun (q : Port) => { link := q.link, reason := q.reason, polarity := q.polarity, rx := (q.rx + 1) % 2 ^ 32, tx := q.tx, rxErr := q.rxErr, disc := q.disc, dup := q.dup, meanPath := q.meanPath : Port }) (advance 0 linked); prpDuplicate s22 v = false ∧ discardReason s22 (have __src := prpEnter s22 v; { pending := __src.pending, tb := __src.tb, win := __src.win, sys := __src.sys, rtc := __src.rtc, recorder := __src.recorder, model := __src.model, solver := __src.solver, opt := __src.opt, car := __src.car, net := have __src := (prpEnter s22 v).net; { cfg := __src.cfg, pend := __src.pend, ports := __src.ports, nodes := __src.nodes, rxFrames := ((prpEnter s22 v).net.rxFrames + 1) % 2 ^ 32, txFrames := __src.txFrames, discards := __src.discards, nakSent := __src.nakSent, nakReceived := __src.nakReceived, undelivered := __src.undelivered, prpSeen := __src.prpSeen, senderEpoch := __src.senderEpoch, seqLow := __src.seqLow, nextWrite := __src.nextWrite, writes := __src.writes, delivery := __src.delivery, uplinkValid := __src.uplinkValid, announced := __src.announced, supervised := __src.supervised : Net }, twin := __src.twin, elec := __src.elec, therm := __src.therm, loops := __src.loops, prog := __src.prog, motion := __src.motion, buses := __src.buses, io := __src.io, panel := __src.panel, sec := __src.sec, clocks := __src.clocks, power := __src.power, boot := __src.boot, out := __src.out : State }) = some 7)) ∧
    (s25 ∈ [Instr.telemetry 0 s24, Instr.writeAck 0 s24, Instr.nak 0 s24, Instr.announce 0 s24, Instr.caravanAck 0 s24, Instr.decisionAck 0 s24, Instr.report 0 s24, Instr.query 0 s24] ∧ (ffpOn (advance 0 linked) = true ∧ 1 ≤ s24.port ∧ s24.port ≤ 10 ∧ portUp s24.port (advance 0 linked) = true ∧ (s24.vid = none ∨ s24.vid = some (fld (advance 0 linked).net.cfg 8 2)) ∧ have v := setPort s24.port (fun (q : Port) => { link := q.link, reason := q.reason, polarity := q.polarity, rx := (q.rx + 1) % 2 ^ 32, tx := q.tx, rxErr := q.rxErr, disc := q.disc, dup := q.dup, meanPath := q.meanPath : Port }) (advance 0 linked); prpDuplicate s24 v = false ∧ discardReason s24 (have __src := prpEnter s24 v; { pending := __src.pending, tb := __src.tb, win := __src.win, sys := __src.sys, rtc := __src.rtc, recorder := __src.recorder, model := __src.model, solver := __src.solver, opt := __src.opt, car := __src.car, net := have __src := (prpEnter s24 v).net; { cfg := __src.cfg, pend := __src.pend, ports := __src.ports, nodes := __src.nodes, rxFrames := ((prpEnter s24 v).net.rxFrames + 1) % 2 ^ 32, txFrames := __src.txFrames, discards := __src.discards, nakSent := __src.nakSent, nakReceived := __src.nakReceived, undelivered := __src.undelivered, prpSeen := __src.prpSeen, senderEpoch := __src.senderEpoch, seqLow := __src.seqLow, nextWrite := __src.nextWrite, writes := __src.writes, delivery := __src.delivery, uplinkValid := __src.uplinkValid, announced := __src.announced, supervised := __src.supervised : Net }, twin := __src.twin, elec := __src.elec, therm := __src.therm, loops := __src.loops, prog := __src.prog, motion := __src.motion, buses := __src.buses, io := __src.io, panel := __src.panel, sec := __src.sec, clocks := __src.clocks, power := __src.power, boot := __src.boot, out := __src.out : State }) = some 1)) ∧
    (Instr.announce 0 (fr 1 49312 []) ∈ [Instr.telemetry 0 (fr 1 49312 []), Instr.writeAck 0 (fr 1 49312 []), Instr.nak 0 (fr 1 49312 []), Instr.announce 0 (fr 1 49312 []), Instr.caravanAck 0 (fr 1 49312 []), Instr.decisionAck 0 (fr 1 49312 []), Instr.report 0 (fr 1 49312 []), Instr.query 0 (fr 1 49312 [])] ∧ (ffpOn (advance 0 ready) = false ∨ portUp (fr 1 49312 []).port (advance 0 ready) = false)) := by
  and_intros <;> first | decide +kernel | rfl | simp

/-- What meets the hypotheses of NetworkClassAnswers, clause by clause. -/
theorem witness_NetworkClassAnswers :
    (accepts cmdNetGetConfig 0 (rq []) ready = true) ∧
    (accepts cmdNetSetConfig 0 (rq linked.net.cfg) ready = true ∧ (decide (3 * fld (requestOf cmdNetSetConfig 0 (rq linked.net.cfg) ready).payload 11 1 ≤ fld (requestOf cmdNetSetConfig 0 (rq linked.net.cfg) ready).payload 12 1) && ((judged cmdNetSetConfig 0 (rq linked.net.cfg) ready).car.slots == [] || slice (requestOf cmdNetSetConfig 0 (rq linked.net.cfg) ready).payload 0 8 == slice (judged cmdNetSetConfig 0 (rq linked.net.cfg) ready).net.cfg 0 8 && slice (requestOf cmdNetSetConfig 0 (rq linked.net.cfg) ready).payload 8 2 == slice (judged cmdNetSetConfig 0 (rq linked.net.cfg) ready).net.cfg 8 2)) = true) ∧
    (accepts cmdPortGetStatus 0 (rq [10, 0, 0, 0]) linked = true) ∧
    (accepts cmdPortCableTest 0 (rq [3, 1, 0, 0]) linked = true ∧ (decide (3 ≤ fld (requestOf cmdPortCableTest 0 (rq [3, 1, 0, 0]) linked).payload 0 1) && (!portInUse (fld (requestOf cmdPortCableTest 0 (rq [3, 1, 0, 0]) linked).payload 0 1) (judged cmdPortCableTest 0 (rq [3, 1, 0, 0]) linked) || fld (requestOf cmdPortCableTest 0 (rq [3, 1, 0, 0]) linked).payload 1 1 != 0)) = true) ∧
    (accepts cmdFfpGetCounters 0 (rq []) linked = true) ∧
    (accepts cmdNodeGetStatus 0 (rq [0, 0, 1, 0]) linked = true) ∧
    (accepts cmdTimeGet 0 (rq []) ready = true) ∧
    (accepts cmdTimeGetConfig 0 (rq []) ready = true) ∧
    (accepts cmdTimeSetConfig 0 (rq ready.tb.cfg) ready = true ∧ (fld (judged cmdTimeSetConfig 0 (rq ready.tb.cfg) ready).tb.cfg 0 1 == fld (requestOf cmdTimeSetConfig 0 (rq ready.tb.cfg) ready).payload 0 1) = true) ∧
    (accepts cmdTimeSetConfig 0 (rq ([1] ++ List.drop 1 ready.tb.cfg)) ready = true ∧ (fld (judged cmdTimeSetConfig 0 (rq ([1] ++ List.drop 1 ready.tb.cfg)) ready).tb.cfg 0 1 != fld (requestOf cmdTimeSetConfig 0 (rq ([1] ++ List.drop 1 ready.tb.cfg)) ready).payload 0 1) = true) ∧
    (accepts cmdTimeSet 0 (rq (le 8 5 ++ le 4 999999999 ++ zeros 4)) (src 2) = true ∧ (fld (judged cmdTimeSet 0 (rq (le 8 5 ++ le 4 999999999 ++ zeros 4)) (src 2)).tb.cfg 0 1 == 2) = true) ∧
    (accepts cmdTimeSet 0 (rq (le 8 5 ++ zeros 8)) (src 1) = true ∧ (fld (judged cmdTimeSet 0 (rq (le 8 5 ++ zeros 8)) (src 1)).tb.cfg 0 1 == 1) = true) ∧
    (accepts cmdTimeStep 0 (rq []) s26 = true) ∧
    (accepts cmdTimeReadCaptures 0 (rq []) ready = true) := by
  refine ⟨?_, ?_, ?_, ?_, ?_, ?_, ?_, ?_, ?_, ?_, ?_, ?_, ?_, ?_⟩ <;> decide +kernel

/-- What meets the hypotheses of NetworkMessagesAndTimersRun, clause by clause. -/
theorem witness_NetworkMessagesAndTimersRun :
    ((fr 1 49312 (le 4 0 ++ zeros 20)).type = 1 ∧ true = true ∧ ((receiveFfp (fr 1 49312 (le 4 0 ++ zeros 20)) (advance 0 linked)).snd = true ∧ nakHeader (fr 1 49312 (le 4 0 ++ zeros 20)) (receiveFfp (fr 1 49312 (le 4 0 ++ zeros 20)) (advance 0 linked)).fst = none)) ∧
    ((fr 4 49312 (zeros 8)).type = 4 ∧ true = true ∧ ((receiveFfp (fr 4 49312 (zeros 8)) (advance 0 linked)).snd = true ∧ nakHeader (fr 4 49312 (zeros 8)) (receiveFfp (fr 4 49312 (zeros 8)) (advance 0 linked)).fst = none)) ∧
    ((fr 7 49312 (zeros 8)).type = 7 ∧ (receiveFfp (fr 7 49312 (zeros 8)) (advance 0 linked)).snd = true) ∧
    ((tabGet? (advance 50000000 s27).net.writes 2 = some wr ∧ wr.last + fld (advance 50000000 s27).net.cfg 14 2 * 1000000 ≤ (advance 50000000 s27).tb.now ∧ wr.sends ≤ fld (advance 50000000 s27).net.cfg 13 1)) ∧
    ((tabGet? (advance 50000000 s29).net.writes 2 = some s28 ∧ s28.last + fld (advance 50000000 s29).net.cfg 14 2 * 1000000 ≤ (advance 50000000 s29).tb.now ∧ fld (advance 50000000 s29).net.cfg 13 1 < s28.sends)) ∧
    ((speaks (advance 0 s30) = true ∧ (advance 0 s30).net.announced = none)) ∧
    ((speaks (advance 25000000 s31) = true ∧ (advance 25000000 s31).net.announced = some 0 ∧ 0 + 25000000 ≤ (advance 25000000 s31).tb.now)) ∧
    (1 ≤ 7 ∧ 7 ≤ 65533 ∧ (tabGet? (advance 10000000000 s33).net.nodes 7 = some s32 ∧ s32.state = 1 ∧ s32.heardAt + fld (advance 10000000000 s33).net.cfg 12 1 * epochNs (advance 10000000000 s33) ≤ (advance 10000000000 s33).tb.now)) ∧
    (3 ≤ 10 ∧ (switchUp (advance 0 s35) = true ∧ t1lEnabled 10 (advance 0 s35) = true ∧ (port 10 (advance 0 s35)).link ≠ 3)) ∧
    ((1 = 1 ∨ 1 = 2) ∧ s36.up = true ∧ s36.synce = true ∧ (switchUp (advance 0 ready) = true ∧ (port 1 (advance 0 ready)).link ≠ 3)) ∧
    ((2 = 1 ∨ 2 = 2) ∧ (s37.up && s37.synce) = false ∧ (switchUp (advance 0 ready) = true ∧ (port 2 (advance 0 ready)).link ≠ 3)) := by
  refine ⟨?_, ?_, ?_, ?_, ?_, ?_, ?_, ?_, ?_, ?_, ?_⟩ <;> decide +kernel

/-- What meets the hypotheses of TimeSourcesDriveTheServo, clause by clause. -/
theorem witness_TimeSourcesDriveTheServo :
    (1 < 2 ∧ timeBaseRuns (advance 0 ready) = true ∧ (fld ready.tb.cfg 0 1 ≠ 0 ∨ ready.tb.source ≠ 1 + 1)) ∧
    (((advance 4000000000 s38).tb.source ≠ 0 ∧ (advance 4000000000 s38).tb.lastSync + 4 * (advance 4000000000 s38).tb.syncInterval ≤ (advance 4000000000 s38).tb.now ∧ (advance 4000000000 s38).tb.state = 2)) ∧
    (((advance 0 s39).tb.source = 1 ∨ (advance 0 s39).tb.source = 2)) ∧
    (((advance 3600000000000 s40).tb.holdoverAt = some 0 ∧ (advance 3600000000000 s40).tb.state = 3 ∧ 0 + fld (advance 3600000000000 s40).tb.cfg 8 4 * 1000000000 ≤ (advance 3600000000000 s40).tb.now)) ∧
    ((serving (advance 0 linked) = true ∧ (advance 0 linked).win.role ≠ Role.standby ∧ (advance 0 linked).tb.t1lSync = none ∧ (advance 0 linked).tb.t1lAnnounce = none)) ∧
    ((timeBaseRuns (advance 0 ready) = true ∧ fld (advance 0 ready).tb.cfg 0 1 ≠ 1)) ∧
    ((timeBaseRuns (advance 0 s41) = true ∧ fld (advance 0 s41).tb.cfg 0 1 = 1 ∧ (advance 0 s41).tb.armed = some 9)) ∧
    ((timeBaseRuns (advance 0 s42) = true ∧ (advance 0 s42).tb.ppsOut ≠ some ((advance 0 s42).zone / 1000000000) ∧ fld (advance 0 s42).tb.cfg 14 1 = 2)) ∧
    (3 ≤ 3 ∧ timeBaseRuns (advance 0 ready) = true ∧ answersPdelay 3 (advance 0 ready) = true) := by
  refine ⟨?_, ?_, ?_, ?_, ?_, ?_, ?_, ?_, ?_⟩ <;> decide +kernel

/-- What meets the hypotheses of RtcCountsSyncsAndWakes, clause by clause. -/
theorem witness_RtcCountsSyncsAndWakes :
    (accepts cmdRtcGetTime 0 (rq []) ready = true) ∧
    (accepts cmdRtcStage 0 (rq (le 2 15 ++ zeros 34)) ready = true) ∧
    (accepts cmdRtcCommit 0 (rq []) s43 = true) ∧
    (accepts cmdRtcDiscard 0 (rq []) ready = true) ∧
    (accepts cmdRtcSetAlarm 0 (rq ([3, 3, 0, 0] ++ le 8 5 ++ zeros 8)) ready = true ∧ decide ((judged cmdRtcSetAlarm 0 (rq ([3, 3, 0, 0] ++ le 8 5 ++ zeros 8)) ready).rtc.ticks < fld (requestOf cmdRtcSetAlarm 0 (rq ([3, 3, 0, 0] ++ le 8 5 ++ zeros 8)) ready).payload 4 8 * 32768 + fld (requestOf cmdRtcSetAlarm 0 (rq ([3, 3, 0, 0] ++ le 8 5 ++ zeros 8)) ready).payload 12 2) = true) ∧
    (accepts cmdRtcGetAlarms 0 (rq []) ready = true) ∧
    ((timeBaseRuns (advance 0 ready) = true ∧ (advance 0 ready).rtc.lastSync ≠ some ((advance 0 ready).zone / 1000000000) ∧ ((advance 0 ready).zone - (advance 0 ready).rtc.ns : Int).natAbs ≤ 30518)) ∧
    ((timeBaseRuns (advance 0 (at_ 5000000000)) = true ∧ (advance 0 (at_ 5000000000)).rtc.lastSync ≠ some ((advance 0 (at_ 5000000000)).zone / 1000000000) ∧ 30518 < ((advance 0 (at_ 5000000000)).zone - (advance 0 (at_ 5000000000)).rtc.ns : Int).natAbs)) ∧
    (((advance 1024000000000 s44).tb.state = 2 ∧ (advance 1024000000000 s44).rtc.calStart = some 0 ∧ 0 + 1024000000000 ≤ (advance 1024000000000 s44).tb.now)) ∧
    (3 < 4 ∧ ((tabGet { : Alarm } (advance 0 s45).rtc.alarms 3).enable = true ∧ (tabGet { : Alarm } (advance 0 s45).rtc.alarms 3).seconds * 32768 + (tabGet { : Alarm } (advance 0 s45).rtc.alarms 3).subsec ≤ (advance 0 s45).rtc.ticks)) ∧
    ((wakesBetween (advance 0 s46).rtc.wakePeriod (advance 0 s46).rtc.wakeSeen (advance 0 s46).rtc.ticks ≠ 0 ∧ inStandby (advance 0 s46) = false)) ∧
    (((advance 0 s47).rtc.leapTime ≠ 0 ∧ (advance 0 s47).rtc.leapTime ≤ (advance 0 s47).rtc.ticks / 32768)) ∧
    ((advance 0 s48).rtc.oscStopped = false) ∧
    ((advance 0 ready).rtc.vbatLow ≠ true) := by
  refine ⟨?_, ?_, ?_, ?_, ?_, ?_, ?_, ?_, ?_, ?_, ?_, ?_, ?_, ?_⟩ <;> decide +kernel

end Field

/-! ### Plant -/

namespace Plant

def at_ (n : Nat) : State := { ready with tb := { now := n, zone32 := n * 2 ^ 32 } }

def rec0 : EvRec := { seq := 1, kind := 1, flags := 0, code := 0x0F05, time := 0, boot := 1, data := zeros 16, items := 2 }

def recS : State := { ready with recorder := { ready := true, nextWrite := 2, nextSeq := 2, ring := [(1, rec0)] } }

def trigS : State := { ready with recorder := { ready := true, triggers := [(127, { defn := recordOf 304 [(0,1,1)] })] } }

def ev (c : Nat) : Event := { code := c, time := 5, items := [] }

def s1 : State := { ready with recorder := { ready := true, span := [ev 9, ev 5, ev 9] } }

def s2 : State := { trigS with recorder := { trigS.recorder with span := [ev 9, ev 5], marks := [(0, 3, [1])] } }

def s3 : State := { ready with recorder := { ready := true, queue := [rec0], badSlots := [1, 2] } }

def s4 : State := { ready with win := { ready.win with power := .holdup } }

def th (b : Bool) : TwinHead := { item := 5, seq := 9, tagOk := b }

def tw (a : Bool) (r : List Nat) : State := { ready with twin := { keyed := true, wantActive := a, joined := true, received := r, unacked := [{ id := 5, type := 0x10, data := [], sent := 0 }] } }

def s5 : State := { tw false [] with twin := { (tw false []).twin with joined := false } }

def lost (l : Bool) : State := { tw false [] with twin := { (tw false []).twin with lostAt := some (0, l) }, win := { ready.win with role := .standby } }

def s6 : Cut := {}

def s7 : State := { lost true with sec := { tamper := .tripped } }

def hsS : State := { ready with twin := { nonce := some (zeros 32), resolve := 1, helloSent := some 0 }, sec := { slots := [(2, { state := 1 })] } , boot := { restored := true, resolvedAt := none } }

def s8 : State := { ready with twin := { resolve := 2 } }

def peerS (n : Nat) : State := { hsS with sys := { serial := n } }

def s9 : Bytes := (helloPayload (zeros 32) { ready with twin := { resolve := 3 }, sec := { slots := [(2, { state := 1 })] } })

def s10 : State := { ready with sys := { serial := 9 }, sec := { slots := [(2, { state := 1 })] }, twin := { nonce := some (zeros 32), resolve := 3 } }

def s11 : Bytes := (helloPayload (zeros 32) { peerS 9 with sec := {} })

def cf (a : Bool) : State := { hsS with twin := { hsS.twin with reply := some (helloPayload (zeros 32) hsS), confirmed := true, wantActive := a } }

def s12 : State := { ready with twin := { retryAt := some 0, resolve := 1 } }

def s13 : State := { ready with elec := { pend := some ([1], []) } }

def ecfg (w : Nat) : Bytes := patch ready.elec.cfg 784 (le 1 w)

def el (w : Nat) (f : Feed) : State := { ready with elec := { running := true, cfg := ecfg w, feeds := [(0, f)] } }

def s14 : State := (el 1 { latched := some (zeros 160) })

def s15 : State := (el 1 {})

def s16 : State := (el 1 { lost := true })

def tcfg : Bytes := patch (patch (patch (patch ready.therm.cfg 528 (le 1 1)) 272 (le 1 1)) 16 (le 2 0x201)) 32 (le 2 0x201)

def tl (p : Pair) : State := { ready with therm := { cfg := tcfg, pairs := [(0, p)] } }

def s17 : State := { ready with therm := { pend := some ([1], []) } }

def s18 : State := (tl { latched := some (zeros 64) })

def s19 : State := (tl {})

def s20 : State := (tl { lost := true })

def fdat : FeedData := { samples := [], clipped := [], crossed := [], angles := [], latchAngles := [] }

def s21 : State := (el 1 { last := some 0, first := some 0 })

def s22 : State := (el 1 { timer := true })

def s23 : State := { ready with elec := { running := true, vchan := [(7, { lost := true })] } }

def s24 : State := { el 1 { timer := true } with elec := { (el 1 { timer := true }).elec with vchan := [(0, { lost := true })] } }

def s25 : ThermData := { rtd := [], currents := [] }

def s26 : State := { tl {} with therm := { cfg := tcfg, stepDue := some 0 } }

def fl (k : Nat) (f : FlowIn) : State := { ready with therm := { cfg := patch ready.therm.cfg (272 + 224) (le 1 k), flows := [(7, f)] } }

def s27 : State := (fl 1 { lastEdge := some 0 })

def s28 : State := (fl 4 {})

def s29 : State := (fl 3 {})

def lrec : Bytes := recordOf 128 [(0,1,1),(4,4,10),(0x0C,1,2),(0x10,4,0),(0x0D,1,1),(0x18,4,0x3F800000),(0x20,4,0x3A83126F),(0x24,4,0x3A83126F),(0x28,4,3000),(0x2C,4,0x80000000),(0x30,4,0x7FFFFFFF),(0x38,4,10000),(0x54,4,5)]

def lp (l : Loop) : State := { ready with loops := { slots := [(511, l)] } }

def s30 : State := (lp { record := lrec, req := 1 })

def s31 : State := (lp { record := lrec, saturated := true })

def s32 : State := (lp { record := lrec })

def s33 : State := { lp { record := lrec } with twin := { keyed := true, wantActive := true } }

def s34 : Loop := { record := lrec, y := 0, spr := 0, pv := 0, ePrev := 0 }

def s35 : Loop := { record := lrec, y := 100, spr := 500, pv := 0, ePrev := 0 }

/-- What meets the hypotheses of RecorderReadsSetsAndFires, clause by clause. -/
theorem witness_RecorderReadsSetsAndFires :
    (accepts cmdEventRead 0 (rq (le 4 1 ++ [1, 0, 0, 0])) ready = true ∧ decide (0 ≤ toSigned 32 ((fld (requestOf cmdEventRead 0 (rq (le 4 1 ++ [1, 0, 0, 0])) ready).payload 0 4 + 2 ^ 32 - (judged cmdEventRead 0 (rq (le 4 1 ++ [1, 0, 0, 0])) ready).recorder.nextWrite % 2 ^ 32) % 2 ^ 32)) = true) ∧
    (accepts cmdEventRead 0 (rq (le 4 1 ++ [1, 0, 0, 0])) recS = true ∧ (have ahead := toSigned 32 ((fld (requestOf cmdEventRead 0 (rq (le 4 1 ++ [1, 0, 0, 0])) recS).payload 0 4 + 2 ^ 32 - (judged cmdEventRead 0 (rq (le 4 1 ++ [1, 0, 0, 0])) recS).recorder.nextWrite % 2 ^ 32) % 2 ^ 32); decide (ahead < 0) && 1 == max (max 1 ((judged cmdEventRead 0 (rq (le 4 1 ++ [1, 0, 0, 0])) recS).recorder.nextWrite - 8192)) (↑(judged cmdEventRead 0 (rq (le 4 1 ++ [1, 0, 0, 0])) recS).recorder.nextWrite + ahead).toNat) = true) ∧
    (accepts cmdEventRead 0 (rq (le 4 2147483650 ++ [1, 0, 0, 0])) recS = true ∧ (have ahead := toSigned 32 ((fld (requestOf cmdEventRead 0 (rq (le 4 2147483650 ++ [1, 0, 0, 0])) recS).payload 0 4 + 2 ^ 32 - (judged cmdEventRead 0 (rq (le 4 2147483650 ++ [1, 0, 0, 0])) recS).recorder.nextWrite % 2 ^ 32) % 2 ^ 32); decide (ahead < 0) && 1 == max (max 1 ((judged cmdEventRead 0 (rq (le 4 2147483650 ++ [1, 0, 0, 0])) recS).recorder.nextWrite - 8192)) (↑(judged cmdEventRead 0 (rq (le 4 2147483650 ++ [1, 0, 0, 0])) recS).recorder.nextWrite + ahead).toNat) = true) ∧
    (accepts cmdEventGetTrigger 0 (rq [127, 0, 0, 0]) ready = true) ∧
    (accepts cmdEventSetTrigger 0 (rq ([127, 0, 0, 0] ++ zeros 304)) ready = true) ∧
    (accepts cmdEventFire 0 (rq [127, 0, 0, 0]) trigS = true ∧ (fld (trigger (fld (requestOf cmdEventFire 0 (rq [127, 0, 0, 0]) trigS).payload 0 1) (judged cmdEventFire 0 (rq [127, 0, 0, 0]) trigS)).defn 0 1 != 0) = true) ∧
    (accepts cmdEventMark 0 (rq [1, 0, 0, 0, 65]) ready = true) ∧
    (accepts cmdEventGetStatus 0 (rq []) ready = true) := by
  refine ⟨?_, ?_, ?_, ?_, ?_, ?_, ?_, ?_⟩ <;> decide +kernel

/-- What meets the hypotheses of RecorderTicksAndWritesTheRing, clause by clause. -/
theorem witness_RecorderTicksAndWritesTheRing :
    ((recorderRuns (advance 1000000 s1) = true ∧ (advance 1000000 s1).recorder.lastTick < (advance 1000000 s1).tb.now / 1000000 ∧ (advance 1000000 s1).recorder.triggers = [] ∧ (advance 1000000 s1).recorder.marks = [] ∧ (advance 1000000 s1).recorder.fires = [])) ∧
    ((recorderRuns (advance 1000000 s2) = true ∧ (advance 1000000 s2).recorder.lastTick < (advance 1000000 s2).tb.now / 1000000)) ∧
    ((advance 0 ready).tb.now / 1000000 ≤ (advance 0 ready).recorder.lastTick) ∧
    ((recorderRuns (advance 0 s3) = true ∧ gaspPending (advance 0 s3) = false ∧ (advance 0 s3).recorder.queue = [rec0])) ∧
    (gaspPending (advance 0 s4) = true) := by
  refine ⟨?_, ?_, ?_, ?_, ?_⟩ <;> decide +kernel

/-- What meets the hypotheses of TwinItemsAreAppliedOnceAndAcknowledged, clause by clause. -/
theorem witness_TwinItemsAreAppliedOnceAndAcknowledged :
    ((Instr.journal 0 (th true) (zeros 80), 16, storeJournal (zeros 80)) ∈ [(Instr.journal 0 (th true) (zeros 80), 16, storeJournal (zeros 80)), (Instr.energy 0 (th true) (zeros 80), 17, storeEnergy (zeros 80)), (Instr.retained 0 (th true) (zeros 80), 18, storeRetained (zeros 80)), (Instr.plan 0 (th true) (zeros 80), 19, takePlan (zeros 80)), (Instr.modelTables 0 (th true) (zeros 80), 21, storeTables (zeros 80)), (Instr.keyEpoch 0 (th true) (zeros 80), 22, storeEpoch (zeros 80))] ∧ (th true).tagOk = true ∧ ((advance 0 (tw false [])).twin.keyed = true ∧ (advance 0 (tw false [])).twin.wantActive = false ∧ (advance 0 (tw false [])).twin.received.contains (th true).item = false ∧ (16 = 18 → wrongImage (zeros 80) (advance 0 (tw false [])) = false) ∧ (16 = 21 → modelRefused (zeros 80) (advance 0 (tw false [])) = false))) ∧
    ((Instr.energy 0 (th true) (zeros 80), 17, storeEnergy (zeros 80)) ∈ [(Instr.journal 0 (th true) (zeros 80), 16, storeJournal (zeros 80)), (Instr.energy 0 (th true) (zeros 80), 17, storeEnergy (zeros 80)), (Instr.retained 0 (th true) (zeros 80), 18, storeRetained (zeros 80)), (Instr.plan 0 (th true) (zeros 80), 19, takePlan (zeros 80)), (Instr.modelTables 0 (th true) (zeros 80), 21, storeTables (zeros 80)), (Instr.keyEpoch 0 (th true) (zeros 80), 22, storeEpoch (zeros 80))] ∧ (th true).tagOk = true ∧ ((advance 0 (tw false [])).twin.keyed = true ∧ (advance 0 (tw false [])).twin.wantActive = false ∧ (advance 0 (tw false [])).twin.received.contains (th true).item = false ∧ (17 = 18 → wrongImage (zeros 80) (advance 0 (tw false [])) = false) ∧ (17 = 21 → modelRefused (zeros 80) (advance 0 (tw false [])) = false))) ∧
    ((Instr.retained 0 (th true) (zeros 80), 18, storeRetained (zeros 80)) ∈ [(Instr.journal 0 (th true) (zeros 80), 16, storeJournal (zeros 80)), (Instr.energy 0 (th true) (zeros 80), 17, storeEnergy (zeros 80)), (Instr.retained 0 (th true) (zeros 80), 18, storeRetained (zeros 80)), (Instr.plan 0 (th true) (zeros 80), 19, takePlan (zeros 80)), (Instr.modelTables 0 (th true) (zeros 80), 21, storeTables (zeros 80)), (Instr.keyEpoch 0 (th true) (zeros 80), 22, storeEpoch (zeros 80))] ∧ (th true).tagOk = true ∧ ((advance 0 (tw false [])).twin.keyed = true ∧ (advance 0 (tw false [])).twin.wantActive = false ∧ (advance 0 (tw false [])).twin.received.contains (th true).item = false ∧ (18 = 18 → wrongImage (zeros 80) (advance 0 (tw false [])) = false) ∧ (18 = 21 → modelRefused (zeros 80) (advance 0 (tw false [])) = false))) ∧
    ((Instr.plan 0 (th true) (zeros 80), 19, takePlan (zeros 80)) ∈ [(Instr.journal 0 (th true) (zeros 80), 16, storeJournal (zeros 80)), (Instr.energy 0 (th true) (zeros 80), 17, storeEnergy (zeros 80)), (Instr.retained 0 (th true) (zeros 80), 18, storeRetained (zeros 80)), (Instr.plan 0 (th true) (zeros 80), 19, takePlan (zeros 80)), (Instr.modelTables 0 (th true) (zeros 80), 21, storeTables (zeros 80)), (Instr.keyEpoch 0 (th true) (zeros 80), 22, storeEpoch (zeros 80))] ∧ (th true).tagOk = true ∧ ((advance 0 (tw false [])).twin.keyed = true ∧ (advance 0 (tw false [])).twin.wantActive = false ∧ (advance 0 (tw false [])).twin.received.contains (th true).item = false ∧ (19 = 18 → wrongImage (zeros 80) (advance 0 (tw false [])) = false) ∧ (19 = 21 → modelRefused (zeros 80) (advance 0 (tw false [])) = false))) ∧
    ((Instr.modelTables 0 (th true) (zeros 64), 21, storeTables (zeros 64)) ∈ [(Instr.journal 0 (th true) (zeros 64), 16, storeJournal (zeros 64)), (Instr.energy 0 (th true) (zeros 64), 17, storeEnergy (zeros 64)), (Instr.retained 0 (th true) (zeros 64), 18, storeRetained (zeros 64)), (Instr.plan 0 (th true) (zeros 64), 19, takePlan (zeros 64)), (Instr.modelTables 0 (th true) (zeros 64), 21, storeTables (zeros 64)), (Instr.keyEpoch 0 (th true) (zeros 64), 22, storeEpoch (zeros 64))] ∧ (th true).tagOk = true ∧ ((advance 0 (tw false [])).twin.keyed = true ∧ (advance 0 (tw false [])).twin.wantActive = false ∧ (advance 0 (tw false [])).twin.received.contains (th true).item = false ∧ (21 = 18 → wrongImage (zeros 64) (advance 0 (tw false [])) = false) ∧ (21 = 21 → modelRefused (zeros 64) (advance 0 (tw false [])) = false))) ∧
    ((Instr.keyEpoch 0 (th true) (zeros 80), 22, storeEpoch (zeros 80)) ∈ [(Instr.journal 0 (th true) (zeros 80), 16, storeJournal (zeros 80)), (Instr.energy 0 (th true) (zeros 80), 17, storeEnergy (zeros 80)), (Instr.retained 0 (th true) (zeros 80), 18, storeRetained (zeros 80)), (Instr.plan 0 (th true) (zeros 80), 19, takePlan (zeros 80)), (Instr.modelTables 0 (th true) (zeros 80), 21, storeTables (zeros 80)), (Instr.keyEpoch 0 (th true) (zeros 80), 22, storeEpoch (zeros 80))] ∧ (th true).tagOk = true ∧ ((advance 0 (tw false [])).twin.keyed = true ∧ (advance 0 (tw false [])).twin.wantActive = false ∧ (advance 0 (tw false [])).twin.received.contains (th true).item = false ∧ (22 = 18 → wrongImage (zeros 80) (advance 0 (tw false [])) = false) ∧ (22 = 21 → modelRefused (zeros 80) (advance 0 (tw false [])) = false))) ∧
    ((Instr.plan 0 (th true) (zeros 80), 19, takePlan (zeros 80)) ∈ [(Instr.journal 0 (th true) (zeros 80), 16, storeJournal (zeros 80)), (Instr.energy 0 (th true) (zeros 80), 17, storeEnergy (zeros 80)), (Instr.retained 0 (th true) (zeros 80), 18, storeRetained (zeros 80)), (Instr.plan 0 (th true) (zeros 80), 19, takePlan (zeros 80)), (Instr.modelTables 0 (th true) (zeros 80), 21, storeTables (zeros 80)), (Instr.keyEpoch 0 (th true) (zeros 80), 22, storeEpoch (zeros 80))] ∧ (th true).tagOk = true ∧ ((advance 0 (tw false [5])).twin.keyed = true ∧ (advance 0 (tw false [5])).twin.wantActive = false ∧ (advance 0 (tw false [5])).twin.received.contains (th true).item = true)) ∧
    ((Instr.modelTables 0 (th true) (zeros 80), 21, storeTables (zeros 80)) ∈ [(Instr.journal 0 (th true) (zeros 80), 16, storeJournal (zeros 80)), (Instr.energy 0 (th true) (zeros 80), 17, storeEnergy (zeros 80)), (Instr.retained 0 (th true) (zeros 80), 18, storeRetained (zeros 80)), (Instr.plan 0 (th true) (zeros 80), 19, takePlan (zeros 80)), (Instr.modelTables 0 (th true) (zeros 80), 21, storeTables (zeros 80)), (Instr.keyEpoch 0 (th true) (zeros 80), 22, storeEpoch (zeros 80))] ∧ (th true).tagOk = true ∧ ((advance 0 (tw false [5])).twin.keyed = true ∧ (advance 0 (tw false [5])).twin.wantActive = false ∧ (advance 0 (tw false [5])).twin.received.contains (th true).item = true)) ∧
    ((Instr.modelTables 0 (th true) (zeros 80), 21, storeTables (zeros 80)) ∈ [(Instr.journal 0 (th true) (zeros 80), 16, storeJournal (zeros 80)), (Instr.energy 0 (th true) (zeros 80), 17, storeEnergy (zeros 80)), (Instr.retained 0 (th true) (zeros 80), 18, storeRetained (zeros 80)), (Instr.plan 0 (th true) (zeros 80), 19, takePlan (zeros 80)), (Instr.modelTables 0 (th true) (zeros 80), 21, storeTables (zeros 80)), (Instr.keyEpoch 0 (th true) (zeros 80), 22, storeEpoch (zeros 80))] ∧ (th true).tagOk = true ∧ ((advance 0 (tw false [])).twin.keyed = true ∧ (advance 0 (tw false [])).twin.wantActive = false ∧ (advance 0 (tw false [])).twin.received.contains (th true).item = false ∧ (21 = 18 ∧ wrongImage (zeros 80) (advance 0 (tw false [])) = true ∨ 21 = 21 ∧ modelRefused (zeros 80) (advance 0 (tw false [])) = true))) ∧
    ((Instr.retained 0 (th true) [4, 0, 1], 18, storeRetained [4, 0, 1]) ∈ [(Instr.journal 0 (th true) [4, 0, 1], 16, storeJournal [4, 0, 1]), (Instr.energy 0 (th true) [4, 0, 1], 17, storeEnergy [4, 0, 1]), (Instr.retained 0 (th true) [4, 0, 1], 18, storeRetained [4, 0, 1]), (Instr.plan 0 (th true) [4, 0, 1], 19, takePlan [4, 0, 1]), (Instr.modelTables 0 (th true) [4, 0, 1], 21, storeTables [4, 0, 1]), (Instr.keyEpoch 0 (th true) [4, 0, 1], 22, storeEpoch [4, 0, 1])] ∧ (th true).tagOk = true ∧ ((advance 0 (tw false [])).twin.keyed = true ∧ (advance 0 (tw false [])).twin.wantActive = false ∧ (advance 0 (tw false [])).twin.received.contains (th true).item = false ∧ (18 = 18 ∧ wrongImage [4, 0, 1] (advance 0 (tw false [])) = true ∨ 18 = 21 ∧ modelRefused [4, 0, 1] (advance 0 (tw false [])) = true))) ∧
    ((Instr.modelTables 0 (th true) (zeros 80), 21, storeTables (zeros 80)) ∈ [(Instr.journal 0 (th true) (zeros 80), 16, storeJournal (zeros 80)), (Instr.energy 0 (th true) (zeros 80), 17, storeEnergy (zeros 80)), (Instr.retained 0 (th true) (zeros 80), 18, storeRetained (zeros 80)), (Instr.plan 0 (th true) (zeros 80), 19, takePlan (zeros 80)), (Instr.modelTables 0 (th true) (zeros 80), 21, storeTables (zeros 80)), (Instr.keyEpoch 0 (th true) (zeros 80), 22, storeEpoch (zeros 80))] ∧ (th true).tagOk = true ∧ ((advance 0 (tw true [])).twin.keyed = true ∧ (advance 0 (tw true [])).twin.wantActive = true)) ∧
    ((Instr.modelTables 0 (th true) (zeros 80), 21, storeTables (zeros 80)) ∈ [(Instr.journal 0 (th true) (zeros 80), 16, storeJournal (zeros 80)), (Instr.energy 0 (th true) (zeros 80), 17, storeEnergy (zeros 80)), (Instr.retained 0 (th true) (zeros 80), 18, storeRetained (zeros 80)), (Instr.plan 0 (th true) (zeros 80), 19, takePlan (zeros 80)), (Instr.modelTables 0 (th true) (zeros 80), 21, storeTables (zeros 80)), (Instr.keyEpoch 0 (th true) (zeros 80), 22, storeEpoch (zeros 80))] ∧ (th true).tagOk = true ∧ (advance 0 ready).twin.keyed = false) ∧
    ((Instr.retained 0 (th true) (zeros 80), 18, storeRetained (zeros 80)) ∈ [(Instr.journal 0 (th true) (zeros 80), 16, storeJournal (zeros 80)), (Instr.energy 0 (th true) (zeros 80), 17, storeEnergy (zeros 80)), (Instr.retained 0 (th true) (zeros 80), 18, storeRetained (zeros 80)), (Instr.plan 0 (th true) (zeros 80), 19, takePlan (zeros 80)), (Instr.modelTables 0 (th true) (zeros 80), 21, storeTables (zeros 80)), (Instr.keyEpoch 0 (th true) (zeros 80), 22, storeEpoch (zeros 80))] ∧ (th true).tagOk = true ∧ (advance 0 ready).twin.keyed = false) ∧
    (Instr.journal 0 (th false) (zeros 80) ∈ [Instr.journal 0 (th false) (zeros 80), Instr.energy 0 (th false) (zeros 80), Instr.retained 0 (th false) (zeros 80), Instr.plan 0 (th false) (zeros 80), Instr.modelTables 0 (th false) (zeros 80), Instr.keyEpoch 0 (th false) (zeros 80), Instr.modelState 0 (th false) (zeros 80), Instr.heartbeat 0 (th false) (zeros 80), Instr.resign 0 (th false), Instr.twinAck 0 (th false) (zeros 80)] ∧ (th false).tagOk = false ∧ (advance 0 (tw false [])).twin.keyed = true) ∧
    (Instr.retained 0 (th false) (zeros 80) ∈ [Instr.journal 0 (th false) (zeros 80), Instr.energy 0 (th false) (zeros 80), Instr.retained 0 (th false) (zeros 80), Instr.plan 0 (th false) (zeros 80), Instr.modelTables 0 (th false) (zeros 80), Instr.keyEpoch 0 (th false) (zeros 80), Instr.modelState 0 (th false) (zeros 80), Instr.heartbeat 0 (th false) (zeros 80), Instr.resign 0 (th false), Instr.twinAck 0 (th false) (zeros 80)] ∧ (th false).tagOk = false ∧ (advance 0 (tw false [])).twin.keyed = true) ∧
    (Instr.modelTables 0 (th false) (zeros 80) ∈ [Instr.journal 0 (th false) (zeros 80), Instr.energy 0 (th false) (zeros 80), Instr.retained 0 (th false) (zeros 80), Instr.plan 0 (th false) (zeros 80), Instr.modelTables 0 (th false) (zeros 80), Instr.keyEpoch 0 (th false) (zeros 80), Instr.modelState 0 (th false) (zeros 80), Instr.heartbeat 0 (th false) (zeros 80), Instr.resign 0 (th false), Instr.twinAck 0 (th false) (zeros 80)] ∧ (th false).tagOk = false ∧ (advance 0 (tw false [])).twin.keyed = true) ∧
    ((th true).tagOk = true ∧ ((advance 0 (tw false [])).twin.keyed = true ∧ (advance 0 (tw false [])).twin.wantActive = false)) := by
  and_intros <;> first | decide +kernel | rfl | simp

/-- What meets the hypotheses of TwinLinkLivesAndTakesOver, clause by clause. -/
theorem witness_TwinLinkLivesAndTakesOver :
    ((th true).tagOk = true ∧ ((advance 0 (tw true [])).twin.keyed = true ∧ (advance 0 (tw true [])).twin.wantActive = true)) ∧
    ((th true).tagOk = true ∧ ((advance 0 (tw false [])).twin.keyed = true ∧ (advance 0 (tw false [])).twin.wantActive = false ∧ (advance 0 (tw false [])).twin.joined = true)) ∧
    ((th true).tagOk = true ∧ fld ([1] ++ zeros 79) 0 1 = Role.active.code ∧ ((advance 0 s5).twin.keyed = true ∧ (advance 0 s5).twin.wantActive = false ∧ (advance 0 s5).twin.joined = false)) ∧
    ((th true).tagOk = true ∧ ((advance 0 (tw false [])).twin.keyed = true ∧ (advance 0 (tw false [])).twin.wantActive = false ∧ (advance 0 (tw false [])).twin.joined = true ∧ (advance 0 (tw false [])).twin.lostAt = none)) ∧
    (((advance 50000000 (tw false [])).twin.keyed = true ∧ keeperUp (advance 50000000 (tw false [])) = true ∧ (advance 50000000 (tw false [])).twin.lastValid + 50000000 ≤ (advance 50000000 (tw false [])).tb.now ∧ (advance 50000000 (tw false [])).twin.lostAt = none ∧ (advance 50000000 (tw false [])).twin.joined = true ∧ (advance 50000000 (tw false [])).twin.wantActive = false)) ∧
    (((advance 50000000 (tw true [])).twin.keyed = true ∧ keeperUp (advance 50000000 (tw true [])) = true ∧ (advance 50000000 (tw true [])).twin.lastValid + 50000000 ≤ (advance 50000000 (tw true [])).tb.now ∧ (advance 50000000 (tw true [])).twin.lostAt = none ∧ (advance 50000000 (tw true [])).twin.joined = true ∧ (advance 50000000 (tw true [])).twin.wantActive = true)) ∧
    (((advance 50000000 s5).twin.keyed = true ∧ keeperUp (advance 50000000 s5) = true ∧ (advance 50000000 s5).twin.lastValid + 50000000 ≤ (advance 50000000 s5).tb.now ∧ (advance 50000000 s5).twin.lostAt = none ∧ (advance 50000000 s5).twin.joined = false)) ∧
    (((advance 100000000 (lost true)).twin.lostAt = some (0, true) ∧ keeperUp (advance 100000000 (lost true)) = true ∧ 0 + 100000000 ≤ (advance 100000000 (lost true)).tb.now ∧ (advance 100000000 (lost true)).sec.tamper = TamperState.none)) ∧
    (((advance 100000000 s7).twin.lostAt = some (0, true) ∧ keeperUp (advance 100000000 s7) = true ∧ 0 + 100000000 ≤ (advance 100000000 s7).tb.now ∧ (advance 100000000 s7).sec.tamper ≠ TamperState.none)) ∧
    ((feedsTwin (advance 5000000 (tw true [])) = true ∧ twinUp (advance 5000000 (tw true [])) = true)) ∧
    (List.length (zeros 200) = 200 ∧ (twinUp (advance 0 hsS) = true ∧ (advance 0 hsS).twin.resolve ≠ 0 ∧ (advance 0 hsS).twin.keyed = false)) ∧
    (List.length (zeros 200) = 200 ∧ (twinUp (advance 0 s8) = true ∧ (advance 0 s8).twin.resolve ≠ 0 ∧ (advance 0 s8).twin.keyed = false)) ∧
    (List.length (helloPayload (zeros 32) (peerS 9)) = 200 ∧ (twinUp (advance 0 hsS) = true ∧ (advance 0 hsS).twin.keyed = false ∧ (advance 0 hsS).twin.confirmed = false ∧ (advance 0 hsS).twin.nonce = some (slice (helloPayload (zeros 32) (peerS 9)) 40 32) ∧ bit (mismatchOf (helloPayload [] (advance 0 hsS)) (helloPayload (zeros 32) (peerS 9))) 8 = false ∧ (wins (helloPayload [] (advance 0 hsS)) (helloPayload (zeros 32) (peerS 9)) = true ∨ fld (helloPayload (zeros 32) (peerS 9)) 72 1 ≠ 1))) ∧
    (List.length s9 = 200 ∧ (twinUp (advance 0 s10) = true ∧ (advance 0 s10).twin.keyed = false ∧ (advance 0 s10).twin.confirmed = false ∧ (advance 0 s10).twin.nonce = some (slice s9 40 32) ∧ bit (mismatchOf (helloPayload [] (advance 0 s10)) s9) 8 = false ∧ wins (helloPayload [] (advance 0 s10)) s9 = false ∧ fld (helloPayload [] (advance 0 s10)) 72 1 = 1 ∧ fld s9 72 1 = 1)) ∧
    (List.length s11 = 200 ∧ (twinUp (advance 0 hsS) = true ∧ (advance 0 hsS).twin.keyed = false ∧ (advance 0 hsS).twin.confirmed = false ∧ (advance 0 hsS).twin.nonce = some (slice s11 40 32) ∧ bit (mismatchOf (helloPayload [] (advance 0 hsS)) s11) 8 = true ∧ (wins (helloPayload [] (advance 0 hsS)) s11 = true ∨ fld s11 72 1 ≠ 1))) ∧
    ((th true).tagOk = true ∧ ((advance 0 (cf true)).twin.reply = some (helloPayload (zeros 32) hsS) ∧ twinUp (advance 0 (cf true)) = true ∧ (advance 0 (cf true)).twin.keyed = false ∧ (advance 0 (cf true)).twin.confirmed = true ∧ (mismatchOf (helloPayload [] (advance 0 (cf true))) (helloPayload (zeros 32) hsS) ||| fld (recordOf 8 [(0, 1, 1)]) 4 4 ≠ 0 ∨ fld (recordOf 8 [(0, 1, 1)]) 0 1 ≠ 0))) ∧
    ((th false).tagOk = false ∧ ((advance 0 (cf true)).twin.reply = some (helloPayload (zeros 32) hsS) ∧ twinUp (advance 0 (cf true)) = true ∧ (advance 0 (cf true)).twin.keyed = false ∧ (advance 0 (cf true)).twin.confirmed = true)) ∧
    ((th true).tagOk = true ∧ fld (recordOf 8 []) 0 1 = 0 ∧ fld (recordOf 8 []) 4 4 = 0 ∧ ((advance 0 (cf true)).twin.reply = some (helloPayload (zeros 32) hsS) ∧ twinUp (advance 0 (cf true)) = true ∧ (advance 0 (cf true)).twin.keyed = false ∧ (advance 0 (cf true)).twin.confirmed = true ∧ mismatchOf (helloPayload [] (advance 0 (cf true))) (helloPayload (zeros 32) hsS) = 0 ∧ (advance 0 (cf true)).twin.wantActive = true)) ∧
    ((th true).tagOk = true ∧ fld (recordOf 8 []) 0 1 = 0 ∧ fld (recordOf 8 []) 4 4 = 0 ∧ ((advance 0 (cf false)).twin.reply = some (helloPayload (zeros 32) hsS) ∧ twinUp (advance 0 (cf false)) = true ∧ (advance 0 (cf false)).twin.keyed = false ∧ (advance 0 (cf false)).twin.confirmed = true ∧ mismatchOf (helloPayload [] (advance 0 (cf false))) (helloPayload (zeros 32) hsS) = 0 ∧ (advance 0 (cf false)).twin.wantActive = false ∧ (advance 0 (cf false)).boot.plant = false)) ∧
    (((advance 0 s12).twin.retryAt = some 0 ∧ twinUp (advance 0 s12) = true ∧ (advance 0 s12).twin.keyed = false ∧ (advance 0 s12).twin.resolve ≠ 0 ∧ 0 ≤ (advance 0 s12).tb.now)) := by
  refine ⟨?_, ?_, ?_, ?_, ?_, ?_, ?_, ?_, ?_, ?_, ?_, ?_, ?_, ?_, ?_, ?_, ?_, ?_, ?_, ?_⟩ <;> decide +kernel

/-- What meets the hypotheses of clause 2 of ElectricalMeteringAnswers. -/
theorem witness_ElectricalMeteringAnswers_config :
    accepts cmdElecSetConfig 0 (rq ready.elec.cfg) ready = true ∧
    ((badWiring (requestOf cmdElecSetConfig 0 (rq ready.elec.cfg) ready).payload).isNone && (sharedFeed (requestOf cmdElecSetConfig 0 (rq ready.elec.cfg) ready).payload).isNone && (feedNoChannel (requestOf cmdElecSetConfig 0 (rq ready.elec.cfg) ready).payload).isNone && !applyTooSoon (requestOf cmdElecSetConfig 0 (rq ready.elec.cfg) ready).payload (judged cmdElecSetConfig 0 (rq ready.elec.cfg) ready)) = true := by
  refine ⟨?_, by decide +kernel⟩
  unfold accepts checkFailure refusal cmdElecSetConfig channelRange feedRange
  simp only [chanRec, feedRec, inRange, chk, sfld, leNat_slice, allZero_slice, fld_eq_div]
  decide +kernel

/-- What meets the hypotheses of ElectricalMeteringAnswers, clause by clause. -/
theorem witness_ElectricalMeteringAnswers :
    (accepts cmdElecGetConfig 0 (rq []) s13 = true ∧ ((judged cmdElecGetConfig 0 (rq []) s13).elec.pend == some ([1], [])) = true) ∧
    (accepts cmdElecGetConfig 0 (rq []) ready = true ∧ (judged cmdElecGetConfig 0 (rq []) ready).elec.pend.isNone = true) ∧
    (accepts cmdElecReadValues 0 (rq [0, 0, 0, 0]) s14 = true ∧ ((feed (fld (requestOf cmdElecReadValues 0 (rq [0, 0, 0, 0]) s14).payload 0 1) (judged cmdElecReadValues 0 (rq [0, 0, 0, 0]) s14)).latched == some (zeros 160)) = true) ∧
    (accepts cmdElecReadValues 0 (rq [0, 0, 0, 0]) s15 = true ∧ ((feed (fld (requestOf cmdElecReadValues 0 (rq [0, 0, 0, 0]) s15).payload 0 1) (judged cmdElecReadValues 0 (rq [0, 0, 0, 0]) s15)).latched.isNone && wiring (feedRec (judged cmdElecReadValues 0 (rq [0, 0, 0, 0]) s15).elec.cfg (fld (requestOf cmdElecReadValues 0 (rq [0, 0, 0, 0]) s15).payload 0 1)) != 0) = true) ∧
    (accepts cmdElecReadRegisters 0 (rq [0, 0, 0, 0]) s15 = true ∧ (!feedDisabled (fld (requestOf cmdElecReadRegisters 0 (rq [0, 0, 0, 0]) s15).payload 0 1) (judged cmdElecReadRegisters 0 (rq [0, 0, 0, 0]) s15)) = true) ∧
    (accepts cmdElecGetStatus 0 (rq []) ready = true) ∧
    (accepts cmdElecAcknowledgeLoss 0 (rq [0, 0, 0, 0]) s16 = true ∧ (feed (fld (requestOf cmdElecAcknowledgeLoss 0 (rq [0, 0, 0, 0]) s16).payload 0 1) (judged cmdElecAcknowledgeLoss 0 (rq [0, 0, 0, 0]) s16)).lost = true) := by
  refine ⟨?_, ?_, ?_, ?_, ?_, ?_, ?_⟩ <;> decide +kernel

/-- What meets the hypotheses of clause 2 of ThermalMeteringAnswers. -/
theorem witness_ThermalMeteringAnswers_config :
    accepts cmdThermSetConfig 60000000000 (rq tcfg) ready = true ∧
    (have b := (requestOf cmdThermSetConfig 60000000000 (rq tcfg) ready).payload; ((((enabledPairs b).all fun (p : Nat) => fld (rtdRec b (2 * p)) 0 1 != 0 && fld (rtdRec b (2 * p + 1)) 0 1 != 0 && fld (flowRec b (fld (pairRec b p) 1 1)) 0 1 != 0) && (enabledPairs b).all fun (p : Nat) => (enabledPairs b).all fun (q : Nat) => !decide (q < p) || fld (pairRec b q) 1 1 != fld (pairRec b p) 1 1) && (List.range 8).all fun (n : Nat) => fld (flowRec b n) 0 1 != 4 || canInputFits 5 (fld (flowRec b n) 12 4) (judged cmdThermSetConfig 60000000000 (rq tcfg) ready)) && !applyTooSoon b (judged cmdThermSetConfig 60000000000 (rq tcfg) ready)) = true := by
  refine ⟨?_, by decide +kernel⟩
  unfold accepts checkFailure refusal cmdThermSetConfig rtdRange flowRange pairRange
  simp only [flowRec, pairRec, inRange, chk, leNat_slice, allZero_slice, fld_eq_div]
  decide +kernel

/-- What meets the hypotheses of ThermalMeteringAnswers, clause by clause. -/
theorem witness_ThermalMeteringAnswers :
    (accepts cmdThermGetConfig 0 (rq []) s17 = true ∧ ((judged cmdThermGetConfig 0 (rq []) s17).therm.pend == some ([1], [])) = true) ∧
    (accepts cmdThermGetConfig 0 (rq []) ready = true ∧ (judged cmdThermGetConfig 0 (rq []) ready).therm.pend.isNone = true) ∧
    (accepts cmdThermReadValues 0 (rq [0, 0, 0, 0]) s18 = true ∧ (!pairDisabled (fld (requestOf cmdThermReadValues 0 (rq [0, 0, 0, 0]) s18).payload 0 1) (judged cmdThermReadValues 0 (rq [0, 0, 0, 0]) s18) && (pair (fld (requestOf cmdThermReadValues 0 (rq [0, 0, 0, 0]) s18).payload 0 1) (judged cmdThermReadValues 0 (rq [0, 0, 0, 0]) s18)).latched == some (zeros 64)) = true) ∧
    (accepts cmdThermReadValues 0 (rq [0, 0, 0, 0]) s19 = true ∧ (!pairDisabled (fld (requestOf cmdThermReadValues 0 (rq [0, 0, 0, 0]) s19).payload 0 1) (judged cmdThermReadValues 0 (rq [0, 0, 0, 0]) s19) && (pair (fld (requestOf cmdThermReadValues 0 (rq [0, 0, 0, 0]) s19).payload 0 1) (judged cmdThermReadValues 0 (rq [0, 0, 0, 0]) s19)).latched.isNone) = true) ∧
    (accepts cmdThermReadRegisters 0 (rq [0, 0, 0, 0]) s19 = true ∧ (!pairDisabled (fld (requestOf cmdThermReadRegisters 0 (rq [0, 0, 0, 0]) s19).payload 0 1) (judged cmdThermReadRegisters 0 (rq [0, 0, 0, 0]) s19)) = true) ∧
    (accepts cmdThermGetStatus 0 (rq []) ready = true) ∧
    (accepts cmdThermReadChannels 0 (rq []) ready = true) ∧
    (accepts cmdThermGetGlycol 0 (rq [1, 0, 0, 0]) ready = true) ∧
    (accepts cmdThermAcknowledgeLoss 0 (rq [0, 0, 0, 0]) s20 = true ∧ (pair (fld (requestOf cmdThermAcknowledgeLoss 0 (rq [0, 0, 0, 0]) s20).payload 0 1) (judged cmdThermAcknowledgeLoss 0 (rq [0, 0, 0, 0]) s20)).lost = true) := by
  refine ⟨?_, ?_, ?_, ?_, ?_, ?_, ?_, ?_, ?_⟩ <;> decide +kernel

/-- What meets the hypotheses of MeteringEventsRun, clause by clause. -/
theorem witness_MeteringEventsRun :
    (0 < 5 ∧ (have v := applyIdleFeeds (advance 0 s15); wiring (feedRec v.elec.cfg 0) ≠ 0 ∧ v.elec.running = true ∧ (feed 0 v).timer = false ∧ allLost 0 v = false ∧ crossingFits (feed 0 v) (samplePos v) = true ∧ (feed 0 v).last = none ∧ (feed 0 v).first = none)) ∧
    (0 < 5 ∧ (have v := applyIdleFeeds (advance 20000000 s21); wiring (feedRec v.elec.cfg 0) ≠ 0 ∧ v.elec.running = true ∧ (feed 0 v).timer = false ∧ allLost 0 v = false ∧ crossingFits (feed 0 v) (samplePos v) = true ∧ (feed 0 v).last = some 0 ∧ (feed 0 v).first.isSome = true)) ∧
    (0 < 5 ∧ (have v := applyIdleFeeds (advance 20000000 s22); (feed 0 v).timer = true ∧ v.elec.running = true ∧ (feed 0 v).timerFrom + timerLength (feedRec v.elec.cfg 0) (feed 0 v).timerCount ≤ sampleCount v)) ∧
    ((feedsOn 0 (advance 100000000 s22) = [0] ∧ (tabGet { : VChan } (advance 100000000 s22).elec.vchan 0).lost = false ∧ (advance 100000000 s22).elec.running = true ∧ (tabGet { : VChan } (advance 100000000 s22).elec.vchan 0).lastCross + fld (feedRec (advance 100000000 s22).elec.cfg 0) 8 2 * 1000000 ≤ (advance 100000000 s22).tb.now ∧ (feed 0 (advance 100000000 s22)).timer = true)) ∧
    (((tabGet { : VChan } (advance 0 s23).elec.vchan 7).lost = true ∧ feedsOn 7 (advance 0 s23) = [])) ∧
    (((tabGet { : VChan } (advance 0 s24).elec.vchan 0).lost = true ∧ feedsOn 0 (advance 0 s24) = [0] ∧ (feed 0 (advance 0 s24)).timer = true)) ∧
    (((applyIdleFeeds (advance 0 (at_ 60000000000))).elec.running = true ∧ (applyIdleFeeds (advance 0 (at_ 60000000000))).elec.lastSave < (applyIdleFeeds (advance 0 (at_ 60000000000))).zone / 60000000000)) ∧
    (((applyIdlePairs (advance 0 s26)).therm.stepDue = some 0 ∧ (applyIdlePairs (advance 0 s26)).elec.running = true ∧ 0 ≤ (applyIdlePairs (advance 0 s26)).tb.now)) ∧
    (7 < 8 ∧ (fld (flowRec (advance 100000 s27).therm.cfg 7) 0 1 = 1 ∧ fld (flowRec (advance 100000 s27).therm.cfg 7) 2 2 ≤ 20 ∧ (advance 100000 s27).elec.running = true ∧ (tabGet { : FlowIn } (advance 100000 s27).therm.flows 7).lastEdge = some 0 ∧ 0 + 100000 ≤ (advance 100000 s27).tb.now)) ∧
    (7 < 8 ∧ f32Finite 1065353216 = true ∧ (3 ≤ fld (flowRec (advance 0 s28).therm.cfg 7) 0 1 ∧ (advance 0 s28).elec.running = true ∧ (tabGet { : FlowIn } (advance 0 s28).therm.flows 7).base = none ∧ (tabGet { : FlowIn } (advance 0 s28).therm.flows 7).timedOut = false)) ∧
    (7 < 8 ∧ (3 ≤ fld (flowRec (advance 120000000000 s29).therm.cfg 7) 0 1 ∧ (tabGet { : FlowIn } (advance 120000000000 s29).therm.flows 7).heard + fld (flowRec (advance 120000000000 s29).therm.cfg 7) 16 2 * 1000000000 ≤ (advance 120000000000 s29).tb.now)) := by
  refine ⟨?_, ?_, ?_, ?_, ?_, ?_, ?_, ?_, ?_, ?_, ?_⟩ <;> decide +kernel

/-- What meets the hypotheses of LoopClassAnswersAndEngineRuns, clause by clause. -/
theorem witness_LoopClassAnswersAndEngineRuns :
    (accepts cmdLoopGetConfig 0 (rq [255, 1, 0, 0]) ready = true) ∧
    (accepts cmdLoopSetConfig 0 (rq (le 4 511 ++ patch lrec 100 (le 4 60000))) ready = true ∧ (have n := fld (requestOf cmdLoopSetConfig 0 (rq (le 4 511 ++ patch lrec 100 (le 4 60000))) ready).payload 0 2; have slots := List.filter (fun (k : Nat) => k != n) (List.map (fun (x : Nat × Loop) => x.fst) (judged cmdLoopSetConfig 0 (rq (le 4 511 ++ patch lrec 100 (le 4 60000))) ready).loops.slots) ++ [n]; have view := fun (k : Nat) => if k = n then List.drop 4 (requestOf cmdLoopSetConfig 0 (rq (le 4 511 ++ patch lrec 100 (le 4 60000))) ready).payload else latestRecord k (judged cmdLoopSetConfig 0 (rq (le 4 511 ++ patch lrec 100 (le 4 60000))) ready); !caravanHolds (536870912 + n) (judged cmdLoopSetConfig 0 (rq (le 4 511 ++ patch lrec 100 (le 4 60000))) ready) && !ownedFault view slots n (judged cmdLoopSetConfig 0 (rq (le 4 511 ++ patch lrec 100 (le 4 60000))) ready) && !cascadeFault view slots && !guardFault view slots n (judged cmdLoopSetConfig 0 (rq (le 4 511 ++ patch lrec 100 (le 4 60000))) ready) && loadFits (loadItems (fun (k : Nat) => (loopSlot k (judged cmdLoopSetConfig 0 (rq (le 4 511 ++ patch lrec 100 (le 4 60000))) ready)).record) view slots fun (k : Nat) => k == n || (loopSlot k (judged cmdLoopSetConfig 0 (rq (le 4 511 ++ patch lrec 100 (le 4 60000))) ready)).pend.isSome)) = true) ∧
    (accepts cmdLoopSetMode 0 (rq [255, 1, 2, 0]) ready = true ∧ (!(fld (requestOf cmdLoopSetMode 0 (rq [255, 1, 2, 0]) ready).payload 2 1 == 1 && lGuard (latestRecord (fld (requestOf cmdLoopSetMode 0 (rq [255, 1, 2, 0]) ready).payload 0 2) (judged cmdLoopSetMode 0 (rq [255, 1, 2, 0]) ready)))) = true) ∧
    (accepts cmdLoopSetSetpoint 0 (rq (le 4 511 ++ le 4 1065353216)) ready = true ∧ (lSpSource (latestRecord (fld (requestOf cmdLoopSetSetpoint 0 (rq (le 4 511 ++ le 4 1065353216)) ready).payload 0 2) (judged cmdLoopSetSetpoint 0 (rq (le 4 511 ++ le 4 1065353216)) ready)) == 0 && !lGuard (latestRecord (fld (requestOf cmdLoopSetSetpoint 0 (rq (le 4 511 ++ le 4 1065353216)) ready).payload 0 2) (judged cmdLoopSetSetpoint 0 (rq (le 4 511 ++ le 4 1065353216)) ready))) = true) ∧
    (accepts cmdLoopSetOutput 0 (rq (le 4 511 ++ le 4 5)) s30 = true ∧ (loopMode (fld (requestOf cmdLoopSetOutput 0 (rq (le 4 511 ++ le 4 5)) s30).payload 0 2) (judged cmdLoopSetOutput 0 (rq (le 4 511 ++ le 4 5)) s30) == 1) = true) ∧
    (accepts cmdLoopReadStatus 0 (rq (le 2 511 ++ le 2 1)) s31 = true) ∧
    (((advance 1000000 s32).loops.lastTick < (advance 1000000 s32).tb.now / 100000 ∧ engineRuns (applyIoConfig { pending := (advance 1000000 s32).pending, tb := (advance 1000000 s32).tb, win := (advance 1000000 s32).win, sys := (advance 1000000 s32).sys, rtc := (advance 1000000 s32).rtc, recorder := (advance 1000000 s32).recorder, model := (advance 1000000 s32).model, solver := (advance 1000000 s32).solver, opt := (advance 1000000 s32).opt, car := (advance 1000000 s32).car, net := (advance 1000000 s32).net, twin := (advance 1000000 s32).twin, elec := (advance 1000000 s32).elec, therm := (advance 1000000 s32).therm, loops := have __src := (advance 1000000 s32).loops; { slots := __src.slots, targets := __src.targets, exchange := __src.exchange, lastTick := (advance 1000000 s32).tb.now / 100000, lastRepl := __src.lastRepl : LoopEngine }, prog := (advance 1000000 s32).prog, motion := (advance 1000000 s32).motion, buses := (advance 1000000 s32).buses, io := (advance 1000000 s32).io, panel := (advance 1000000 s32).panel, sec := (advance 1000000 s32).sec, clocks := (advance 1000000 s32).clocks, power := (advance 1000000 s32).power, boot := (advance 1000000 s32).boot, out := (advance 1000000 s32).out : State }) = true)) ∧
    ((advance 0 s32).tb.now / 100000 ≤ (advance 0 s32).loops.lastTick) ∧
    (((advance 10000000 s33).loops.lastRepl < (advance 10000000 s33).tb.now / 10000000 ∧ t0Runs (advance 10000000 s33) = false ∧ feedsTwin (advance 10000000 s33) = true)) := by
  refine ⟨?_, ?_, ?_, ?_, ?_, ?_, ?_, ?_, ?_⟩ <;> decide +kernel

/-- What meets the hypotheses of LoopLawsFollowTheirRules, clause by clause. -/
theorem witness_LoopLawsFollowTheirRules :
    (lOutMin s34.record ≤ lOutMax s34.record ∧ (lawModulating s34).inBand = true) ∧
    (lOutMin s34.record ≤ lOutMax s34.record ∧ 0 < sfld s34.record 84 4 ∧ lOutMin s34.record ≤ s34.y ∧ s34.y ≤ lOutMax s34.record ∧ -2 ^ 31 ≤ lOutMin s34.record ∧ lOutMax s34.record < 2 ^ 31) ∧
    (lOutMin s34.record ≤ lOutMax s34.record) ∧
    (lOutMin s35.record ≤ lOutMax s35.record ∧ (lawModulating s35).inBand = false) ∧
    (lOutMin s35.record ≤ lOutMax s35.record ∧ 0 < sfld s35.record 84 4 ∧ lOutMin s35.record ≤ s35.y ∧ s35.y ≤ lOutMax s35.record ∧ -2 ^ 31 ≤ lOutMin s35.record ∧ lOutMax s35.record < 2 ^ 31) ∧
    (lOutMin s35.record ≤ lOutMax s35.record) := by
  refine ⟨?_, ?_, ?_, ?_, ?_, ?_⟩ <;> decide +kernel

end Plant

/-! ### Control -/

namespace Control

def at_ (n : Nat) : State := { ready with tb := { now := n, zone32 := n * 2 ^ 32 } }

def s1 : State := { ready with prog := { staged := [1,2,3] } }

def imgP (watchdog : Nat) : Bytes :=
  recordOf 288 [(0, 4, 0x31495046), (4, 2, 1), (8, 4, 1), (0x10, 4, 288), (0x14, 4, 16), (0x18, 4, 1), (0x1C, 4, 1), (0x20, 4, 16), (0x28, 2, 1),
    (64, 1, 1), (66, 1, watchdog), (68, 4, 1000), (76, 4, 500), (128, 1, 1), (140, 4, 100), (144, 1, 4), (146, 2, 63), (176, 4, 1), (184, 4, 0x00FF0A02), (192, 4, 0x00FF0004)]

def pr (p : Program) : State := { at_ 1000000 with prog := p }

def run : Program := { image := some (imgP 2), req := 2, startKind := 1 }

def s2 : State := { pr run with win := { ready.win with debug := .field } }

def s3 : State := (pr { run with req := 1 })

def s4 : State := (pr { run with req := 3 })

def s5 : State := { pr { run with req := 3 } with win := { ready.win with debug := .field } }

def s6 : State := (pr { run with forces := [(1, le 4 7)] })

def s7 : Machine.Task := { from_ := 0 }

def s8 : State := (pr { run with queue := [(0, 1, 5, 7)] })

def ex (t : Nat) (p : Program) : Program := { p with tasks := [(t, { executing := true, tin := some 0 })] }

def s9 : TaskEffects := { time := 5, writes := [(0, [1])] }

def s10 : State := (pr { run with req := 3, holdAt := some 0 })

def s11 : State := (pr { run with change := some { image := imgP 3, from_ := 0, mbox := 0 } })

def s12 : Change := { image := imgP 3, from_ := 0, mbox := 0 }

def s13 : State := (pr { run with retPend := [(0, zeros 64)] })

def imgE : Bytes := patch (imgP 2) 144 (le 4 0x00060001)

def s14 : State := { pr { run with image := some imgE } with io := { di := [(6, { state := true, rises := 3, lastEdge := 77 })] } }

def tm (p : Nat) : HwTimer := { target := 0, period := p, expiries := 4 }

def s15 : State := (pr { run with timers := [(63, tm 0)] })

def s16 : State := (pr { run with timers := [(63, tm 9)] })

/-- What meets the hypotheses of ProgramClassAnswers, clause by clause. -/
theorem witness_ProgramClassAnswers :
    (accepts cmdProgramPutImage 0 (rq (recordOf 9 [(4, 2, 1), (8, 1, 1)])) ready = true ∧ ((fld (requestOf cmdProgramPutImage 0 (rq (recordOf 9 [(4, 2, 1), (8, 1, 1)])) ready).payload 0 4 == 0 || fld (requestOf cmdProgramPutImage 0 (rq (recordOf 9 [(4, 2, 1), (8, 1, 1)])) ready).payload 0 4 == List.length (judged cmdProgramPutImage 0 (rq (recordOf 9 [(4, 2, 1), (8, 1, 1)])) ready).prog.staged) && decide (((if fld (requestOf cmdProgramPutImage 0 (rq (recordOf 9 [(4, 2, 1), (8, 1, 1)])) ready).payload 0 4 = 0 then [] else (judged cmdProgramPutImage 0 (rq (recordOf 9 [(4, 2, 1), (8, 1, 1)])) ready).prog.staged) ++ List.drop 8 (requestOf cmdProgramPutImage 0 (rq (recordOf 9 [(4, 2, 1), (8, 1, 1)])) ready).payload).length ≤ 6291456)) = true) ∧
    (accepts cmdProgramPutImage 0 (rq (recordOf 9 [(0, 4, 3), (4, 2, 1), (8, 1, 1)])) s1 = true ∧ ((fld (requestOf cmdProgramPutImage 0 (rq (recordOf 9 [(0, 4, 3), (4, 2, 1), (8, 1, 1)])) s1).payload 0 4 == 0 || fld (requestOf cmdProgramPutImage 0 (rq (recordOf 9 [(0, 4, 3), (4, 2, 1), (8, 1, 1)])) s1).payload 0 4 == List.length (judged cmdProgramPutImage 0 (rq (recordOf 9 [(0, 4, 3), (4, 2, 1), (8, 1, 1)])) s1).prog.staged) && decide (((if fld (requestOf cmdProgramPutImage 0 (rq (recordOf 9 [(0, 4, 3), (4, 2, 1), (8, 1, 1)])) s1).payload 0 4 = 0 then [] else (judged cmdProgramPutImage 0 (rq (recordOf 9 [(0, 4, 3), (4, 2, 1), (8, 1, 1)])) s1).prog.staged) ++ List.drop 8 (requestOf cmdProgramPutImage 0 (rq (recordOf 9 [(0, 4, 3), (4, 2, 1), (8, 1, 1)])) s1).payload).length ≤ 6291456)) = true) ∧
    (accepts cmdProgramGetInfo 0 (rq []) (pr run) = true) ∧
    (accepts cmdProgramSetMode 0 (rq [1, 0, 0, 0]) (pr run) = true ∧ (fld (requestOf cmdProgramSetMode 0 (rq [1, 0, 0, 0]) (pr run)).payload 0 1 == 1 && (judged cmdProgramSetMode 0 (rq [1, 0, 0, 0]) (pr run)).prog.req != 1) = true) ∧
    (accepts cmdProgramSetMode 0 (rq [3, 0, 0, 0]) s2 = true ∧ (fld (requestOf cmdProgramSetMode 0 (rq [3, 0, 0, 0]) s2).payload 0 1 == 3 && (judged cmdProgramSetMode 0 (rq [3, 0, 0, 0]) s2).win.debug != DebugLevel.closed && (judged cmdProgramSetMode 0 (rq [3, 0, 0, 0]) s2).prog.req != 3) = true) ∧
    (accepts cmdProgramSetMode 0 (rq [2, 0, 0, 0]) s3 = true ∧ (fld (requestOf cmdProgramSetMode 0 (rq [2, 0, 0, 0]) s3).payload 0 1 == 2 && (judged cmdProgramSetMode 0 (rq [2, 0, 0, 0]) s3).prog.req != 2 && (fld (requestOf cmdProgramSetMode 0 (rq [2, 0, 0, 0]) s3).payload 1 1 != 2 || (judged cmdProgramSetMode 0 (rq [2, 0, 0, 0]) s3).prog.req == 3 || (judged cmdProgramSetMode 0 (rq [2, 0, 0, 0]) s3).prog.hot)) = true) ∧
    (accepts cmdProgramSetMode 0 (rq [2, 2, 0, 0]) s4 = true ∧ (fld (requestOf cmdProgramSetMode 0 (rq [2, 2, 0, 0]) s4).payload 0 1 == 2 && (judged cmdProgramSetMode 0 (rq [2, 2, 0, 0]) s4).prog.req != 2 && (fld (requestOf cmdProgramSetMode 0 (rq [2, 2, 0, 0]) s4).payload 1 1 != 2 || (judged cmdProgramSetMode 0 (rq [2, 2, 0, 0]) s4).prog.req == 3 || (judged cmdProgramSetMode 0 (rq [2, 2, 0, 0]) s4).prog.hot)) = true) ∧
    (accepts cmdProgramStep 0 (rq [0, 0, 0, 0]) s5 = true) ∧
    (accepts cmdProgramGetStatus 0 (rq []) (pr run) = true) ∧
    (accepts cmdProgramReadVars 0 (rq ([1, 0, 0, 0] ++ le 8 1)) (pr run) = true ∧ ((List.range (fld (requestOf cmdProgramReadVars 0 (rq ([1, 0, 0, 0] ++ le 8 1)) (pr run)).payload 0 2)).all fun (i : Nat) => (entryOf (progDir (judged cmdProgramReadVars 0 (rq ([1, 0, 0, 0] ++ le 8 1)) (pr run))) (fld (requestOf cmdProgramReadVars 0 (rq ([1, 0, 0, 0] ++ le 8 1)) (pr run)).payload (4 + 8 * i) 8)).isSome) = true) ∧
    (accepts cmdProgramSetForce 0 (rq (le 8 1 ++ le 8 7)) s2 = true ∧ (entryOf (progDir (judged cmdProgramSetForce 0 (rq (le 8 1 ++ le 8 7)) s2)) (fld (requestOf cmdProgramSetForce 0 (rq (le 8 1 ++ le 8 7)) s2).payload 0 8) == some ((directory (imgP 2)).getD 0 []) && eType ((directory (imgP 2)).getD 0 []) != 13 && !entryGuard ((directory (imgP 2)).getD 0 []) && ((tabGet? (judged cmdProgramSetForce 0 (rq (le 8 1 ++ le 8 7)) s2).prog.forces (fld (requestOf cmdProgramSetForce 0 (rq (le 8 1 ++ le 8 7)) s2).payload 0 8)).isSome || decide (List.length (judged cmdProgramSetForce 0 (rq (le 8 1 ++ le 8 7)) s2).prog.forces < 256))) = true) ∧
    (accepts cmdProgramReleaseForce 0 (rq (le 8 0)) s6 = true ∧ (fld (requestOf cmdProgramReleaseForce 0 (rq (le 8 0)) s6).payload 0 8 == 0 && (judged cmdProgramReleaseForce 0 (rq (le 8 0)) s6).prog.forces != []) = true) ∧
    (accepts cmdProgramReleaseForce 0 (rq (le 8 1)) s6 = true ∧ (fld (requestOf cmdProgramReleaseForce 0 (rq (le 8 1)) s6).payload 0 8 != 0 && decide (List.length (tabErase (judged cmdProgramReleaseForce 0 (rq (le 8 1)) s6).prog.forces (fld (requestOf cmdProgramReleaseForce 0 (rq (le 8 1)) s6).payload 0 8)) < List.length (judged cmdProgramReleaseForce 0 (rq (le 8 1)) s6).prog.forces)) = true) ∧
    (accepts cmdProgramListForces 0 (rq []) s6 = true) ∧
    (accepts cmdProgramGetConfig 0 (rq []) ready = true) ∧
    (accepts cmdProgramSetConfig 0 (rq ready.prog.cfg) ready = true) := by
  refine ⟨?_, ?_, ?_, ?_, ?_, ?_, ?_, ?_, ?_, ?_, ?_, ?_, ?_, ?_, ?_, ?_⟩ <;> decide +kernel

/-- What meets the hypotheses of ProgramEventsRun, clause by clause. -/
theorem witness_ProgramEventsRun :
    (0 ≠ 4 ∧ (progRuns (advance 0 (pr run)) = true ∧ progState (advance 0 (pr run)) = 2 ∧ (advance 0 (pr run)).prog.change = none ∧ (taskGrid (progImage (advance 0 (pr run))) 0).fst ≠ 0 ∧ tickIn (taskGrid (progImage (advance 0 (pr run))) 0) (task 0 (advance 0 (pr run))).lastIn ((advance 0 (pr run)).tb.now / 100000) = true ∧ task 0 (outputInstant 0 (advance 0 (pr run))) = s7 ∧ (outputInstant 0 (advance 0 (pr run))).prog.change = none ∧ taskOn (progImage (outputInstant 0 (advance 0 (pr run)))) 0 = true ∧ progState (outputInstant 0 (advance 0 (pr run))) = 2 ∧ s7.from_ ≤ lastInstant (taskGrid (progImage (outputInstant 0 (advance 0 (pr run)))) 0) ((advance 0 (pr run)).tb.now / 100000) * 100000 ∧ s7.executing = false ∧ s7.overrun = false)) ∧
    ((progRuns (advance 0 s8) = true ∧ (outputInstant 4 (advance 0 s8)).prog.queue = [(0, 1, 5, 7)] ∧ progState (outputInstant 4 (advance 0 s8)) = 2 ∧ (outputInstant 4 (advance 0 s8)).prog.change = none ∧ (task 4 (outputInstant 4 (advance 0 s8))).tin = none ∧ taskOn (progImage (outputInstant 4 (advance 0 s8))) 4 = true ∧ (0, 1, 5, 7).snd.snd.snd ≤ (advance 0 s8).tb.now / 100000 * 100000)) ∧
    (((task 0 (advance 0 (pr (ex 0 run)))).executing = true ∧ progRuns (advance 0 (pr (ex 0 run))) = true)) ∧
    (((task 0 (advance 1000000 (pr (ex 0 run)))).tin = some 0 ∧ (task 0 (advance 1000000 (pr (ex 0 run)))).executing = true ∧ 0 + fld (taskRec (progImage (advance 1000000 (pr (ex 0 run)))) 0) 2 1 * fld (taskRec (progImage (advance 1000000 (pr (ex 0 run)))) 0) 4 4 * 1000 ≤ (advance 1000000 (pr (ex 0 run))).tb.now)) ∧
    ((task 4 (advance 0 (pr (ex 4 run)))).executing = true) ∧
    (((advance 300000000000 s10).prog.holdAt = some 0 ∧ 0 + fld (advance 300000000000 s10).prog.cfg 4 4 * 1000000000 ≤ (advance 300000000000 s10).tb.now)) ∧
    (((advance 0 s11).prog.change.isSome = true ∧ progState (advance 0 s11) = 2 ∧ quiet (advance 0 s11) = true ∧ t0Instant (advance 0 s11) = true)) ∧
    (((advance 1000000000 s11).prog.change = some s12 ∧ s12.from_ + fld (advance 1000000000 s11).prog.cfg 0 4 * 1000000 ≤ (advance 1000000000 s11).tb.now)) ∧
    (((advance 0 s13).prog.retPend ≠ [] ∧ (feedsTwin (advance 0 s13) && (advance 0 s13).twin.unacked.any fun (i : TwinItem) => i.type == 18 && List.take 1 i.data == [1]) = false)) ∧
    ((progRuns (advance 0 s14) = true ∧ progState (advance 0 s14) = 2 ∧ 0 < eventCount (progImage (advance 0 s14)) ∧ eventData (eventRec (progImage (advance 0 s14)) 0) 1 (advance 0 s14) = some (3, 77))) ∧
    ((tabGet? (advance 0 s15).prog.timers 63 = some (tm 0) ∧ (tm 0).target ≤ (advance 0 s15).zone ∧ progRuns (advance 0 s15) = true ∧ progState (advance 0 s15) = 2 ∧ (tm 0).period = 0)) ∧
    ((tabGet? (advance 0 s16).prog.timers 63 = some (tm 9) ∧ (tm 9).target ≤ (advance 0 s16).zone ∧ progRuns (advance 0 s16) = true ∧ progState (advance 0 s16) = 2 ∧ (tm 9).period ≠ 0)) := by
  refine ⟨?_, ?_, ?_, ?_, ?_, ?_, ?_, ?_, ?_, ?_, ?_, ?_⟩ <;> decide +kernel

end Control

/-! ### Motion -/

namespace Motion

def arec : Bytes := patch (axis 0 ready).record 0 [1]

def ax (a : Axis) : State := { ready with motion := { axes := [(7, a)] } }

def s1 : State := (ax { record := arec })

def s2 : State := (ax { record := arec, homed := true, req := 1 })

def s3 : State := (ax { record := arec, faulted := true, fault := 1 })

def s4 : State := (ax { record := arec, clamped := true, devMax := 4 })

def rmp : Ramp := { t0 := 0, p0 := 0, v0 := 0, a0 := 0, goal := some 5, limits := (1,1,1,0), spans := [] }

def s5 : State := (ax { record := arec, ramp := some rmp })

def enc (a : Axis) : State := ax { a with record := patch arec 0x26 [1] }

def s6 : State := (enc {})

def lim (v : Bool) (on : Bool) : State := { ax { record := patch arec 0x28 [31], highOn := on } with io := { di := [(31, { state := v })] } }

def s7 : State := (ax { record := arec, causes := [5,6] })

def s8 : State := (ax { record := arec, current := 1 })

def s9 : State := (ax { record := arec, recorded := false })

def s10 : State := (ax { record := arec, homing := 1, current := 1 })

def s11 : State := (ax { record := arec, homing := 1, current := 1, ramp := some rmp })

def ccfg : Bytes := patch (canBus 0 ready).cfg 0 [1]

def can (x : CanBus) : State := { ready with buses := { can := [(3, x)] } }

def cobj : CanObj := { record := recordOf 16 [(0,1,2),(2,1,8)], isNew := true }

def s12 : State := (can { cfg := ccfg, objs := [(127, cobj)] })

def s13 : State := (can { cfg := patch ccfg 0 [2] })

def s14 : State := (can { cfg := ccfg, err := 3 })

def crx : CanRx := { id := 0x7FF, ide := false, fd := false, brs := false, remote := false, data := [1,2] }

def robj : CanObj := { record := recordOf 16 [(0,1,1)] }

def s15 : State := (can { cfg := ccfg, objs := [(127, robj)], recCount := 128 })

def s16 : State := (can { cfg := ccfg, objs := [(127, { robj with isNew := true })], recCount := 1 })

def cs : CanBus := { cfg := ccfg, objs := [(127, { cobj with pending := some [1] })] }

def s17 : State := (can { cs with tec := 248 })

def s18 : State := (can { cs with recCount := 127 })

def s19 : State := (can { cs with tec := 256 })

def s20 : State := (can { cs with err := 3, recovering := true })

def s21 : State := (can { cs with faults := 8 })

def det (k : Nat) : Detect := { dwell := 100, timeout := 10, from_ := 0, since := 0, cand := k, good := 1, nominal := 0, brs := false }

def s22 : State := (can { cs with detect := some (det 4) })

def s23 : State := (can { cs with detect := some (det 8) })

/-- What meets the hypotheses of MotionClassAnswers, clause by clause. -/
theorem witness_MotionClassAnswers :
    (accepts cmdAxisGetConfig 0 (rq [7, 0, 0, 0]) ready = true) ∧
    (accepts cmdAxisSetConfig 0 (rq ([7, 0, 0, 0] ++ arec)) ready = true ∧ (!caravanHolds (805306368 + fld (requestOf cmdAxisSetConfig 0 (rq ([7, 0, 0, 0] ++ arec)) ready).payload 0 1) (judged cmdAxisSetConfig 0 (rq ([7, 0, 0, 0] ++ arec)) ready) && !axisConflict (fld (requestOf cmdAxisSetConfig 0 (rq ([7, 0, 0, 0] ++ arec)) ready).payload 0 1) (slice (requestOf cmdAxisSetConfig 0 (rq ([7, 0, 0, 0] ++ arec)) ready).payload 4 64) (judged cmdAxisSetConfig 0 (rq ([7, 0, 0, 0] ++ arec)) ready)) = true) ∧
    (accepts cmdAxisSetConfig 0 (rq ([7, 0, 0, 0] ++ (axis 0 ready).record)) ready = true ∧ (!caravanHolds (805306368 + fld (requestOf cmdAxisSetConfig 0 (rq ([7, 0, 0, 0] ++ (axis 0 ready).record)) ready).payload 0 1) (judged cmdAxisSetConfig 0 (rq ([7, 0, 0, 0] ++ (axis 0 ready).record)) ready) && !axisConflict (fld (requestOf cmdAxisSetConfig 0 (rq ([7, 0, 0, 0] ++ (axis 0 ready).record)) ready).payload 0 1) (slice (requestOf cmdAxisSetConfig 0 (rq ([7, 0, 0, 0] ++ (axis 0 ready).record)) ready).payload 4 64) (judged cmdAxisSetConfig 0 (rq ([7, 0, 0, 0] ++ (axis 0 ready).record)) ready)) = true) ∧
    (accepts cmdAxisSetMode 0 (rq [7, 1, 0, 0]) s1 = true ∧ (fld (requestOf cmdAxisSetMode 0 (rq [7, 1, 0, 0]) s1).payload 1 1 != 2 || axisGuarded (fld (requestOf cmdAxisSetMode 0 (rq [7, 1, 0, 0]) s1).payload 0 1) (judged cmdAxisSetMode 0 (rq [7, 1, 0, 0]) s1)) = true) ∧
    (accepts cmdAxisSetMode 0 (rq [7, 2, 0, 0]) s1 = true ∧ (fld (requestOf cmdAxisSetMode 0 (rq [7, 2, 0, 0]) s1).payload 1 1 == 2 && !axisGuarded (fld (requestOf cmdAxisSetMode 0 (rq [7, 2, 0, 0]) s1).payload 0 1) (judged cmdAxisSetMode 0 (rq [7, 2, 0, 0]) s1)) = true) ∧
    (accepts cmdAxisMove 0 (rq ([7, 0, 0, 0] ++ le 4 1065353216)) s2 = true ∧ ((axis (fld (requestOf cmdAxisMove 0 (rq ([7, 0, 0, 0] ++ le 4 1065353216)) s2).payload 0 1) (judged cmdAxisMove 0 (rq ([7, 0, 0, 0] ++ le 4 1065353216)) s2)).homed && axisMode (fld (requestOf cmdAxisMove 0 (rq ([7, 0, 0, 0] ++ le 4 1065353216)) s2).payload 0 1) (judged cmdAxisMove 0 (rq ([7, 0, 0, 0] ++ le 4 1065353216)) s2) == 1 && (loopOwner 3 (fld (requestOf cmdAxisMove 0 (rq ([7, 0, 0, 0] ++ le 4 1065353216)) s2).payload 0 1) (judged cmdAxisMove 0 (rq ([7, 0, 0, 0] ++ le 4 1065353216)) s2)).isNone && !(bindsTo (progDir (judged cmdAxisMove 0 (rq ([7, 0, 0, 0] ++ le 4 1065353216)) s2)) 69 (fld (requestOf cmdAxisMove 0 (rq ([7, 0, 0, 0] ++ le 4 1065353216)) s2).payload 0 1)).any fun (e : Bytes) => !entryGuard e) = true) ∧
    (accepts cmdAxisHome 0 (rq [7, 0, 0, 0]) s1 = true ∧ (!axisGuarded (fld (requestOf cmdAxisHome 0 (rq [7, 0, 0, 0]) s1).payload 0 1) (judged cmdAxisHome 0 (rq [7, 0, 0, 0]) s1) && axisMode (fld (requestOf cmdAxisHome 0 (rq [7, 0, 0, 0]) s1).payload 0 1) (judged cmdAxisHome 0 (rq [7, 0, 0, 0]) s1) != 0 && axisMode (fld (requestOf cmdAxisHome 0 (rq [7, 0, 0, 0]) s1).payload 0 1) (judged cmdAxisHome 0 (rq [7, 0, 0, 0]) s1) != 6 && axisMode (fld (requestOf cmdAxisHome 0 (rq [7, 0, 0, 0]) s1).payload 0 1) (judged cmdAxisHome 0 (rq [7, 0, 0, 0]) s1) != 7 && (axis (fld (requestOf cmdAxisHome 0 (rq [7, 0, 0, 0]) s1).payload 0 1) (judged cmdAxisHome 0 (rq [7, 0, 0, 0]) s1)).faultPend == 0) = true) ∧
    (accepts cmdAxisClearFault 0 (rq [7, 0, 0, 0]) s3 = true ∧ ((axis (fld (requestOf cmdAxisClearFault 0 (rq [7, 0, 0, 0]) s3).payload 0 1) (judged cmdAxisClearFault 0 (rq [7, 0, 0, 0]) s3)).faulted && !(axis (fld (requestOf cmdAxisClearFault 0 (rq [7, 0, 0, 0]) s3).payload 0 1) (judged cmdAxisClearFault 0 (rq [7, 0, 0, 0]) s3)).causes.contains (axis (fld (requestOf cmdAxisClearFault 0 (rq [7, 0, 0, 0]) s3).payload 0 1) (judged cmdAxisClearFault 0 (rq [7, 0, 0, 0]) s3)).fault) = true) ∧
    (accepts cmdAxisReadStatus 0 (rq []) s4 = true) := by
  refine ⟨?_, ?_, ?_, ?_, ?_, ?_, ?_, ?_, ?_⟩ <;> decide +kernel

/-- What meets the hypotheses of MotionEventsRun, clause by clause. -/
theorem witness_MotionEventsRun :
    (((axis 7 (advance 1000000000 s5)).ramp = some rmp ∧ rmp.end_ ≤ (advance 1000000000 s5).tb.now ∧ (axis 7 (advance 1000000000 s5)).faultPend = 0 ∧ (axis 7 (advance 1000000000 s5)).homing = 0)) ∧
    ((advance 100000 s1).motion.lastCheck < (advance 100000 s1).tb.now / 100000) ∧
    (fld (axis 7 (advance 0 s6)).record 38 1 ≠ 0) ∧
    ((fld (axis 7 (advance 0 (lim true false))).record 40 1 = 31 ∧ 31 ≠ 255 ∧ fld (axis 7 (advance 0 (lim true false))).record 0 1 ≠ 0 ∧ (di 31 (advance 0 (lim true false))).value = true ∧ (axis 7 (advance 0 (lim true false))).highOn = false ∧ fld (axis 7 (advance 0 (lim true false))).record 52 4 < (↑(stroke (axis 7 (advance 0 (lim true false)))) - (axis 7 (advance 0 (lim true false))).posAt (advance 0 (lim true false)).tb.now).natAbs)) ∧
    ((fld (axis 7 (advance 0 (lim false true))).record 40 1 = 31 ∧ 31 ≠ 255 ∧ fld (axis 7 (advance 0 (lim false true))).record 0 1 ≠ 0 ∧ (di 31 (advance 0 (lim false true))).value = false ∧ (axis 7 (advance 0 (lim false true))).highOn = true)) ∧
    (((axis 7 (advance 500000000 s8)).moving = false ∧ (axis 7 (advance 500000000 s8)).current ≤ 1 ∧ (axis 7 (advance 500000000 s8)).restAt + fld (axis 7 (advance 500000000 s8)).record 36 2 * 1000000 ≤ (advance 500000000 s8).tb.now)) ∧
    (((axis 7 (advance 1000000000 s9)).moving = false ∧ (axis 7 (advance 1000000000 s9)).recorded = false ∧ (axis 7 (advance 1000000000 s9)).restAt + 1000000000 ≤ (advance 1000000000 s9).tb.now)) := by
  refine ⟨?_, ?_, ?_, ?_, ?_, ?_, ?_⟩ <;> decide +kernel

/-- What meets the hypotheses of EveryAxisFaultIsRemembered, clause by clause. -/
theorem witness_EveryAxisFaultIsRemembered :
    (fld (axis 7 s10).record 0 1 ≠ 0 ∧ s10.win.role ≠ Role.standby ∧ (axis 7 s10).faulted = false ∧ (axis 7 s10).faultPend = 0 ∧ 1 ≠ 0) ∧
    (fld (axis 7 s10).record 0 1 ≠ 0 ∧ s10.win.role ≠ Role.standby ∧ (axis 7 s10).faulted = false ∧ (axis 7 s10).faultPend = 0 ∧ 4 ≠ 0) ∧
    (fld (axis 7 s10).record 0 1 ≠ 0 ∧ s10.win.role ≠ Role.standby ∧ (axis 7 s10).faulted = false ∧ (axis 7 s10).faultPend = 0 ∧ 5 ≠ 0) ∧
    (fld (axis 7 s10).record 0 1 ≠ 0 ∧ s10.win.role ≠ Role.standby ∧ (axis 7 s10).faulted = false ∧ (axis 7 s10).faultPend = 0 ∧ 7 ≠ 0) ∧
    (fld (axis 7 s11).record 0 1 ≠ 0 ∧ s11.win.role ≠ Role.standby ∧ (axis 7 s11).faulted = false ∧ (axis 7 s11).faultPend = 0 ∧ 5 ≠ 0 ∧ 5 ≤ 5) ∧
    (fld (axis 7 s11).record 0 1 ≠ 0 ∧ s11.win.role ≠ Role.standby ∧ (axis 7 s11).faulted = false ∧ (axis 7 s11).faultPend = 0 ∧ 7 ≠ 0 ∧ 5 ≤ 7) ∧
    (fld (axis 7 s5).record 0 1 ≠ 0 ∧ s5.win.role ≠ Role.standby ∧ (axis 7 s5).faulted = false ∧ (axis 7 s5).faultPend = 0 ∧ 1 ≠ 0 ∧ 6 ≠ 7) := by
  refine ⟨?_, ?_, ?_, ?_, ?_, ?_, ?_⟩ <;> decide +kernel

/-- What meets the hypotheses of CanClassAnswers, clause by clause. -/
theorem witness_CanClassAnswers :
    (accepts cmdCanGetConfig 0 (rq [3, 0, 0, 0]) ready = true) ∧
    (accepts cmdCanSetConfig 0 (rq ([3, 0, 0, 0] ++ (canBus 0 ready).cfg)) ready = true ∧ (!badTiming (List.drop 4 (requestOf cmdCanSetConfig 0 (rq ([3, 0, 0, 0] ++ (canBus 0 ready).cfg)) ready).payload) && fld (List.drop 4 (requestOf cmdCanSetConfig 0 (rq ([3, 0, 0, 0] ++ (canBus 0 ready).cfg)) ready).payload) 0 1 == 0) = true) ∧
    (accepts cmdCanSetConfig 0 (rq ([3, 0, 0, 0] ++ ccfg)) ready = true ∧ (!badTiming (List.drop 4 (requestOf cmdCanSetConfig 0 (rq ([3, 0, 0, 0] ++ ccfg)) ready).payload) && fld (List.drop 4 (requestOf cmdCanSetConfig 0 (rq ([3, 0, 0, 0] ++ ccfg)) ready).payload) 0 1 != 0) = true) ∧
    (accepts cmdCanSetObjects 0 (rq ([3, 0, 127, 1] ++ zeros 16)) ready = true ∧ ((chunks 16 (fld (requestOf cmdCanSetObjects 0 (rq ([3, 0, 127, 1] ++ zeros 16)) ready).payload 3 1) (List.drop 4 (requestOf cmdCanSetObjects 0 (rq ([3, 0, 127, 1] ++ zeros 16)) ready).payload)).zipIdx.all fun (e : Bytes × Nat) => !(bindingFields (canObj (fld (requestOf cmdCanSetObjects 0 (rq ([3, 0, 127, 1] ++ zeros 16)) ready).payload 0 1) (fld (requestOf cmdCanSetObjects 0 (rq ([3, 0, 127, 1] ++ zeros 16)) ready).payload 2 1 + e.snd) (judged cmdCanSetObjects 0 (rq ([3, 0, 127, 1] ++ zeros 16)) ready)).record e.fst && canBound (fld (requestOf cmdCanSetObjects 0 (rq ([3, 0, 127, 1] ++ zeros 16)) ready).payload 0 1) (fld (requestOf cmdCanSetObjects 0 (rq ([3, 0, 127, 1] ++ zeros 16)) ready).payload 2 1 + e.snd) (judged cmdCanSetObjects 0 (rq ([3, 0, 127, 1] ++ zeros 16)) ready))) = true) ∧
    (accepts cmdCanGetObjects 0 (rq [3, 0, 127, 1]) ready = true) ∧
    (accepts cmdCanReadObjects 0 (rq [3, 0, 127, 1]) s12 = true) ∧
    (accepts cmdCanSend 0 (rq (recordOf 68 [(0, 1, 3), (1, 1, 127), (2, 1, 1), (4, 1, 9)])) s12 = true ∧ (fld (canObj (fld (requestOf cmdCanSend 0 (rq (recordOf 68 [(0, 1, 3), (1, 1, 127), (2, 1, 1), (4, 1, 9)])) s12).payload 0 1) (fld (requestOf cmdCanSend 0 (rq (recordOf 68 [(0, 1, 3), (1, 1, 127), (2, 1, 1), (4, 1, 9)])) s12).payload 1 1) (judged cmdCanSend 0 (rq (recordOf 68 [(0, 1, 3), (1, 1, 127), (2, 1, 1), (4, 1, 9)])) s12)).record 0 1 == 2 && !progSends (fld (requestOf cmdCanSend 0 (rq (recordOf 68 [(0, 1, 3), (1, 1, 127), (2, 1, 1), (4, 1, 9)])) s12).payload 0 1) (fld (requestOf cmdCanSend 0 (rq (recordOf 68 [(0, 1, 3), (1, 1, 127), (2, 1, 1), (4, 1, 9)])) s12).payload 1 1) (judged cmdCanSend 0 (rq (recordOf 68 [(0, 1, 3), (1, 1, 127), (2, 1, 1), (4, 1, 9)])) s12)) = true) ∧
    (accepts cmdCanDetectRate 0 (rq (recordOf 8 [(0, 1, 3), (2, 2, 1000), (4, 2, 60)])) s13 = true ∧ (canBus (fld (requestOf cmdCanDetectRate 0 (rq (recordOf 8 [(0, 1, 3), (2, 2, 1000), (4, 2, 60)])) s13).payload 0 1) (judged cmdCanDetectRate 0 (rq (recordOf 8 [(0, 1, 3), (2, 2, 1000), (4, 2, 60)])) s13)).detect.isNone = true) ∧
    (accepts cmdCanRecover 0 (rq [3, 0, 0, 0]) s14 = true ∧ ((canBus (fld (requestOf cmdCanRecover 0 (rq [3, 0, 0, 0]) s14).payload 0 1) (judged cmdCanRecover 0 (rq [3, 0, 0, 0]) s14)).err == 3) = true) ∧
    (accepts cmdCanGetStatus 0 (rq [3, 0, 0, 0]) s14 = true) := by
  refine ⟨?_, ?_, ?_, ?_, ?_, ?_, ?_, ?_, ?_, ?_⟩ <;> decide +kernel

/-- What meets the hypotheses of CanEventsRun, clause by clause. -/
theorem witness_CanEventsRun :
    ((canMode 3 (advance 0 s15) = 1 ∧ (crx.fd = false ∨ bit (fld (canBus 3 (advance 0 s15)).cfg 1 1) 0 = true) ∧ canMode 3 (detectGood 3 (crx.fd && crx.brs) (offer 3 crx ((advance 0 s15).zone - 100) CanReading.idle (advance 0 s15))) = 1)) ∧
    ((canMode 3 (advance 0 s16) = 1 ∧ (crx.fd = false ∨ bit (fld (canBus 3 (advance 0 s16)).cfg 1 1) 0 = true) ∧ canMode 3 (detectGood 3 (crx.fd && crx.brs) (offer 3 crx ((advance 0 s16).zone - 100) CanReading.since (advance 0 s16))) = 1)) ∧
    (canMode 3 (advance 0 (can cs)) ≠ 0) ∧
    (((canMode 3 (advance 0 s17) = 1 ∨ canMode 3 (advance 0 s17) = 3) ∧ (canBus 3 (advance 0 s17)).err ≠ 3 ∧ (canBus 3 (advance 0 s17)).detect = none)) ∧
    (((canMode 3 (advance 0 s18) = 1 ∨ canMode 3 (advance 0 s18) = 3) ∧ (canBus 3 (advance 0 s18)).err ≠ 3 ∧ (canBus 3 (advance 0 s18)).detect = none)) ∧
    ((canMode 3 (advance 0 s19) ≠ 0 ∧ (canBus 3 (advance 0 s19)).err ≠ 3 ∧ 255 < (canBus 3 (advance 0 s19)).tec)) ∧
    ((canMode 3 (advance 0 s20) ≠ 0 ∧ (canBus 3 (advance 0 s20)).err = 3 ∧ (canBus 3 (advance 0 s20)).recovering = true)) ∧
    ((canMode 3 (advance 0 (can cs)) ≠ 0 ∧ bit (canBus 3 (advance 0 (can cs))).faults 3 = false)) ∧
    ((canMode 3 (advance 0 s21) ≠ 0 ∧ bit (canBus 3 (advance 0 s21)).faults 3 = true)) ∧
    (((canBus 3 (advance 100000000 s22)).detect = some (det 4) ∧ (det 4).since + (det 4).dwell * 1000000 ≤ (advance 100000000 s22).tb.now)) ∧
    (((canBus 3 (advance 100000000 s23)).detect = some (det 8) ∧ (det 8).since + (det 8).dwell * 1000000 ≤ (advance 100000000 s23).tb.now)) ∧
    (((canBus 3 (advance 10000000000 s22)).detect = some (det 4) ∧ (det 4).from_ + (det 4).timeout * 1000000000 ≤ (advance 10000000000 s22).tb.now ∧ (det 4).cand < 5)) := by
  refine ⟨?_, ?_, ?_, ?_, ?_, ?_, ?_, ?_, ?_, ?_, ?_, ?_⟩ <;> decide +kernel

end Motion

/-! ### Terminals -/

namespace Terminals

def bx (m : Mbus) : State := { ready with buses := { mbus := m } }

def dcfg : Bytes := ({} : Mbus).cfg

def s1 : State := (bx { faults := 3 })

def s2 : State := (bx { line := 1 })

def s3 : State := (bx { line := 1, cfg := patch dcfg 3 [1,60,0,1,0] })

def bex (nke : Bool) : MbusExchange := { slot := 0, addr := 7, tries := 0, telegrams := 0, sent := 0, nke := nke }

def brep : MbusReply := { bytes := [0x68,3,3,0x68,8,7,0x72,0x81,0x16], whole := true, collision := false, began := 5000000 }

def s4 : State := (bx { line := 1, exch := some (bex false) })

def s5 : State := (bx { line := 1, exch := some (bex true) })

def s6 : State := (bx { line := 2 })

def s7 : State := { ready with io := { dout := [(23, { latched := true, trip := 5 })] } }

def s8 : State := { ready with io := { ilocks := [(7, { on := true })] } }

def s9 : State := { ready with panel := { cfg := patch ready.panel.cfg 0x10 ((List.replicate 8 [2,0,0,0]).flatten.map (BitVec.ofNat 8)) } }

def iocfg (off : Nat) (l : List Nat) : State := { ready with io := { cfg := patch ready.io.cfg off (l.map (BitVec.ofNat 8)) } }

def s10 : State := { iocfg (0x10+8*31) [0,0,0,0,1,0] with io := { (iocfg (0x10+8*31) [0,0,0,0,1,0]).io with di := [(31, { state := true, known := true, highFrom := some 0 })] } }

def s11 : State := { ready with io := { di := [(31, { chatter := some true })] } }

def s12 : State := { ready with io := { dout := [(23, { on := true })] } }

def s13 : State := { ready with io := { dout := [(23, { offAt := some 0, trip := 2 })] } }

def s14 : State := { iocfg (0x190+4*23) [1] with io := { (iocfg (0x190+4*23) [1]).io with dout := [(23, { on := true })] } }

def s15 : State := { ready with io := { blocks := [(15, { span := some 0 })] } }

def s16 : State := { ready with io := { blocks := [(15, { removed := true, clearFrom := some 0 })] } }

def s17 : State := { ready with panel := { keys := [(0, { base := some 0 })] } }

def led : State := { ready with panel := { leds := [(7, (1, 100))] } }

def blk (x : Block) (o : Nat) (now : Nat) : State :=
  let c := patch (patch ready.io.cfg 0x10 [1]) 0x210 [1,0,0,0,0,0,0,0,0,0,0,0,0,0,0xFF,0]
  { ready with tb := { ready.tb with now := now }, io := { cfg := c, blocks := [(0, x)], di := [(0, { band := o })] } }

def s18 : State := (blk { span := some 1 } 1 150000000)

def s19 : State := (blk { span := some 1 } 1 150000001)

def s20 : State := (blk { span := some 1 } 0 150000001)

def s21 : State := (blk { span := some 1, held := [{code:=0x0F01,time:=0,items:=[],locked:=false}] } 1 150000001)

def s22 : State := (blk { span := some 1, held := [{code:=0x0F01,time:=0,items:=[],locked:=false}]} 1 150000001)

def s23 : State := (blk { removed := true, clearFrom := some 1 } 2 1000000001)

/-- What meets the hypotheses of clause 1 of MbusAnswersAndRuns. -/
theorem witness_MbusAnswersAndRuns_config :
    accepts cmdMbusSetConfig 0 (rq dcfg) ready = true ∧
    ((List.range (fld (requestOf cmdMbusSetConfig 0 (rq dcfg) ready).payload 3 1)).all fun (i : Nat) => (List.range i).all fun (j : Nat) => fld (requestOf cmdMbusSetConfig 0 (rq dcfg) ready).payload (16 + 4 * j) 1 != fld (requestOf cmdMbusSetConfig 0 (rq dcfg) ready).payload (16 + 4 * i) 1) = true := by
  refine ⟨?_, by decide +kernel⟩
  unfold accepts checkFailure refusal cmdMbusSetConfig
  simp only [inRange, chk, allZero_slice, fld_eq_div]
  decide +kernel

/-- What meets the hypotheses of MbusAnswersAndRuns, clause by clause. -/
theorem witness_MbusAnswersAndRuns :
    (accepts cmdMbusGetConfig 0 (rq []) ready = true) ∧
    (accepts cmdMbusReadRecords 0 (rq [1, 0, 1, 0]) ready = true) ∧
    (accepts cmdMbusGetStatus 0 (rq []) s1 = true) ∧
    (accepts cmdMbusTransact 0 (rq [5, 0, 0, 0, 16, 64, 1, 65, 22]) s2 = true) ∧
    ((busesUp (advance 60000000000 s3) = true ∧ (advance 60000000000 s3).buses.mbus.lastCycle < (advance 60000000000 s3).zone / (max 1 (fld (advance 60000000000 s3).buses.mbus.cfg 4 2) * 1000000000) ∧ (advance 60000000000 s3).buses.mbus.pend = none ∧ (advance 60000000000 s3).buses.mbus.line = 1 ∧ (advance 60000000000 s3).buses.mbus.running = false ∧ serving (advance 60000000000 s3) = true)) ∧
    (((advance 1000000 s4).buses.mbus.line = 1 ∧ (advance 1000000 s4).buses.mbus.exch = some (bex false) ∧ (bex false).nke = false ∧ (advance 1000000 s4).tb.now ≤ replyLimit (bex false).sent (slaveBaud (advance 1000000 s4).buses.mbus (bex false).slot) + brep.began ∧ brep.collision = false ∧ replyGood brep = true ∧ (slave (bex false).addr (storeReply (bex false).addr brep.bytes (advance 1000000 s4))).chain = 0)) ∧
    (((advance 1000000000 s4).buses.mbus.exch = some (bex false) ∧ replyLimit (bex false).sent (slaveBaud (advance 1000000000 s4).buses.mbus (bex false).slot) ≤ (advance 1000000000 s4).tb.now ∧ (bex false).nke = false)) ∧
    (((advance 1000000000 s5).buses.mbus.exch = some (bex true) ∧ replyLimit (bex true).sent (slaveBaud (advance 1000000000 s5).buses.mbus (bex true).slot) ≤ (advance 1000000000 s5).tb.now ∧ (bex true).nke = true)) ∧
    ((advance 0 s2).buses.mbus.line = 1) ∧
    (((advance 10000000000 s6).buses.mbus.line = 2 ∧ (advance 10000000000 s6).buses.mbus.offAt + 10000000000 ≤ (advance 10000000000 s6).tb.now)) := by
  refine ⟨?_, ?_, ?_, ?_, ?_, ?_, ?_, ?_, ?_, ?_⟩ <;> decide +kernel

/-- What meets the hypotheses of clause 1 of IoAndPanelClassAnswers. -/
theorem witness_IoAndPanelClassAnswers_config :
    accepts cmdIoSetConfig 0 (rq ready.io.cfg) ready = true ∧
    (((ilockConflict (requestOf cmdIoSetConfig 0 (rq ready.io.cfg) ready).payload).isNone && (List.range 8).all fun (n : Nat) => !(ilockOn n (judged cmdIoSetConfig 0 (rq ready.io.cfg) ready) && ilockRec (requestOf cmdIoSetConfig 0 (rq ready.io.cfg) ready).payload n != ilockRec (judged cmdIoSetConfig 0 (rq ready.io.cfg) ready).io.cfg n)) && (blockOverlap (requestOf cmdIoSetConfig 0 (rq ready.io.cfg) ready).payload).isNone && (presenceUsed (requestOf cmdIoSetConfig 0 (rq ready.io.cfg) ready).payload (judged cmdIoSetConfig 0 (rq ready.io.cfg) ready)).isNone) = true := by
  refine ⟨?_, by decide +kernel⟩
  unfold accepts checkFailure refusal cmdIoSetConfig ioReserved ioRanges flagResv
  simp only [inRange, chk, allZero_slice, fld_eq_div]
  decide +kernel

/-- What meets the hypotheses of IoAndPanelClassAnswers, clause by clause. -/
theorem witness_IoAndPanelClassAnswers :
    (accepts cmdIoGetConfig 0 (rq []) ready = true) ∧
    (accepts cmdIoGetStatus 0 (rq []) ready = true) ∧
    (accepts cmdIoReadCounters 0 (rq []) ready = true) ∧
    (accepts cmdIoSetOutput 0 (rq [0, 23, 0, 0, 0, 0, 128, 63]) ready = true ∧ ((loopOwner (2 - fld (requestOf cmdIoSetOutput 0 (rq [0, 23, 0, 0, 0, 0, 128, 63]) ready).payload 0 1) (fld (requestOf cmdIoSetOutput 0 (rq [0, 23, 0, 0, 0, 0, 128, 63]) ready).payload 1 1) (judged cmdIoSetOutput 0 (rq [0, 23, 0, 0, 0, 0, 128, 63]) ready)).isNone && !(bindsTo (progDir (judged cmdIoSetOutput 0 (rq [0, 23, 0, 0, 0, 0, 128, 63]) ready)) (bindKind (2 - fld (requestOf cmdIoSetOutput 0 (rq [0, 23, 0, 0, 0, 0, 128, 63]) ready).payload 0 1)) (fld (requestOf cmdIoSetOutput 0 (rq [0, 23, 0, 0, 0, 0, 128, 63]) ready).payload 1 1)).any fun (e : Bytes) => !entryGuard e) = true) ∧
    (accepts cmdIoClearOutput 0 (rq [23, 0, 0, 0]) s7 = true ∧ (have d := dout (fld (requestOf cmdIoClearOutput 0 (rq [23, 0, 0, 0]) s7).payload 0 1) (judged cmdIoClearOutput 0 (rq [23, 0, 0, 0]) s7); d.latched && !d.reversed && d.test != 3) = true) ∧
    (accepts cmdIoResetInterlock 0 (rq [7, 0, 0, 0]) s8 = true ∧ (ilockOn (fld (requestOf cmdIoResetInterlock 0 (rq [7, 0, 0, 0]) s8).payload 0 1) (judged cmdIoResetInterlock 0 (rq [7, 0, 0, 0]) s8) && !(fld (ilockRec (judged cmdIoResetInterlock 0 (rq [7, 0, 0, 0]) s8).io.cfg (fld (requestOf cmdIoResetInterlock 0 (rq [7, 0, 0, 0]) s8).payload 0 1)) 0 1 == 1 && ilockActive (ilockRec (judged cmdIoResetInterlock 0 (rq [7, 0, 0, 0]) s8).io.cfg (fld (requestOf cmdIoResetInterlock 0 (rq [7, 0, 0, 0]) s8).payload 0 1)) (judged cmdIoResetInterlock 0 (rq [7, 0, 0, 0]) s8))) = true) ∧
    (accepts cmdPanelGetConfig 0 (rq []) ready = true) ∧
    (accepts cmdPanelSetConfig 0 (rq ready.panel.cfg) ready = true) ∧
    (accepts cmdPanelGetKeys 0 (rq []) ready = true) ∧
    (accepts cmdPanelSetLeds 0 (rq [3, 0, 0, 0, 0, 0, 0, 0, 0, 0, 0, 0, 0, 0, 0, 0]) s9 = true ∧ ((List.range 8).all fun (n : Nat) => !(fld (judged cmdPanelSetLeds 0 (rq [3, 0, 0, 0, 0, 0, 0, 0, 0, 0, 0, 0, 0, 0, 0, 0]) s9).panel.cfg (17 + 4 * n) 1 == 1 && (fld (requestOf cmdPanelSetLeds 0 (rq [3, 0, 0, 0, 0, 0, 0, 0, 0, 0, 0, 0, 0, 0, 0, 0]) s9).payload (2 * n) 1, fld (requestOf cmdPanelSetLeds 0 (rq [3, 0, 0, 0, 0, 0, 0, 0, 0, 0, 0, 0, 0, 0, 0, 0]) s9).payload (2 * n + 1) 1) != tabGet (0, 0) (judged cmdPanelSetLeds 0 (rq [3, 0, 0, 0, 0, 0, 0, 0, 0, 0, 0, 0, 0, 0, 0, 0]) s9).panel.leds n)) = true) := by
  refine ⟨?_, ?_, ?_, ?_, ?_, ?_, ?_, ?_, ?_, ?_⟩ <;> decide +kernel

/-- What meets the hypotheses of FieldAndPanelEventsRun, clause by clause. -/
theorem witness_FieldAndPanelEventsRun :
    ((fieldRuns (advance 1000000 ready) = true ∧ fld (diRec (advance 1000000 ready).io.cfg 31) 2 2 ≤ 1000000 ∧ judgePad (diRec (advance 1000000 ready).io.cfg 31) 12000 24000 ≠ Band.between)) ∧
    ((fieldRuns (advance 1000000 (iocfg (16 + 8 * 31) [1])) = true ∧ fld (diRec (advance 1000000 (iocfg (16 + 8 * 31) [1])).io.cfg 31) 0 1 = 1 ∧ judgePad (diRec (advance 1000000 (iocfg (16 + 8 * 31) [1])).io.cfg 31) 12000 24000 = Band.between ∧ 100000 ≤ 100000)) ∧
    (((di 31 (advance 1000000000 s10)).highFrom = some 0 ∧ fld (diRec (advance 1000000000 s10).io.cfg 31) 4 2 ≠ 0 ∧ 0 + fld (diRec (advance 1000000000 s10).io.cfg 31) 4 2 * 1000000000 ≤ (advance 1000000000 s10).tb.now)) ∧
    (((di 31 (advance 1000000000 s11)).chatter.isSome = true ∧ (List.filter (fun (e : Nat × Bool) => decide ((advance 1000000000 s11).tb.now < e.fst + chatterNs (diRec (advance 1000000000 s11).io.cfg 31))) (di 31 (advance 1000000000 s11)).edges).length ≤ 1)) ∧
    ((fieldRuns (advance 1000000000 (iocfg (272 + 8 * 15) [1])) = true ∧ fld (ainRec (advance 1000000000 (iocfg (272 + 8 * 15) [1])).io.cfg 15) 0 1 = 1 ∧ (tabGet { : Ain } (advance 1000000000 (iocfg (272 + 8 * 15) [1])).io.ain 15).last < (advance 1000000000 (iocfg (272 + 8 * 15) [1])).tb.now / (max 1 (fld (ainRec (advance 1000000000 (iocfg (272 + 8 * 15) [1])).io.cfg 15) 2 2) * 1000000))) ∧
    ((dout 23 (advance 1000000000 s12)).on = true) ∧
    (((dout 23 (advance 1000000000 s13)).offAt = some 0 ∧ 0 + fld (doRec (advance 1000000000 s13).io.cfg 23) 2 2 * 1000000 ≤ (advance 1000000000 s13).tb.now)) ∧
    (((dout 23 (advance 1000000000 s14)).lastTest < (advance 1000000000 s14).tb.now / 100000000 ∧ fieldRuns (advance 1000000000 s14) = true ∧ (advance 1000000000 s14).win.role ≠ Role.standby ∧ bit (fld (doRec (advance 1000000000 s14).io.cfg 23) 0 1) 0 = true ∧ (dout 23 (advance 1000000000 s14)).on = true)) ∧
    ((fieldRuns (advance 0 ready) = true ∧ (advance 0 ready).win.role ≠ Role.standby ∧ -500 ≤ 5000 ∧ 20000 ≤ 20000 ∧ 10 ≤ 10)) ∧
    (((advance 5000000 s17).panel.lastMeas < (advance 5000000 s17).tb.now / 5000000 ∧ fieldRuns (advance 5000000 s17) = true ∧ have on := List.filter (fun (n : Nat) => bit (fld (advance 5000000 s17).panel.cfg 7 1) n) (List.range 8); have v := List.foldl (fun (t : State) (n : Nat) => setKey n (measureKey (advance 5000000 s17).panel.cfg t.tb.now ([6553600, 0, 0, 0, 0, 0, 0, 0].getD n 0) (key n t)) t) { pending := (advance 5000000 s17).pending, tb := (advance 5000000 s17).tb, win := (advance 5000000 s17).win, sys := (advance 5000000 s17).sys, rtc := (advance 5000000 s17).rtc, recorder := (advance 5000000 s17).recorder, model := (advance 5000000 s17).model, solver := (advance 5000000 s17).solver, opt := (advance 5000000 s17).opt, car := (advance 5000000 s17).car, net := (advance 5000000 s17).net, twin := (advance 5000000 s17).twin, elec := (advance 5000000 s17).elec, therm := (advance 5000000 s17).therm, loops := (advance 5000000 s17).loops, prog := (advance 5000000 s17).prog, motion := (advance 5000000 s17).motion, buses := (advance 5000000 s17).buses, io := (advance 5000000 s17).io, panel := have __src := (advance 5000000 s17).panel; { cfg := __src.cfg, keys := __src.keys, covered := __src.covered, blanked := __src.blanked, lastMeas := (advance 5000000 s17).tb.now / 5000000, leds := __src.leds, ledOpen := __src.ledOpen, ledShort := __src.ledShort, attached := __src.attached, orientation := __src.orientation, unstable := __src.unstable, detaches := __src.detaches : Panel }, sec := (advance 5000000 s17).sec, clocks := (advance 5000000 s17).clocks, power := (advance 5000000 s17).power, boot := (advance 5000000 s17).boot, out := (advance 5000000 s17).out : State } on; (List.filter (fun (n : Nat) => (key n v).touched) on).length ≤ fld (advance 5000000 s17).panel.cfg 6 1 ∧ List.filter (fun (n : Nat) => (key n v).touched) on ≠ [])) ∧
    ((ledLit 7 (advance 5000000 led) = true ∧ fieldRuns (advance 5000000 led) = true ∧ 0 = 0)) ∧
    ((ledLit 7 (advance 5000000 led) = true ∧ fieldRuns (advance 5000000 led) = true ∧ 1 ≠ 0 ∧ 999 < 1000)) := by
  refine ⟨?_, ?_, ?_, ?_, ?_, ?_, ?_, ?_, ?_, ?_, ?_, ?_⟩ <;> decide +kernel

/-- What meets the hypotheses of TerminalBlocksAreJudged, clause by clause. -/
theorem witness_TerminalBlocksAreJudged :
    ((block 15 ready).span = none) ∧
    ((block 0 s18).span = some 1 ∧ s18.tb.now < 1 + fld s18.io.cfg 0 2 * 1000000) ∧
    ((block 0 s19).span = some 1 ∧ 1 + fld s19.io.cfg 0 2 * 1000000 ≤ s19.tb.now ∧ (blockOpens 0 s19 ≠ [] ∧ ((blockOpens 0 s19).all fun (x : Bool) => x) = true)) ∧
    ((block 0 s20).span = some 1 ∧ 1 + fld s20.io.cfg 0 2 * 1000000 ≤ s20.tb.now ∧ ((blockOpens 0 s20).all fun (x : Bool) => x) = false) ∧
    ((block 0 s21).span = some 1 ∧ 1 + fld s21.io.cfg 0 2 * 1000000 ≤ s21.tb.now) ∧
    ((block 0 s22).span = some 1 ∧ 1 + fld s22.io.cfg 0 2 * 1000000 ≤ s22.tb.now) ∧
    ((block 0 s19).span = some 1 ∧ 1 + fld s19.io.cfg 0 2 * 1000000 ≤ s19.tb.now ∧ 15 ≠ 0) ∧
    ((block 0 s23).removed = true ∧ (block 0 s23).clearFrom = some 1 ∧ 1 + fld s23.io.cfg 2 2 * 1000000 ≤ s23.tb.now) := by
  refine ⟨?_, ?_, ?_, ?_, ?_, ?_, ?_, ?_⟩ <;> decide +kernel

end Terminals

/-! ### Security -/

namespace Security

def iocfg0 : State := { ready with io := { cfg := patch ready.io.cfg (0x10+8*31) [0,0,0,0,1,0] } }

def snd (x : Security) : State := { ready with sec := x }

def mat : Bytes := zeros 96

def slot0 : KeySlot := loadedSlot 0 3 0 1 mat ready

def sl (n : Nat) (u : Nat) (m : Bytes) : State := snd { slots := [(n, loadedSlot n 2 4 u m ready)] }

def kum : Bytes := patch (le 4 0x4450554B ++ [1,0,1,0] ++ zeros 376) 0x18 [1]

def s1 : State := { ready with sec := { slots := [(0, slot0)] } }

def s2 : State := { ready with sec := { tamper := .latched }, win := { ready.win with st := .tampered } }

def tok : Bytes := patch (patch (le 4 0x54474244 ++ [1,0,1,0] ++ identityKeyId ++ zeros 168) 0x40 (le 8 5)) 0x20 (zeros 32)

def s3 : State := (snd { challenge := some (zeros 32, 9), slots := [(0, slot0)] })

def s4 : State := (snd { challenge := some (zeros 32, 9) })

def s5 : State := { ready with win := { ready.win with debug := .field } }

def s6 : State := (snd { minVersion := 2, securityVersion := 3 })

def ku : KeyUpdate := { entry := 0, counter := 5, written := 1, bank := [] }

def kuS (x : Security) : State := { snd { x with update := some ku } with sys := { ops := [(0, { code := 0x0306 })] } }

def s7 : State := (kuS { tamper := .latched })

def s8 : State := (kuS {})

def ro : Rollover := { next := 2, switch := 0, overlap := 10 }

def s9 : State := (snd { roll := some ro })

def s10 : Rollover := { ro with old := some 1 }

def s11 : State := (snd { roll := some { ro with old := some 1 } })

def s12 : State := (snd { tampCfg := patch (zeros 8) 3 [1] })

def s13 : State := (snd { active := 256, tamper := .tripped })

def s14 : State := { snd { notAfter := 5 } with win := { ready.win with debug := .field } }

def s15 : State := (snd { bank0 := [(0, { type := 3, owner := 0, usage := 1, wrapped := [], tag := [], writes := 1 })] })

def clk (x : Nat) (c : ClockSource) : State := { ready with clocks := { sources := if x < 5 then [(x, c), (5, { state := 2 })] else [(5, { state := 2 }), (x, c)] } }

def s16 : State := (clk 2 { state := 1 })

def s17 : State := (clk 7 { state := 1 })

def s18 : State := (clk 7 { state := 2 })

def s19 : State := (clk 1 { state := 2 })

def s20 : State := (clk 1 { state := 1 })

def s21 : State := (clk 1 { state := 3 })

def s22 : State := { ready with clocks := { pll := 1 } }

def pw (p : PowerState) : State := { ready with win := { ready.win with power := p } }

def s23 : Cut := {}

def s24 : State := { ready with win := { ready.win with debug := .vendor } }

def s25 : State := { ready with power := { holdReady := true } }

def s26 : State := { pw .holdup with power := { vin := false } }

def s27 : State := { ready with power := { vmotLow := true } }

def s28 : State := { ready with power := { vdoLow := true } }

def s29 : State := { ready with power := { govStep := 4 } }

def sby (w : Nat) : State := { pw .standby with power := { standby := some { from_ := 0, wakes := w } } }

def s30 : Standby := { from_ := 0, wakes := 4 }

def s31 : Standby := { from_ := 0 }

def s32 : State := { ready with power := { measuring := true, measureWait := some 3 } }

def facts : StartFacts := { straps := 7, vbatKept := true, tcxo := some 900, dram := true, cellar := true, defaulted := [], journal := [], ring := [], elecSaves := (true, true), thermSaves := (true, true), retained := true, program := true, published := false, plan := false, spares := 4 }

def boot0 : State := { ready with win := { ready.win with st := .booting }, boot := { restored := true } }

def s33 : State := { ready with power := { off := true } }

def s34 : State := { ready with win := { ready.win with msiConfigured := true } }

def s35 : State := { ready with boot := { held := true } }

def s36 : State := { ready with boot := { pinAt := some 0 } }

def s37 : State := { ready with boot := {} }

def s38 : State := { boot0 with boot := { restored := true, lastRole := .standby } }

def s39 : State := { boot0 with twin := { resolve := 2 } }

def s40 : State := { ready with twin := { unpaired := true }, net := { ports := [(2, { link := 1 })] } }

def s41 : State := { boot0 with boot := { restored := true, resolvedAt := some 0 } }

def s42 : State := { boot0 with boot := { restored := true, resolvedAt := some 0, kind := .keeper } }

def s43 : State := { boot0 with boot := { restored := true, trial := true } }

def s44 : State := { ready with boot := { restored := true, trial := true, readyAt := some 0 } }

def s45 : State := (snd { tampCfg := [1,0,0,0,0,0,0,0] })

def dis : State := { iocfg0 with io := { iocfg0.io with di := [(31, { state := true, known := true, highFrom := some 0 })] } }

def s46 : State := { dis with io := { dis.io with di := [(31, { state := true, known := true, stuck := true })] } }

/-- What meets the hypotheses of SecurityClassAnswers, clause by clause. -/
theorem witness_SecurityClassAnswers :
    (accepts cmdSecGetStatus 0 (rq []) ready = true) ∧
    (accepts cmdSecGetCertificate 0 (rq [1, 0, 0, 0]) ready = true) ∧
    (accepts cmdSecAttest 0 (rq (zeros 32)) ready = true) ∧
    (accepts cmdSecListSlots 0 (rq []) ready = true) ∧
    (accepts cmdSecInstallAuthority 0 (rq mat) ready = true) ∧
    (accepts cmdSecKeyUpdate 0 (rq kum) ready = true ∧ (freeEntry (judged cmdSecKeyUpdate 0 (rq kum) ready) == some 0) = true) ∧
    (accepts cmdSecKeyUpdate 0 (rq kum) s1 = true ∧ (freeEntry (judged cmdSecKeyUpdate 0 (rq kum) s1) == some 0) = true) ∧
    (accepts cmdSecSetKeyEpoch 0 (rq (le 4 2 ++ le 4 10 ++ le 8 1000000000)) ready = true ∧ (!feedsTwin (judged cmdSecSetKeyEpoch 0 (rq (le 4 2 ++ le 4 10 ++ le 8 1000000000)) ready)) = true) ∧
    (accepts cmdSecGetTamperConfig 0 (rq []) ready = true) ∧
    (accepts cmdSecRearm 0 (rq []) s2 = true ∧ ((judged cmdSecRearm 0 (rq []) s2).win.st == ModState.tampered) = true) ∧
    (accepts cmdSecGetDebugChallenge 0 (rq []) ready = true) ∧
    (accepts cmdSecOpenDebug 0 (rq (zeros 192)) s4 = true ∧ ((judged cmdSecOpenDebug 0 (rq (zeros 192)) s4).sec.challenge == some (zeros 32, 9) && !tokenFits (requestOf cmdSecOpenDebug 0 (rq (zeros 192)) s4).payload (zeros 32) (judged cmdSecOpenDebug 0 (rq (zeros 192)) s4)) = true) ∧
    (accepts cmdSecCloseDebug 0 (rq []) s5 = true ∧ ((judged cmdSecCloseDebug 0 (rq []) s5).win.debug == DebugLevel.field) = true) ∧
    (accepts cmdSecRaiseMinVersion 0 (rq [3, 0, 0, 0]) s6 = true ∧ (fld (requestOf cmdSecRaiseMinVersion 0 (rq [3, 0, 0, 0]) s6).payload 0 1 != (judged cmdSecRaiseMinVersion 0 (rq [3, 0, 0, 0]) s6).sec.minVersion) = true) ∧
    (accepts cmdSecZeroise 0 (rq (le 4 1330791770)) ready = true) := by
  refine ⟨?_, ?_, ?_, ?_, ?_, ?_, ?_, ?_, ?_, ?_, ?_, ?_, ?_, ?_, ?_⟩ <;> decide +kernel

/-- What meets the hypotheses of SecurityEventsRun, clause by clause. -/
theorem witness_SecurityEventsRun :
    (((advance 0 s7).sec.update = some ku ∧ ((advance 0 s7).sec.tamper ≠ TamperState.none ∨ (advance 0 s7).win.debug = DebugLevel.vendor))) ∧
    (((advance 0 s8).sec.update = some ku ∧ (advance 0 s8).sec.tamper = TamperState.none ∧ (advance 0 s8).win.debug ≠ DebugLevel.vendor)) ∧
    (((advance 0 s9).sec.roll = some ro ∧ ro.old = none ∧ keeperUp (advance 0 s9) = true ∧ (advance 0 s9).win.role ≠ Role.standby ∧ ro.switch ≤ (advance 0 s9).zone)) ∧
    (((advance 10000000000 s11).sec.roll = some s10 ∧ s10.old.isSome = true ∧ keeperUp (advance 10000000000 s11) = true ∧ s10.switch + s10.overlap * 10 ^ 9 ≤ (advance 10000000000 s11).zone)) ∧
    ((armed 4 (advance 0 s12) = true ∧ bit (advance 0 s12).sec.active (4 - 1) = false)) ∧
    (9 ≠ 0 ∧ bit (advance 0 s13).sec.active (9 - 1) = true) ∧
    ((keeperUp (advance 50 s14) = true ∧ (advance 50 s14).sec.notAfter ≤ (advance 50 s14).zone)) := by
  refine ⟨?_, ?_, ?_, ?_, ?_, ?_, ?_⟩ <;> decide +kernel

/-- What meets the hypotheses of TamperTakesTheKeys, clause by clause. -/
theorem witness_TamperTakesTheKeys :
    (tamperAwake s5 = true) := by
  decide +kernel

/-- What meets the hypotheses of ClocksClassAnswers, clause by clause. -/
theorem witness_ClocksClassAnswers :
    (accepts cmdClkGetConfig 0 (rq []) ready = true) ∧
    (accepts cmdClkSetConfig 0 (rq (recordOf 32 [(0, 1, 2), (4, 1, 31), (8, 1, 1)])) ready = true ∧ (!badList (requestOf cmdClkSetConfig 0 (rq (recordOf 32 [(0, 1, 2), (4, 1, 31), (8, 1, 1)])) ready).payload && decide (clkoutHz (fld (requestOf cmdClkSetConfig 0 (rq (recordOf 32 [(0, 1, 2), (4, 1, 31), (8, 1, 1)])) ready).payload 8 1) ≤ 62500000 * (fld (requestOf cmdClkSetConfig 0 (rq (recordOf 32 [(0, 1, 2), (4, 1, 31), (8, 1, 1)])) ready).payload 10 2 + 1))) = true) ∧
    (accepts cmdClkGetStatus 0 (rq []) ready = true) ∧
    (accepts cmdClkGetGates 0 (rq []) ready = true) ∧
    (accepts cmdClkSetGate 0 (rq [17, 1, 0, 0]) ready = true ∧ (fld (requestOf cmdClkSetGate 0 (rq [17, 1, 0, 0]) ready).payload 1 1 == 1) = true) ∧
    (accepts cmdClkSetGate 0 (rq [16, 0, 0, 0]) ready = true ∧ (fld (requestOf cmdClkSetGate 0 (rq [16, 0, 0, 0]) ready).payload 1 1 == 0 && !gateProtected (fld (requestOf cmdClkSetGate 0 (rq [16, 0, 0, 0]) ready).payload 0 1) && (busyNode (fld (requestOf cmdClkSetGate 0 (rq [16, 0, 0, 0]) ready).payload 0 1) (judged cmdClkSetGate 0 (rq [16, 0, 0, 0]) ready)).isNone) = true) ∧
    (accepts cmdClkSetGate 0 (rq [6, 0, 0, 0]) ready = true ∧ (fld (requestOf cmdClkSetGate 0 (rq [6, 0, 0, 0]) ready).payload 1 1 == 0 && !gateProtected (fld (requestOf cmdClkSetGate 0 (rq [6, 0, 0, 0]) ready).payload 0 1) && busyNode (fld (requestOf cmdClkSetGate 0 (rq [6, 0, 0, 0]) ready).payload 0 1) (judged cmdClkSetGate 0 (rq [6, 0, 0, 0]) ready) == some 6) = true) ∧
    (accepts cmdClkGetOscStart 0 (rq []) ready = true) ∧
    (accepts cmdClkSetOscStart 0 (rq [1, 0, 1, 0]) ready = true) := by
  refine ⟨?_, ?_, ?_, ?_, ?_, ?_, ?_, ?_, ?_⟩ <;> decide +kernel

/-- What meets the hypotheses of ClockEventsRun, clause by clause. -/
theorem witness_ClockEventsRun :
    (2 ≤ 2 ∧ 2 ≠ 5 ∧ ((advance 6553600 s16).power.off = false ∧ (clkSource 2 (advance 6553600 s16)).state = 1 ∧ (clkSource 2 (advance 6553600 s16)).countFrom + countNs 2 (advance 6553600 s16) ≤ (advance 6553600 s16).tb.now)) ∧
    (2 ≤ 7 ∧ 7 ≠ 5 ∧ ((advance 6553600 s17).power.off = false ∧ (clkSource 7 (advance 6553600 s17)).state = 1 ∧ (clkSource 7 (advance 6553600 s17)).countFrom + countNs 7 (advance 6553600 s17) ≤ (advance 6553600 s17).tb.now)) ∧
    (7 ≠ 0 ∧ ((advance 0 s18).power.off = false ∧ ((clkSource 7 (advance 0 s18)).state = 1 ∨ (clkSource 7 (advance 0 s18)).state = 2))) ∧
    (1 ≠ 0 ∧ ((advance 0 s19).power.off = false ∧ ((clkSource 1 (advance 0 s19)).state = 1 ∨ (clkSource 1 (advance 0 s19)).state = 2))) ∧
    (7 ≠ 0 ∧ 7 ≠ 5 ∧ ((advance 0 s18).power.off = false ∧ ((clkSource 7 (advance 0 s18)).state = 1 ∨ (clkSource 7 (advance 0 s18)).state = 2) ∧ freqWindow 7 (advance 0 s18) < (-5000001).natAbs)) ∧
    ((advance 50000000 s20).power.off = false) ∧
    ((advance 1000000000 s21).power.off = false) ∧
    (((advance 60000000000 s19).power.off = false ∧ (advance 60000000000 s19).clocks.cm.source ≠ 1 ∧ (advance 60000000000 s19).clocks.cm.held = none ∧ (clkSource 1 (advance 60000000000 s19)).state = 2 ∧ (clkSource 1 (advance 60000000000 s19)).qualAt + wtrNs (advance 60000000000 s19) ≤ (advance 60000000000 s19).tb.now ∧ (switchTo 1 1 1 (advance 60000000000 s19)).clocks.ref.source = 0)) ∧
    (((advance 1000000000 s22).power.off = false ∧ (advance 1000000000 s22).clocks.pll = 1 ∧ (advance 1000000000 s22).clocks.pllFrom + 1000000000 ≤ (advance 1000000000 s22).tb.now)) := by
  refine ⟨?_, ?_, ?_, ?_, ?_, ?_, ?_, ?_, ?_⟩ <;> decide +kernel

/-- What meets the hypotheses of PowerClassAnswers, clause by clause. -/
theorem witness_PowerClassAnswers :
    (accepts cmdPowerGetStatus 0 (rq []) ready = true) ∧
    (accepts cmdPowerGetConfig 0 (rq []) ready = true) ∧
    (accepts cmdPowerSetConfig 0 (rq ready.power.cfg) ready = true) ∧
    (accepts (cmdPowerSetState s23) 0 (rq [0, 0, 0, 0]) (pw PowerState.quiet) = true ∧ ((judged (cmdPowerSetState s23) 0 (rq [0, 0, 0, 0]) (pw PowerState.quiet)).win.power == PowerState.quiet && fld (requestOf (cmdPowerSetState s23) 0 (rq [0, 0, 0, 0]) (pw PowerState.quiet)).payload 0 1 == 0) = true) ∧
    (accepts (cmdPowerSetState s23) 0 (rq [1, 0, 0, 0]) ready = true ∧ ((judged (cmdPowerSetState s23) 0 (rq [1, 0, 0, 0]) ready).win.power == PowerState.active && fld (requestOf (cmdPowerSetState s23) 0 (rq [1, 0, 0, 0]) ready).payload 0 1 == 1) = true) ∧
    (accepts (cmdPowerSetState s23) 0 (rq [2, 0, 0, 0]) ready = true ∧ (((judged (cmdPowerSetState s23) 0 (rq [2, 0, 0, 0]) ready).win.power == PowerState.active || (judged (cmdPowerSetState s23) 0 (rq [2, 0, 0, 0]) ready).win.power == PowerState.quiet) && fld (requestOf (cmdPowerSetState s23) 0 (rq [2, 0, 0, 0]) ready).payload 0 1 == 2 && standbyBlockers (judged (cmdPowerSetState s23) 0 (rq [2, 0, 0, 0]) ready) == 0 && (List.range 5).any fun (k : Nat) => wakeEnabled k (judged (cmdPowerSetState s23) 0 (rq [2, 0, 0, 0]) ready)) = true) ∧
    (accepts (cmdPowerSetState s23) 0 (rq [2, 0, 0, 0]) s24 = true ∧ (((judged (cmdPowerSetState s23) 0 (rq [2, 0, 0, 0]) s24).win.power == PowerState.active || (judged (cmdPowerSetState s23) 0 (rq [2, 0, 0, 0]) s24).win.power == PowerState.quiet) && fld (requestOf (cmdPowerSetState s23) 0 (rq [2, 0, 0, 0]) s24).payload 0 1 == 2 && standbyBlockers (judged (cmdPowerSetState s23) 0 (rq [2, 0, 0, 0]) s24) != 0 && (List.range 5).any fun (k : Nat) => wakeEnabled k (judged (cmdPowerSetState s23) 0 (rq [2, 0, 0, 0]) s24)) = true) ∧
    (accepts cmdPowerMeasureHoldup 0 (rq []) s25 = true ∧ ((judged cmdPowerMeasureHoldup 0 (rq []) s25).power.holdReady && !(judged cmdPowerMeasureHoldup 0 (rq []) s25).power.measuring && (judged cmdPowerMeasureHoldup 0 (rq []) s25).power.measureWait.isNone) = true) := by
  refine ⟨?_, ?_, ?_, ?_, ?_, ?_, ?_, ?_⟩ <;> decide +kernel

/-- What meets the hypotheses of PowerEventsRun, clause by clause. -/
theorem witness_PowerEventsRun :
    (2000000 ≤ 2000000 ∧ 15999 < 16000 ∧ ((advance 0 ready).power.off = false ∧ (advance 0 ready).boot.held = false ∧ ((advance 0 ready).win.power = PowerState.active ∨ (advance 0 ready).win.power = PowerState.quiet))) ∧
    (34000 < 34001 ∧ ((advance 0 ready).power.off = false ∧ (advance 0 ready).power.vinOver = false)) ∧
    ((gaspPending (advance 0 (pw PowerState.holdup)) = true ∧ (advance 0 (pw PowerState.holdup)).boot.restored = true ∧ (lastGasp s23 (advance 0 (pw PowerState.holdup))).boot.pinAt = none)) ∧
    (12000 ≤ 12000 ∧ ((advance 0 s26).power.off = false ∧ (advance 0 s26).win.power = PowerState.holdup ∧ (advance 0 s26).power.vin = false)) ∧
    (2000000 ≤ 2000000 ∧ 15999 < 16000 ∧ ((advance 0 ready).power.off = false ∧ (advance 0 ready).power.vdoLow = false)) ∧
    (10499 < 10500 ∧ ((advance 0 ready).power.off = false ∧ (advance 0 ready).power.vmotLow = false)) ∧
    (11000 < 11001 ∧ ((advance 0 s27).power.off = false ∧ (advance 0 s27).power.vmotLow = true)) ∧
    (17000 < 17001 ∧ ((advance 0 s28).power.off = false ∧ (advance 0 s28).power.vdoLow = true)) ∧
    (700 < 701 ∧ 701 ≤ 720 ∧ ((advance 0 ready).power.off = false ∧ (advance 0 ready).power.govStep = 0)) ∧
    (700 < 720 ∧ 720 ≤ 720 ∧ ((advance 0 ready).power.off = false ∧ (advance 0 ready).power.govStep = 0)) ∧
    (10000 ≤ 10000 ∧ 730 < 731 ∧ (advance 0 s29).power.off = false) ∧
    (10000 ≤ 10000 ∧ 550 ≤ 550 ∧ 550 < 630 ∧ ((advance 0 ready).power.off = false ∧ (advance 0 ready).power.standby = none ∧ (advance 0 ready).boot.held = false)) ∧
    (10000 ≤ 10000 ∧ 550 ≤ 629 ∧ 629 < 630 ∧ ((advance 0 ready).power.off = false ∧ (advance 0 ready).power.standby = none ∧ (advance 0 ready).boot.held = false)) ∧
    (((advance 20000000 (sby 4)).power.standby = some s30 ∧ s30.wakes ≠ 0 ∧ s30.from_ + 20000000 ≤ (advance 20000000 (sby 4)).tb.now)) ∧
    (15999 < 16000 ∧ 2000000 ≤ 2000000 ∧ ((advance 20000000 (sby 0)).power.standby = some s31 ∧ (advance 20000000 (sby 0)).power.off = false ∧ s31.from_ + 20000000 ≤ (advance 20000000 (sby 0)).tb.now)) ∧
    ((advance 0 ready).power.off = false) ∧
    (45000 ≤ 45000 ∧ (awake (advance 0 ready) = true ∧ (advance 0 ready).boot.held = false ∧ (advance 0 ready).power.measuring = false ∧ (advance 0 ready).power.charging = true ∧ measureDue (advance 0 ready) = true)) ∧
    (42000 ≤ 42000 ∧ ((advance 30000000 s32).power.measuring = true ∧ (advance 30000000 s32).power.measureWait = some 3 ∧ (advance 30000000 s32).power.holdWeak = decide ((holdFigures ((advance 30000000 s32).tb.now - (advance 30000000 s32).power.measureFrom)).fst < 800 ∨ (holdFigures ((advance 30000000 s32).tb.now - (advance 30000000 s32).power.measureFrom)).snd < 300))) := by
  refine ⟨?_, ?_, ?_, ?_, ?_, ?_, ?_, ?_, ?_, ?_, ?_, ?_, ?_, ?_, ?_, ?_, ?_, ?_⟩ <;> decide +kernel

/-- What meets the hypotheses of StartUpRolesAndResetsRun, clause by clause. -/
theorem witness_StartUpRolesAndResetsRun :
    (100000000 ≤ 100000000 ∧ 18000 ≤ 18000 ∧ 18000 ≤ 32000 ∧ (advance 0 s33).power.off = true) ∧
    (100000000 ≤ 100000000 ∧ 18000 ≤ 32000 ∧ 32000 ≤ 32000 ∧ (advance 0 s33).power.off = true) ∧
    (10000 ≤ 10000 ∧ ((advance 0 (sby 0)).power.off = false ∧ (advance 0 (sby 0)).boot.held = false ∧ (advance 0 (sby 0)).boot.pinAt = none ∧ (advance 0 (sby 0)).win.power = PowerState.standby)) ∧
    (10000 ≤ 10000 ∧ ((advance 0 ready).power.off = false ∧ (advance 0 ready).boot.held = false ∧ (advance 0 ready).boot.pinAt = none ∧ ((advance 0 ready).win.power = PowerState.active ∨ (advance 0 ready).win.power = PowerState.quiet))) ∧
    (((advance 0 s34).power.off = false ∧ (advance 0 s34).win.qspi = false)) ∧
    (((advance 0 s35).boot.held = true ∧ (advance 0 s35).boot.pinAt = none)) ∧
    (((advance 5000000 s36).boot.pinAt = some 0 ∧ 0 + 5000000 ≤ (advance 5000000 s36).tb.now)) ∧
    ((keeperUp (advance 0 boot0) = true ∧ (advance 0 boot0).win.st = ModState.booting ∧ (advance 0 boot0).twin.resolve = 0 ∧ (advance 0 boot0).boot.kind ≠ ResetKind.keeper ∧ (advance 0 boot0).boot.lastRole = Role.single)) ∧
    ((keeperUp (advance 0 s38) = true ∧ (advance 0 s38).win.st = ModState.booting ∧ (advance 0 s38).twin.resolve = 0 ∧ (advance 0 s38).boot.kind ≠ ResetKind.keeper ∧ (advance 0 s38).boot.lastRole ≠ Role.single)) ∧
    ((keeperUp (advance 5000000000 s39) = true ∧ (advance 5000000000 s39).twin.resolve = 2 ∧ (advance 5000000000 s39).twin.waitFrom + 5000000000 ≤ (advance 5000000000 s39).tb.now)) ∧
    ((twinUp (advance 5000000000 s40) = true ∧ (advance 5000000000 s40).twin.unpaired = true ∧ (advance 5000000000 s40).sec.tamper = TamperState.none ∧ (portUp 1 (advance 5000000000 s40) = true ∨ portUp 2 (advance 5000000000 s40) = true) ∧ (advance 5000000000 s40).twin.announceHeard + 5000000000 ≤ (advance 5000000000 s40).tb.now)) ∧
    (((advance 50000000 s41).boot.resolvedAt = some 0 ∧ keeperUp (advance 50000000 s41) = true ∧ awake (advance 50000000 s41) = true ∧ (advance 50000000 s41).win.st = ModState.booting ∧ 0 + 50000000 ≤ (advance 50000000 s41).tb.now ∧ (advance 50000000 s41).boot.kind ≠ ResetKind.keeper)) ∧
    (((advance 50000000 s42).boot.resolvedAt = some 0 ∧ keeperUp (advance 50000000 s42) = true ∧ awake (advance 50000000 s42) = true ∧ (advance 50000000 s42).win.st = ModState.booting ∧ 0 + 50000000 ≤ (advance 50000000 s42).tb.now ∧ (advance 50000000 s42).boot.kind = ResetKind.keeper)) ∧
    ((onTrial (advance 30000000000 s43) = true ∧ (advance 30000000000 s43).power.off = false ∧ (advance 30000000000 s43).boot.held = false ∧ (advance 30000000000 s43).boot.restored = true ∧ (advance 30000000000 s43).boot.reached = false ∧ (advance 30000000000 s43).boot.t0 + 30000000000 ≤ (advance 30000000000 s43).tb.now)) ∧
    (((advance 300000000000 s44).boot.readyAt = some 0 ∧ onTrial (advance 300000000000 s44) = true ∧ (advance 300000000000 s44).win.st = ModState.ready ∧ 0 + 300000000000 ≤ (advance 300000000000 s44).tb.now)) ∧
    (engineRuns (advance 0 ready) = true) := by
  refine ⟨?_, ?_, ?_, ?_, ?_, ?_, ?_, ?_, ?_, ?_, ?_, ?_, ?_, ?_, ?_, ?_⟩ <;> decide +kernel

/-- What meets the hypotheses of DisarmingRunsTheTamperResponse, clause by clause. -/
theorem witness_DisarmingRunsTheTamperResponse :
    (accepts cmdSecSetTamperConfig 0 (rq [1, 2, 0, 0, 0, 0, 0, 0]) ready = true ∧ ((List.range 4).all fun (i : Nat) => fld (judged cmdSecSetTamperConfig 0 (rq [1, 2, 0, 0, 0, 0, 0, 0]) ready).sec.tampCfg i 1 == 0 || fld (requestOf cmdSecSetTamperConfig 0 (rq [1, 2, 0, 0, 0, 0, 0, 0]) ready).payload i 1 == fld (judged cmdSecSetTamperConfig 0 (rq [1, 2, 0, 0, 0, 0, 0, 0]) ready).sec.tampCfg i 1) = true) ∧
    (accepts cmdSecSetTamperConfig 0 (rq [0, 2, 0, 0, 0, 0, 0, 0]) s45 = true ∧ (!(List.range 4).all fun (i : Nat) => fld (judged cmdSecSetTamperConfig 0 (rq [0, 2, 0, 0, 0, 0, 0, 0]) s45).sec.tampCfg i 1 == 0 || fld (requestOf cmdSecSetTamperConfig 0 (rq [0, 2, 0, 0, 0, 0, 0, 0]) s45).payload i 1 == fld (judged cmdSecSetTamperConfig 0 (rq [0, 2, 0, 0, 0, 0, 0, 0]) s45).sec.tampCfg i 1) = true) := by
  decide +kernel

/-- What meets the hypotheses of StuckInputsKeepTheirValue, clause by clause. -/
theorem witness_StuckInputsKeepTheirValue :
    (advance 999999999 dis = advance 999999999 dis ∧ (di 31 (advance 999999999 dis)).highFrom = some 0 ∧ (advance 999999999 dis).tb.now < 0 + fld (diRec (advance 999999999 dis).io.cfg 31) 4 2 * 1000000000) ∧
    (fld (diRec (advance 999999999 ready).io.cfg 31) 4 2 = 0) ∧
    (false = bit (fld (diRec s46.io.cfg 31) 1 1) 0 ∧ (di 31 s46).known = true ∧ (di 31 s46).state = true) := by
  decide +kernel

/-- A key slot whose tag was made in this epoch is sound. -/
theorem loadedSlot_sound (n t o u : Nat) (m : Bytes) (s v : State) (h : epochE v = epochE s) : slotSound n (loadedSlot n t o u m s) v = true := by
  simp [slotSound, loadedSlot, slotTag, h]

/-- The request and the state of a Sec-Enrol-Node. -/
def enrol : Request := rq ([1, 0, 0, 0, 1, 0, 0, 0] ++ zeros 96)

theorem witness_SecurityClassAnswers_enrol :
    accepts cmdSecEnrolNode 0 enrol (sl 1 12 (zeros 32)) = true ∧
    ((keySlot 1 (judged cmdSecEnrolNode 0 enrol (sl 1 12 (zeros 32)))).state == 1 &&
      (keySlot 1 (judged cmdSecEnrolNode 0 enrol (sl 1 12 (zeros 32)))).usage &&& 8 == 8 &&
      slotSound 1 (keySlot 1 (judged cmdSecEnrolNode 0 enrol (sl 1 12 (zeros 32)))) (judged cmdSecEnrolNode 0 enrol (sl 1 12 (zeros 32))) &&
      (keySlot 1 (judged cmdSecEnrolNode 0 enrol (sl 1 12 (zeros 32)))).material == zeros 32) = true := by
  refine ⟨by decide +kernel, ?_⟩
  have hk : keySlot 1 (judged cmdSecEnrolNode 0 enrol (sl 1 12 (zeros 32))) = loadedSlot 1 2 4 12 (zeros 32) ready := rfl
  rw [hk, loadedSlot_sound _ _ _ _ _ _ _ (by decide +kernel)]
  decide +kernel

/-- A debug token for FIELD, before its signature is judged. -/
def tok0 : Bytes := patch (patch (le 4 0x54474244 ++ [1, 0, 1, 0] ++ zeros 184) 0x40 (le 8 5)) 0x20 (zeros 32)

theorem witness_SecurityClassAnswers_token (h1 : identityKeyId = zeros 16)
    (h2 : Config.ecdsaVerify mat (tok0.take 0x60) (slice tok0 0x60 96) = true) :
    accepts cmdSecOpenDebug 0 (rq tok0) s3 = true ∧
    ((judged cmdSecOpenDebug 0 (rq tok0) s3).sec.challenge == some (zeros 32, 9) &&
      tokenFits (requestOf cmdSecOpenDebug 0 (rq tok0) s3).payload (zeros 32) (judged cmdSecOpenDebug 0 (rq tok0) s3) &&
      fld (requestOf cmdSecOpenDebug 0 (rq tok0) s3).payload 6 1 == 1 &&
      (judged cmdSecOpenDebug 0 (rq tok0) s3).win.debug != DebugLevel.vendor) = true := by
  refine ⟨by decide +kernel, ?_⟩
  have hp : (requestOf cmdSecOpenDebug 0 (rq tok0) s3).payload = tok0 := by decide +kernel
  have hk : keySlot 0 (judged cmdSecOpenDebug 0 (rq tok0) s3) = loadedSlot 0 3 0 1 mat ready := rfl
  have hf : tokenFits tok0 (zeros 32) (judged cmdSecOpenDebug 0 (rq tok0) s3) = true := by
    unfold tokenFits keyLoaded
    rw [hk, loadedSlot_sound _ _ _ _ _ _ _ (by decide +kernel), h1]
    simp only [show fld tok0 6 1 = 1 by decide +kernel, loadedSlot]
    simp [h2]
    decide +kernel
  rw [hp, hf]
  decide +kernel

theorem witness_SecurityClassAnswers_chain (h : Config.certKey [9] = Config.ecPublic (zeros 48)) :
    accepts cmdSecPutServerChain 0 (rq [1, 0, 1, 0, 9]) (sl 4 2 (zeros 48)) = true ∧
    ((keySlot 4 (judged cmdSecPutServerChain 0 (rq [1, 0, 1, 0, 9]) (sl 4 2 (zeros 48)))).state == 1 &&
      Config.certKey (slice (requestOf cmdSecPutServerChain 0 (rq [1, 0, 1, 0, 9]) (sl 4 2 (zeros 48))).payload 4
        (fld (requestOf cmdSecPutServerChain 0 (rq [1, 0, 1, 0, 9]) (sl 4 2 (zeros 48))).payload 2 2)) ==
      Config.ecPublic (keySlot 4 (judged cmdSecPutServerChain 0 (rq [1, 0, 1, 0, 9]) (sl 4 2 (zeros 48)))).material) = true := by
  refine ⟨by decide +kernel, ?_⟩
  have hp : (requestOf cmdSecPutServerChain 0 (rq [1, 0, 1, 0, 9]) (sl 4 2 (zeros 48))).payload = [1, 0, 1, 0, 9] := by decide +kernel
  have hk : keySlot 4 (judged cmdSecPutServerChain 0 (rq [1, 0, 1, 0, 9]) (sl 4 2 (zeros 48))) = loadedSlot 4 2 4 2 (zeros 48) ready := rfl
  rw [hp, hk, show slice [1, 0, 1, 0, 9] 4 (fld [1, 0, 1, 0, 9] 2 2) = [9] by decide +kernel, h]
  simp [loadedSlot]

theorem witness_SecurityClassAnswers_sign :
    accepts cmdSecSign 0 (rq ([63, 0, 0, 0] ++ zeros 48)) (sl 63 2 (zeros 48)) = true ∧
    (let n := fld (requestOf cmdSecSign 0 (rq ([63, 0, 0, 0] ++ zeros 48)) (sl 63 2 (zeros 48))).payload 0 1
      let v := judged cmdSecSign 0 (rq ([63, 0, 0, 0] ++ zeros 48)) (sl 63 2 (zeros 48))
      n != 4 && (keySlot n v).state == 1 && (keySlot n v).usage &&& 2 == 2 && slotSound n (keySlot n v) v) = true := by
  refine ⟨by decide +kernel, ?_⟩
  dsimp only
  rw [show fld (requestOf cmdSecSign 0 (rq ([63, 0, 0, 0] ++ zeros 48)) (sl 63 2 (zeros 48))).payload 0 1 = 63 by decide +kernel]
  have hk : keySlot 63 (judged cmdSecSign 0 (rq ([63, 0, 0, 0] ++ zeros 48)) (sl 63 2 (zeros 48))) = loadedSlot 63 2 4 2 (zeros 48) ready := rfl
  rw [hk, loadedSlot_sound _ _ _ _ _ _ _ (by decide +kernel)]
  decide +kernel

theorem witness_StartUpRolesAndResetsRun_failure :
    (advance 0 s37).power.off = false ∧ (advance 0 s37).boot.held = false ∧ (advance 0 s37).boot.restored = false ∧ (advance 0 s37).boot.failure = 0 ∧
      3 ≤ (3 : Fin 5).val ∧ 3 ≤ (4 : Fin 5).val ∧ ∃ p, chooseSlot (advance 0 s37) = .inr p :=
  ⟨by decide +kernel, by decide +kernel, by decide +kernel, by decide +kernel, by decide, by decide, (0, false), by decide +kernel⟩

end Security

/-! ### Further -/

namespace Further

def s1 : State := { ready with win := { ready.win with busy := 1 } }

def s2 : State := { ready with win := { ready.win with busy := 0x80000000 } }

def usbUp : State := { ready with panel := { attached := true }, win := { ready.win with assign := 0x5555555555555555, effAssign := 0x5555555555555555 } }

def hd (kind len addr : Nat) : RecordHead := { kind := kind, seq := 3, length := len, address := addr, result := 0, reserved := 0 }

def s3 : Cut := {}

def s4 : State := { ready with win := { ready.win with rung := 1, lastServed := 0 } }

def tk : Taken := { code := 1, flags := 0, tag := 7, path := .host, payload := [] }

def s5 : State := { ready with win := { ready.win with taken := [(31, tk)], busy := 0x80000000 } }

def fwHeader : Bytes := recordOf 256 [(0, 4, 0x57465246), (4, 2, 1), (6, 1, 0x42), (0x0C, 4, 1000)]

def s6 : State := { ready with win := { ready.win with st := .fatal }, sys := { fatalAt := some 0 } }

def linked : State := { ready with net := { cfg := patch (le 8 5 ++ ready.net.cfg.drop 8) 10 [1], ports := [(3, { link := 1 }), (1, { link := 1 }), (2, { link := 1 })] }, sec := { slots := [(1, { state := 1 })] } }

def s7 : State := { ready with tb := { source := 2 } }

def tw (u : List TwinItem) : State := { ready with twin := { keyed := true, wantActive := true, joined := true, unacked := u } }

def itm : TwinItem := { id := 5, type := 0x10, data := [], sent := 0 }

def th (b : Bool) : TwinHead := { item := 5, seq := 9, tagOk := b }

def s8 : State := { tw [] with twin := { (tw []).twin with beatSent := some 0 } }

def ml : ModelLoad := { entry := 0, image := {}, last := 0 }

def s9 : State := { tw [itm] with model := { load := some ml } }

def s10 : State := { ready with twin := { nonce := some (zeros 32), helloSent := some 0 } }

def ann : FfpFrame := { port := 1, vid := none, rct := none, queued := 0, udpPort := 49312, udpLen := 72, sender := some 0, version := 1, type := 6, flags := 0, src := 0, dst := 0xFFFF, keyEpoch := 1, seq := 1, length := 32, reserved := 0, body := zeros 32, tagOk := true }

def s11 : State := { linked with twin := { lostAt := some (0, true) } }

def gly : Bytes := recordOf 68 [(0, 1, 1), (8, 4, 0xC1A00000), (12, 4, 0x42C80000), (0x10, 4, 0x447A0000), (0x1C, 4, 0x455AC000)]

def imgP (watchdog : Nat) : Bytes :=
  recordOf 288 [(0, 4, 0x31495046), (4, 2, 1), (8, 4, 1), (0x10, 4, 288), (0x14, 4, 16), (0x18, 4, 1), (0x1C, 4, 1), (0x20, 4, 16), (0x28, 2, 1),
    (64, 1, 1), (66, 1, watchdog), (68, 4, 1000), (76, 4, 500), (82, 1, 2), (84, 4, 1000), (92, 4, 500), (98, 1, 2), (100, 4, 1000), (108, 4, 500), (114, 1, 2), (116, 4, 1000), (124, 4, 500), (128, 1, 1), (140, 4, 100), (144, 1, 4), (146, 2, 63), (176, 4, 1), (184, 4, 0x00FF0A02), (192, 4, 0x00FF0004)]

def s12 : State := { ready with prog := { staged := imgP 2 } }

def s13 : State := { ready with prog := { staged := imgP 2, image := some (imgP 2), req := 2, startKind := 1 } }

def ccfg : Bytes := patch (canBus 0 ready).cfg 0 [1]

def s14 : State := { ready with buses := { can := [(0, { cfg := ccfg }), (1, { cfg := ccfg }), (2, { cfg := ccfg }), (3, { cfg := ccfg })] } }

def dis : State := let c := patch ready.io.cfg (0x10+8*31) [0,0,0,0,1,0]; { ready with io := { cfg := c, di := [(31, { state := true, known := true, highFrom := some 0 })] } }

def off (p : List Instr) : State := { ready with pending := p, power := { off := true } }

/-- What meets the hypotheses of DoorbellRingsFreeMailboxes, clause by clause. -/
theorem witness_DoorbellRingsFreeMailboxes_more :
    (windowUp (advance 3 s1) = true ∧ s1.win.st ≠ ModState.fatal) := by
  decide +kernel

/-- What meets the hypotheses of AssignmentWaitsForBusyMailboxes, clause by clause. -/
theorem witness_AssignmentWaitsForBusyMailboxes_more :
    (windowUp (advance 3 s2) = true) := by
  decide +kernel

/-- What meets the hypotheses of RecordsReachOnlyTheirOwnMailboxes, clause by clause. -/
theorem witness_RecordsReachOnlyTheirOwnMailboxes_more :
    ((hd 2 2 524288).result = 0 ∧ (hd 2 2 524288).reserved = 0 ∧ Path.usb ≠ Path.host ∧ (hd 2 2 524288).kind = 2 ∧ 1 ≤ (hd 2 2 524288).length ∧ (hd 2 2 524288).length ≤ 8192 ∧ [1, 2].length = (hd 2 2 524288).length ∧ windowUp (advance 0 usbUp) = true ∧ pathLive Path.usb (advance 0 usbUp) = true ∧ Memory.wf usbUp.win.mem = true ∧ (∀ (a : Nat), a ∈ span (hd 2 2 524288).address (hd 2 2 524288).length → recordWritable Path.usb (touchTls Path.usb (advance 0 usbUp)) a = true ∧ usbUp.win.busy.getLsbD ((a - 524288) / 16384) = false)) := by
  decide +kernel

/-- What meets the hypotheses of MailboxTakeServesRoundRobin, clause by clause. -/
theorem witness_MailboxTakeServesRoundRobin_more :
    ((serving (advance 1 s4) = true ∧ 31 < 32 ∧ 0 = ((advance 1 s4).win.lastServed + 1 + 31) % 32 ∧ takeable (advance 1 s4) 0 = true ∧ ∀ (j : Nat), j < 31 → takeable (advance 1 s4) (((advance 1 s4).win.lastServed + 1 + j) % 32) = false)) ∧
    ((serving (advance 1 ready) = true ∧ ∀ (k : Nat), k < 32 → takeable (advance 1 ready) k = false)) := by
  decide +kernel

/-- What meets the hypotheses of AnswersAreWrittenToTheirMailbox, clause by clause. -/
theorem witness_AnswersAreWrittenToTheirMailbox_more :
    (Memory.wf s5.win.mem = true ∧ tabGet? s5.win.taken 31 = some tk ∧ List.length (replyFields tk.code (Reply.ok [1])).snd.snd.snd ≤ 8160) := by
  decide +kernel

/-- What meets the hypotheses of FirmwareAndFatalEventsRun, clause by clause. -/
theorem witness_FirmwareAndFatalEventsRun_more :
    (7 ≠ 0 ∧ keeperUp (advance 1 s6) = true ∧ s6.sys.fatalAt = some 0) := by
  decide +kernel

/-- What meets the hypotheses of NetworkMessagesAndTimersRun, clause by clause. -/
theorem witness_NetworkMessagesAndTimersRun_more :
    (((∀ (a : Nat), (advance 3 linked).net.supervised = some a → a + 2000000000 ≤ (advance 3 linked).tb.now) ∧ switchUp (advance 3 linked) = true ∧ fld (advance 3 linked).net.cfg 10 1 = 1 ∧ uplinksOut (advance 3 linked) ≠ [])) := by
  decide +kernel

/-- What meets the hypotheses of TimeSourcesDriveTheServo, clause by clause. -/
theorem witness_TimeSourcesDriveTheServo_more :
    (1 < 2 ∧ timeBaseRuns (advance 3 s7) = true ∧ fld s7.tb.cfg 0 1 = 0 ∧ s7.tb.source = 1 + 1) ∧
    ((2 = 1 ∨ 2 = 2) ∧ timeBaseRuns (advance 3 s7) = true ∧ s7.tb.source = 2) := by
  decide +kernel

/-- What meets the hypotheses of TwinLinkLivesAndTakesOver, clause by clause. -/
theorem witness_TwinLinkLivesAndTakesOver_more :
    ((twinUp (advance 10000000 s8) = true ∧ (advance 10000000 s8).twin.keyed = true ∧ ∀ (b : Nat), (advance 10000000 s8).twin.beatSent = some b → b + 10000000 ≤ (advance 10000000 s8).tb.now)) ∧
    ((th true).tagOk = true ∧ fld (le 4 5 ++ [16, 0, 0, 0]) 5 1 = 0 ∧ ((advance 0 (tw [itm])).twin.keyed = true ∧ (advance 0 (tw [itm])).twin.wantActive = true ∧ ∃ (x : TwinItem), x ∈ (advance 0 (tw [itm])).twin.unacked ∧ x.id = fld (le 4 5 ++ [16, 0, 0, 0]) 0 4)) ∧
    ((th true).tagOk = true ∧ fld (le 4 5 ++ [21, 1, 0, 0]) 5 1 ≠ 0 ∧ ((advance 0 (tw [itm])).twin.keyed = true ∧ (advance 0 (tw [itm])).twin.wantActive = true ∧ (∃ (x : TwinItem), x ∈ (advance 0 (tw [itm])).twin.unacked ∧ x.id = fld (le 4 5 ++ [21, 1, 0, 0]) 0 4) ∧ (fld (le 4 5 ++ [21, 1, 0, 0]) 4 1 ≠ 21 ∨ (advance 0 (tw [itm])).model.load = none))) ∧
    ((th true).tagOk = true ∧ fld (le 4 5 ++ [21, 1, 0, 0]) 5 1 ≠ 0 ∧ fld (le 4 5 ++ [21, 1, 0, 0]) 4 1 = 21 ∧ ((advance 0 s9).twin.keyed = true ∧ (advance 0 s9).twin.wantActive = true ∧ (∃ (x : TwinItem), x ∈ (advance 0 s9).twin.unacked ∧ x.id = fld (le 4 5 ++ [21, 1, 0, 0]) 0 4) ∧ (advance 0 s9).model.load = some ml)) ∧
    ((twinUp (advance 10000000 s10) = true ∧ (advance 10000000 s10).twin.nonce.isSome = true ∧ (advance 10000000 s10).twin.hello = none ∧ ∀ (t : Nat), (advance 10000000 s10).twin.helloSent = some t → t + 10000000 ≤ (advance 10000000 s10).tb.now)) ∧
    (ann.type = 6 ∧ (ann.port = 1 ∨ ann.port = 2) ∧ ann.src = 0 ∧ ((receiveFfp ann (advance 0 s11)).snd = true ∧ nakHeader ann (receiveFfp ann (advance 0 s11)).fst = none ∧ (receiveFfp ann (advance 0 s11)).fst.twin.lostAt = some (0, true))) := by
  refine ⟨?_, ?_, ?_, ?_, ?_, ?_⟩ <;> decide +kernel

/-- What meets the hypotheses of ThermalMeteringAnswers, clause by clause. -/
theorem witness_ThermalMeteringAnswers_more :
    (accepts cmdThermPutGlycol 0 (rq gly) ready = true ∧ (!glycolInUse (fld (requestOf cmdThermPutGlycol 0 (rq gly) ready).payload 0 1) (judged cmdThermPutGlycol 0 (rq gly) ready)) = true) := by
  decide +kernel

/-- What meets the hypotheses of CanEventsRun, clause by clause. -/
theorem witness_CanEventsRun_more :
    ((∀ (b : Nat), b < 4 → canMode b (advance 0 s14) ≠ 0)) := by
  decide +kernel

/-- What meets the hypotheses of StuckInputsKeepTheirValue, clause by clause. -/
theorem witness_StuckInputsKeepTheirValue_more :
    (advance 1000000000 dis = advance 1000000000 dis ∧ (di 31 (advance 1000000000 dis)).highFrom = some 0 ∧ fld (diRec (advance 1000000000 dis).io.cfg 31) 4 2 ≠ 0 ∧ 0 + fld (diRec (advance 1000000000 dis).io.cfg 31) 4 2 * 1000000000 ≤ (advance 1000000000 dis).tb.now) := by
  decide +kernel

theorem witness_HostByteWritesLandInRequestAreas_stored :
    0x2000 ≤ 0xFDFFF ∧ Memory.wf ready.win.mem = true ∧ windowUp (advance 3 ready) = true ∧ 0xFDFFF + ([5] : Bytes).length ≤ 0x100000 ∧
      (∀ a, 0xFDFFF ≤ a → a < 0xFDFFF + ([5] : Bytes).length → writableByte (advance 3 ready) a = true) := by
  refine ⟨by decide, by decide +kernel, by decide +kernel, by decide, fun a h1 h2 => ?_⟩
  obtain rfl : a = 0xFDFFF := by simp at h2; omega
  decide +kernel

theorem witness_HostByteWritesLandInRequestAreas_refused :
    0x2000 ≤ 0x82000 ∧ Memory.wf ready.win.mem = true ∧ windowUp (advance 3 ready) = true ∧ ([5] : Bytes) ≠ [] ∧ 0x82000 + ([5] : Bytes).length ≤ 0x100000 ∧
      (∀ a, 0x82000 ≤ a → a < 0x82000 + ([5] : Bytes).length → writableByte (advance 3 ready) a = false) := by
  refine ⟨by decide, by decide +kernel, by decide +kernel, by decide, by decide, fun a h1 h2 => ?_⟩
  obtain rfl : a = 0x82000 := by simp at h2; omega
  decide +kernel

theorem witness_SystemAndAtticClassesAnswer_firmware (h1 : Config.sha384 (slice fwHeader 0x40 96) = Config.vendorImageKeyDigest)
    (h2 : headerSigned fwHeader = true) :
    accepts cmdSystemFirmwareBegin 0 (rq fwHeader) ready = true ∧ (freeEntry (judged cmdSystemFirmwareBegin 0 (rq fwHeader) ready) == some 0) = true := by
  refine ⟨?_, by decide +kernel⟩
  have hc : requestOf cmdSystemFirmwareBegin 0 (rq fwHeader) ready = { mbox := 0, path := .host, code := 6, tag := 0x51, payload := fwHeader } := by
    decide +kernel
  unfold accepts checkFailure
  rw [hc]
  unfold refusal cmdSystemFirmwareBegin
  simp only [h1, h2, beq_self_eq_true]
  decide +kernel

theorem witness_TwinLinkLivesAndTakesOver_announce :
    ann.type = 6 ∧ (ann.port = 1 ∨ ann.port = 2) ∧ ann.src = 0 ∧ (receiveFfp ann (advance 0 linked)).2 = true ∧
      nakHeader ann (receiveFfp ann (advance 0 linked)).1 = none ∧ (∀ t, (receiveFfp ann (advance 0 linked)).1.twin.lostAt ≠ some (t, true)) ∧
      (receiveFfp ann (advance 0 linked)).1.twin.resolve ≠ 2 := by
  refine ⟨rfl, .inl rfl, rfl, by decide +kernel, by decide +kernel, fun t => ?_, by decide +kernel⟩
  rw [show (receiveFfp ann (advance 0 linked)).1.twin.lostAt = none by decide +kernel]
  simp

/-- An image without a fault: every check of R340 but the two that open functions decide passes. -/
theorem imageBad_none (s : State) (hd : directoryBad (imgP 2) s 0 (dirOffset (imgP 2)) (directory (imgP 2)) = none)
    (h1 : Config.bytecodeFault (imgP 2) = none) (h2 : Config.sha384 ((imgP 2).take (digestOffset (imgP 2))) = (imgP 2).drop (digestOffset (imgP 2))) :
    imageBad (imgP 2) s = none := by
  unfold imageBad
  rw [hd, h1, h2]
  decide +kernel

theorem witness_ProgramClassAnswers_commit (h1 : Config.bytecodeFault (imgP 2) = none)
    (h2 : Config.sha384 ((imgP 2).take (digestOffset (imgP 2))) = (imgP 2).drop (digestOffset (imgP 2))) :
    (accepts cmdProgramCommitImage 0 (rq [0, 0, 0, 0]) s12 = true ∧
      (let u := judged cmdProgramCommitImage 0 (rq [0, 0, 0, 0]) s12;
        fld (requestOf cmdProgramCommitImage 0 (rq [0, 0, 0, 0]) s12).payload 0 1 == 0 && decide (progState u ≤ 1) && u.prog.change.isNone &&
          (imageBad u.prog.staged u).isNone && !(directory u.prog.staged).any (ownershipBad (directory u.prog.staged) u)) = true) ∧
    (accepts cmdProgramCommitImage 0 (rq [1, 0, 0, 0]) s13 = true ∧
      (let u := judged cmdProgramCommitImage 0 (rq [1, 0, 0, 0]) s13;
        fld (requestOf cmdProgramCommitImage 0 (rq [1, 0, 0, 0]) s13).payload 0 1 == 1 && progState u == 2 && u.prog.change.isNone &&
          (imageBad u.prog.staged u).isNone && !(directory u.prog.staged).any (ownershipBad (directory u.prog.staged) u)) = true) := by
  refine ⟨⟨by decide +kernel, ?_⟩, by decide +kernel, ?_⟩
  · dsimp only
    rw [show (judged cmdProgramCommitImage 0 (rq [0, 0, 0, 0]) s12).prog.staged = imgP 2 by decide +kernel, imageBad_none _ (by decide +kernel) h1 h2]
    decide +kernel
  · dsimp only
    rw [show (judged cmdProgramCommitImage 0 (rq [1, 0, 0, 0]) s13).prog.staged = imgP 2 by decide +kernel, imageBad_none _ (by decide +kernel) h1 h2]
    decide +kernel

/-- A request over USB. -/
def usbRq : Request := { rq [] with path := .usb }

/-- A module with the Power class barred over USB. -/
def barredS : State := { usbUp with win := { usbUp.win with usbMask := 1 } }

/-- Power-Get-Status over USB with its class barred. -/
theorem witness_ClassMasksBarTheirPath :
    commandRow (.powerGetStatus 0 usbRq) = some (cmdPowerGetStatus, 0, usbRq) ∧ taken cmdPowerGetStatus 0 usbRq barredS = true ∧ usbRq.path = .usb ∧
      (judged cmdPowerGetStatus 0 usbRq barredS).win.usbMask.getLsbD (cmdPowerGetStatus.code / 256) = false ∧ cmdPowerGetStatus.code ≠ 1 ∧
      cmdPowerGetStatus.code ≠ 2 :=
  ⟨rfl, by decide +kernel, rfl, by decide +kernel, by decide +kernel, by decide +kernel⟩

theorem witness_EveryStepTakesOneCommand : step (off [.doorbell 0 1]) = .next (advance 0 (off [])) := rfl

theorem witness_StepsKeepMemoriesCanonical :
    (off [.doorbell 0 1]).memoriesCanonical ∧ (off [.doorbell 0 1]).reservedClear ∧ step (off [.doorbell 0 1]) = .next (advance 0 (off [])) := by
  refine ⟨?_, ?_, rfl⟩
  · unfold State.memoriesCanonical; decide +kernel
  · unfold State.reservedClear; decide +kernel

end Further
end

section
/-! PROOF. The class masks of R54: what a barred command comes to, and why the statement fails on a state whose CHECK_FAILED count is
wider than its 32 bits. -/

namespace Sys2Proof.Machine
open Sys2Proof

/-! ### What a request leaves of the CHECK_FAILED count -/

/-- Taking a request leaves the CHECK_FAILED count. -/
@[simp] theorem judged_checkFailedCount (cmd : Command) (dt : Nat) (r : Request) (s : State) :
    (judged cmd dt r s).win.checkFailedCount = s.win.checkFailedCount := by
  have ht : (arrived dt r s).win.checkFailedCount = s.win.checkFailedCount := by
    obtain ⟨hwin, -⟩ := keepsWindow_touchTls r.path (advance dt s)
    unfold arrived
    rw [hwin]
    rfl
  have hw : (written cmd dt r s).win.checkFailedCount = (arrived dt r s).win.checkFailedCount := by
    unfold written; dsimp only; split <;> rfl
  exact hw.trans ht

/-- An answer leaves the CHECK_FAILED count. -/
@[simp] theorem finish_checkFailedCount (k : Nat) (rep : Reply) (s : State) :
    (finish k rep s).win.checkFailedCount = s.win.checkFailedCount := by
  cases ht : tabGet? s.win.taken k with
  | none => rw [finish_untaken ht]
  | some e =>
    obtain ⟨_, hwin, -⟩ := finish_window (rep := rep) ht
    rw [hwin]

/-- The CHECK_FAILED count taken to its 32 bits, as every refusal but CHECK_FAILED leaves it. -/
def wrapCheckFailed (u : State) : State := { u with win := { u.win with checkFailedCount := u.win.checkFailedCount % 2 ^ 32 } }

@[simp] theorem wrapCheckFailed_checkFailedCount (u : State) :
    (wrapCheckFailed u).win.checkFailedCount = u.win.checkFailedCount % 2 ^ 32 := rfl

/-- A count within its 32 bits stays as it is. -/
theorem wrapCheckFailed_of_lt {u : State} (h : u.win.checkFailedCount < 2 ^ 32) : wrapCheckFailed u = u := by
  unfold wrapCheckFailed
  rw [Nat.mod_eq_of_lt h]

/-! ### The class masks (R54) -/

/-- The class of a code is barred on a path: its bit in the path's mask is 0. The host port has no mask. -/
def ClassBarred (p : Path) (code : Nat) (u : State) : Prop :=
  (p = .usb ∧ u.win.usbMask.getLsbD (code / 256) = false) ∨ ((∃ n, p = .tls n) ∧ u.win.tlsMask.getLsbD (code / 256) = false)

/-- A barred class is not permitted, but for System-Identify and System-Get-State. -/
theorem pathPermits_of_classBarred {p : Path} {code : Nat} {u : State} (hb : ClassBarred p code u) (h1 : code ≠ 0x0001) (h2 : code ≠ 0x0002) :
    pathPermits p code u = false := by
  unfold pathPermits
  obtain ⟨rfl, hm⟩ | ⟨⟨n, rfl⟩, hm⟩ := hb
  · simp [h1, h2, hm]
  · simp [h1, h2, hm]

/-- A path that is not permitted is the first check to fail (R58 step 4 (b)). -/
theorem refusal_of_not_pathPermits {cmd : Command} {c : Ctx} {h : Header} {u : State} (hp : pathPermits c.path c.code u = false) :
    refusal cmd c h u = some (0x05, 0xFFFF) := by
  simp [refusal, hp]

/-- A barred request is answered PATH_NOT_PERMITTED, and the CHECK_FAILED count is taken to its 32 bits. -/
theorem exec_of_classBarred {i : Instr} {cmd : Command} {dt : Nat} {r : Request} {s : State} (hrow : commandRow i = some (cmd, dt, r))
    (ht : taken cmd dt r s = true) (hb : ClassBarred r.path cmd.code (judged cmd dt r s)) (h1 : cmd.code ≠ 0x0001) (h2 : cmd.code ≠ 0x0002) :
    exec i s = .next (finish r.mbox.val (.err 0x05 0xFFFF []) (wrapCheckFailed (judged cmd dt r s))) := by
  have hc : checkFailure cmd dt r s = some (0x05, 0xFFFF) := refusal_of_not_pathPermits (pathPermits_of_classBarred hb h1 h2)
  rw [exec_commandRow hrow, runCommand_refused ht hc]
  rfl

/-- R54 as the model keeps it: O55 with one premise more, that the CHECK_FAILED count is within its 32 bits (R63). -/
theorem classMasks_bar_of_checkFailedCount_lt {i : Instr} {cmd : Command} {dt : Nat} {r : Request} {s : State}
    (hrow : commandRow i = some (cmd, dt, r)) (ht : taken cmd dt r s = true) (hcount : s.win.checkFailedCount < 2 ^ 32) :
    (ClassBarred r.path cmd.code (judged cmd dt r s) → cmd.code ≠ 0x0001 → cmd.code ≠ 0x0002 →
      exec i s = .next (finish r.mbox.val (.err 0x05 0xFFFF []) (judged cmd dt r s))) ∧
    (∀ p : Path, pathPermits p 0x0001 (judged cmd dt r s) = true ∧ pathPermits p 0x0002 (judged cmd dt r s) = true) ∧
    pathPermits .host cmd.code (judged cmd dt r s) = true := by
  refine ⟨fun hb h1 h2 => ?_, fun p => ⟨by simp [pathPermits], by simp [pathPermits]⟩, by simp [pathPermits]⟩
  rw [exec_of_classBarred hrow ht hb h1 h2, wrapCheckFailed_of_lt (by simpa using hcount)]

/-! ### The counterexample -/

/-- Power-Get-Status over USB, to mailbox 0. -/
def barredRequest : Request :=
  { mbox := 0, path := .usb, flags := 0, tag := 0, check := 0, reserved := zeros 16, length := 0, payload := [] }

/-- A READY module with USB attached and mailbox 0 assigned to it, USB_CLASS_MASK permitting the System class alone, and a
CHECK_FAILED count of 2 ^ 32: a Nat of the state, but no value of the 32-bit count. -/
def barredOverflowing : State :=
  { win := { st := .ready, assign := 1, effAssign := 1, usbMask := 1, checkFailedCount := 2 ^ 32 }
    panel := { attached := true } }

/-- Refutes O55: the CHECK_FAILED count is an unbounded `Nat` of the state, and every refusal takes it modulo 2 ^ 32. On a state that
holds 2 ^ 32 the refusal of a barred Power-Get-Status sets it to 0, which is an effect besides the answer. Such a state is not
one the module reaches: with the count within its width all of O55 holds (`classMasks_bar_of_checkFailedCount_lt`). -/
theorem not_classMasksBarTheirPath : ¬ Obligations.ClassMasksBarTheirPath := by
  unfold Obligations.ClassMasksBarTheirPath
  intro h
  have hrow : commandRow (.powerGetStatus 0 barredRequest) = some (cmdPowerGetStatus, 0, barredRequest) := rfl
  have ht : taken cmdPowerGetStatus 0 barredRequest barredOverflowing = true := by decide +kernel
  have hb : ClassBarred barredRequest.path cmdPowerGetStatus.code (judged cmdPowerGetStatus 0 barredRequest barredOverflowing) :=
    .inl ⟨rfl, by decide +kernel⟩
  have h1 : cmdPowerGetStatus.code ≠ 0x0001 := by decide
  have h2 : cmdPowerGetStatus.code ≠ 0x0002 := by decide
  have claimed := (h _ _ _ _ _ hrow ht).1 hb h1 h2
  rw [exec_of_classBarred hrow ht hb h1 h2, Host.Outcome.next.injEq] at claimed
  have hcount : barredOverflowing.win.checkFailedCount % 2 ^ 32 = barredOverflowing.win.checkFailedCount := by
    simpa only [finish_checkFailedCount, wrapCheckFailed_checkFailedCount, judged_checkFailedCount] using
      congrArg (fun u : State => u.win.checkFailedCount) claimed
  exact absurd hcount (by decide)

end Sys2Proof.Machine
end

section
/-! PROOF. STUCK inputs (R407): what follows an accepted change of a digital input (fault events, blocks, interlocks, the resolution of
targets) leaves the digital inputs as they are, so a change of an input reads back as it was made. -/

namespace Sys2Proof.Machine
open Sys2Proof

/-! ### Reading back a table entry that was set -/

@[simp] theorem tabGet?_tabSet_same {α : Type} (t : Tab α) (k : Nat) (a : α) : tabGet? (tabSet t k a) k = some a := by
  induction t with
  | nil => simp [tabSet, tabGet?]
  | cons e t ih =>
    obtain ⟨j, b⟩ := e
    unfold tabSet
    split_ifs with hlt heq
    · simp [tabGet?]
    · simp [tabGet?]
    · simp [tabGet?, Ne.symm heq, ih]

@[simp] theorem tabGet_tabSet_same {α : Type} (d : α) (t : Tab α) (k : Nat) (a : α) : tabGet d (tabSet t k a) k = a := by
  simp [tabGet]

@[simp] theorem di_setDi_same (n : Nat) (d : Di) (s : State) : di n (setDi n d s) = d := tabGet_tabSet_same _ _ _ _

/-- A digital input is read from the table of inputs alone. -/
theorem di_congr (n : Nat) {u v : State} (h : u.io.di = v.io.di) : di n u = di n v := by
  unfold di; rw [h]

/-! ### What leaves the digital inputs as they are -/

/-- A run of operations that each leave the digital inputs leaves them. -/
theorem foldl_inputs {α : Type} {f : State → α → State} (h : ∀ u a, (f u a).io.di = u.io.di) (l : List α) (u : State) :
    (l.foldl f u).io.di = u.io.di := by
  induction l generalizing u with
  | nil => rfl
  | cons a l ih => exact (ih (f u a)).trans (h u a)

@[simp] theorem emit_io (c : Nat) (l : List Int) (s : State) : (emit c l s).io = s.io := by
  obtain ⟨r, h⟩ := emit_recorder c l s
  rw [h]

@[simp] theorem faultEvent_inputs (kind n code clear : Nat) (s : State) : (faultEvent kind n code clear s).io.di = s.io.di := by
  unfold faultEvent
  split
  · simp
  · dsimp only; split_ifs <;> simp

@[simp] theorem removeBlock_inputs (b : Nat) (s : State) : (removeBlock b s).io.di = s.io.di := by simp [removeBlock]

@[simp] theorem scanBlock_inputs (before s : State) (b : Nat) : (scanBlock before s b).io.di = s.io.di := by
  unfold scanBlock; dsimp only; split_ifs <;> simp

@[simp] theorem scanBlocks_inputs (before s : State) : (scanBlocks before s).io.di = s.io.di := by
  unfold scanBlocks; exact foldl_inputs (scanBlock_inputs before) _ _

/-- A channel's change leaves the digital inputs as the change itself leaves them. -/
@[simp] theorem ioChange_inputs (kind n : Nat) (f : State → State) (s : State) : (ioChange kind n f s).io.di = (f s).io.di := by
  unfold ioChange; dsimp only; split_ifs <;> simp

@[simp] theorem retarget_inputs (n : Nat) (v : Rat) (s : State) : (retarget n v s).io.di = s.io.di := by
  unfold retarget; dsimp only; split_ifs <;> simp

@[simp] theorem drive_inputs (k i : Nat) (v : Rat) (s : State) : (drive k i v s).io.di = s.io.di := by
  unfold drive
  split
  · rfl
  · rfl
  · exact retarget_inputs i v s
  · rfl

@[simp] theorem followHeld_inputs (k i : Nat) (v : Rat) (s : State) : (followHeld k i v s).io.di = s.io.di := by
  unfold followHeld
  split
  · rfl
  · dsimp only; split_ifs <;> rfl

@[simp] theorem setTarget_io (k i : Nat) (t : Target) (s : State) : (setTarget k i t s).io = s.io := rfl

@[simp] theorem resolve_inputs (k i : Nat) (s : State) : (resolve k i s).io.di = s.io.di := by
  unfold resolve; dsimp only; rw [drive_inputs]; split_ifs <;> simp

@[simp] theorem followStage_io (n : Nat) (s : State) : (followStage n s).io = s.io := by
  unfold followStage; dsimp only; split_ifs <;> rfl

@[simp] theorem noteApplied_io (n : Nat) (s : State) : (noteApplied n s).io = s.io := by
  unfold noteApplied; dsimp only; split_ifs <;> rfl

@[simp] theorem resolveAll_inputs (s : State) : (resolveAll s).io.di = s.io.di := by
  unfold resolveAll
  split_ifs
  · rfl
  · dsimp only
    rw [foldl_inputs (fun u n => by simp), foldl_inputs (fun u (k : Nat × Nat) => resolve_inputs k.1 k.2 u)]

@[simp] theorem judgeIlock_inputs (s : State) (n : Nat) : (judgeIlock s n).io.di = s.io.di := by
  unfold judgeIlock; dsimp only; split_ifs <;> simp

@[simp] theorem judgeIlocks_inputs (s : State) : (judgeIlocks s).io.di = s.io.di := by
  have hfold : ((List.range 8).foldl judgeIlock s).io.di = s.io.di := foldl_inputs judgeIlock_inputs _ _
  unfold judgeIlocks
  dsimp only
  split_ifs
  · rfl
  · rfl
  · rw [resolveAll_inputs, hfold]

/-- After a change of a digital input and all that follows from it, the inputs are as the change left them. -/
theorem di_judged_change (n m : Nat) (f : State → State) (s : State) : di n (judgeIlocks (ioChange 0 m f s)) = di n (f s) :=
  di_congr n (by simp)

/-! ### The STUCK rule (R407) -/

/-- The input has shown 1 since some instant, for STUCK_S and longer by now; never so where STUCK_S is 0. -/
def StuckDue (n : Nat) (u : State) : Prop :=
  ∃ t, (di n u).highFrom = some t ∧ fld (diRec u.io.cfg n) 4 2 ≠ 0 ∧ t + fld (diRec u.io.cfg n) 4 2 * 1000000000 ≤ u.tb.now

/-- DI_STUCK for an input that is due makes it STUCK. -/
theorem exec_diStuck_of_due {dt : Nat} {n : Fin 32} {s : State} (h : StuckDue n.val (advance dt s)) :
    exec (.diStuck dt n) s =
      .next (judgeIlocks (ioChange 0 n.val (fun v => setDi n.val { di n.val v with stuck := true } v) (advance dt s))) := by
  obtain ⟨t, hfrom, hrule, hdue⟩ := h
  change execDiStuck dt n s = _
  simp only [execDiStuck, hfrom, if_pos (And.intro hrule hdue)]

/-- DI_STUCK for an input that is not due lets time pass and nothing else. -/
theorem exec_diStuck_of_not_due {dt : Nat} {n : Fin 32} {s : State} (h : ¬ StuckDue n.val (advance dt s)) :
    exec (.diStuck dt n) s = .next (advance dt s) := by
  change execDiStuck dt n s = _
  cases hfrom : (di n.val (advance dt s)).highFrom with
  | none => simp only [execDiStuck, hfrom]
  | some t =>
    have hwait : ¬ (fld (diRec (advance dt s).io.cfg n.val) 4 2 ≠ 0 ∧
        t + fld (diRec (advance dt s).io.cfg n.val) 4 2 * 1000000000 ≤ (advance dt s).tb.now) :=
      fun hdue => h ⟨t, hfrom, hdue⟩
    simp only [execDiStuck, hfrom, if_neg hwait]

/-- The state 0 accepted on an input whose state is 1 is its falling edge, which ends STUCK. -/
theorem acceptState_false_stuck {r : Bytes} {now pad : Nat} {d : Di} (hknown : d.known = true) (hstate : d.state = true) :
    (acceptState r false now pad d).stuck = false := by
  simp [acceptState, hknown, hstate]

/-- What accepting a level makes of its input, but for its effects elsewhere: the level after INVERT becomes the state. -/
theorem di_acceptBand_level (n : Nat) (v : Bool) (pad : Nat) (s : State) :
    di n (acceptBand n (.level v) pad s) =
      acceptState (diRec s.io.cfg n) (v != bit (fld (diRec s.io.cfg n) 1 1) 0) s.tb.now pad { di n s with band := 0, level := v } := by
  unfold acceptBand
  rw [di_judged_change]
  dsimp only
  split_ifs
  · exact di_setDi_same _ _ _
  · exact di_setDi_same _ _ _

/-- Settles O56: DI_STUCK by whether the input is due, and the end of STUCK by the falling edge of acceptState. -/
theorem stuckInputsKeepTheirValue : Obligations.StuckInputsKeepTheirValue := by
  unfold Obligations.StuckInputsKeepTheirValue
  intro dt n s
  refine ⟨?due, ?early, ?disabled, ?accepted⟩
  case due =>
    rintro t u rfl hfrom hrule hdue
    refine ⟨_, exec_diStuck_of_due ⟨t, hfrom, hrule, hdue⟩, ?_⟩
    rw [di_judged_change, di_setDi_same]
    exact ⟨rfl, rfl, rfl⟩
  case early =>
    rintro t u rfl hfrom hearly
    refine exec_diStuck_of_not_due ?_
    rintro ⟨t', hfrom', -, hdue⟩
    obtain rfl : t = t' := Option.some.inj (hfrom.symm.trans hfrom')
    exact absurd hdue (Nat.not_le.mpr hearly)
  case disabled =>
    intro hzero
    refine exec_diStuck_of_not_due ?_
    rintro ⟨t, -, hrule, -⟩
    exact hrule hzero
  case accepted =>
    rintro v pad rfl hknown hstate
    rw [di_acceptBand_level, bne_self_eq_false]
    exact acceptState_false_stuck hknown hstate

end Sys2Proof.Machine
end

section
/-! PROOF. Sec-Set-Tamper-Config (R479): the command's body parted by whether the request disarms an input. -/

namespace Sys2Proof.Machine
open Sys2Proof

/-- Every MODE that the request would change is OFF. -/
def armsOnly (c : Ctx) (u : State) : Bool :=
  (List.range 4).all (fun i => fld u.sec.tampCfg i 1 == 0 || fld c.payload i 1 == fld u.sec.tampCfg i 1)

/-- The configuration applied, in the VBAT domain and in the Cellar, with the inputs whose MODE is now OFF active no longer. -/
def applyTamperConfig (c : Ctx) (u : State) : State :=
  setSec (fun x => { x with
    tampCfg := c.payload
    tampCellar := c.payload
    active := x.active - (((List.range 4).filter (fun i => fld c.payload i 1 == 0 && bit u.sec.active i)).map (2 ^ ·)).sum }) u

/-- A request disarms an input exactly when it changes more than MODEs that are OFF. -/
theorem any_disarmed_eq_not_armsOnly (c : Ctx) (u : State) :
    (List.range 4).any (fun i => fld u.sec.tampCfg i 1 != 0 && fld c.payload i 1 != fld u.sec.tampCfg i 1) = !armsOnly c u := by
  rw [armsOnly, List.not_all_eq_any_not]
  congr 1
  funext i
  exact (Bool.not_or _ _).symm

/-- The configuration is applied either way; whether the request disarms an input decides what follows. -/
theorem cmdSecSetTamperConfig_body (c : Ctx) (u : State) :
    cmdSecSetTamperConfig.body c u =
      (if armsOnly c u then latchTamper (applyTamperConfig c u) else tamperResponse 0x0A (applyTamperConfig c u), .ok []) := by
  change (if (List.range 4).any (fun i => fld u.sec.tampCfg i 1 != 0 && fld c.payload i 1 != fld u.sec.tampCfg i 1) then
      tamperResponse 0x0A (applyTamperConfig c u) else latchTamper (applyTamperConfig c u), Reply.ok []) = _
  rw [any_disarmed_eq_not_armsOnly]
  cases armsOnly c u <;> rfl

/-- Settles O57, by whether the request only arms: the two clauses are the two branches of the command's body. -/
theorem disarmingRunsTheTamperResponse : Obligations.DisarmingRunsTheTamperResponse := by
  unfold Obligations.DisarmingRunsTheTamperResponse
  have hrow : ∀ dt r s, exec (.secSetTamperConfig dt r) s = runCommand cmdSecSetTamperConfig dt r s :=
    fun _ _ s => exec_commandRow rfl s
  refine ⟨acts_of_body hrow ?arms, acts_of_body hrow ?disarms⟩
  case arms =>
    intro c u _ harms
    have harms' : armsOnly c u = true := harms
    rw [cmdSecSetTamperConfig_body, if_pos harms']
    rfl
  case disarms =>
    intro c u _ hdisarms
    have hdisarms' : (!armsOnly c u) = true := hdisarms
    rw [cmdSecSetTamperConfig_body, if_neg (by simpa using hdisarms')]
    rfl

end Sys2Proof.Machine
end

section
/-! PROOF. What a step may touch of the queue, the byte memories and the reserved bits: `vital` gathers these parts of the state,
and here stands, per operation of the model that writes none of them, that it leaves them as they are. -/

namespace Sys2Proof.Machine
open Sys2Proof

/-- The parts of the state the step invariants speak of: the queue, the byte memories, and the registers with reserved bits. -/
structure Vital where
  pending : List Instr
  mem : List Host.Cell
  free : List Host.Cell
  progMem : List Host.Cell
  retained : List Host.Cell
  hostControl : BitVec 32
  usbMask : BitVec 32
  tlsMask : BitVec 32
  eventEnable : BitVec 32

/-- The vital parts of a state. -/
def vital (s : State) : Vital :=
  ⟨s.pending, s.win.mem, s.sys.free, s.prog.mem, s.prog.retained, s.win.hostControl, s.win.usbMask, s.win.tlsMask, s.win.eventEnable⟩

theorem vital_mk (a b c d e f g h i j k l m n o p q r s t u v w x y) :
    vital (State.mk a b c d e f g h i j k l m n o p q r s t u v w x y) =
      ⟨a, c.mem, d.free, p.mem, p.retained, c.hostControl, c.usbMask, c.tlsMask, c.eventEnable⟩ := by
  simp only [vital]

@[simp] theorem vital_eta (s : State) :
    (⟨s.pending, s.win.mem, s.sys.free, s.prog.mem, s.prog.retained, s.win.hostControl, s.win.usbMask, s.win.tlsMask,
      s.win.eventEnable⟩ : Vital) = vital s := by
  simp only [vital]

theorem vital_foldl {α : Type} {f : State → α → State} (h : ∀ u a, vital (f u a) = vital u) (l : List α) (s : State) :
    vital (l.foldl f s) = vital s := by
  induction l generalizing s with
  | nil => rfl
  | cons a l ih => exact (ih (f s a)).trans (h s a)

@[simp] theorem vital_irq (f : Window → Window) (s : State) : vital (irq f s) = vital { s with win := f s.win } := rfl
@[simp] theorem vital_irqWrite (f : Window → Window) (s : State) : vital (irqWrite f s) = vital { s with win := f s.win } := rfl
@[simp] theorem vital_setProg (f : Program → Program) (s : State) : vital (setProg f s) = vital { s with prog := f s.prog } := rfl

theorem vital_ite {c : Prop} [Decidable c] {a b s : State} (ha : vital a = vital s) (hb : vital b = vital s) :
    vital (if c then a else b) = vital s := by
  split
  · exact ha
  · exact hb

@[simp] theorem vital_advance (dt : Nat) (s : State) : vital (advance dt s) = vital s := rfl

@[simp] theorem vital_emitItems (code : Nat) (items : List (BitVec 64)) (s : State) :
    vital (emitItems code items s) = vital s := by
  unfold emitItems
  split_ifs <;> simp [↓vital_mk]

@[simp] theorem vital_emit (code : Nat) (items : List Int) (s : State) :
    vital (emit code items s) = vital s := by
  unfold emit
  simp

@[simp] theorem vital_judgeIlock (s : State) (n : Nat) : vital (judgeIlock s n) = vital s := by
  unfold judgeIlock
  dsimp only
  split_ifs <;> simp [↓vital_mk]

@[simp] theorem vital_setTarget (k : Nat) (i : Nat) (t : Target) (s : State) :
    vital (setTarget k i t s) = vital s := rfl

@[simp] theorem vital_setLoop (n : Nat) (l : Loop) (s : State) : vital (setLoop n l s) = vital s := rfl

@[simp] theorem vital_followHeld (k : Nat) (i : Nat) (v : Rat) (s : State) :
    vital (followHeld k i v s) = vital s := by
  unfold followHeld
  dsimp only
  (repeat' split) <;> simp

@[simp] theorem vital_driveAout (i : Nat) (v : Rat) (s : State) : vital (driveAout i v s) = vital s := rfl

@[simp] theorem vital_driveDout (i : Nat) (on : Bool) (s : State) :
    vital (driveDout i on s) = vital s := rfl

@[simp] theorem vital_setAxis (n : Nat) (a : Axis) (s : State) : vital (setAxis n a s) = vital s := rfl

@[simp] theorem vital_retarget (n : Nat) (v : Rat) (s : State) : vital (retarget n v s) = vital s := by
  unfold retarget
  dsimp only
  split_ifs <;> simp

@[simp] theorem vital_drive (k : Nat) (i : Nat) (v : Rat) (s : State) :
    vital (drive k i v s) = vital s := by
  unfold drive
  split <;> simp [↓vital_mk]

@[simp] theorem vital_resolve (k : Nat) (i : Nat) (s : State) : vital (resolve k i s) = vital s := by
  unfold resolve
  dsimp only
  split_ifs <;> simp

@[simp] theorem vital_noteApplied (n : Nat) (s : State) : vital (noteApplied n s) = vital s := by
  unfold noteApplied
  dsimp only
  split_ifs <;> simp

@[simp] theorem vital_followStage (n : Nat) (s : State) : vital (followStage n s) = vital s := by
  unfold followStage
  dsimp only
  split_ifs <;> simp

@[simp] theorem vital_resolveAll (s : State) : vital (resolveAll s) = vital s := by
  unfold resolveAll
  dsimp only
  (repeat' split) <;> simp [vital_foldl]

@[simp] theorem vital_judgeIlocks (s : State) : vital (judgeIlocks s) = vital s := by
  unfold judgeIlocks
  dsimp only
  (repeat' split) <;> simp [vital_foldl]

@[simp] theorem vital_setBlock (b : Nat) (x : Block) (s : State) : vital (setBlock b x s) = vital s := rfl

@[simp] theorem vital_removeBlock (b : Nat) (s : State) : vital (removeBlock b s) = vital s := by
  unfold removeBlock
  simp

@[simp] theorem vital_scanBlock (before : State) (s : State) (b : Nat) :
    vital (scanBlock before s b) = vital s := by
  unfold scanBlock
  dsimp only
  split_ifs <;> simp

@[simp] theorem vital_scanBlocks (before : State) (s : State) :
    vital (scanBlocks before s) = vital s := by
  unfold scanBlocks
  exact vital_foldl (vital_scanBlock before) _ s

@[simp] theorem vital_faultEvent (kind : Nat) (n : Nat) (code : Nat) (clear : Nat) (s : State) :
    vital (faultEvent kind n code clear s) = vital s := by
  unfold faultEvent
  dsimp only
  (repeat' split) <;> simp

@[simp] theorem vital_ioChange (kind : Nat) (n : Nat) (f : State → State) (s : State) (h : ∀ u, vital (f u) = vital u) :
    vital (ioChange kind n f s) = vital s := by
  unfold ioChange
  dsimp only
  split_ifs <;> simp [h]

@[simp] theorem vital_setDi (n : Nat) (d : Di) (s : State) : vital (setDi n d s) = vital s := rfl

@[simp] theorem vital_receiveTwin (h : TwinHead) (s : State) : vital (receiveTwin h s).1 = vital s := by
  unfold receiveTwin
  split_ifs <;> simp [↓vital_mk]

@[simp] theorem vital_send (o : Output) (s : State) : vital (send o s) = vital s := rfl

@[simp] theorem vital_sendTwin (type : Nat) (item : Nat) (data : Bytes) (s : State) :
    vital (sendTwin type item data s) = vital s := by
  unfold sendTwin
  simp [↓vital_mk]

@[simp] theorem vital_ackItem (type : Nat) (item : Nat) (result : Nat) (s : State) :
    vital (ackItem type item result s) = vital s := by
  unfold ackItem
  simp

@[simp] theorem vital_takeItem (type : Nat) (h : TwinHead) (apply : State → State) (s : State) (h' : ∀ u, vital (apply u) = vital u) :
    vital (takeItem type h apply s) = vital s := by
  unfold takeItem
  have hrx := vital_receiveTwin h s
  split <;> rename_i heq <;> rw [heq] at hrx
  · exact hrx
  · dsimp only; split_ifs <;> simp [↓vital_mk, h', ← hrx]

@[simp] theorem vital_raise (k : Nat) (s : State) : vital (raise k s) = vital s := by
  unfold raise
  simp [↓vital_mk]

@[simp] theorem vital_accessFault (p : Path) (addr : Nat) (write : Bool) (s : State) :
    vital (accessFault p addr write s) = vital s := by
  unfold accessFault
  simp [↓vital_mk]

@[simp] theorem vital_touchTls (p : Path) (s : State) : vital (touchTls p s) = vital s := by
  unfold touchTls
  dsimp only
  (repeat' split) <;> simp [↓vital_mk]

@[simp] theorem vital_ringBusy (s : State) : vital (ringBusy s) = vital s := by
  unfold ringBusy
  simp [↓vital_mk]

@[simp] theorem vital_hold (k : Nat) (p : Path) (s : State) : vital (hold k p s) = vital s := rfl

@[simp] theorem vital_takeRequest (k : Nat) (p : Path) (h : Header) (payload : Bytes) (s : State) :
    vital (takeRequest k p h payload s) = vital s := by
  unfold takeRequest
  simp [↓vital_mk]

@[simp] theorem vital_notify (p : Path) (addr : Nat) (s : State) : vital (notify p addr s) = vital s := by
  unfold notify
  split_ifs <;> simp

@[simp] theorem vital_endEntry (n : Nat) (st : Nat) (reason : Nat) (result : Bytes) (s : State) :
    vital (endEntry n st reason result s) = vital s := by
  unfold endEntry
  dsimp only
  (repeat' split) <;> simp [↓vital_mk]

@[simp] theorem vital_dropOp (n : Nat) (s : State) : vital (dropOp n s) = vital s := rfl

@[simp] theorem vital_opCancel (n : Nat) (s : State) : vital (opCancel n s) = vital s := by
  unfold opCancel
  simp

@[simp] theorem vital_sessionOps (p : Path) (s : State) : vital (sessionOps p s) = vital s := by
  unfold sessionOps
  exact vital_foldl (fun u e => by split_ifs <;> simp) _ s

@[simp] theorem vital_endTls (n : Nat) (s : State) : vital (endTls n s) = vital s := by
  unfold endTls
  split <;> simp [↓vital_mk]

@[simp] theorem vital_applyAssign (k : Nat) (s : State) : vital (applyAssign k s) = vital s := by
  unfold applyAssign
  dsimp only
  (repeat' split) <;> simp [↓vital_mk, vital_foldl]

@[simp] theorem vital_gateOn (n : Nat) (s : State) : vital (gateOn n s) = vital s := by
  unfold gateOn
  exact vital_foldl (fun u m => by simp [↓vital_mk]) _ s

@[simp] theorem vital_gateFollow (s : State) : vital (gateFollow s) = vital s := by
  unfold gateFollow
  split_ifs
  · rfl
  · exact vital_foldl (fun u n => by split_ifs <;> simp) _ s

@[simp] theorem vital_setMbus (f : Mbus → Mbus) (s : State) : vital (setMbus f s) = vital s := rfl

@[simp] theorem vital_sendRequest (x : MbusExchange) (idle : Nat) (s : State) :
    vital (sendRequest x idle s) = vital s := by
  unfold sendRequest
  simp

@[simp] theorem vital_setSlave (a : Nat) (x : MbusSlave) (s : State) :
    vital (setSlave a x s) = vital s := rfl

@[simp] theorem vital_nkeDone (x : MbusExchange) (s : State) : vital (nkeDone x s) = vital s := by
  unfold nkeDone
  simp

@[simp] theorem vital_axisFault (n : Nat) (f : Nat) (s : State) : vital (axisFault n f s) = vital s := by
  unfold axisFault
  dsimp only
  split_ifs <;> simp

@[simp] theorem vital_homeNext (n : Nat) (s : State) : vital (homeNext n s) = vital s := by
  unfold homeNext
  dsimp only
  split <;> simp

@[simp] theorem vital_setClk (f : Clocks → Clocks) (s : State) : vital (setClk f s) = vital s := rfl

@[simp] theorem vital_progressTo (n : Nat) (done : Nat) (s : State) :
    vital (progressTo n done s) = vital s := by
  unfold progressTo
  dsimp only
  (repeat' split) <;> simp [↓vital_mk]

@[simp] theorem vital_clearReadFault (a : Nat) (n : Nat) (s : State) :
    vital (clearReadFault a n s) = vital s := by
  unfold clearReadFault
  split_ifs <;> simp [↓vital_mk]

@[simp] theorem vital_countEncoder (e : EncSample) (s : State) : vital (countEncoder e s) = vital s := by
  unfold countEncoder
  dsimp only
  (repeat' split) <;> simp

@[simp] theorem vital_lateReport (id : Nat) (target : Nat) (outcome : Nat) (s : State) :
    vital (lateReport id target outcome s) = vital s := by
  unfold lateReport
  dsimp only
  (repeat' split) <;> simp [↓vital_mk]

@[simp] theorem vital_opFail (n : Nat) (reason : Nat) (s : State) :
    vital (opFail n reason s) = vital s := by
  unfold opFail
  simp

@[simp] theorem vital_setOasis (o : Bool) (s : State) : vital (setOasis o s) = vital s := by
  unfold setOasis
  split_ifs <;> simp [↓vital_mk]

@[simp] theorem vital_replicate (type : Nat) (ack : Bool) (data : Bytes) (s : State) :
    vital (replicate type ack data s).1 = vital s := by
  unfold replicate
  split_ifs <;> simp [↓vital_mk]

@[simp] theorem vital_putCar (slot : Nat) (c : Caravan) (s : State) :
    vital (putCar slot c s) = vital s := by
  unfold putCar
  simp [↓vital_mk]

theorem vital_openCar {tAct origin : Nat} {auto lock : Bool} {s t : State} {k : Nat} (h : openCar tAct origin auto lock s = some (k, t)) :
    vital t = vital s := by
  unfold openCar at h
  split at h
  · simp at h
  · simp only [Option.some.injEq, Prod.mk.injEq] at h
    simp [↓vital_mk, ← h.2]

@[simp] theorem vital_keepCar (slot : Nat) (c : Caravan) (s : State) :
    vital (keepCar slot c s) = vital s := rfl

@[simp] theorem vital_decide_ (slot : Nat) (c : Caravan) (d : Option Nat) (waiter : Option Nat) (s : State) :
    vital (decide_ slot c d waiter s) = vital s := by
  unfold decide_
  simp

@[simp] theorem vital_tryStaged (slot : Nat) (s : State) : vital (tryStaged slot s) = vital s := by
  unfold tryStaged
  dsimp only
  (repeat' split) <;> simp

@[simp] theorem vital_setPort (n : Nat) (f : Port → Port) (s : State) :
    vital (setPort n f s) = vital s := rfl

@[simp] theorem vital_sendFfp (type : Nat) (dst : Nat) (body : Bytes) (s : State) :
    vital (sendFfp type dst body s) = vital s := by
  unfold sendFfp
  dsimp only
  split_ifs
  · rfl
  · simp only [vital_send, vital_mk, vital_eta]
    exact vital_foldl (fun u p => vital_setPort _ _ u) _ s

@[simp] theorem vital_sendStage (c : Caravan) (n : Nat) (s : State) :
    vital (sendStage c n s) = vital s := by
  unfold sendStage
  simp

@[simp] theorem vital_sealCar (slot : Nat) (s : State) : vital (sealCar slot s) = vital s := by
  unfold sealCar
  dsimp only
  (repeat' split) <;> simp [vital_foldl]

@[simp] theorem vital_addMembers (slot : Nat) (entries : List (Nat × Nat)) (s : State) :
    vital (addMembers slot entries s) = vital s := by
  unfold addMembers
  split <;> simp

@[simp] theorem vital_openSealed (tAct : Nat) (origin : Nat) (lock : Bool) (entries : List (Nat × Nat)) (s : State) :
    vital (openSealed tAct origin lock entries s).1 = vital s := by
  unfold openSealed
  split_ifs
  · rfl
  · rfl
  · rfl
  · split
    · rfl
    · rename_i k t heq
      simpa using vital_openCar heq

@[simp] theorem vital_acceptBand (n : Nat) (b : Band) (pad : Nat) (s : State) :
    vital (acceptBand n b pad s) = vital s := by
  refine (vital_judgeIlocks _).trans (vital_ioChange _ _ _ _ (fun u => ?_))
  cases b with
  | level v => exact vital_ite (by simp [↓vital_mk]) (by simp)
  | fault c => simp
  | between => simp

@[simp] theorem vital_replicatePlant (s : State) : vital (replicatePlant s) = vital s := by
  unfold replicatePlant
  dsimp only
  split_ifs <;> simp [↓vital_mk]

@[simp] theorem vital_takeEntry (n : Nat) (p : Path) (code : Nat) (tag : Nat) (mbox : Nat) (total : Nat) (s : State) :
    vital (takeEntry n p code tag mbox total s) = vital s := rfl

@[simp] theorem vital_startOp (c : Ctx) (total : Nat) (s : State) (f : Nat → State → State) (h : ∀ k u, vital (f k u) = vital u) :
    vital (startOp c total s f).1 = vital s := by
  unfold startOp
  split
  · rfl
  · simp [h]

@[simp] theorem vital_setSec (f : Security → Security) (s : State) : vital (setSec f s) = vital s := rfl

@[simp] theorem vital_faultSlot (n : Nat) (s : State) : vital (faultSlot n s) = vital s := by
  unfold faultSlot
  simp

@[simp] theorem vital_adoptDram (f : StartFacts) (s : State) : vital (adoptDram f s) = vital s := by
  unfold adoptDram
  split_ifs <;> simp [↓vital_mk]

@[simp] theorem vital_setRec (f : Recorder → Recorder) (s : State) : vital (setRec f s) = vital s := rfl

@[simp] theorem vital_setPow (f : Power → Power) (s : State) : vital (setPow f s) = vital s := rfl

@[simp] theorem vital_setBoot (f : Boot → Boot) (s : State) : vital (setBoot f s) = vital s := rfl

@[simp] theorem vital_setCan (b : Nat) (c : CanBus) (s : State) : vital (setCan b c s) = vital s := rfl

@[simp] theorem vital_defaultRecord (r : HouseRecord) (s : State) :
    vital (defaultRecord r s) = vital s := by
  cases r <;> simp only [defaultRecord, vital_mk, vital_eta, vital_setPow, vital_setClk, vital_setBoot, vital_setProg, vital_setAxis, vital_setCan, vital_setRec, vital_setSec]

@[simp] theorem vital_defaultRecords (l : List HouseRecord) (s : State) :
    vital (defaultRecords l s) = vital s := by
  unfold defaultRecords
  exact vital_foldl (fun u r => by simp) _ s

@[simp] theorem vital_startZone (s : State) : vital (startZone s) = vital s := by
  unfold startZone
  dsimp only
  split_ifs <;> simp [↓vital_mk]

@[simp] theorem vital_restoreRing (kept : Bool) (s : State) : vital (restoreRing kept s) = vital s := by
  unfold restoreRing
  refine (vital_setRec _ _).trans ?_
  split <;> simp only [vital_emit, vital_setRec]

@[simp] theorem vital_heldEvents (s : State) : vital (heldEvents s) = vital s := by
  unfold heldEvents
  dsimp only
  split_ifs <;> simp

@[simp] theorem vital_restoreCaravans (s : State) : vital (restoreCaravans s) = vital s := rfl

@[simp] theorem vital_eraseStore (s : State) : vital (eraseStore s) = vital s := rfl

@[simp] theorem vital_blowFuses (s : State) : vital (blowFuses s) = vital s := by
  unfold blowFuses
  dsimp only
  split_ifs <;> simp

@[simp] theorem vital_emitEvent (e : Event) (s : State) : vital (emitEvent e s) = vital s := by
  unfold emitEvent
  split_ifs <;> simp [↓vital_mk]

@[simp] theorem vital_tamperEvent (source : Nat) (locked : Bool) (s : State) :
    vital (tamperEvent source locked s) = vital s := by
  unfold tamperEvent
  simp

@[simp] theorem vital_blowAndRecord (s : State) : vital (blowAndRecord s) = vital s := by
  unfold blowAndRecord
  split <;> simp

@[simp] theorem vital_recordLateTamper (s : State) : vital (recordLateTamper s) = vital s := by
  unfold recordLateTamper
  simp

@[simp] theorem vital_switchEpoch (s : State) : vital (switchEpoch s) = vital s := by
  unfold switchEpoch
  split <;> simp

@[simp] theorem vital_endOverlap (s : State) : vital (endOverlap s) = vital s := rfl

@[simp] theorem vital_epochCatchUp (s : State) : vital (epochCatchUp s) = vital s := by
  unfold epochCatchUp
  dsimp only
  (repeat' split) <;> simp

@[simp] theorem vital_loadKeys (s : State) : vital (loadKeys s) = vital s := by
  unfold loadKeys
  refine (vital_foldl (fun u e => ?_) _ _).trans (vital_setSec _ s)
  split <;> simp

@[simp] theorem vital_followT1l (s : State) : vital (followT1l s) = vital s := by
  unfold followT1l
  exact vital_foldl (fun u i => by split_ifs <;> rfl) _ s

@[simp] theorem vital_setFeed (f : Nat) (x : Feed) (s : State) : vital (setFeed f x s) = vital s := rfl

@[simp] theorem vital_restoreElec (s : State) : vital (restoreElec s) = vital s := by
  unfold restoreElec
  split
  · exact vital_foldl (fun u f => vital_setFeed _ _ u) _ _
  · refine vital_ite rfl ((vital_emit _ _ _).trans ?_)
    exact vital_foldl (fun u f => vital_setFeed _ _ u) _ _

@[simp] theorem vital_setPair (p : Nat) (x : Pair) (s : State) : vital (setPair p x s) = vital s := rfl

@[simp] theorem vital_restoreThermFrom (r : SaveRec) (s : State) :
    vital (restoreThermFrom r s) = vital s := by
  unfold restoreThermFrom
  refine (vital_foldl (fun u n => by dsimp only; split_ifs <;> simp [↓vital_mk]) _ _).trans ((vital_foldl (fun u p => by simp) _ _).trans (by simp [↓vital_mk]))

@[simp] theorem vital_unsavedTherm (a : Nat) (b : Nat) (unknown : Bool) (s : State) :
    vital (unsavedTherm a b unknown s) = vital s := by
  unfold unsavedTherm
  simp [↓vital_mk]

@[simp] theorem vital_restoreTherm (start : Nat) (s : State) :
    vital (restoreTherm start s) = vital s := by
  unfold restoreTherm
  dsimp only
  split
  · exact vital_restoreThermFrom _ s
  · split
    · exact (vital_unsavedTherm _ _ _ _).trans (vital_restoreThermFrom _ s)
    · refine vital_ite rfl ((vital_emit _ _ _).trans ?_)
      exact vital_foldl (fun u p => vital_setPair _ _ u) _ _

@[simp] theorem vital_setGap (a : Nat) (b : Nat) (s : State) : vital (setGap a b s) = vital s := rfl

@[simp] theorem vital_meterOff (a : Nat) (b : Nat) (s : State) : vital (meterOff a b s) = vital s := by
  unfold meterOff
  simp [↓vital_mk]

@[simp] theorem vital_unsavedElec (a : Nat) (b : Nat) (unknown : Bool) (s : State) :
    vital (unsavedElec a b unknown s) = vital s := by
  unfold unsavedElec
  simp [↓vital_mk]

@[simp] theorem vital_freshSampling (s : State) : vital (freshSampling s) = vital s := rfl

@[simp] theorem vital_restoreMeters (entry : Option Nat) (s : State) :
    vital (restoreMeters entry s) = vital s := by
  unfold restoreMeters
  dsimp only
  (repeat' split) <;> simp [↓vital_mk]

@[simp] theorem vital_restoreAxes (s : State) : vital (restoreAxes s) = vital s := rfl

@[simp] theorem vital_releaseAlarms (s : State) : vital (releaseAlarms s) = vital s := by
  unfold releaseAlarms
  dsimp only
  simp [↓vital_mk, vital_foldl]

@[simp] theorem vital_setMux (m : Nat) (f : Mux → Mux) (s : State) : vital (setMux m f s) = vital s := rfl

@[simp] theorem vital_pllTo (st : Nat) (s : State) : vital (pllTo st s) = vital s := rfl

@[simp] theorem vital_switchTo (m : Nat) (new : Nat) (cause : Nat) (s : State) :
    vital (switchTo m new cause s) = vital s := by
  unfold switchTo
  dsimp only
  split_ifs <;> simp

@[simp] theorem vital_endHold (m : Nat) (switchNs : Nat) (s : State) :
    vital (endHold m switchNs s) = vital s := by
  unfold endHold
  split <;> simp

@[simp] theorem vital_fallBack (m : Nat) (x : Nat) (cause : Nat) (s : State) :
    vital (fallBack m x cause s) = vital s := by
  unfold fallBack
  dsimp only
  (repeat' split) <;> simp

@[simp] theorem vital_followDegraded (s : State) : vital (followDegraded s) = vital s := by
  unfold followDegraded
  dsimp only
  split_ifs <;> simp

@[simp] theorem vital_followOrder (s : State) : vital (followOrder s) = vital s := by
  unfold followOrder
  rw [vital_followDegraded]
  refine vital_foldl (fun u m => ?_) _ s
  extract_lets order q awaited
  split_ifs
  · split <;> simp
  · split <;> simp
  · simp
  · rfl

@[simp] theorem vital_sourceEvent (x : Nat) (s : State) : vital (sourceEvent x s) = vital s := by
  unfold sourceEvent
  simp

@[simp] theorem vital_setClkSource (x : Nat) (f : ClockSource → ClockSource) (s : State) :
    vital (setClkSource x f s) = vital s := rfl

@[simp] theorem vital_sourceTo (x : Nat) (st : Nat) (f : ClockSource → ClockSource) (s : State) :
    vital (sourceTo x st f s) = vital s := by
  unfold sourceTo
  simp

@[simp] theorem vital_dropSource (x : Nat) (cause : Nat) (s : State) :
    vital (dropSource x cause s) = vital s := by
  unfold dropSource
  dsimp only
  rw [vital_followDegraded]
  exact vital_foldl (fun u m => by split_ifs <;> simp) _ s

@[simp] theorem vital_followSources (cause : Nat) (s : State) :
    vital (followSources cause s) = vital s := by
  unfold followSources
  exact vital_foldl (fun u x => by dsimp only; split_ifs <;> simp) _ s

@[simp] theorem vital_canStart (b : Nat) (s : State) : vital (canStart b s) = vital s := rfl

@[simp] theorem vital_startGrids (s : State) : vital (startGrids s) = vital s := by
  unfold startGrids
  simp only [vital_mk, vital_eta]

@[simp] theorem vital_cutShort (outcome : Nat) (s : State) : vital (cutShort outcome s) = vital s := by
  unfold cutShort
  split_ifs <;> simp [↓vital_mk]

@[simp] theorem vital_replanFailed (outcome : Nat) (s : State) :
    vital (replanFailed outcome s) = vital s := by
  unfold replanFailed
  simp [↓vital_mk]

@[simp] theorem vital_abandonReplan (s : State) : vital (abandonReplan s) = vital s := by
  unfold abandonReplan
  split_ifs <;> simp

@[simp] theorem vital_optSwap (old : Option ModelImage) (new : ModelImage) (s : State) :
    vital (optSwap old new s) = vital s := by
  unfold optSwap
  dsimp only
  (repeat' split) <;> simp [↓vital_mk]

@[simp] theorem vital_endWarm (reason : Nat) (s : State) : vital (endWarm reason s) = vital s := by
  unfold endWarm
  split <;> simp [↓vital_mk]

@[simp] theorem vital_solverSwap (old : Option ModelImage) (new : ModelImage) (s : State) :
    vital (solverSwap old new s) = vital s := by
  unfold solverSwap
  dsimp only
  (repeat' split) <;> simp [↓vital_mk]

@[simp] theorem vital_opDone (n : Nat) (result : Bytes) (s : State) :
    vital (opDone n result s) = vital s := by
  unfold opDone
  simp

@[simp] theorem vital_swapModel (p : ModelPending) (s : State) : vital (swapModel p s) = vital s := by
  unfold swapModel
  split <;> simp [↓vital_mk]

@[simp] theorem vital_swapDue (t0 : Nat) (s : State) : vital (swapDue t0 s) = vital s := by
  unfold swapDue
  dsimp only
  (repeat' split) <;> simp

@[simp] theorem vital_setLine (v : Nat) (s : State) : vital (setLine v s) = vital s := by
  unfold setLine
  split_ifs <;> simp

@[simp] theorem vital_mbusOn (s : State) : vital (mbusOn s) = vital s := by
  unfold mbusOn
  simp

@[simp] theorem vital_zeroKeys (s : State) : vital (zeroKeys s) = vital s := rfl

@[simp] theorem vital_abortUpdate (s : State) : vital (abortUpdate s) = vital s := by
  unfold abortUpdate
  split <;> simp

@[simp] theorem vital_notifyAll (addr : Nat) (s : State) : vital (notifyAll addr s) = vital s := by
  unfold notifyAll
  exact (vital_foldl (fun u e => vital_notify _ _ u) _ _).trans (vital_notify _ _ s)

@[simp] theorem vital_setModState (st : ModState) (s : State) : vital (setModState st s) = vital s := by
  unfold setModState
  split_ifs <;> simp [↓vital_mk]

@[simp] theorem vital_abortAll (reason : Nat) (s : State) : vital (abortAll reason s) = vital s := by
  unfold abortAll
  exact vital_foldl (fun u e => by split_ifs <;> simp) _ s

@[simp] theorem vital_goInDoubt (id : Nat) (s : State) : vital (goInDoubt id s) = vital s := by
  unfold goInDoubt
  dsimp only
  (repeat' split) <;> simp [↓vital_mk]

@[simp] theorem vital_tamperCaravans (s : State) : vital (tamperCaravans s) = vital s := by
  unfold tamperCaravans
  exact (vital_foldl (fun u e => by split_ifs <;> simp) _ _).trans (vital_abortAll 5 s)

@[simp] theorem vital_closeDebug (s : State) : vital (closeDebug s) = vital s := by
  unfold closeDebug
  split_ifs <;> simp [↓vital_mk]

@[simp] theorem vital_closeField (s : State) : vital (closeField s) = vital s := by
  unfold closeField
  split_ifs <;> simp

@[simp] theorem vital_endAllTls (s : State) : vital (endAllTls s) = vital s := by
  unfold endAllTls
  exact vital_foldl (fun u e => vital_endTls _ u) _ s

@[simp] theorem vital_yieldRow (row : Nat) (kept : Nat) (yielded : Nat) (s : State) :
    vital (yieldRow row kept yielded s) = vital s := by
  unfold yieldRow
  dsimp only
  (repeat' split) <;> simp [↓vital_mk]

@[simp] theorem vital_latchTamper (s : State) : vital (latchTamper s) = vital s := by
  unfold latchTamper
  split_ifs <;> simp

@[simp] theorem vital_tamperResponse (source : Nat) (s : State) :
    vital (tamperResponse source s) = vital s := by
  unfold tamperResponse
  dsimp only
  split_ifs <;> simp

@[simp] theorem vital_prpEnter (f : FfpFrame) (s : State) : vital (prpEnter f s) = vital s := by
  unfold prpEnter
  split <;> simp [↓vital_mk]

@[simp] theorem vital_discard (code : Nat) (s : State) : vital (discard code s) = vital s := rfl

@[simp] theorem vital_heard (f : FfpFrame) (s : State) : vital (heard f s) = vital s := by
  unfold heard
  dsimp only
  split_ifs <;> simp [↓vital_mk]

@[simp] theorem vital_receiveFfp (f : FfpFrame) (s : State) : vital (receiveFfp f s).1 = vital s := by
  unfold receiveFfp
  dsimp only
  (repeat' split) <;> simp [↓vital_mk]

@[simp] theorem vital_sendNak (f : FfpFrame) (code : Nat) (s : State) :
    vital (sendNak f code s) = vital s := by
  unfold sendNak
  split_ifs <;> simp [↓vital_mk]

@[simp] theorem vital_onFrame (type : Nat) (f : FfpFrame) (content : State → State) (s : State) (h : ∀ u, vital (content u) = vital u) :
    vital (onFrame type f content s) = vital s := by
  unfold onFrame
  have hrx := vital_receiveFfp f s
  split <;> rename_i heq <;> rw [heq] at hrx
  · exact hrx
  · dsimp only at hrx
    rw [← hrx]
    split_ifs
    · exact h _
    · rfl
    · split <;> simp [h]
    · split <;> simp

@[simp] theorem vital_setDelivery (node : Nat) (l : List (Nat × Nat)) (s : State) :
    vital (setDelivery node l s) = vital s := rfl

@[simp] theorem vital_takeWriteAck (f : FfpFrame) (s : State) : vital (takeWriteAck f s) = vital s := by
  unfold takeWriteAck
  dsimp only
  (repeat' split) <;> simp [↓vital_mk]

@[simp] theorem vital_queueRec (r : EvRec) (s : State) : vital (queueRec r s) = vital s := rfl

@[simp] theorem vital_missRec (time : Nat) (s : State) : vital (missRec time s) = vital s := rfl

@[simp] theorem vital_enterRec (kept : Nat) (r : EvRec) (s : State) :
    vital (enterRec kept r s).1 = vital s := by
  unfold enterRec
  split_ifs <;> simp

@[simp] theorem vital_enterEvent (s : State) (e : Event) : vital (enterEvent s e) = vital s := by
  unfold enterEvent
  exact vital_foldl (fun u r => vital_enterRec _ r u) _ s

@[simp] theorem vital_announce (s : State) : vital (announce s) = vital s := by
  unfold announce
  split_ifs <;> simp [↓vital_mk]

@[simp] theorem vital_motionEnd (n : Nat) (s : State) : vital (motionEnd n s) = vital s := by
  unfold motionEnd
  dsimp only
  (repeat' split) <;> simp

@[simp] theorem vital_setTask (t : Nat) (x : Task) (s : State) : vital (setTask t x s) = vital s := by
  unfold setTask
  simp [↓vital_mk]

@[simp] theorem vital_skipInstant (t : Nat) (inst : Nat) (s : State) :
    vital (skipInstant t inst s) = vital s := rfl

@[simp] theorem vital_takeoverAxes (s : State) : vital (takeoverAxes s) = vital s := rfl

@[simp] theorem vital_setTimeState (n : Nat) (s : State) : vital (setTimeState n s) = vital s := by
  unfold setTimeState
  split_ifs <;> simp [↓vital_mk]

@[simp] theorem vital_armTimer (s : State) (a : Fin 64 × Nat × Nat) : vital (armTimer s a) = vital s := by
  unfold armTimer
  simp [↓vital_mk]

@[simp] theorem vital_saveAxes (s : State) : vital (saveAxes s) = vital s := rfl

@[simp] theorem vital_sendCommit (c : Caravan) (n : Nat) (s : State) :
    vital (sendCommit c n s) = vital s := by
  unfold sendCommit
  simp

@[simp] theorem vital_leaveOasis (s : State) : vital (leaveOasis s) = vital s := by
  unfold leaveOasis
  simp [↓vital_mk]

@[simp] theorem vital_planYield (row : Nat) (s : State) : vital (planYield row s) = vital s := by
  unfold planYield
  simp [↓vital_mk]

@[simp] theorem vital_planFinal (c : Caravan) (s : State) : vital (planFinal c s) = vital s := by
  unfold planFinal
  dsimp only
  split_ifs <;> simp [↓vital_mk]

@[simp] theorem vital_endCar (slot : Nat) (c : Caravan) (s : State) :
    vital (endCar slot c s) = vital s := by
  unfold endCar
  simp [↓vital_mk]

@[simp] theorem vital_sendAbort (id : Nat) (reason : Nat) (n : Nat) (s : State) :
    vital (sendAbort id reason n s) = vital s := by
  unfold sendAbort
  simp

@[simp] theorem vital_advanceRegs (ev : Nat) (idx : Nat) (regs : List Reg) (d : List Nat) (s : State) :
    vital (advanceRegs ev idx regs d s).2 = vital s := by
  unfold advanceRegs
  dsimp only
  simp [vital_foldl]

@[simp] theorem vital_addFeed (f : Nat) (d : FeedData) (s : State) : vital (addFeed f d s) = vital s := by
  unfold addFeed
  dsimp only
  split_ifs <;> simp

@[simp] theorem vital_rtdStep (n : Nat) (d : RtdSlot) (s : State) : vital (rtdStep n d s) = vital s := by
  unfold rtdStep
  dsimp only
  split_ifs <;> simp [↓vital_mk]

@[simp] theorem vital_flowStep (n : Nat) (len : Nat) (cur : List Nat) (s : State) :
    vital (flowStep n len cur s).1 = vital s := by
  unfold flowStep
  extract_lets r x mode k found secs one v bus q offer flow keep x' th s1 s2 s3
  have h1 : vital s1 = vital s := (vital_mk ..).trans (vital_eta _)
  have h2 : vital s2 = vital s := vital_ite ((vital_emit _ _ _).trans h1) h1
  exact vital_ite (vital_ite ((vital_emit _ _ _).trans h2) h2) h1

@[simp] theorem vital_pairStep (p : Nat) (len : Nat) (v : Option Rat) (s : State) :
    vital (pairStep p len v s) = vital s := by
  unfold pairStep
  refine vital_ite rfl ?_
  refine (vital_setPair _ _ _).trans (((vital_mk ..).trans (vital_eta _)).trans (vital_ite ?_ ?_))
  · exact (vital_emitItems _ _ _).trans (vital_advanceRegs _ _ _ _ s)
  · exact vital_advanceRegs _ _ _ _ s

@[simp] theorem vital_closeStep (d : ThermData) (s : State) : vital (closeStep d s) = vital s := by
  unfold closeStep
  refine ((vital_mk ..).trans (vital_eta _)).trans ((vital_foldl (fun u n => ?_) _ _).trans (vital_foldl (fun u e => vital_rtdStep _ _ u) _ s))
  dsimp only
  split <;> simp

@[simp] theorem vital_saveMeters (kind : Nat) (cut : Cut) (s : State) :
    vital (saveMeters kind cut s) = vital s := by
  unfold saveMeters
  extract_lets fed closed fs ps r intoB e elec saved marked
  have hfed : vital fed = vital s := vital_foldl (fun u e => vital_addFeed _ _ u) _ s
  have hclosed : vital closed = vital s := by
    dsimp only [closed]
    split
    · exact hfed
    · exact vital_ite hfed ((vital_closeStep _ _).trans hfed)
  have hsaved : vital saved = vital s := ((vital_mk ..).trans (vital_eta _)).trans hclosed
  have hmarked : vital marked = vital s := (vital_foldl (fun u p => vital_setPair _ _ u) _ _).trans hsaved
  exact vital_ite rfl ((vital_foldl (fun u f => vital_replicate _ _ _ _) _ _).trans hmarked)

@[simp] theorem vital_cutMeters (cut : Cut) (s : State) : vital (cutMeters cut s) = vital s := by
  unfold cutMeters
  simp [↓vital_mk]

@[simp] theorem vital_badRecord (p : Path) (kind : Nat) (seq : Nat) (s : State) :
    vital (badRecord p kind seq s) = vital s := by
  unfold badRecord
  split <;> simp

@[simp] theorem vital_tryDone (id : Nat) (s : State) : vital (tryDone id s) = vital s := by
  unfold tryDone
  split
  · rfl
  · split_ifs <;> simp

@[simp] theorem vital_memberEvent (c : Caravan) (m : Member) (s : State) :
    vital (memberEvent c m s) = vital s := by
  unfold memberEvent
  split_ifs <;> simp [↓vital_mk]

@[simp] theorem vital_settleMember (id : Nat) (target : Nat) (f : Member → Member) (s : State) :
    vital (settleMember id target f s) = vital s := by
  unfold settleMember
  dsimp only
  (repeat' split) <;> simp

@[simp] theorem vital_takeDecisionAck (f : FfpFrame) (s : State) :
    vital (takeDecisionAck f s) = vital s := by
  unfold takeDecisionAck
  dsimp only
  (repeat' split) <;> simp [↓vital_mk, vital_foldl]

@[simp] theorem vital_applyLoop (n : Nat) (b : Bytes) (s : State) :
    vital (applyLoop n b s) = vital s := rfl

@[simp] theorem vital_applyWaiting (n : Nat) (s : State) : vital (applyWaiting n s) = vital s := by
  unfold applyWaiting
  dsimp only
  (repeat' split) <;> simp

@[simp] theorem vital_redrive (n : Nat) (s : State) : vital (redrive n s) = vital s := by
  unfold redrive
  split_ifs <;> simp

@[simp] theorem vital_setDout (n : Nat) (d : Dout) (s : State) : vital (setDout n d s) = vital s := rfl

@[simp] theorem vital_setFwSlot (n : Nat) (f : FwSlot) (s : State) :
    vital (setFwSlot n f s) = vital s := by
  unfold setFwSlot
  split_ifs <;> simp [↓vital_mk]

@[simp] theorem vital_loseQueue (s : State) : vital (loseQueue s) = vital s := rfl

@[simp] theorem vital_keepOasis (s : State) : vital (keepOasis s) = vital s := by
  unfold keepOasis
  split_ifs <;> simp [↓vital_mk]

@[simp] theorem vital_resolved (s : State) : vital (resolved s) = vital s := rfl

@[simp] theorem vital_setRole (r : Role) (s : State) : vital (setRole r s) = vital s := by
  unfold setRole
  dsimp only
  split_ifs <;> simp [↓vital_mk]

@[simp] theorem vital_setTwin (f : Twin → Twin) (s : State) : vital (setTwin f s) = vital s := rfl

@[simp] theorem vital_becomeSingle (s : State) : vital (becomeSingle s) = vital s := by
  unfold becomeSingle
  simp [↓vital_mk]

@[simp] theorem vital_dropLink (s : State) : vital (dropLink s) = vital s := rfl

@[simp] theorem vital_takeoverMeters (cut : Cut) (s : State) :
    vital (takeoverMeters cut s) = vital s := by
  unfold takeoverMeters
  refine (vital_saveMeters _ _ _).trans ((vital_foldl (fun u p => ?_) _ _).trans (vital_foldl (fun u f => ?_) _ _))
  · exact vital_setPair _ _ u
  · exact vital_setFeed _ _ u

@[simp] theorem vital_takeoverCaravans (s : State) : vital (takeoverCaravans s) = vital s := by
  unfold takeoverCaravans
  refine (vital_foldl (fun u e => ?_) _ _).trans (vital_abortAll 4 s)
  dsimp only
  split_ifs
  · rfl
  · exact (vital_foldl (fun v n => vital_sendCommit _ n v) _ _).trans (vital_keepCar _ _ u)

@[simp] theorem vital_takeoverCan (s : State) : vital (takeoverCan s) = vital s := rfl

@[simp] theorem vital_startTasks (from_ : Nat) (s : State) : vital (startTasks from_ s) = vital s := by
  unfold startTasks
  simp [↓vital_mk]

@[simp] theorem vital_sendMode (s : State) : vital (sendMode s) = vital s := by
  unfold sendMode
  simp

@[simp] theorem vital_ring (p : Path) (k : Nat) (s : State) : vital (ring p k s) = vital s := by
  unfold ring
  split_ifs <;> simp

@[simp] theorem vital_latchWake (bitNo : Nat) (s : State) : vital (latchWake bitNo s) = vital s := rfl

@[simp] theorem vital_fireAlarm (i : Nat) (skipped : Bool) (missed : Nat) (s : State) :
    vital (fireAlarm i skipped missed s) = vital s := by
  unfold fireAlarm
  dsimp only
  split_ifs <;> simp [↓vital_mk]

@[simp] theorem vital_adjustRtc (new : Nat) (s : State) : vital (adjustRtc new s) = vital s := by
  unfold adjustRtc
  refine (vital_foldl (fun u i => vital_ite (vital_fireAlarm _ _ _ u) rfl) _ _).trans ?_
  exact vital_ite (by simp [↓vital_mk]) (by simp [↓vital_mk])

@[simp] theorem vital_clearOscStopped (s : State) : vital (clearOscStopped s) = vital s := by
  unfold clearOscStopped
  split_ifs <;> simp [↓vital_mk]

@[simp] theorem vital_syncRtc (s : State) : vital (syncRtc s) = vital s := by
  unfold syncRtc
  dsimp only
  split_ifs <;> simp [↓vital_mk]

@[simp] theorem vital_stepZone (t : Nat) (s : State) : vital (stepZone t s) = vital s := by
  unfold stepZone
  simp [↓vital_mk]

@[simp] theorem vital_servo (offset : Int) (s : State) : vital (servo offset s) = vital s := by
  unfold servo
  dsimp only
  split_ifs <;> simp [↓vital_mk]

@[simp] theorem vital_outputsOff (s : State) : vital (outputsOff s) = vital s := rfl

@[simp] theorem vital_haltTasks (s : State) : vital (haltTasks s) = vital s := by
  unfold haltTasks
  exact vital_foldl (fun u k => by dsimp only; split_ifs <;> simp) _ s

@[simp] theorem vital_abandonSolve (s : State) : vital (abandonSolve s) = vital s := rfl

@[simp] theorem vital_draw (n : Nat) (s : State) : vital (draw n s).2 = vital s := rfl

@[simp] theorem vital_sendHello (s : State) : vital (sendHello s) = vital s := by
  unfold sendHello
  simp

@[simp] theorem vital_beginHandshake (s : State) : vital (beginHandshake s) = vital s := by
  unfold beginHandshake
  simp

@[simp] theorem vital_applyPair (p : Nat) (s : State) : vital (applyPair p s) = vital s := by
  unfold applyPair
  split <;> simp [↓vital_mk]

@[simp] theorem vital_applyIdlePairs (s : State) : vital (applyIdlePairs s) = vital s := by
  unfold applyIdlePairs
  split_ifs
  · rfl
  · exact vital_foldl (fun u p => by split_ifs <;> simp) _ s

@[simp] theorem vital_releaseBinding (n : Nat) (s : State) : vital (releaseBinding n s) = vital s := rfl

@[simp] theorem vital_stalled (n : Nat) (s : State) : vital (stalled n s) = vital s := by
  unfold stalled
  dsimp only
  split_ifs <;> simp

@[simp] theorem vital_checkStall (s : State) (n : Nat) : vital (checkStall s n) = vital s := by
  unfold checkStall
  dsimp only
  (repeat' split) <;> simp

@[simp] theorem vital_setKey (n : Nat) (k : Key) (s : State) : vital (setKey n k s) = vital s := rfl

@[simp] theorem vital_storeReply (addr : Nat) (b : Bytes) (s : State) :
    vital (storeReply addr b s) = vital s := by
  unfold storeReply
  dsimp only
  split_ifs <;> simp

@[simp] theorem vital_takeModelState (b : Bytes) (s : State) : vital (takeModelState b s) = vital s := by
  unfold takeModelState
  split <;> simp [↓vital_mk]

@[simp] theorem vital_setPower (p : PowerState) (s : State) : vital (setPower p s) = vital s := by
  unfold setPower
  split_ifs <;> simp [↓vital_mk]

@[simp] theorem vital_returnActive (s : State) : vital (returnActive s) = vital s := by
  unfold returnActive
  dsimp only
  (repeat' split) <;> simp [↓vital_mk]

@[simp] theorem vital_useSlot (n : Nat) (usage : Nat) (s : State) :
    vital (useSlot n usage s).1 = vital s := by
  unfold useSlot
  dsimp only
  split_ifs <;> simp

@[simp] theorem vital_limitSwitch (n : Nat) (high : Bool) (s : State) :
    vital (limitSwitch n high s) = vital s := by
  unfold limitSwitch
  dsimp only
  split_ifs <;> simp

@[simp] theorem vital_enterOasis (cause : Nat) (s : State) : vital (enterOasis cause s) = vital s := by
  unfold enterOasis
  split_ifs <;> simp [↓vital_mk]

@[simp] theorem vital_writeDoorbell (mask : BitVec 32) (s : State) :
    vital (writeDoorbell mask s) = vital s := by
  unfold writeDoorbell
  exact vital_foldl (fun u k => by split_ifs <;> simp) _ s

@[simp] theorem vital_undelivered (node : Nat) (id : Nat) (entries : List (Nat × Nat)) (s : State) :
    vital (undelivered node id entries s) = vital s := by
  unfold undelivered
  simp [↓vital_mk]

@[simp] theorem vital_sendWrite (node : Nat) (entries : List (Nat × Nat)) (s : State) :
    vital (sendWrite node entries s) = vital s := by
  unfold sendWrite
  dsimp only
  split_ifs <;> simp [↓vital_mk]

@[simp] theorem vital_writeNodes (always : Bool) (l : List (Bytes × Bytes)) (s : State) :
    vital (writeNodes always l s) = vital s := by
  unfold writeNodes
  dsimp only
  simp [vital_foldl]

@[simp] theorem vital_requestSend (b : Nat) (o : Nat) (s : State) :
    vital (requestSend b o s) = vital s := rfl

@[simp] theorem vital_canWrite (b : Nat) (o : Nat) (value : Bytes) (s : State) :
    vital (canWrite b o value s) = vital s := by
  unfold canWrite
  dsimp only
  split_ifs <;> simp

@[simp] theorem vital_writeTarget (e : Bytes) (b : Bytes) (s : State) :
    vital (writeTarget e b s) = vital s := by
  unfold writeTarget
  dsimp only
  (repeat' split) <;> simp [↓vital_mk]

@[simp] theorem vital_writeOutputs (always : Bool) (l : List (Bytes × Bytes)) (s : State) :
    vital (writeOutputs always l s) = vital s := by
  unfold writeOutputs
  dsimp only
  simp [↓vital_mk, vital_foldl]

@[simp] theorem vital_stopValues (p : Bytes → Bool) (s : State) : vital (stopValues p s) = vital s := by
  unfold stopValues
  simp

@[simp] theorem vital_abortProgram (s : State) (id : Nat) : vital (abortProgram s id) = vital s := by
  unfold abortProgram
  split
  · rfl
  · split_ifs <;> simp

@[simp] theorem vital_noteNoProgram (s : State) : vital (noteNoProgram s) = vital s := by
  unfold noteNoProgram
  split_ifs <;> simp [↓vital_mk]

@[simp] theorem vital_stopProgram (cause : Nat) (s : State) : vital (stopProgram cause s) = vital s := by
  unfold stopProgram
  dsimp only
  simp [↓vital_mk, vital_foldl]

@[simp] theorem vital_takeSource (x : Nat) (m : Nat) (s : State) :
    vital (takeSource x m s) = vital s := by
  unfold takeSource
  dsimp only
  (repeat' split) <;> simp

@[simp] theorem vital_freshChannels (old : Bytes) (new : Bytes) (s : State) :
    vital (freshChannels old new s) = vital s := rfl

@[simp] theorem vital_applyFeed (f : Nat) (s : State) : vital (applyFeed f s) = vital s := by
  unfold applyFeed
  split <;> simp [↓vital_mk]

@[simp] theorem vital_applyIdleFeeds (s : State) : vital (applyIdleFeeds s) = vital s := by
  unfold applyIdleFeeds
  exact vital_foldl (fun u f => by split_ifs <;> simp) _ s

@[simp] theorem vital_takeLeap (utc : Option Int) (leap61 : Bool) (leap59 : Bool) (s : State) :
    vital (takeLeap utc leap61 leap59 s) = vital s := by
  unfold takeLeap
  dsimp only
  (repeat' split) <;> simp [↓vital_mk]

@[simp] theorem vital_reinsert (b : Nat) (s : State) : vital (reinsert b s) = vital s := by
  unfold reinsert
  dsimp only
  split
  · rfl
  · refine vital_ite rfl ((vital_foldl (fun u m => ?_) _ _).trans (by simp))
    exact vital_ite rfl (vital_emit _ _ u)

@[simp] theorem vital_loadFail (n : Nat) (f : ModelFail) (s : State) :
    vital (loadFail n f s) = vital s := by
  unfold loadFail
  simp

@[simp] theorem vital_commitModel (l : ModelLoad) (tA : Nat) (s : State) :
    vital (commitModel l tA s) = vital s := rfl

@[simp] theorem vital_modelProceed (s : State) : vital (modelProceed s) = vital s := by
  unfold modelProceed
  split
  · rfl
  · refine vital_ite rfl ?_
    extract_lets late next
    clear_value late next
    split
    · rfl
    · exact vital_ite (vital_loadFail _ _ s) (vital_ite (by simp [↓vital_mk]) (vital_commitModel _ _ s))

@[simp] theorem vital_setBank (n : Nat) (b : Tab SlotImage) (s : State) :
    vital (setBank n b s) = vital s := rfl

@[simp] theorem vital_applyIoConfig (s : State) : vital (applyIoConfig s) = vital s := by
  unfold applyIoConfig
  split
  · rfl
  · refine vital_ite rfl ?_
    refine (vital_judgeIlocks _).trans ((vital_scanBlocks _ _).trans ?_)
    refine (vital_foldl (fun u n => ?_) _ _).trans ((vital_foldl (fun u n => ?_) _ _).trans ((vital_foldl (fun u n => ?_) _ _).trans ?_))
    · exact vital_ite rfl (vital_ioChange _ _ _ _ (fun v => by simp))
    · exact vital_ite rfl (vital_ioChange _ _ _ _ (fun v => by simp [↓vital_mk]))
    · exact vital_ite (vital_ioChange _ _ _ _ (fun v => by simp)) rfl
    · exact (vital_mk ..).trans (vital_eta _)

@[simp] theorem vital_applyOutWrites (s : State) : vital (applyOutWrites s) = vital s := by
  unfold applyOutWrites
  exact (vital_foldl (fun u w => vital_setTarget _ _ _ u) _ _).trans ((vital_mk ..).trans (vital_eta _))

@[simp] theorem vital_applyWaitingAll (s : State) : vital (applyWaitingAll s) = vital s := by
  unfold applyWaitingAll
  exact vital_foldl (fun u n => vital_applyWaiting n u) _ s

@[simp] theorem vital_faultSample (n : Nat) (s : State) : vital (faultSample n s) = vital s := by
  unfold faultSample
  dsimp only
  split_ifs <;> simp

@[simp] theorem vital_goodSample (n : Nat) (x : Rat) (s : State) :
    vital (goodSample n x s) = vital s := by
  unfold goodSample
  dsimp only
  split_ifs <;> simp

@[simp] theorem vital_takeInput (n : Nat) (s : State) : vital (takeInput n s) = vital s := by
  unfold takeInput
  dsimp only
  (repeat' split) <;> simp

@[simp] theorem vital_sampleLoop (n : Nat) (s : State) : vital (sampleLoop n s) = vital s := by
  unfold sampleLoop
  extract_lets u1 l0 u2 m l r p f v1 v2 m' lf k lm v
  have h2 : vital u2 = vital s := (vital_setLoop _ _ _).trans (vital_takeInput n s)
  clear_value u2 m l r p f
  have h1 : vital v1 = vital s := (vital_setLoop _ _ _).trans h2
  have hv : vital v = vital s := by
    dsimp only [v]
    split
    · exact (vital_setLoop _ _ _).trans h2
    · exact (vital_setLoop _ _ _).trans h2
    · refine vital_ite (vital_ite ?_ h1) (vital_ite ?_ ?_)
      · exact (vital_setLoop _ _ _).trans ((vital_emit _ _ _).trans h1)
      · exact (vital_setLoop _ _ _).trans h2
      · exact (vital_setLoop _ _ _).trans h2
  exact vital_ite ((vital_setLoop _ _ _).trans h2) (vital_ite ((vital_setLoop _ _ _).trans hv) hv)

@[simp] theorem vital_followCurrents (s : State) : vital (followCurrents s) = vital s := rfl

@[simp] theorem vital_loopTick (s : State) : vital (loopTick s) = vital s := by
  unfold loopTick
  dsimp only
  (repeat' split) <;> simp [↓vital_mk, vital_foldl]

@[simp] theorem vital_setTrigger (n : Nat) (t : Trigger) (s : State) :
    vital (setTrigger n t s) = vital s := rfl

@[simp] theorem vital_setCanErr (b : Nat) (e : Nat) (s : State) : vital (setCanErr b e s) = vital s := by
  unfold setCanErr
  dsimp only
  split_ifs <;> simp

@[simp] theorem vital_applySolverConfig (s : State) : vital (applySolverConfig s) = vital s := by
  unfold applySolverConfig
  dsimp only
  (repeat' split) <;> simp [↓vital_mk]

@[simp] theorem vital_restoreMember (t : Nat) (before : State) (after : State) :
    vital (restoreMember t before after) = vital after := by
  unfold restoreMember
  split_ifs <;> simp

@[simp] theorem vital_onCaravan (type : Nat) (f : FfpFrame) (content : State → State) (s : State) (h : ∀ u, vital (content u) = vital u) :
    vital (onCaravan type f content s) = vital s := by
  unfold onCaravan
  refine vital_onFrame _ _ _ _ (fun u => ?_)
  dsimp only
  split_ifs <;> simp [h]

@[simp] theorem vital_noteApplied_ (node : Nat) (entries : List Bytes) (s : State) :
    vital (noteApplied_ node entries s) = vital s := rfl

@[simp] theorem vital_supersede (id : Nat) (tAct : Nat) (target : Nat) (s : State) :
    vital (supersede id tAct target s) = vital s := by
  unfold supersede
  dsimp only
  simp [vital_foldl]

@[simp] theorem vital_memberApplied (id : Nat) (target : Nat) (f : Member → Member) (s : State) :
    vital (memberApplied id target f s) = vital s := by
  unfold memberApplied
  simp

@[simp] theorem vital_reportEntry (c : Caravan) (node : Nat) (flags : Nat) (time : Nat) (s : State) (e : Bytes) :
    vital (reportEntry c node flags time s e) = vital s := by
  unfold reportEntry
  dsimp only
  (repeat' split) <;> simp

@[simp] theorem vital_takeReport (f : FfpFrame) (s : State) : vital (takeReport f s) = vital s := by
  unfold takeReport
  dsimp only
  (repeat' split) <;> simp [vital_foldl]

@[simp] theorem vital_resumeMeters (s : State) : vital (resumeMeters s) = vital s := by
  unfold resumeMeters
  split <;> simp [↓vital_mk]

@[simp] theorem vital_countSuspect (s : State) (e : Aligned × Nat) :
    vital (countSuspect s e) = vital s := by
  unfold countSuspect
  dsimp only
  split_ifs <;> simp [↓vital_mk]

@[simp] theorem vital_writeMember (t : Nat) (v : Nat) (s : State) :
    vital (writeMember t v s) = vital s := by
  unfold writeMember
  dsimp only
  split_ifs <;> simp

@[simp] theorem vital_resign (s : State) : vital (resign s) = vital s := by
  unfold resign
  split_ifs <;> simp [↓vital_mk]

@[simp] theorem vital_enterVendor (s : State) : vital (enterVendor s) = vital s := by
  unfold enterVendor
  simp [↓vital_mk]

@[simp] theorem vital_sendForces (s : State) : vital (sendForces s) = vital s := by
  unfold sendForces
  simp

@[simp] theorem vital_judgeMember (before : State) (s : State) (e : Caravan × Member) :
    vital (judgeMember before s e) = vital s := by
  unfold judgeMember
  dsimp only
  split_ifs <;> simp

@[simp] theorem vital_failSolve (r : Solve) (x : SolveResult) (v : Solved) (s : State) :
    vital (failSolve r x v s) = vital s := by
  unfold failSolve
  dsimp only
  split_ifs <;> simp [↓vital_mk]

@[simp] theorem vital_endSpan (b : Nat) (s : State) : vital (endSpan b s) = vital s := by
  unfold endSpan
  dsimp only
  (repeat' split) <;> simp [vital_foldl]

@[simp] theorem vital_tripSource (x : Nat) (trip : Nat) (s : State) :
    vital (tripSource x trip s) = vital s := by
  unfold tripSource
  dsimp only
  rw [vital_dropSource]
  exact (vital_foldl (fun u m => by split_ifs <;> simp) _ _).trans (vital_sourceTo _ _ _ s)

@[simp] theorem vital_storeEntry (node : Nat) (rx : Nat) (base : Nat) (e : Bytes) (s : State) :
    vital (storeEntry node rx base e s) = vital s := rfl

@[simp] theorem vital_clocksStandby (s : State) : vital (clocksStandby s) = vital s := by
  unfold clocksStandby
  dsimp only
  split_ifs <;> simp

@[simp] theorem vital_mbusNext (s : State) : vital (mbusNext s) = vital s := by
  unfold mbusNext
  dsimp only
  (repeat' split) <;> simp

@[simp] theorem vital_planCurrent (p : Plan) (s : State) : vital (planCurrent p s) = vital s := rfl

@[simp] theorem vital_clocksStart (s : State) : vital (clocksStart s) = vital s := by
  unfold clocksStart
  dsimp only
  split_ifs <;> simp [↓vital_mk]

@[simp] theorem vital_reconcileTamper (s : State) : vital (reconcileTamper s) = vital s := by
  unfold reconcileTamper
  dsimp only
  split_ifs <;> simp

@[simp] theorem vital_loseVbat (s : State) : vital (loseVbat s) = vital s := rfl

@[simp] theorem vital_startHardware (f : StartFacts) (s : State) :
    vital (startHardware f s) = vital s := by
  unfold startHardware
  dsimp only
  split_ifs <;> simp [↓vital_mk]

@[simp] theorem vital_runImage (n : Nat) (fallback : Bool) (s : State) :
    vital (runImage n fallback s) = vital s := by
  unfold runImage
  split_ifs <;> simp [↓vital_mk]

@[simp] theorem vital_axesHoldup (s : State) : vital (axesHoldup s) = vital s := rfl

@[simp] theorem vital_applyOptConfig (s : State) : vital (applyOptConfig s) = vital s := by
  unfold applyOptConfig
  dsimp only
  (repeat' split) <;> simp [↓vital_mk]

@[simp] theorem vital_offer (b : Nat) (f : CanRx) (stamp : Nat) (reading : CanReading) (s : State) :
    vital (offer b f stamp reading s) = vital s := by
  unfold offer
  dsimp only
  split <;> simp

@[simp] theorem vital_attemptFailed (x : MbusExchange) (s : State) :
    vital (attemptFailed x s) = vital s := by
  unfold attemptFailed
  dsimp only
  split_ifs <;> simp

@[simp] theorem vital_stepUndelivered (t : Nat) (s : State) : vital (stepUndelivered t s) = vital s := by
  unfold stepUndelivered
  simp [↓vital_mk]

@[simp] theorem vital_resendAll (c : Caravan) (s : State) : vital (resendAll c s).2 = vital s := by
  unfold resendAll
  suffices hall : ∀ (l : List Nat) (p : Caravan × State), vital (l.foldl _ p).2 = vital p.2 from hall _ _
  intro l
  induction l with
  | nil => intro p; rfl
  | cons n l ih =>
    intro p
    refine (ih _).trans ?_
    dsimp only
    split <;> simp

@[simp] theorem vital_replaceCell (s : State) : vital (replaceCell s) = vital s := by
  unfold replaceCell
  split_ifs <;> simp [↓vital_mk]

@[simp] theorem vital_solveError (s : State) : vital (solveError s) = vital s := by
  unfold solveError
  dsimp only
  (repeat' split) <;> simp [↓vital_mk]

@[simp] theorem vital_tryJoined (s : State) : vital (tryJoined s) = vital s := by
  unfold tryJoined
  split_ifs <;> simp

@[simp] theorem vital_planAcked (item : Nat) (s : State) : vital (planAcked item s) = vital s := by
  unfold planAcked
  split
  · rfl
  · split_ifs <;> simp

@[simp] theorem vital_judgeSequence (f : Nat) (angles : List Nat) (s : State) :
    vital (judgeSequence f angles s) = vital s := by
  unfold judgeSequence
  dsimp only
  (repeat' split) <;> simp

@[simp] theorem vital_judgeNeutral (f : Nat) (s : State) : vital (judgeNeutral f s) = vital s := by
  unfold judgeNeutral
  dsimp only
  split_ifs <;> simp

@[simp] theorem vital_judgeOverrange (f : Nat) (s : State) : vital (judgeOverrange f s) = vital s := by
  unfold judgeOverrange
  exact vital_foldl (fun u c => by dsimp only; split_ifs <;> simp [↓vital_mk]) _ s

@[simp] theorem vital_noteCrossed (r : Bytes) (l : List Nat) (s : State) :
    vital (noteCrossed r l s) = vital s := by
  unfold noteCrossed
  exact vital_foldl (fun u c => by split_ifs <;> rfl) _ s

@[simp] theorem vital_latchFeed (f : Nat) (angles : List Nat) (cut : Cut) (s : State) :
    vital (latchFeed f angles cut s) = vital s := by
  unfold latchFeed
  dsimp only
  split_ifs <;> simp

@[simp] theorem vital_closeCycle (f : Nat) (d : FeedData) (cut : Cut) (s : State) :
    vital (closeCycle f d cut s) = vital s := by
  unfold closeCycle
  dsimp only
  split_ifs <;> simp

@[simp] theorem vital_twinLoss (what : Nat) (s : State) : vital (twinLoss what s) = vital s := by
  unfold twinLoss
  simp

@[simp] theorem vital_skipEpoch (t0 : Nat) (s : State) : vital (skipEpoch t0 s) = vital s := by
  unfold skipEpoch
  dsimp only
  (repeat' split) <;> simp [↓vital_mk]

@[simp] theorem vital_activate (s : State) : vital (activate s) = vital s := by
  unfold activate
  dsimp only
  (repeat' split) <;> simp [↓vital_mk, vital_foldl]

@[simp] theorem vital_planReleased (s : State) : vital (planReleased s) = vital s := by
  unfold planReleased
  split <;> simp

@[simp] theorem vital_keepHistory (t0 : Nat) (h : Hydro) (th : Thermal) (s : State) :
    vital (keepHistory t0 h th s) = vital s := by
  unfold keepHistory
  split_ifs <;> simp [↓vital_mk]

@[simp] theorem vital_publishSolve (r : Solve) (x : SolveResult) (v : Solved) (s : State) :
    vital (publishSolve r x v s) = vital s := by
  unfold publishSolve
  dsimp only
  (repeat' split) <;> simp [↓vital_mk, vital_foldl]

@[simp] theorem vital_beginSend (b : Nat) (s : State) : vital (beginSend b s) = vital s := by
  unfold beginSend
  dsimp only
  (repeat' split) <;> simp

@[simp] theorem vital_discardEvent (kind : Nat) (index : Nat) (s : State) :
    vital (discardEvent kind index s) = vital s := by
  unfold discardEvent
  simp [↓vital_mk]

@[simp] theorem vital_discardNext (s : State) : vital (discardNext s) = vital s := by
  unfold discardNext
  split <;> simp [↓vital_mk]

@[simp] theorem vital_detectFound (b : Nat) (nominal : Nat) (data : Option (Nat × Nat × Nat × Nat)) (s : State) :
    vital (detectFound b nominal data s) = vital s := by
  unfold detectFound
  simp

@[simp] theorem vital_detectGood (b : Nat) (brs : Bool) (s : State) :
    vital (detectGood b brs s) = vital s := by
  unfold detectGood
  dsimp only
  (repeat' split) <;> simp

@[simp] theorem vital_judgeCan (b : Nat) (s : State) : vital (judgeCan b s) = vital s := by
  unfold judgeCan
  dsimp only
  split_ifs <;> simp

@[simp] theorem vital_storeAxis (s : State) (b : Bytes) : vital (storeAxis s b) = vital s := rfl

@[simp] theorem vital_storeLoop (s : State) (b : Bytes) : vital (storeLoop s b) = vital s := rfl

@[simp] theorem vital_clocksWake (s : State) : vital (clocksWake s) = vital s := by
  unfold clocksWake
  simp

@[simp] theorem vital_releaseStandbyEvents (s : State) : vital (releaseStandbyEvents s) = vital s := rfl

@[simp] theorem vital_loopsFresh (s : State) : vital (loopsFresh s) = vital s := rfl

@[simp] theorem vital_setObject (b : Nat) (o : Nat) (r : Bytes) (s : State) :
    vital (setObject b o r s) = vital s := rfl

@[simp] theorem vital_publishPlan (s : State) : vital (publishPlan s) = vital s := by
  unfold publishPlan
  split
  · rfl
  · rename_i p x _
    extract_lets opt u
    have hitem := vital_replicate 0x13 true (planItem p x) u
    have hu : vital u = vital s := (vital_mk ..).trans (vital_eta _)
    split <;> rename_i heq <;> rw [heq] at hitem
    · exact (vital_planCurrent _ _).trans (hitem.trans hu)
    · exact ((vital_mk ..).trans (vital_eta _)).trans (hitem.trans hu)

@[simp] theorem vital_sendT1l (type : Nat) (s : State) : vital (sendT1l type s) = vital s := by
  unfold sendT1l
  exact vital_foldl (fun u i => by split_ifs <;> rfl) _ s

@[simp] theorem vital_reachReady (s : State) : vital (reachReady s) = vital s := by
  unfold reachReady
  dsimp only
  split_ifs <;> simp [↓vital_mk]

@[simp] theorem vital_safeRequests (s : State) : vital (safeRequests s) = vital s := rfl

@[simp] theorem vital_orphanAll (id : Nat) (s : State) : vital (orphanAll id s) = vital s := by
  unfold orphanAll
  split
  · rfl
  · split_ifs
    · rfl
    · exact vital_foldl (fun u m => vital_settleMember _ _ _ u) _ s

@[simp] theorem vital_resumeCaravans (lost : Bool) (s : State) :
    vital (resumeCaravans lost s) = vital s := by
  unfold resumeCaravans
  refine (vital_foldl (fun u e => ?_) _ _).trans (vital_abortAll 6 s)
  dsimp only
  split_ifs
  · rfl
  · have hsettled : ∀ l : List Member, vital (orphanAll e.2.id (l.foldl (fun v m => settleMember e.2.id m.target (fun x => { x with status := 4, reason := 0x13 }) v) u)) = vital u :=
      fun l => (vital_orphanAll _ _).trans (vital_foldl (fun v m => vital_settleMember _ _ _ v) l u)
    split
    · exact hsettled _
    · exact (vital_foldl (fun v n => vital_sendCommit _ n v) _ _).trans ((vital_keepCar _ _ _).trans (hsettled _))

@[simp] theorem vital_restoreOasis (s : State) : vital (restoreOasis s) = vital s := by
  unfold restoreOasis
  split <;> simp [↓vital_mk]

@[simp] theorem vital_judgeTouch (n : Nat) (raw : Int) (was : Key) (s : State) :
    vital (judgeTouch n raw was s) = vital s := by
  unfold judgeTouch
  dsimp only
  split_ifs <;> simp

@[simp] theorem vital_applyShadow (s : State) : vital (applyShadow s) = vital s := by
  unfold applyShadow
  dsimp only
  (repeat' split) <;> simp [↓vital_mk]

@[simp] theorem vital_openProgram (s : State) (c : Nat × List (Nat × Nat)) :
    vital (openProgram s c).1 = vital s := by
  unfold openProgram
  split_ifs
  · rfl
  · rfl
  · rfl
  · have hopen := vital_openSealed c.1 2 false c.2 s
    split <;> rename_i heq <;> rw [heq] at hopen <;> exact hopen

@[simp] theorem vital_finishCycle (t : Nat) (s : State) : vital (finishCycle t s) = vital s := by
  have hopens : ∀ (l : List (Nat × List (Nat × Nat))) (a : State × List (Nat × Nat)),
      vital (l.foldl (fun a c => let o := openProgram a.1 c; (o.1, a.2 ++ [o.2])) a).1 = vital a.1 := by
    intro l
    induction l with
    | nil => intro a; rfl
    | cons c l ih => intro a; exact (ih _).trans (vital_openProgram a.1 c)
  unfold finishCycle
  extract_lets x u0
  split
  · rfl
  · extract_lets u1 u2 r y u3 u4
    have hr : vital r.1 = vital s := (hopens _ _).trans ((vital_foldl vital_abortProgram _ _).trans ((vital_writeOutputs _ _ _).trans (vital_setTask _ _ s)))
    have h3 : vital u3 = vital s := (vital_setTask _ _ _).trans hr
    have h4 : vital u4 = vital s := vital_ite ((vital_stopValues _ _).trans h3) h3
    exact vital_ite ((vital_replicatePlant _).trans h4) h4

@[simp] theorem vital_outputInstant (t : Nat) (s : State) : vital (outputInstant t s) = vital s := by
  unfold outputInstant
  dsimp only
  split_ifs <;> simp

@[simp] theorem vital_refuseItem (type : Nat) (head : TwinHead) (s : State) :
    vital (refuseItem type head s) = vital s := by
  unfold refuseItem
  have hrx := vital_receiveTwin head s
  split <;> rename_i heq <;> rw [heq] at hrx
  · exact hrx
  · split_ifs
    · exact hrx
    · simpa using hrx

@[simp] theorem vital_applyNetConfig (s : State) : vital (applyNetConfig s) = vital s := by
  unfold applyNetConfig
  dsimp only
  (repeat' split) <;> simp [↓vital_mk]

@[simp] theorem vital_startSolve (t0 : Nat) (m : ModelImage) (s : State) :
    vital (startSolve t0 m s) = vital s := rfl

@[simp] theorem vital_queueEvent (i : Nat) (data : Nat) (time : Nat) (s : State) :
    vital (queueEvent i data time s) = vital s := by
  unfold queueEvent
  split_ifs <;> simp [↓vital_mk]

@[simp] theorem vital_takeQuery (f : FfpFrame) (s : State) : vital (takeQuery f s) = vital s := by
  unfold takeQuery
  dsimp only
  (repeat' split) <;> simp

@[simp] theorem vital_clockTamper (s : State) : vital (clockTamper s) = vital s := by
  unfold clockTamper
  split_ifs <;> simp

@[simp] theorem vital_sendFailed (b : Nat) (s : State) : vital (sendFailed b s) = vital s := by
  unfold sendFailed
  dsimp only
  (repeat' split) <;> simp

@[simp] theorem vital_keepDemand (t : Nat) (s : State) : vital (keepDemand t s) = vital s := by
  unfold keepDemand
  split <;> simp [↓vital_mk]

@[simp] theorem vital_deliverStep (t : Nat) (s : State) : vital (deliverStep t s) = vital s := by
  unfold deliverStep
  split
  · rfl
  · split
    · split
      · simp
      · dsimp only
        split_ifs
        · rfl
        · rename_i m p _ _ _ k _ _
          have hopen := vital_openSealed (t + fld s.opt.cfg 0x0E 2 * 1000000) 0 false (planMembers m p k s) s
          split <;> rename_i heq <;> rw [heq] at hopen
          · split_ifs <;> exact hopen
          · simpa using hopen
    · simp

@[simp] theorem vital_clkoutSwitch (old : Nat) (new : Nat) (s : State) :
    vital (clkoutSwitch old new s) = vital s := by
  unfold clkoutSwitch
  dsimp only
  split_ifs <;> simp

@[simp] theorem vital_writeDump (s : State) : vital (writeDump s) = vital s := by
  unfold writeDump
  split_ifs <;> simp [↓vital_mk]

@[simp] theorem vital_takePeriod (b : Nat) (o : Nat) (s : State) :
    vital (takePeriod b o s) = vital s := by
  unfold takePeriod
  simp

@[simp] theorem vital_writeAssign (hi : Bool) (v : BitVec 32) (s : State) :
    vital (writeAssign hi v s) = vital s := by
  unfold writeAssign
  exact (vital_foldl (fun u k => by split_ifs <;> simp) _ _).trans rfl

@[simp] theorem vital_sendBeat (s : State) : vital (sendBeat s) = vital s := by
  unfold sendBeat
  simp

@[simp] theorem vital_sendDone (b : Nat) (s : State) : vital (sendDone b s) = vital s := by
  unfold sendDone
  dsimp only
  (repeat' split) <;> simp

@[simp] theorem vital_clearReturned (t : Nat) (s : State) (e : Bytes) :
    vital (clearReturned t s e) = vital s := by
  unfold clearReturned
  dsimp only
  split_ifs <;> simp [↓vital_mk]

@[simp] theorem vital_exchangeReply (x : MbusExchange) (r : MbusReply) (s : State) :
    vital (exchangeReply x r s) = vital s := by
  unfold exchangeReply
  dsimp only
  split_ifs <;> simp

@[simp] theorem vital_storeEnergy (data : Bytes) (s : State) : vital (storeEnergy data s) = vital s := by
  unfold storeEnergy
  dsimp only
  split_ifs <;> simp

@[simp] theorem vital_sendChange (mode : Nat) (img : Bytes) (s : State) :
    vital (sendChange mode img s) = vital s := by
  unfold sendChange
  simp

@[simp] theorem vital_startReplan (tr : Nat) (m : ModelImage) (s : State) :
    vital (startReplan tr m s) = vital s := rfl

@[simp] theorem vital_countLate (k : Nat) (s : State) : vital (countLate k s) = vital s := by
  unfold countLate
  dsimp only
  split_ifs <;> simp [↓vital_mk]

@[simp] theorem vital_storeEpoch (data : Bytes) (s : State) : vital (storeEpoch data s) = vital s := rfl

@[simp] theorem vital_queueGap (s : State) : vital (queueGap s) = vital s := by
  unfold queueGap
  split <;> simp

@[simp] theorem vital_setSource (n : Nat) (s : State) : vital (setSource n s) = vital s := by
  unfold setSource
  dsimp only
  split_ifs <;> simp [↓vital_mk]

@[simp] theorem vital_endReplan (x : ReplanResult) (s : State) : vital (endReplan x s) = vital s := by
  unfold endReplan
  dsimp only
  (repeat' split) <;> simp [↓vital_mk]

@[simp] theorem vital_takeAck (f : FfpFrame) (s : State) : vital (takeAck f s) = vital s := by
  unfold takeAck
  dsimp only
  (repeat' split) <;> simp

@[simp] theorem vital_takeTelemetry (f : FfpFrame) (s : State) : vital (takeTelemetry f s) = vital s := by
  unfold takeTelemetry
  refine vital_ite (vital_sendNak _ _ s) (vital_ite (vital_sendNak _ _ s) (vital_ite (vital_sendNak _ _ s) ?_))
  exact (vital_sendFfp _ _ _ _).trans (vital_foldl (fun u e => vital_storeEntry _ _ _ _ u) _ s)

@[simp] theorem vital_followActive (data : Bytes) (s : State) :
    vital (followActive data s) = vital s := by
  unfold followActive
  dsimp only
  split_ifs <;> simp [↓vital_mk]

@[simp] theorem vital_storeJournal (data : Bytes) (s : State) :
    vital (storeJournal data s) = vital s := by
  unfold storeJournal
  dsimp only
  split_ifs <;> simp [↓vital_mk]

@[simp] theorem vital_takePlan (b : Bytes) (s : State) : vital (takePlan b s) = vital s := rfl

@[simp] theorem vital_storeTables (data : Bytes) (s : State) : vital (storeTables data s) = vital s := by
  unfold storeTables
  dsimp only
  (repeat' split) <;> simp [↓vital_mk]

@[simp] theorem vital_fullCopy (s : State) : vital (fullCopy s) = vital s := by
  unfold fullCopy
  dsimp only
  (repeat' split) <;> simp [↓vital_mk, vital_foldl]

@[simp] theorem vital_latchPair (p : Nat) (boundary : Bool) (s : State) :
    vital (latchPair p boundary s) = vital s := by
  unfold latchPair
  simp

@[simp] theorem vital_latchPairs (cut : Cut) (s : State) : vital (latchPairs cut s) = vital s := by
  unfold latchPairs
  dsimp only
  (repeat' split) <;> simp [↓vital_mk, vital_foldl]

@[simp] theorem vital_detectBad (b : Nat) (data : Bool) (s : State) :
    vital (detectBad b data s) = vital s := by
  unfold detectBad
  dsimp only
  split <;> simp

@[simp] theorem vital_mbusResume (s : State) : vital (mbusResume s) = vital s := by
  unfold mbusResume
  simp

@[simp] theorem vital_State.withFetchWord (s : State) (nbits : Nat) (w : Nat) :
    vital (State.withFetchWord s nbits w) = vital s := rfl

end Sys2Proof.Machine
end

section
/-! PROOF. The operations that write a byte memory or a masked register: they keep the queue, a canonical memory stays canonical
(every write goes through `Memory.write` or `Memory.set`), and a reserved bit stays clear (every write masks it). -/

namespace Sys2Proof.Machine
open Sys2Proof

/-- The byte memories are canonical and the reserved bits clear. -/
structure Vital.Sound (v : Vital) : Prop where
  mem : Memory.wf v.mem = true
  free : Memory.wf v.free = true
  progMem : Memory.wf v.progMem = true
  retained : Memory.wf v.retained = true
  hostControl : v.hostControl &&& ~~~ (0x301 : BitVec 32) = 0
  usbMask : v.usbMask &&& ~~~ (0x7FFFF : BitVec 32) = 0
  tlsMask : v.tlsMask &&& ~~~ (0x7FFFF : BitVec 32) = 0
  eventEnable : v.eventEnable &&& ~~~ (0x7FF : BitVec 32) = 0

/-- From `a` to `b` the queue stays, and what is sound stays sound. -/
structure Kept (a b : Vital) : Prop where
  pending : b.pending = a.pending
  sound : a.Sound → b.Sound

theorem Vital.sound_iff (s : State) : (vital s).Sound ↔ s.memoriesCanonical ∧ s.reservedClear :=
  ⟨fun h => ⟨⟨h.mem, h.free, h.progMem, h.retained⟩, h.hostControl, h.usbMask, h.tlsMask, h.eventEnable⟩,
    fun ⟨⟨hm, hf, hp, hr⟩, hh, hu, ht, he⟩ => ⟨hm, hf, hp, hr, hh, hu, ht, he⟩⟩

theorem and_mask_reserved (v m : BitVec 32) : (v &&& m) &&& ~~~ m = 0 := by
  rw [BitVec.and_assoc, BitVec.and_not_self]
  exact BitVec.and_zero

@[simp] theorem Kept.refl (a : Vital) : Kept a a := ⟨rfl, id⟩

theorem Kept.with_mem {a b : Vital} (h : Kept a b) {m : List Host.Cell} (hm : Memory.wf b.mem = true → Memory.wf m = true) :
    Kept a { b with mem := m } :=
  ⟨h.pending, fun ha => { h.sound ha with mem := hm (h.sound ha).mem }⟩

theorem Kept.with_free {a b : Vital} (h : Kept a b) {m : List Host.Cell} (hm : Memory.wf b.free = true → Memory.wf m = true) :
    Kept a { b with free := m } :=
  ⟨h.pending, fun ha => { h.sound ha with free := hm (h.sound ha).free }⟩

theorem Kept.with_progMem {a b : Vital} (h : Kept a b) {m : List Host.Cell}
    (hm : Memory.wf b.progMem = true → Memory.wf b.retained = true → Memory.wf m = true) : Kept a { b with progMem := m } :=
  ⟨h.pending, fun ha => { h.sound ha with progMem := hm (h.sound ha).progMem (h.sound ha).retained }⟩

theorem Kept.with_retained {a b : Vital} (h : Kept a b) {m : List Host.Cell}
    (hm : Memory.wf b.retained = true → Memory.wf m = true) : Kept a { b with retained := m } :=
  ⟨h.pending, fun ha => { h.sound ha with retained := hm (h.sound ha).retained }⟩

theorem Kept.with_hostControl {a b : Vital} (h : Kept a b) (v : BitVec 32) : Kept a { b with hostControl := v &&& 0x301 } :=
  ⟨h.pending, fun ha => { h.sound ha with hostControl := and_mask_reserved v _ }⟩

theorem Kept.with_usbMask {a b : Vital} (h : Kept a b) (v : BitVec 32) : Kept a { b with usbMask := v &&& 0x7FFFF } :=
  ⟨h.pending, fun ha => { h.sound ha with usbMask := and_mask_reserved v _ }⟩

theorem Kept.with_tlsMask {a b : Vital} (h : Kept a b) (v : BitVec 32) : Kept a { b with tlsMask := v &&& 0x7FFFF } :=
  ⟨h.pending, fun ha => { h.sound ha with tlsMask := and_mask_reserved v _ }⟩

theorem Kept.with_eventEnable {a b : Vital} (h : Kept a b) (v : BitVec 32) : Kept a { b with eventEnable := v &&& 0x7FF } :=
  ⟨h.pending, fun ha => { h.sound ha with eventEnable := and_mask_reserved v _ }⟩

theorem kept_ite {a : Vital} {c : Prop} [Decidable c] {s t : State} (hs : Kept a (vital s)) (ht : Kept a (vital t)) :
    Kept a (vital (if c then s else t)) := by
  split
  · exact hs
  · exact ht

theorem kept_foldl {a : Vital} {α : Type} {f : State → α → State} (h : ∀ u e, Kept a (vital u) → Kept a (vital (f u e))) (l : List α)
    {s : State} (hs : Kept a (vital s)) : Kept a (vital (l.foldl f s)) := by
  induction l generalizing s with
  | nil => exact hs
  | cons e l ih => exact ih (h s e hs)

/-! Memories built by writes -/

theorem wf_foldl_write {α : Type} (addr : α → Nat) (bytes : α → Bytes) (l : List α) {m : List Host.Cell} (h : Memory.wf m = true) :
    Memory.wf (l.foldl (fun t e => Memory.write t (addr e) (bytes e)) m) = true := by
  induction l generalizing m with
  | nil => exact h
  | cons e l ih => exact ih (Memory.wf_write _ _ _ h)

theorem wf_putVar {m : List Host.Cell} (e b : Bytes) (h : Memory.wf m = true) : Memory.wf (putVar m e b) = true :=
  Memory.wf_write _ _ _ h

theorem wf_initialMem (img : Bytes) : Memory.wf (initialMem img) = true := Memory.wf_write _ [] 0 rfl

theorem wf_retainedOf (dir : List Bytes) (m : List Host.Cell) : Memory.wf (retainedOf dir m) = true :=
  wf_foldl_write _ _ _ rfl

theorem wf_keepData (old new : Bytes) (m : List Host.Cell) : Memory.wf (keepData old new m) = true := by
  suffices hfold : ∀ {α : Type} (f : List Host.Cell → α → List Host.Cell), (∀ t e, Memory.wf t = true → Memory.wf (f t e) = true) →
      ∀ (l : List α) (t : List Host.Cell), Memory.wf t = true → Memory.wf (l.foldl f t) = true by
    refine hfold _ (fun t e ht => ?_) _ _ (hfold _ (fun t e ht => ?_) _ _ (wf_initialMem new))
    · split
      · exact ht
      · exact wf_putVar _ _ ht
    · split
      · exact ht
      · exact Memory.wf_write _ _ _ ht
  intro α f hf l
  induction l with
  | nil => exact fun t ht => ht
  | cons e l ih => exact fun t ht => ih _ (hf t e ht)

/-! The operations that write a memory or a reserved register -/

variable {a : Vital} {s : State}

theorem kept_finish (k : Nat) (rep : Reply) (h : Kept a (vital s)) : Kept a (vital (finish k rep s)) := by
  unfold finish
  split
  · exact h
  · simp only [vital_notify, vital_applyAssign, vital_irq, vital_mk]
    exact h.with_mem (fun hm => Memory.wf_write _ _ _ hm)

theorem kept_startFaults (f : StartFacts) (h : Kept a (vital s)) : Kept a (vital (startFaults f s)) := by
  unfold startFaults
  extract_lets mark car elec t u img r
  have hu : Kept a (vital u) := by simpa only [u, vital_setRec, t, vital_mk, vital_eta] using h
  refine kept_ite ?_ ?_
  · exact hu.with_progMem (fun _ hr => hr)
  · rw [vital_emit]
    exact (hu.with_progMem (fun _ _ => wf_retainedOf _ _)).with_retained (fun _ => wf_retainedOf _ _)

theorem kept_startMemory (kind : Nat) (h : Kept a (vital s)) : Kept a (vital (startMemory kind s)) := by
  unfold startMemory
  extract_lets img dir
  split
  · exact h
  · exact (h.with_progMem (fun _ _ => wf_initialMem _)).with_retained (fun _ => wf_retainedOf _ _)
  · exact h.with_progMem (fun _ _ => wf_foldl_write _ _ _ (wf_initialMem _))

theorem kept_startProgram (f : StartFacts) (h : Kept a (vital s)) : Kept a (vital (startProgram f s)) := by
  unfold startProgram
  refine kept_ite h (kept_ite (kept_startMemory 0 h) ?_)
  rw [vital_emit]
  exact h.with_progMem (fun _ _ => rfl)

theorem kept_mbusAbandon (h : Kept a (vital s)) : Kept a (vital (mbusAbandon s)) := by
  unfold mbusAbandon
  exact kept_foldl (fun u x hu => kept_finish _ _ hu) _ (by simpa only [vital_setMbus] using h)

theorem kept_mbusOff (line : Nat) (h : Kept a (vital s)) : Kept a (vital (mbusOff line s)) := by
  unfold mbusOff
  simpa only [vital_setLine, vital_setMbus] using kept_mbusAbandon h

theorem kept_mbusFollow (h : Kept a (vital s)) : Kept a (vital (mbusFollow s)) := by
  unfold mbusFollow
  exact kept_ite (kept_mbusOff 0 h) (kept_ite (kept_mbusOff 3 h) (kept_ite h (by simpa only [vital_mbusOn] using h)))

theorem kept_startRestore (f : StartFacts) (h : Kept a (vital s)) : Kept a (vital (startRestore f s)) := by
  unfold startRestore
  extract_lets u1 u2 u3 u4 u5 sol u6 u7 u8 u9 u10 u11
  have h4 : vital u5 = vital (startFaults f (defaultRecords f.defaulted s)) := by
    refine (vital_ite ((vital_epochCatchUp _).trans (vital_loadKeys _)) rfl).trans ?_
    simp only [u4, u3, u2, u1, vital_heldEvents, vital_restoreCaravans, vital_recordLateTamper, vital_restoreRing, vital_startZone, vital_adoptDram]
  have h5 : Kept a (vital u5) := by
    rw [h4]
    exact kept_startFaults f (by simpa only [vital_defaultRecords] using h)
  have h6 : Kept a (vital u7) := by
    simp only [u7, vital_followT1l]
    exact kept_startProgram f (by simpa only [vital_restoreMeters, vital_restoreAxes, u6, vital_mk, vital_eta] using h5)
  simp only [vital_setBoot]
  refine kept_mbusFollow ?_
  simp only [u11, u10, u8, vital_swapDue, vital_startGrids, u9, vital_foldl (fun u b => vital_canStart b u), vital_releaseAlarms, vital_followOrder, vital_followSources]
  exact h6

theorem kept_saveRetained (h : Kept a (vital s)) : Kept a (vital (saveRetained s)) := by
  unfold saveRetained
  exact h.with_retained (fun hr => wf_foldl_write _ _ _ hr)

theorem kept_committed (slot : Nat) (c : Caravan) (h : Kept a (vital s)) : Kept a (vital (committed slot c s)) := by
  unfold committed
  extract_lets c' car u v
  have hv : Kept a (vital v) := by
    simpa only [v, vital_foldl (fun u n => vital_sendCommit c' n u), u, vital_keepCar, vital_mk, vital_eta] using h
  split
  · exact hv
  · exact kept_finish _ _ hv

theorem kept_aborted (slot : Nat) (c : Caravan) (h : Kept a (vital s)) : Kept a (vital (aborted slot c s)) := by
  unfold aborted
  extract_lets late c' car u v w
  have hw : Kept a (vital w) := by
    simpa only [w, vital_foldl (fun u n => vital_sendAbort c.id c.abortReason n u), v, vital_endCar, u, vital_emit, vital_mk, vital_eta] using h
  split
  · exact hw
  · exact kept_finish _ _ hw

theorem kept_settleDecision (slot : Nat) (h : Kept a (vital s)) : Kept a (vital (settleDecision slot s)) := by
  unfold settleDecision
  split
  · exact h
  · split
    · exact h
    · refine kept_ite ?_ h
      split
      · exact kept_committed _ _ h
      · exact kept_aborted _ _ h

theorem kept_carLastGasp (h : Kept a (vital s)) : Kept a (vital (carLastGasp s)) := by
  unfold carLastGasp
  exact kept_foldl (fun u e hu => kept_ite (kept_settleDecision _ (by simpa only [vital_keepCar] using hu)) hu) _ h

theorem kept_lastGasp (cut : Cut) (h : Kept a (vital s)) : Kept a (vital (lastGasp cut s)) := by
  unfold lastGasp
  refine kept_saveRetained ?_
  rw [vital_saveAxes]
  exact kept_carLastGasp (by simpa only [vital_cutMeters] using h)

theorem resetWindow_reserved (w : Window) :
    (resetWindow w).hostControl &&& ~~~ (0x301 : BitVec 32) = 0 ∧ (resetWindow w).usbMask &&& ~~~ (0x7FFFF : BitVec 32) = 0 ∧
      (resetWindow w).tlsMask &&& ~~~ (0x7FFFF : BitVec 32) = 0 ∧ (resetWindow w).eventEnable &&& ~~~ (0x7FF : BitVec 32) = 0 := by
  dsimp only [resetWindow]
  decide

theorem kept_resetBlock (dram : Bool) (h : Kept a (vital s)) : Kept a (vital (resetBlock dram s)) := by
  unfold resetBlock
  simp only [vital_mk]
  have hlost : vital (loseQueue (keepOasis s)) = vital s := by simp only [vital_loseQueue, vital_keepOasis]
  have hpend := (congrArg Vital.pending hlost).trans h.pending
  have hsound := fun ha => hlost ▸ h.sound ha
  obtain ⟨hhost, husb, htls, hevent⟩ := resetWindow_reserved (loseQueue (keepOasis s)).win
  exact ⟨hpend, fun ha => ⟨rfl, (hsound ha).free, rfl, (hsound ha).retained, hhost, husb, htls, hevent⟩⟩

theorem kept_holdReset (kind : ResetKind) (h : Kept a (vital s)) : Kept a (vital (holdReset kind s)) := by
  unfold holdReset
  simpa only [vital_mk, vital_eta] using kept_resetBlock true h

theorem kept_requestPin (h : Kept a (vital s)) : Kept a (vital (requestPin s)) := by
  unfold requestPin
  exact kept_ite h (kept_ite (kept_holdReset .pin h) (by simpa only [vital_mk, vital_eta] using h))

theorem kept_endTrial (h : Kept a (vital s)) : Kept a (vital (endTrial s)) := by
  unfold endTrial
  exact kept_requestPin (by simpa only [vital_emit, vital_mk, vital_eta] using h)

theorem kept_runProgram (kind : Nat) (h : Kept a (vital s)) : Kept a (vital (runProgram kind s)) := by
  unfold runProgram
  simpa only [vital_sendMode, vital_setProg, vital_mk, vital_eta, vital_startTasks] using kept_startMemory kind h

theorem kept_takeOver (cut : Cut) (h : Kept a (vital s)) : Kept a (vital (takeOver cut s)) := by
  unfold takeOver
  extract_lets u1 n u2 u3 u4 u5 u6
  have h4 : Kept a (vital u4) := by
    simpa only [u4, u3, u2, u1, vital_takeoverMeters, vital_takeoverCaravans, vital_send, vital_emit, vital_mk, vital_eta, vital_becomeSingle,
      vital_setTwin, vital_dropLink] using h
  have h5 : Kept a (vital u5) := kept_mbusFollow (by simpa only [vital_takeoverCan, vital_takeoverAxes] using h4)
  simp only [vital_announce, vital_resolveAll]
  exact kept_ite (kept_runProgram 0 h5) h5

theorem kept_epochAcked (item : Option Nat) (h : Kept a (vital s)) : Kept a (vital (epochAcked item s)) := by
  unfold epochAcked
  exact kept_foldl (fun u w hu => kept_finish _ _ hu) _ (by simpa only [vital_setSec] using h)

theorem kept_letGo (h : Kept a (vital s)) : Kept a (vital (letGo s)) := by
  unfold letGo
  exact kept_mbusFollow (by simpa only [vital_outputsOff, vital_haltTasks, vital_abandonReplan, vital_abandonSolve] using h)

theorem kept_becomeStandby (h : Kept a (vital s)) : Kept a (vital (becomeStandby s)) := by
  unfold becomeStandby
  extract_lets was y u
  have hu : Kept a (vital u) := by simpa only [u, y, vital_setRole, vital_mk, vital_eta] using h
  rw [vital_resolved]
  exact kept_ite (kept_letGo hu) hu

theorem kept_runTrigger (codes : List Nat) (last k time n : Nat) (h :
    Kept a (vital s)) : Kept a (vital (runTrigger codes last k time s n)) := by
  unfold runTrigger
  extract_lets t mine rest kept j fires held u j0 e d r seq
  refine kept_ite h (kept_foldl (fun v f hv => kept_finish _ _ hv) _ ?_)
  have hu : vital u = vital s := by simp only [u, vital_setRec, vital_setTrigger]
  have he : vital e.1 = vital u := vital_enterRec _ _ u
  suffices hr : vital r.1 = vital u by rw [hr, hu]; exact h
  dsimp only [r]
  split
  · rfl
  · split
    · exact vital_setTrigger _ _ _
    · split
      · exact he
      · exact (vital_setTrigger _ _ _).trans he

theorem kept_placeImage (img : Bytes) (h : Kept a (vital s)) : Kept a (vital (placeImage img s).1) := by
  unfold placeImage
  extract_lets old od nd mem lost c alive u v
  refine (congrArg (Kept a) (vital_foldl (fun t x => vital_emit _ _ t) _ _)).mpr ?_
  refine (h.with_progMem (m := mem) (fun _ _ => ?_)).with_retained (fun _ => wf_retainedOf _ _)
  dsimp only [mem]
  split
  · exact wf_initialMem _
  · exact wf_keepData _ _ _

theorem kept_carAcked (item : Nat) (h : Kept a (vital s)) : Kept a (vital (carAcked item s)) := by
  unfold carAcked
  exact kept_foldl (fun u e hu => kept_ite (kept_settleDecision _ (by simpa only [vital_keepCar] using hu)) hu) _ h

theorem kept_writeIrqBlock (off : Nat) (v : BitVec 32) (h : Kept a (vital s)) : Kept a (vital (writeIrqBlock off v s)) := by
  unfold writeIrqBlock
  simp only [vital_irqWrite, id, vital_mk, vital_eta]
  refine kept_ite (by simpa only [vital_mk, vital_eta] using h) (kept_ite (by simpa only [vital_mk, vital_eta] using h) ?_)
  split
  · simpa only [vital_writeDoorbell] using h
  · exact h
  · simpa only [vital_mk, vital_eta] using h
  · simpa only [vital_mk, vital_eta] using h
  · simpa only [vital_mk, vital_eta] using h
  · exact h.with_eventEnable v
  · exact h
  · simpa only [vital_accessFault] using h

theorem kept_setForced (t : Nat) (h : Kept a (vital s)) : Kept a (vital (setForced t s)) := by
  unfold setForced
  refine kept_foldl (fun u f hu => ?_) _ h
  split
  · exact hu
  · exact kept_ite (hu.with_progMem (fun hm _ => wf_putVar _ _ hm)) hu

theorem kept_enterStandby (cut : Cut) (h : Kept a (vital s)) : Kept a (vital (enterStandby cut s)) := by
  unfold enterStandby
  extract_lets u1 u2 u3 u4 u5 u6
  have h3 : Kept a (vital u3) := by
    simp only [u3, vital_saveAxes, vital_cutMeters]
    refine kept_mbusFollow ?_
    simpa only [u2, u1, vital_outputsOff, vital_haltTasks, vital_closeField, vital_abortAll, vital_abandonReplan, vital_abandonSolve, vital_setPower, vital_setPow] using h
  have h5 : vital u5 = vital u3 :=
    (vital_foldl (fun t p => vital_ite (vital_setPort _ _ t) rfl) _ _).trans (by simp only [u4, vital_endAllTls, vital_zeroKeys])
  have h6 : vital u6 = vital u3 := (vital_foldl (fun t x => vital_setClkSource _ _ t) _ _).trans h5
  rw [vital_clocksStandby, h6]
  exact h3

theorem kept_startUp (f : StartFacts) (h : Kept a (vital s)) : Kept a (vital (startUp f s)) := by
  unfold startUp
  extract_lets u
  have hu : Kept a (vital u) := by simpa only [u, vital_startHardware, vital_setBoot] using h
  refine kept_ite (by simpa only [vital_setBoot] using hu) (kept_ite (by simpa only [vital_setBoot] using hu) ?_)
  split
  · simpa only [vital_setBoot] using hu
  · exact kept_startRestore f (by simpa only [vital_runImage] using hu)

theorem kept_powerOn (kind : ResetKind) (h : Kept a (vital s)) : Kept a (vital (powerOn kind s)) := by
  unfold powerOn
  simpa only [vital_mk, vital_eta] using kept_resetBlock false h

theorem kept_powerOff (h : Kept a (vital s)) : Kept a (vital (powerOff s)) := by
  unfold powerOff
  simpa only [vital_mk, vital_eta] using kept_resetBlock false h

theorem kept_putBytes (addr : Nat) (data : Bytes) (h : Kept a (vital s)) : Kept a (vital (putBytes addr data s)) := by
  induction data generalizing addr s with
  | nil => exact h
  | cons b t ih => exact ih _ (kept_ite (h.with_mem (fun hm => Memory.wf_set _ _ _ hm)) h)

theorem kept_writeBytes (addr : Nat) (data : Bytes) (h : Kept a (vital s)) : Kept a (vital (writeBytes addr data s)) := by
  unfold writeBytes
  extract_lets t
  split
  · exact kept_putBytes _ _ h
  · simpa only [vital_accessFault] using kept_putBytes _ _ h

theorem kept_transactDone (reply : Bytes) (h : Kept a (vital s)) : Kept a (vital (transactDone reply s)) := by
  unfold transactDone
  split
  · rw [vital_mbusNext]
    exact kept_finish _ _ (by simpa only [vital_setMbus] using h)
  · exact h

theorem kept_becomeUnpaired (h : Kept a (vital s)) : Kept a (vital (becomeUnpaired s)) := by
  unfold becomeUnpaired
  rw [vital_setTwin]
  exact kept_becomeStandby (by simpa only [vital_dropLink] using h)

theorem kept_itemDurable (item : Nat) (h : Kept a (vital s)) : Kept a (vital (itemDurable item s)) := by
  unfold itemDurable
  simp only [vital_tryJoined]
  refine kept_epochAcked _ ?_
  simp only [vital_modelProceed, vital_planAcked]
  exact kept_carAcked _ (by simpa only [vital_setTwin] using h)

theorem kept_carReleased (h : Kept a (vital s)) : Kept a (vital (carReleased s)) := by
  unfold carReleased
  exact kept_foldl (fun u e hu => kept_ite (kept_settleDecision _ (by simpa only [vital_keepCar] using hu)) hu) _ h

theorem kept_releaseWaiters (h : Kept a (vital s)) : Kept a (vital (releaseWaiters s)) := by
  unfold releaseWaiters
  refine kept_epochAcked _ ?_
  simpa only [vital_modelProceed, vital_planReleased] using kept_carReleased h

theorem kept_standbyLost (h : Kept a (vital s)) : Kept a (vital (standbyLost s)) := by
  unfold standbyLost
  exact kept_releaseWaiters (by simpa only [vital_becomeSingle, vital_dropLink, vital_twinLoss] using h)

theorem kept_enterHoldup (vin hold : Nat) (h : Kept a (vital s)) : Kept a (vital (enterHoldup vin hold s)) := by
  unfold enterHoldup
  rw [vital_resolveAll]
  refine kept_mbusFollow ?_
  simpa only [vital_closeField, vital_abortUpdate, vital_abortAll, vital_axesHoldup, vital_haltTasks, vital_abandonReplan, vital_abandonSolve,
    vital_yieldRow, vital_raise, vital_setPower, vital_mk, vital_eta, vital_setPow] using h

theorem kept_switchImage (h : Kept a (vital s)) : Kept a (vital (switchImage s)) := by
  unfold switchImage
  split
  · exact h
  · rename_i c _
    refine kept_finish _ _ ?_
    simp only [vital_replicate, vital_setProg, vital_mk, vital_eta]
    exact kept_placeImage _ (by simpa only [vital_setProg, vital_mk, vital_eta] using h)

theorem kept_storeRetained (data : Bytes) (h : Kept a (vital s)) : Kept a (vital (storeRetained data s)) := by
  unfold storeRetained
  extract_lets b ls img n rest
  split
  · exact (h.with_progMem (fun hm _ => wf_foldl_write _ _ _ hm)).with_retained (fun hr => wf_foldl_write _ _ _ hr)
  · exact h
  · exact h
  · exact kept_ite h (kept_placeImage _ h)
  · exact kept_switchImage h
  · rw [vital_foldl (fun u e => vital_storeAxis u e), vital_foldl (fun u e => vital_storeLoop u e)]
    exact h
  · exact h

theorem kept_wakeUp (cause : Nat) (h : Kept a (vital s)) : Kept a (vital (wakeUp cause s)) := by
  unfold wakeUp
  extract_lets u1 u2 u3 u4 u5 net u6 u7 u8
  have h3 : vital u3 = vital s := by
    have h2 : vital u2 = vital s := by simp only [u2, u1, vital_clocksWake, vital_setPower, vital_setPow]
    exact vital_ite (by simp only [vital_epochCatchUp, vital_loadKeys, h2]) (vital_ite (by simp only [vital_setModState, h2]) h2)
  have h6 : vital u6 = vital s := by
    simp only [u6, vital_loopsFresh, vital_mk, vital_eta, u5, vital_resumeMeters, vital_emit, u4, vital_releaseAlarms,
      vital_releaseStandbyEvents, vital_recordLateTamper, h3]
  have h7 : Kept a (vital u7) := (vital_foldl (fun u b => vital_canStart b u) _ u6).trans h6 ▸ h
  simp only [vital_resolveAll]
  exact kept_mbusFollow (kept_ite (kept_runProgram 2 h7) h7)

theorem kept_startPlant (h : Kept a (vital s)) : Kept a (vital (startPlant s)) := by
  unfold startPlant
  extract_lets u1 net u2 u3 u4 u5
  have h2 : vital u2 = vital s := by simp only [u2, u1, net, vital_mk, vital_eta, vital_setBoot, vital_loopsFresh]
  have h2' : Kept a (vital u2) := h2 ▸ h
  have h4 : Kept a (vital u4) := by
    simp only [u4, vital_resumeCaravans, vital_restoreOasis]
    exact kept_ite (by simpa only [vital_safeRequests] using h2') h2'
  refine kept_ite h2' ?_
  rw [vital_resolveAll]
  exact kept_mbusFollow (kept_ite (kept_runProgram 0 h4) h4)

theorem kept_restartKeeper (f : StartFacts) (h : Kept a (vital s)) : Kept a (vital (restartKeeper f s)) := by
  unfold restartKeeper
  extract_lets vendor u1 u2 win u3 u4 u5 u6 sol opt u7 u8 sys boot
  have h2 : vital u2 = vital s :=
    (vital_foldl (fun t e => (vital_opFail _ _ _).trans (vital_dropOp _ _)) _ _).trans (vital_endAllTls s)
  have h4 : Kept a (vital u4) := by
    simp only [u4, vital_setSec]
    refine kept_mbusAbandon ?_
    simpa only [vital_closeDebug, u3, vital_mk, win, vital_eta, h2] using h
  have h7 : Kept a (vital u7) := by
    simpa only [u7, vital_mk, vital_eta, u6, vital_adoptDram, vital_defaultRecords, u5, vital_setPow] using h4
  have h8 : vital u8 = vital u7 :=
    vital_ite (vital_ite ((vital_epochCatchUp _).trans (vital_loadKeys _)) (vital_zeroKeys _)) rfl
  have h8' : Kept a (vital u8) := h8 ▸ h7
  simpa only [vital_mk, sys, vital_eta] using h8'

theorem kept_refuseJoin (mism : Nat) (peer : Bytes) (h : Kept a (vital s)) : Kept a (vital (refuseJoin mism peer s)) := by
  unfold refuseJoin
  extract_lets noKey running u
  have hu : Kept a (vital u) := by simpa only [u, vital_emit, vital_setTwin, vital_setSec] using h
  exact kept_ite (by simpa only [vital_becomeSingle, vital_dropLink] using hu) (kept_becomeUnpaired hu)

theorem kept_writeHostControl (v : BitVec 32) (h : Kept a (vital s)) : Kept a (vital (writeHostControl v s)) := by
  unfold writeHostControl
  extract_lets u win boot t
  have hu : Kept a (vital u) := h.with_hostControl v
  have ht : Kept a (vital t) := kept_ite (by simpa only [vital_mk, win, boot, vital_eta] using hu) hu
  exact kept_ite ht (by simpa only [vital_endAllTls] using ht)

theorem kept_writeBlockWord (addr : Nat) (v : BitVec 32) (h : Kept a (vital s)) : Kept a (vital (writeBlockWord addr v s)) := by
  unfold writeBlockWord
  refine kept_ite (kept_writeIrqBlock _ _ h) ?_
  split
  · exact kept_writeHostControl v h
  · simpa only [vital_writeAssign] using h
  · simpa only [vital_writeAssign] using h
  · exact h.with_usbMask v
  · exact h.with_tlsMask v
  · exact h
  · exact h
  · exact h
  · exact h
  · exact h
  · exact h
  · simpa only [vital_accessFault] using h

theorem kept_writeWords (addr : Nat) (ws : List (BitVec 32)) (h : Kept a (vital s)) : Kept a (vital (writeWords addr ws s)) := by
  induction ws generalizing addr s with
  | nil => exact h
  | cons v t ih => exact ih _ (kept_writeBlockWord _ _ h)

theorem kept_hostWrite (addr : Nat) (data : Bytes) (h : Kept a (vital s)) : Kept a (vital (hostWrite addr data s)) := by
  unfold hostWrite
  refine kept_ite (kept_ite (kept_writeWords _ _ h) (kept_ite ?_ ?_)) (kept_writeBytes _ _ h)
  · simpa only [vital_mk, vital_eta] using h
  · simpa only [vital_accessFault] using h

theorem kept_hearActive (f : FfpFrame) (h : Kept a (vital s)) : Kept a (vital (hearActive f s)) := by
  unfold hearActive
  extract_lets u
  have hu : Kept a (vital u) := by simpa only [u, vital_setTwin] using h
  refine kept_ite h ?_
  split
  · exact kept_becomeUnpaired (by simpa only [vital_twinLoss] using hu)
  · exact kept_ite (kept_becomeUnpaired (kept_ite hu (by simpa only [vital_twinLoss] using hu))) hu

theorem kept_latchInput (t : Nat) (e : Bytes) (h : Kept a (vital s)) : Kept a (vital (latchInput t s e)) := by
  unfold latchInput
  exact h.with_progMem (fun hm _ => wf_putVar _ _ hm)

theorem kept_beginCycle (t tin : Nat) (h : Kept a (vital s)) : Kept a (vital (beginCycle t tin s)) := by
  unfold beginCycle
  rw [vital_setTask]
  refine kept_setForced t ?_
  rw [vital_foldl (fun u e => vital_clearReturned t u e)]
  exact kept_foldl (fun u e hu => kept_latchInput t e hu) _ h

theorem kept_cyclicInstant (t inst : Nat) (h : Kept a (vital s)) : Kept a (vital (cyclicInstant t inst s)) := by
  unfold cyclicInstant
  refine kept_ite (kept_ite ?_ ?_) (kept_ite ?_ (kept_beginCycle _ _ h))
  · simpa only [vital_skipInstant] using h
  · simpa only [vital_setTask] using h
  · simpa only [vital_skipInstant] using h

theorem kept_runMark (h : Kept a (vital s)) : Kept a (vital (runMark s)) := by
  unfold runMark
  split
  · exact h
  · exact kept_finish _ _ (by simpa only [vital_enterRec, vital_setRec] using h)

/-! Commands -/

/-- The body of a command keeps the queue and what is sound. -/
def Command.KeepsVital (cmd : Command) : Prop := ∀ c s, Kept (vital s) (vital (cmd.body c s).1)

theorem Kept.trans {a b c : Vital} (hab : Kept a b) (hbc : Kept b c) : Kept a c :=
  ⟨hbc.pending.trans hab.pending, fun ha => hbc.sound (hab.sound ha)⟩

theorem kept_serve {cmd : Option Command} (hcmd : ∀ x ∈ cmd, x.KeepsVital) (k : Nat) (p : Path) (hd : Header) (payload : Bytes)
    (h : Kept a (vital s)) : Kept a (vital (serve cmd k p hd payload s)) := by
  unfold serve
  extract_lets u c win
  have hu : Kept a (vital u) := by simpa only [u, vital_takeRequest] using h
  split
  · exact kept_finish _ _ hu
  · rename_i cmd
    have hbody := hu.trans (hcmd cmd rfl c u)
    split
    · exact kept_finish _ _ (by simpa only [vital_mk, win, vital_eta] using hu)
    · split <;> rename_i heq <;> rw [heq] at hbody
      · simpa only [vital_gateFollow] using hbody
      · exact kept_finish _ _ (by simpa only [vital_gateFollow] using hbody)

theorem kept_exchange {cmd : Command} (hcmd : cmd.KeepsVital) (r : Request) (h : Kept a (vital s)) : Kept a (vital (exchange cmd r s)) := by
  unfold exchange
  extract_lets k hd u pay win v w
  have hu : Kept a (vital u) := by simpa only [u, vital_touchTls] using h
  have hv : Kept a (vital v) := by
    simp only [v, vital_mk, win]
    exact hu.with_mem (fun hm => Memory.wf_write _ _ _ hm)
  have hw : Kept a (vital w) := kept_ite (by simpa only [vital_irqWrite, id, vital_mk, vital_eta] using hv) hv
  refine kept_ite h (kept_ite ?_ (kept_ite ?_ (kept_ite hw (kept_ite ?_ ?_))))
  · split
    · exact h
    · simpa only [vital_accessFault] using h
  · simpa only [vital_ringBusy, vital_accessFault] using hu
  · simpa only [vital_hold] using hw
  · exact kept_serve (fun x hx => Option.some.inj hx ▸ hcmd) _ _ _ _ hw

end Sys2Proof.Machine
end

section
/-! PROOF. The bodies of the commands keep the queue and what is sound; all but four leave the vital parts as they are. -/

namespace Sys2Proof.Machine
open Sys2Proof

theorem Kept.of_eq {a b : Vital} (h : b = a) : Kept a b := h ▸ Kept.refl a

@[simp] theorem keepsVital_cmdClkGetGates : cmdClkGetGates.KeepsVital := fun _ _ => Kept.refl _

@[simp] theorem keepsVital_cmdElecReadRegisters : cmdElecReadRegisters.KeepsVital := by
  refine fun c s => Kept.of_eq ?_
  dsimp only [cmdElecReadRegisters]
  split_ifs <;> simp

@[simp] theorem keepsVital_cmdClkGetStatus : cmdClkGetStatus.KeepsVital := fun _ _ => Kept.refl _

@[simp] theorem keepsVital_cmdIoSetOutput : cmdIoSetOutput.KeepsVital := by
  refine fun c s => Kept.of_eq ?_
  dsimp only [cmdIoSetOutput]
  split_ifs <;> simp [↓vital_mk]

@[simp] theorem keepsVital_cmdCaravanList : cmdCaravanList.KeepsVital := fun _ _ => Kept.refl _

@[simp] theorem keepsVital_cmdSecKeyUpdate : cmdSecKeyUpdate.KeepsVital := by
  refine fun c s => Kept.of_eq ?_
  dsimp only [cmdSecKeyUpdate]
  refine vital_startOp _ _ _ _ (fun n u => ?_)
  split
  · exact (vital_opFail _ _ _).trans (vital_ite (vital_faultSlot _ _) rfl)
  · simp only [vital_progressTo, vital_setSec]

@[simp] theorem keepsVital_cmdSecSetTamperConfig : cmdSecSetTamperConfig.KeepsVital := by
  refine fun c s => Kept.of_eq ?_
  dsimp only [cmdSecSetTamperConfig]
  split_ifs <;> simp

@[simp] theorem keepsVital_cmdEventRead : cmdEventRead.KeepsVital := by
  refine fun c s => Kept.of_eq ?_
  dsimp -zeta only [cmdEventRead]
  extract_lets
  split
  · rfl
  · rfl

@[simp] theorem keepsVital_cmdClkSetOscStart : cmdClkSetOscStart.KeepsVital := fun _ _ => Kept.refl _

@[simp] theorem keepsVital_cmdModelCommitLoad : cmdModelCommitLoad.KeepsVital := by
  refine fun c s => Kept.of_eq ?_
  dsimp only [cmdModelCommitLoad]
  (repeat' split) <;> simp [↓vital_mk]

@[simp] theorem keepsVital_cmdCanReadObjects : cmdCanReadObjects.KeepsVital := by
  refine fun c s => Kept.of_eq ?_
  exact vital_foldl (fun u o => vital_ite (vital_setCan _ _ _) rfl) _ s

@[simp] theorem keepsVital_cmdOptimiserPutCurves : cmdOptimiserPutCurves.KeepsVital := by
  refine fun c s => Kept.of_eq ?_
  dsimp only [cmdOptimiserPutCurves]
  split <;> simp [↓vital_mk]

@[simp] theorem keepsVital_cmdRtcDiscard : cmdRtcDiscard.KeepsVital := fun _ _ => Kept.refl _

@[simp] theorem keepsVital_cmdSecRearm : cmdSecRearm.KeepsVital := by
  refine fun c s => Kept.of_eq ?_
  dsimp only [cmdSecRearm]
  split_ifs <;> simp

@[simp] theorem keepsVital_cmdAxisClearFault : cmdAxisClearFault.KeepsVital := by
  refine fun c s => Kept.of_eq ?_
  dsimp only [cmdAxisClearFault]
  split_ifs <;> simp

@[simp] theorem keepsVital_cmdIoClearOutput : cmdIoClearOutput.KeepsVital := by
  refine fun c s => Kept.of_eq ?_
  dsimp only [cmdIoClearOutput]
  split_ifs <;> simp

@[simp] theorem keepsVital_cmdSolverWarmStart : cmdSolverWarmStart.KeepsVital := by
  refine fun c s => Kept.of_eq ?_
  dsimp only [cmdSolverWarmStart]
  simp [↓vital_mk]

@[simp] theorem keepsVital_cmdProgramGetInfo : cmdProgramGetInfo.KeepsVital := fun _ _ => Kept.refl _

@[simp] theorem keepsVital_cmdPanelGetKeys : cmdPanelGetKeys.KeepsVital := fun _ _ => Kept.refl _

@[simp] theorem keepsVital_cmdOptimiserGetConfig : cmdOptimiserGetConfig.KeepsVital := fun _ _ => Kept.refl _

@[simp] theorem keepsVital_cmdSystemReleaseOperation : cmdSystemReleaseOperation.KeepsVital := by
  refine fun c s => Kept.of_eq ?_
  dsimp only [cmdSystemReleaseOperation]
  (repeat' split) <;> simp [↓vital_mk]

@[simp] theorem keepsVital_cmdSystemFirmwarePut : cmdSystemFirmwarePut.KeepsVital := by
  refine fun c s => Kept.of_eq ?_
  dsimp only [cmdSystemFirmwarePut]
  (repeat' split) <;> simp [↓vital_mk]

@[simp] theorem keepsVital_cmdThermSetConfig : cmdThermSetConfig.KeepsVital := by
  refine fun c s => Kept.of_eq ?_
  dsimp only [cmdThermSetConfig]
  (repeat' split) <;> simp [↓vital_mk]

@[simp] theorem keepsVital_cmdRtcSetAlarm : cmdRtcSetAlarm.KeepsVital := by
  refine fun c s => Kept.of_eq ?_
  dsimp only [cmdRtcSetAlarm]
  split_ifs <;> simp [↓vital_mk]

@[simp] theorem keepsVital_cmdThermPutGlycol : cmdThermPutGlycol.KeepsVital := by
  refine fun c s => Kept.of_eq ?_
  dsimp only [cmdThermPutGlycol]
  split_ifs <;> simp [↓vital_mk]

@[simp] theorem keepsVital_cmdCaravanGetStatus : cmdCaravanGetStatus.KeepsVital := by
  refine fun c s => Kept.of_eq ?_
  dsimp only [cmdCaravanGetStatus]
  split <;> simp

@[simp] theorem keepsVital_cmdSecSetKeyEpoch : cmdSecSetKeyEpoch.KeepsVital := by
  refine fun c s => Kept.of_eq ?_
  dsimp only [cmdSecSetKeyEpoch]
  generalize hu : setSec _ s = u
  have hitem := vital_replicate 0x16 true (epochItem u) u
  rw [← hu, vital_setSec, hu] at hitem
  split <;> rename_i heq <;> rw [heq] at hitem
  · simpa only [vital_setSec] using hitem
  · exact hitem

@[simp] theorem keepsVital_cmdPanelGetConfig : cmdPanelGetConfig.KeepsVital := fun _ _ => Kept.refl _

@[simp] theorem keepsVital_cmdPortCableTest : cmdPortCableTest.KeepsVital := by
  refine fun c s => Kept.of_eq ?_
  dsimp only [cmdPortCableTest]
  split_ifs <;> simp

@[simp] theorem keepsVital_cmdMbusSetConfig : cmdMbusSetConfig.KeepsVital := by
  refine fun c s => Kept.of_eq ?_
  dsimp only [cmdMbusSetConfig]
  split <;> simp

@[simp] theorem keepsVital_cmdSecEnrolNode : cmdSecEnrolNode.KeepsVital := by
  refine fun c s => Kept.of_eq ?_
  dsimp only [cmdSecEnrolNode]
  have huse := vital_useSlot 1 8 s
  split <;> rename_i heq <;> rw [heq] at huse
  · exact huse
  · simpa using huse

@[simp] theorem keepsVital_cmdAtticClear : cmdAtticClear.KeepsVital := fun _ _ => Kept.refl _

@[simp] theorem keepsVital_cmdIoResetInterlock : cmdIoResetInterlock.KeepsVital := by
  refine fun c s => Kept.of_eq ?_
  dsimp only [cmdIoResetInterlock]
  split_ifs <;> simp [↓vital_mk]

@[simp] theorem keepsVital_cmdAtticGetBlock : cmdAtticGetBlock.KeepsVital := fun _ _ => Kept.refl _

@[simp] theorem keepsVital_cmdThermReadChannels : cmdThermReadChannels.KeepsVital := fun _ _ => Kept.refl _

@[simp] theorem keepsVital_cmdProgramReadVars : cmdProgramReadVars.KeepsVital := by
  refine fun c s => Kept.of_eq ?_
  dsimp only [cmdProgramReadVars]
  split <;> simp

@[simp] theorem keepsVital_cmdModelGetInfo : cmdModelGetInfo.KeepsVital := fun _ _ => Kept.refl _

@[simp] theorem keepsVital_cmdTimeSet : cmdTimeSet.KeepsVital := by
  refine fun c s => Kept.of_eq ?_
  dsimp only [cmdTimeSet]
  split_ifs <;> simp [↓vital_mk]

@[simp] theorem keepsVital_cmdMbusReadRecords : cmdMbusReadRecords.KeepsVital := fun _ _ => Kept.refl _

@[simp] theorem keepsVital_cmdPortGetStatus : cmdPortGetStatus.KeepsVital := fun _ _ => Kept.refl _

@[simp] theorem keepsVital_cmdLoopSetOutput : cmdLoopSetOutput.KeepsVital := by
  refine fun c s => Kept.of_eq ?_
  dsimp only [cmdLoopSetOutput]
  split_ifs <;> simp

@[simp] theorem keepsVital_cmdMbusGetStatus : cmdMbusGetStatus.KeepsVital := fun _ _ => Kept.refl _

@[simp] theorem keepsVital_cmdEventSetTrigger : cmdEventSetTrigger.KeepsVital := fun _ _ => Kept.refl _

@[simp] theorem keepsVital_cmdSecSign : cmdSecSign.KeepsVital := by
  refine fun c s => Kept.of_eq ?_
  dsimp only [cmdSecSign]
  have huse := vital_useSlot (fld c.payload 0 1) 2 s
  split
  · rfl
  · split <;> rename_i heq <;> rw [heq] at huse
    · exact huse
    · exact huse

@[simp] theorem keepsVital_cmdCanDetectRate : cmdCanDetectRate.KeepsVital := by
  refine fun c s => Kept.of_eq ?_
  dsimp only [cmdCanDetectRate]
  split_ifs <;> simp

@[simp] theorem keepsVital_cmdSystemCancelOperation : cmdSystemCancelOperation.KeepsVital := by
  refine fun c s => Kept.of_eq ?_
  dsimp only [cmdSystemCancelOperation]
  (repeat' split) <;> simp

@[simp] theorem keepsVital_cmdCanGetStatus : cmdCanGetStatus.KeepsVital := fun _ _ => Kept.refl _

@[simp] theorem keepsVital_cmdOptimiserSetConfig : cmdOptimiserSetConfig.KeepsVital := by
  refine fun c s => Kept.of_eq ?_
  dsimp only [cmdOptimiserSetConfig]
  split_ifs <;> simp [↓vital_mk]

@[simp] theorem keepsVital_cmdSecOpenDebug : cmdSecOpenDebug.KeepsVital := by
  refine fun c s => Kept.of_eq ?_
  dsimp only [cmdSecOpenDebug]
  split_ifs <;> simp [↓vital_mk]

@[simp] theorem keepsVital_cmdProgramListForces : cmdProgramListForces.KeepsVital := fun _ _ => Kept.refl _

@[simp] theorem keepsVital_cmdSecInstallAuthority : cmdSecInstallAuthority.KeepsVital := fun _ _ => Kept.refl _

@[simp] theorem keepsVital_cmdCaravanAbort : cmdCaravanAbort.KeepsVital := by
  refine fun c s => Kept.of_eq ?_
  dsimp only [cmdCaravanAbort]
  (repeat' split) <;> simp

@[simp] theorem keepsVital_cmdSolverGetConfig : cmdSolverGetConfig.KeepsVital := fun _ _ => Kept.refl _

@[simp] theorem keepsVital_cmdSolverReadState : cmdSolverReadState.KeepsVital := fun _ _ => Kept.refl _

@[simp] theorem keepsVital_cmdMbusTransact : cmdMbusTransact.KeepsVital := by
  refine fun c s => Kept.of_eq ?_
  dsimp only [cmdMbusTransact]
  simp

@[simp] theorem keepsVital_cmdEventFire : cmdEventFire.KeepsVital := by
  refine fun c s => Kept.of_eq ?_
  dsimp only [cmdEventFire]
  split_ifs <;> simp

@[simp] theorem keepsVital_cmdCaravanReadMembers : cmdCaravanReadMembers.KeepsVital := by
  refine fun c s => Kept.of_eq ?_
  dsimp only [cmdCaravanReadMembers]
  (repeat' split) <;> simp

@[simp] theorem keepsVital_cmdThermGetGlycol : cmdThermGetGlycol.KeepsVital := fun _ _ => Kept.refl _

@[simp] theorem keepsVital_cmdCanRecover : cmdCanRecover.KeepsVital := by
  refine fun c s => Kept.of_eq ?_
  dsimp only [cmdCanRecover]
  split_ifs <;> simp

@[simp] theorem keepsVital_cmdTimeGetConfig : cmdTimeGetConfig.KeepsVital := fun _ _ => Kept.refl _

@[simp] theorem keepsVital_cmdOptimiserPutSeries : cmdOptimiserPutSeries.KeepsVital := by
  refine fun c s => Kept.of_eq ?_
  dsimp only [cmdOptimiserPutSeries]
  split <;> simp [↓vital_mk]

@[simp] theorem keepsVital_cmdProgramGetConfig : cmdProgramGetConfig.KeepsVital := fun _ _ => Kept.refl _

@[simp] theorem keepsVital_cmdSecGetCertificate : cmdSecGetCertificate.KeepsVital := fun _ _ => Kept.refl _

@[simp] theorem keepsVital_cmdOptimiserReconcile : cmdOptimiserReconcile.KeepsVital := fun _ _ => Kept.refl _

@[simp] theorem keepsVital_cmdProgramSetForce : cmdProgramSetForce.KeepsVital := by
  refine fun c s => Kept.of_eq ?_
  dsimp only [cmdProgramSetForce]
  (repeat' split) <;> simp [↓vital_mk]

@[simp] theorem keepsVital_cmdIoGetStatus : cmdIoGetStatus.KeepsVital := fun _ _ => Kept.refl _

@[simp] theorem keepsVital_cmdModelReadRows : cmdModelReadRows.KeepsVital := by
  refine fun c s => Kept.of_eq ?_
  dsimp only [cmdModelReadRows]
  split_ifs <;> simp

@[simp] theorem keepsVital_cmdTimeReadCaptures : cmdTimeReadCaptures.KeepsVital := fun _ _ => Kept.refl _

@[simp] theorem keepsVital_cmdSecGetDebugChallenge : cmdSecGetDebugChallenge.KeepsVital := fun _ _ => Kept.refl _

@[simp] theorem keepsVital_cmdOptimiserGetStoreModel : cmdOptimiserGetStoreModel.KeepsVital := by
  refine fun c s => Kept.of_eq ?_
  dsimp only [cmdOptimiserGetStoreModel]
  split_ifs <;> simp

@[simp] theorem keepsVital_cmdTimeSetConfig : cmdTimeSetConfig.KeepsVital := by
  refine fun c s => Kept.of_eq ?_
  dsimp only [cmdTimeSetConfig]
  split_ifs <;> simp [↓vital_mk]

@[simp] theorem keepsVital_cmdCanSetConfig : cmdCanSetConfig.KeepsVital := by
  refine fun c s => Kept.of_eq ?_
  dsimp only [cmdCanSetConfig]
  split_ifs <;> simp

@[simp] theorem keepsVital_cmdModelPutRows : cmdModelPutRows.KeepsVital := by
  refine fun c s => Kept.of_eq ?_
  dsimp only [cmdModelPutRows]
  (repeat' split) <;> simp [↓vital_mk]

@[simp] theorem keepsVital_cmdSecRaiseMinVersion : cmdSecRaiseMinVersion.KeepsVital := by
  refine fun c s => Kept.of_eq ?_
  dsimp only [cmdSecRaiseMinVersion]
  split_ifs <;> simp

@[simp] theorem keepsVital_cmdAtticRead : cmdAtticRead.KeepsVital := by
  refine fun c s => Kept.of_eq ?_
  dsimp only [cmdAtticRead]
  simp [↓vital_mk]

@[simp] theorem keepsVital_cmdCaravanSetConfig : cmdCaravanSetConfig.KeepsVital := by
  refine fun c s => Kept.of_eq ?_
  dsimp only [cmdCaravanSetConfig]
  split_ifs <;> simp [↓vital_mk]

@[simp] theorem keepsVital_cmdEventMark : cmdEventMark.KeepsVital := fun _ _ => Kept.refl _

@[simp] theorem keepsVital_cmdLoopSetMode : cmdLoopSetMode.KeepsVital := by
  refine fun c s => Kept.of_eq ?_
  dsimp only [cmdLoopSetMode]
  split_ifs <;> simp

@[simp] theorem keepsVital_cmdSystemFreeRead : cmdSystemFreeRead.KeepsVital := fun _ _ => Kept.refl _

@[simp] theorem keepsVital_cmdSystemGetState : cmdSystemGetState.KeepsVital := fun _ _ => Kept.refl _

@[simp] theorem keepsVital_cmdLoopReadStatus : cmdLoopReadStatus.KeepsVital := by
  refine fun c s => Kept.of_eq ?_
  exact vital_foldl (fun u n => vital_ite (vital_setLoop _ _ _) rfl) _ s

@[simp] theorem keepsVital_cmdCanSetObjects : cmdCanSetObjects.KeepsVital := by
  refine fun c s => Kept.of_eq ?_
  dsimp only [cmdCanSetObjects]
  split
  · rfl
  · exact vital_foldl (fun u e => vital_setObject _ _ _ _) _ s

@[simp] theorem keepsVital_cmdOptimiserReadPlan : cmdOptimiserReadPlan.KeepsVital := by
  refine fun c s => Kept.of_eq ?_
  dsimp only [cmdOptimiserReadPlan]
  (repeat' split) <;> simp

@[simp] theorem keepsVital_cmdProgramReleaseForce : cmdProgramReleaseForce.KeepsVital := by
  refine fun c s => Kept.of_eq ?_
  dsimp only [cmdProgramReleaseForce]
  split_ifs <;> simp [↓vital_mk]

@[simp] theorem keepsVital_cmdRtcStage : cmdRtcStage.KeepsVital := fun _ _ => Kept.refl _

@[simp] theorem keepsVital_cmdLoopGetConfig : cmdLoopGetConfig.KeepsVital := fun _ _ => Kept.refl _

@[simp] theorem keepsVital_cmdSecAttest : cmdSecAttest.KeepsVital := fun _ _ => Kept.refl _

@[simp] theorem keepsVital_cmdPowerSetConfig : cmdPowerSetConfig.KeepsVital := fun _ _ => Kept.refl _

@[simp] theorem keepsVital_cmdRtcGetTime : cmdRtcGetTime.KeepsVital := fun _ _ => Kept.refl _

@[simp] theorem keepsVital_cmdProgramStep : cmdProgramStep.KeepsVital := fun _ _ => Kept.refl _

@[simp] theorem keepsVital_cmdRtcCommit : cmdRtcCommit.KeepsVital := by
  refine fun c s => Kept.of_eq ?_
  dsimp only [cmdRtcCommit]
  simp

@[simp] theorem keepsVital_cmdCaravanStage : cmdCaravanStage.KeepsVital := by
  refine fun c s => Kept.of_eq ?_
  dsimp -zeta only [cmdCaravanStage]
  extract_lets b es id isSeal answer car held tAct
  have hanswer : ∀ k u, vital (answer k u).1 = vital u := fun k u => vital_ite (vital_sealCar _ _) rfl
  clear_value held tAct answer
  split
  · rfl
  · split
    · rfl
    · split
      · rfl
      · split
        · rfl
        · split
          · split
            · rfl
            · split
              · rfl
              · exact (hanswer _ _).trans (vital_addMembers _ _ _)
          · split
            · rfl
            · rename_i heq
              exact (hanswer _ _).trans ((vital_addMembers _ _ _).trans (vital_openCar heq))

@[simp] theorem keepsVital_cmdIoReadCounters : cmdIoReadCounters.KeepsVital := fun _ _ => Kept.refl _

@[simp] theorem keepsVital_cmdSolverReleaseBinding : cmdSolverReleaseBinding.KeepsVital := by
  refine fun c s => Kept.of_eq ?_
  dsimp only [cmdSolverReleaseBinding]
  split_ifs <;> simp

@[simp] theorem keepsVital_cmdElecReadValues : cmdElecReadValues.KeepsVital := by
  refine fun c s => Kept.of_eq ?_
  dsimp only [cmdElecReadValues]
  split_ifs <;> simp

@[simp] theorem keepsVital_cmdProgramGetStatus : cmdProgramGetStatus.KeepsVital := fun _ _ => Kept.refl _

@[simp] theorem keepsVital_cmdSystemEcho : cmdSystemEcho.KeepsVital := fun _ _ => Kept.refl _

@[simp] theorem keepsVital_cmdAxisSetConfig : cmdAxisSetConfig.KeepsVital := by
  refine fun c s => Kept.of_eq ?_
  dsimp only [cmdAxisSetConfig]
  split_ifs <;> simp

@[simp] theorem keepsVital_cmdIoGetConfig : cmdIoGetConfig.KeepsVital := fun _ _ => Kept.refl _

@[simp] theorem keepsVital_cmdEventGetTrigger : cmdEventGetTrigger.KeepsVital := fun _ _ => Kept.refl _

@[simp] theorem keepsVital_cmdTimeGet : cmdTimeGet.KeepsVital := fun _ _ => Kept.refl _

@[simp] theorem keepsVital_cmdSystemIdentify : cmdSystemIdentify.KeepsVital := fun _ _ => Kept.refl _

@[simp] theorem keepsVital_cmdElecSetConfig : cmdElecSetConfig.KeepsVital := by
  refine fun c s => Kept.of_eq ?_
  dsimp only [cmdElecSetConfig]
  (repeat' split) <;> simp [↓vital_mk]

@[simp] theorem keepsVital_cmdCanGetObjects : cmdCanGetObjects.KeepsVital := fun _ _ => Kept.refl _

@[simp] theorem keepsVital_cmdAtticGetHeader : cmdAtticGetHeader.KeepsVital := fun _ _ => Kept.refl _

@[simp] theorem keepsVital_cmdElecAcknowledgeLoss : cmdElecAcknowledgeLoss.KeepsVital := by
  refine fun c s => Kept.of_eq ?_
  dsimp only [cmdElecAcknowledgeLoss]
  split_ifs <;> simp

@[simp] theorem keepsVital_cmdSolverSetConfig : cmdSolverSetConfig.KeepsVital := by
  refine fun c s => Kept.of_eq ?_
  dsimp only [cmdSolverSetConfig]
  split_ifs <;> simp [↓vital_mk]

@[simp] theorem keepsVital_cmdSecGetTamperConfig : cmdSecGetTamperConfig.KeepsVital := fun _ _ => Kept.refl _

@[simp] theorem keepsVital_cmdRtcGetAlarms : cmdRtcGetAlarms.KeepsVital := fun _ _ => Kept.refl _

@[simp] theorem keepsVital_cmdClkGetOscStart : cmdClkGetOscStart.KeepsVital := fun _ _ => Kept.refl _

@[simp] theorem keepsVital_cmdModelBeginLoad : cmdModelBeginLoad.KeepsVital := by
  refine fun c s => Kept.of_eq ?_
  dsimp only [cmdModelBeginLoad]
  simp [↓vital_mk]

@[simp] theorem keepsVital_cmdSecZeroise : cmdSecZeroise.KeepsVital := by
  refine fun c s => Kept.of_eq ?_
  dsimp only [cmdSecZeroise]
  simp

@[simp] theorem keepsVital_cmdTimeStep : cmdTimeStep.KeepsVital := by
  refine fun c s => Kept.of_eq ?_
  dsimp only [cmdTimeStep]
  simp [↓vital_mk]

@[simp] theorem keepsVital_cmdPowerGetConfig : cmdPowerGetConfig.KeepsVital := fun _ _ => Kept.refl _

@[simp] theorem keepsVital_cmdClkSetGate : cmdClkSetGate.KeepsVital := by
  refine fun c s => Kept.of_eq ?_
  dsimp only [cmdClkSetGate]
  (repeat' split) <;> simp

@[simp] theorem keepsVital_cmdSecCloseDebug : cmdSecCloseDebug.KeepsVital := by
  refine fun c s => Kept.of_eq ?_
  dsimp only [cmdSecCloseDebug]
  simp

@[simp] theorem keepsVital_cmdNetGetConfig : cmdNetGetConfig.KeepsVital := fun _ _ => Kept.refl _

@[simp] theorem keepsVital_cmdSecPutServerChain : cmdSecPutServerChain.KeepsVital := by
  refine fun c s => Kept.of_eq ?_
  dsimp only [cmdSecPutServerChain]
  split_ifs <;> simp

@[simp] theorem keepsVital_cmdPowerGetStatus : cmdPowerGetStatus.KeepsVital := fun _ _ => Kept.refl _

@[simp] theorem keepsVital_cmdAxisMove : cmdAxisMove.KeepsVital := by
  refine fun c s => Kept.of_eq ?_
  dsimp only [cmdAxisMove]
  split_ifs <;> simp

@[simp] theorem keepsVital_cmdProgramPutImage : cmdProgramPutImage.KeepsVital := by
  refine fun c s => Kept.of_eq ?_
  dsimp only [cmdProgramPutImage]
  split_ifs <;> simp [↓vital_mk]

@[simp] theorem keepsVital_cmdFfpGetCounters : cmdFfpGetCounters.KeepsVital := fun _ _ => Kept.refl _

@[simp] theorem keepsVital_cmdElecGetConfig : cmdElecGetConfig.KeepsVital := fun _ _ => Kept.refl _

@[simp] theorem keepsVital_cmdCaravanCommit : cmdCaravanCommit.KeepsVital := by
  refine fun c s => Kept.of_eq ?_
  dsimp only [cmdCaravanCommit]
  (repeat' split) <;> simp

@[simp] theorem keepsVital_cmdSystemFirmwareCommit : cmdSystemFirmwareCommit.KeepsVital := by
  refine fun c s => Kept.of_eq ?_
  dsimp only [cmdSystemFirmwareCommit]
  (repeat' split) <;> simp [↓vital_mk]

@[simp] theorem keepsVital_cmdPowerMeasureHoldup : cmdPowerMeasureHoldup.KeepsVital := by
  refine fun c s => Kept.of_eq ?_
  dsimp only [cmdPowerMeasureHoldup]
  split_ifs <;> simp

@[simp] theorem keepsVital_cmdElecGetStatus : cmdElecGetStatus.KeepsVital := fun _ _ => Kept.refl _

@[simp] theorem keepsVital_cmdOptimiserFitStore : cmdOptimiserFitStore.KeepsVital := by
  refine fun c s => Kept.of_eq ?_
  dsimp only [cmdOptimiserFitStore]
  split_ifs <;> simp [↓vital_mk]

@[simp] theorem keepsVital_cmdSecGetStatus : cmdSecGetStatus.KeepsVital := fun _ _ => Kept.refl _

@[simp] theorem keepsVital_cmdThermGetConfig : cmdThermGetConfig.KeepsVital := fun _ _ => Kept.refl _

@[simp] theorem keepsVital_cmdNodeGetStatus : cmdNodeGetStatus.KeepsVital := fun _ _ => Kept.refl _

@[simp] theorem keepsVital_cmdProgramSetConfig : cmdProgramSetConfig.KeepsVital := fun _ _ => Kept.refl _

@[simp] theorem keepsVital_cmdPanelSetConfig : cmdPanelSetConfig.KeepsVital := fun _ _ => Kept.refl _

@[simp] theorem keepsVital_cmdSecListSlots : cmdSecListSlots.KeepsVital := fun _ _ => Kept.refl _

@[simp] theorem keepsVital_cmdClkSetConfig : cmdClkSetConfig.KeepsVital := by
  refine fun c s => Kept.of_eq ?_
  dsimp only [cmdClkSetConfig]
  split_ifs <;> simp

@[simp] theorem keepsVital_cmdAxisReadStatus : cmdAxisReadStatus.KeepsVital := fun _ _ => Kept.refl _

@[simp] theorem keepsVital_cmdCanSend : cmdCanSend.KeepsVital := by
  refine fun c s => Kept.of_eq ?_
  dsimp only [cmdCanSend]
  split_ifs <;> simp

@[simp] theorem keepsVital_cmdCanGetConfig : cmdCanGetConfig.KeepsVital := fun _ _ => Kept.refl _

@[simp] theorem keepsVital_cmdNetSetConfig : cmdNetSetConfig.KeepsVital := by
  refine fun c s => Kept.of_eq ?_
  dsimp only [cmdNetSetConfig]
  split_ifs <;> simp [↓vital_mk]

@[simp] theorem keepsVital_cmdOptimiserGetStatus : cmdOptimiserGetStatus.KeepsVital := fun _ _ => Kept.refl _

@[simp] theorem keepsVital_cmdAxisSetMode : cmdAxisSetMode.KeepsVital := fun _ _ => Kept.refl _

@[simp] theorem keepsVital_cmdThermGetStatus : cmdThermGetStatus.KeepsVital := fun _ _ => Kept.refl _

@[simp] theorem keepsVital_cmdAxisGetConfig : cmdAxisGetConfig.KeepsVital := fun _ _ => Kept.refl _

@[simp] theorem keepsVital_cmdPanelSetLeds : cmdPanelSetLeds.KeepsVital := by
  refine fun c s => Kept.of_eq ?_
  dsimp only [cmdPanelSetLeds]
  split <;> simp [↓vital_mk]

@[simp] theorem keepsVital_cmdThermAcknowledgeLoss : cmdThermAcknowledgeLoss.KeepsVital := by
  refine fun c s => Kept.of_eq ?_
  dsimp only [cmdThermAcknowledgeLoss]
  split_ifs <;> simp

@[simp] theorem keepsVital_cmdLoopSetConfig : cmdLoopSetConfig.KeepsVital := by
  refine fun c s => Kept.of_eq ?_
  dsimp only [cmdLoopSetConfig]
  split_ifs <;> simp

@[simp] theorem keepsVital_cmdSolverGetStatus : cmdSolverGetStatus.KeepsVital := fun _ _ => Kept.refl _

@[simp] theorem keepsVital_cmdSystemFirmwareBegin : cmdSystemFirmwareBegin.KeepsVital := by
  refine fun c s => Kept.of_eq ?_
  dsimp only [cmdSystemFirmwareBegin]
  simp [↓vital_mk]

@[simp] theorem keepsVital_cmdCaravanGetConfig : cmdCaravanGetConfig.KeepsVital := fun _ _ => Kept.refl _

@[simp] theorem keepsVital_cmdThermReadValues : cmdThermReadValues.KeepsVital := by
  refine fun c s => Kept.of_eq ?_
  dsimp only [cmdThermReadValues]
  split_ifs <;> simp

@[simp] theorem keepsVital_cmdThermReadRegisters : cmdThermReadRegisters.KeepsVital := by
  refine fun c s => Kept.of_eq ?_
  dsimp only [cmdThermReadRegisters]
  split_ifs <;> simp

@[simp] theorem keepsVital_cmdLoopSetSetpoint : cmdLoopSetSetpoint.KeepsVital := by
  refine fun c s => Kept.of_eq ?_
  dsimp only [cmdLoopSetSetpoint]
  split_ifs <;> simp

@[simp] theorem keepsVital_cmdAxisHome : cmdAxisHome.KeepsVital := by
  refine fun c s => Kept.of_eq ?_
  dsimp only [cmdAxisHome]
  split_ifs <;> simp

@[simp] theorem keepsVital_cmdMbusGetConfig : cmdMbusGetConfig.KeepsVital := fun _ _ => Kept.refl _

@[simp] theorem keepsVital_cmdIoSetConfig : cmdIoSetConfig.KeepsVital := by
  refine fun c s => Kept.of_eq ?_
  dsimp only [cmdIoSetConfig]
  (repeat' split) <;> simp [↓vital_mk]

@[simp] theorem keepsVital_cmdEventGetStatus : cmdEventGetStatus.KeepsVital := fun _ _ => Kept.refl _

@[simp] theorem keepsVital_cmdClkGetConfig : cmdClkGetConfig.KeepsVital := fun _ _ => Kept.refl _

@[simp] theorem keepsVital_cmdProgramSetMode : cmdProgramSetMode.KeepsVital := by
  intro c s
  dsimp -zeta only [cmdProgramSetMode]
  extract_lets mode kind done
  split
  · simp only [done]
    exact kept_ite (Kept.refl _) (by simp)
  · split
    · split
      · exact Kept.refl _
      · split
        · exact Kept.refl _
        · simp [done, ↓vital_mk]
    · split
      · exact Kept.refl _
      · split
        · exact Kept.refl _
        · exact kept_runProgram _ (Kept.refl _)

@[simp] theorem keepsVital_cmdPowerSetState (cut : Cut) : (cmdPowerSetState cut).KeepsVital := by
  intro c s
  dsimp -zeta only [cmdPowerSetState]
  extract_lets now t at_ b deaf
  split
  · exact Kept.refl _
  · split
    · split
      · exact Kept.refl _
      · simp
    · split
      · split <;> simp
      · split
        · exact Kept.refl _
        · split
          · exact Kept.refl _
          · exact kept_enterStandby cut (kept_finish _ _ (Kept.refl _))

@[simp] theorem keepsVital_cmdSystemFreeWrite : cmdSystemFreeWrite.KeepsVital :=
  fun _ s => (Kept.refl (vital s)).with_free (fun hf => Memory.wf_write _ _ _ hf)

@[simp] theorem keepsVital_cmdProgramCommitImage : cmdProgramCommitImage.KeepsVital := by
  intro c s
  dsimp -zeta only [cmdProgramCommitImage]
  extract_lets mode img st u r clear
  split
  · exact Kept.refl _
  · split
    · exact Kept.refl _
    · split
      · exact Kept.refl _
      · split
        · exact Kept.refl _
        · split
          · exact Kept.refl _
          · split
            · simp [u, ↓vital_mk]
            · simp only [vital_setProg, vital_mk, vital_eta]
              exact kept_placeImage _ (by simp [u])

end Sys2Proof.Machine
end

section
/-! PROOF. The rows that are no commands keep the queue and what is sound. -/

namespace Sys2Proof.Machine
open Sys2Proof

/-- A step's outcome, where it is a next state, keeps the queue and what is sound. -/
def KeepsOutcome (a : Vital) (o : Host.Outcome State Fault Refusal) : Prop := ∀ t, o = .next t → Kept a (vital t)

theorem KeepsOutcome.next {a : Vital} {t : State} (h : Kept a (vital t)) : KeepsOutcome a (.next t) :=
  fun _ ht => Host.Outcome.next.inj ht ▸ h

theorem KeepsOutcome.next_eq {s t : State} (h : vital t = vital s) : KeepsOutcome (vital s) (.next t) := .next (Kept.of_eq h)

theorem vital_cutDump (h : Bytes) (v : State) :
    vital { v with win := { v.win with atticIncomplete := true }
                   sys := { v.sys with atticHeader := h, dumps := v.sys.dumps + 1, fatalCut := true } } = vital v :=
  (vital_mk ..).trans (vital_eta v)

theorem vital_fatalCode (code : BitVec 32) (v : State) : vital { v with win := { v.win with fatalCode := code } } = vital v :=
  (vital_mk ..).trans (vital_eta v)

theorem vital_fatalAt (v : State) :
    vital { v with win := { v.win with rung := 0, rungAt := [], rungBy := [] }
                   sys := { v.sys with fatalAt := some v.tb.now, fatalCut := false } } = vital v :=
  (vital_mk ..).trans (vital_eta v)

@[simp] theorem keeps_execHeartbeatCount (dt : Nat) (s : State) : KeepsOutcome (vital s) (execHeartbeatCount dt s) := by
  unfold execHeartbeatCount
  refine .next_eq ?_
  split_ifs <;> simp [↓vital_mk]

@[simp] theorem keeps_execDiStuck (dt : Nat) (input : Fin 32) (s : State) : KeepsOutcome (vital s) (execDiStuck dt input s) := by
  refine .next_eq ?_
  split
  · exact vital_advance dt s
  · exact vital_ite ((vital_judgeIlocks _).trans ((vital_ioChange _ _ _ _ (fun u => vital_setDi _ _ u)).trans (vital_advance dt s))) (vital_advance dt s)

@[simp] theorem keeps_execAccessFault (dt : Nat) (s : State) : KeepsOutcome (vital s) (execAccessFault dt s) := by
  unfold execAccessFault
  refine .next_eq ?_
  split_ifs <;> simp

@[simp] theorem keeps_execDriverFault (dt : Nat) (ax : Fin 8) (fault : DriverFault) (present : Bool) (s : State) :
    KeepsOutcome (vital s) (execDriverFault dt ax fault present s) := by
  unfold execDriverFault
  refine .next_eq ?_
  split_ifs <;> simp

@[simp] theorem keeps_execFwTimeout (dt : Nat) (s : State) : KeepsOutcome (vital s) (execFwTimeout dt s) := by
  unfold execFwTimeout
  refine .next_eq ?_
  (repeat' split) <;> simp

@[simp] theorem keeps_execLoopReplicationTimer (dt : Nat) (s : State) : KeepsOutcome (vital s) (execLoopReplicationTimer dt s) := by
  unfold execLoopReplicationTimer
  refine .next_eq ?_
  dsimp only
  split_ifs <;> simp [↓vital_mk]

@[simp] theorem keeps_execWriteAck (dt : Nat) (frame : FfpFrame) (s : State) : KeepsOutcome (vital s) (execWriteAck dt frame s) := by
  unfold execWriteAck
  refine .next_eq ?_
  simp

@[simp] theorem keeps_execPpsOutEdge (dt : Nat) (s : State) : KeepsOutcome (vital s) (execPpsOutEdge dt s) := by
  unfold execPpsOutEdge
  refine .next_eq ?_
  dsimp only
  split_ifs <;> simp [↓vital_mk]

@[simp] theorem keeps_execAxisMotionEnd (dt : Nat) (ax : Fin 8) (s : State) : KeepsOutcome (vital s) (execAxisMotionEnd dt ax s) := by
  unfold execAxisMotionEnd
  refine .next_eq ?_
  simp

@[simp] theorem keeps_execStoreFitComplete (dt : Nat) (result : FitResult) (s : State) :
    KeepsOutcome (vital s) (execStoreFitComplete dt result s) := by
  unfold execStoreFitComplete
  refine .next_eq ?_
  dsimp only
  (repeat' split) <;> simp [↓vital_mk]

@[simp] theorem keeps_execRecordRing (dt : Nat) (path : Path) (h : RecordHead) (s : State) :
    KeepsOutcome (vital s) (execRecordRing dt path h s) := by
  refine .next_eq (vital_ite (vital_advance dt s) ?_)
  have hu : vital (touchTls path (advance dt s)) = vital s := (vital_touchTls _ _).trans (vital_advance dt s)
  generalize touchTls path (advance dt s) = u at hu ⊢
  refine vital_ite ((vital_badRecord _ _ _ _).trans hu) (vital_ite ?_ (vital_ite ?_ ?_))
  · exact (vital_send _ _).trans ((vital_accessFault _ _ _ _).trans hu)
  · exact (vital_send _ _).trans ((vital_ringBusy _).trans hu)
  · exact (vital_send _ _).trans ((vital_ring _ _ _).trans hu)

@[simp] theorem keeps_execChatterWindowEnd (dt : Nat) (input : Fin 32) (s : State) :
    KeepsOutcome (vital s) (execChatterWindowEnd dt input s) := by
  refine .next_eq (vital_ite ?_ (vital_advance dt s))
  exact (vital_judgeIlocks _).trans ((vital_ioChange _ _ _ _ (fun u => vital_setDi _ _ u)).trans (vital_advance dt s))

@[simp] theorem keeps_execUsbAttach (dt : Nat) (cc2 : Bool) (held : Nat) (s : State) :
    KeepsOutcome (vital s) (execUsbAttach dt cc2 held s) := by
  unfold execUsbAttach
  refine .next_eq ?_
  dsimp only
  split_ifs <;> simp [↓vital_mk]

@[simp] theorem keeps_execGovernorStepExit (dt : Nat) (mv : Nat) (held : Nat) (s : State) :
    KeepsOutcome (vital s) (execGovernorStepExit dt mv held s) := by
  unfold execGovernorStepExit
  refine .next_eq ?_
  split_ifs <;> simp

@[simp] theorem keeps_execRoleWaitTimeout (dt : Nat) (s : State) : KeepsOutcome (vital s) (execRoleWaitTimeout dt s) := by
  unfold execRoleWaitTimeout
  refine .next_eq ?_
  split_ifs <;> simp

@[simp] theorem keeps_execDoOverload (dt : Nat) (output : Fin 24) (hot : Bool) (s : State) :
    KeepsOutcome (vital s) (execDoOverload dt output hot s) := by
  refine .next_eq (vital_ite (vital_advance dt s) ?_)
  exact (vital_ioChange _ _ _ _ (fun u => vital_setDout _ _ u)).trans (vital_advance dt s)

@[simp] theorem keeps_execModelState (dt : Nat) (head : TwinHead) (data : Bytes) (s : State) :
    KeepsOutcome (vital s) (execModelState dt head data s) := by
  refine .next_eq ?_
  have hrx := (vital_receiveTwin head (advance dt s)).trans (vital_advance dt s)
  split <;> rename_i heq <;> rw [heq] at hrx
  · exact hrx
  · exact vital_ite hrx ((vital_takeModelState _ _).trans hrx)

@[simp] theorem keeps_execHelloTimer (dt : Nat) (s : State) : KeepsOutcome (vital s) (execHelloTimer dt s) := by
  unfold execHelloTimer
  refine .next_eq ?_
  split_ifs <;> simp

@[simp] theorem keeps_execLimitSwitch (dt : Nat) (ax : Fin 8) (high : Bool) (s : State) :
    KeepsOutcome (vital s) (execLimitSwitch dt ax high s) := by
  unfold execLimitSwitch
  refine .next_eq ?_
  simp

@[simp] theorem keeps_execWtrRevert (dt : Nat) (s : State) : KeepsOutcome (vital s) (execWtrRevert dt s) := by
  unfold execWtrRevert
  refine .next_eq ?_
  dsimp only
  (repeat' split) <;> simp

@[simp] theorem keeps_execPlanAgeLimit (dt : Nat) (s : State) : KeepsOutcome (vital s) (execPlanAgeLimit dt s) := by
  unfold execPlanAgeLimit
  refine .next_eq ?_
  (repeat' split) <;> simp

@[simp] theorem keeps_execDoorbell (dt : Nat) (mask : BitVec 32) (s : State) : KeepsOutcome (vital s) (execDoorbell dt mask s) := by
  unfold execDoorbell
  refine .next_eq ?_
  split_ifs <;> simp [↓vital_mk]

@[simp] theorem keeps_execBusReading (dt : Nat) (input : Nat) (value : Nat) (s : State) :
    KeepsOutcome (vital s) (execBusReading dt input value s) := by
  unfold execBusReading
  refine .next_eq ?_
  (repeat' split) <;> simp [↓vital_mk]

@[simp] theorem keeps_execHoldDelay (dt : Nat) (ax : Fin 8) (s : State) : KeepsOutcome (vital s) (execHoldDelay dt ax s) := by
  unfold execHoldDelay
  refine .next_eq ?_
  split_ifs <;> simp

@[simp] theorem keeps_execTamperSourceClear (dt : Nat) (source : Fin 10) (s : State) :
    KeepsOutcome (vital s) (execTamperSourceClear dt source s) := by
  unfold execTamperSourceClear
  refine .next_eq ?_
  split_ifs <;> simp

@[simp] theorem keeps_execBusTimeout (dt : Nat) (input : Nat) (s : State) : KeepsOutcome (vital s) (execBusTimeout dt input s) := by
  unfold execBusTimeout
  refine .next_eq ?_
  split_ifs <;> simp [↓vital_mk]

@[simp] theorem keeps_execHello (dt : Nat) (data : Bytes) (s : State) : KeepsOutcome (vital s) (execHello dt data s) := by
  unfold execHello
  refine .next_eq ?_
  split_ifs <;> simp

@[simp] theorem keeps_execDetectDwell (dt : Nat) (bus : Fin 4) (s : State) : KeepsOutcome (vital s) (execDetectDwell dt bus s) := by
  unfold execDetectDwell
  refine .next_eq ?_
  (repeat' split) <;> simp

@[simp] theorem keeps_execQuarantineExpiry (dt : Nat) (binding : Nat) (s : State) :
    KeepsOutcome (vital s) (execQuarantineExpiry dt binding s) := by
  unfold execQuarantineExpiry
  refine .next_eq ?_
  (repeat' split) <;> simp

@[simp] theorem keeps_execModelValidationComplete (dt : Nat) (s : State) : KeepsOutcome (vital s) (execModelValidationComplete dt s) := by
  unfold execModelValidationComplete
  refine .next_eq ?_
  (repeat' split) <;> simp [↓vital_mk]

@[simp] theorem keeps_execLoopSample (dt : Nat) (s : State) : KeepsOutcome (vital s) (execLoopSample dt s) := by
  unfold execLoopSample
  refine .next_eq ?_
  simp

@[simp] theorem keeps_execAnnounceTimer (dt : Nat) (s : State) : KeepsOutcome (vital s) (execAnnounceTimer dt s) := by
  unfold execAnnounceTimer
  refine .next_eq ?_
  split_ifs <;> simp

@[simp] theorem keeps_execPeriodicSave (dt : Nat) (cut : Cut) (s : State) : KeepsOutcome (vital s) (execPeriodicSave dt cut s) := by
  unfold execPeriodicSave
  refine .next_eq ?_
  split_ifs <;> simp [↓vital_mk]

@[simp] theorem keeps_execBusOffRecovery (dt : Nat) (bus : Fin 4) (s : State) : KeepsOutcome (vital s) (execBusOffRecovery dt bus s) := by
  unfold execBusOffRecovery
  refine .next_eq ?_
  split_ifs <;> simp

@[simp] theorem keeps_execCalUpdate (dt : Nat) (error : Int) (s : State) : KeepsOutcome (vital s) (execCalUpdate dt error s) := by
  unfold execCalUpdate
  refine .next_eq ?_
  (repeat' split) <;> simp [↓vital_mk]

@[simp] theorem keeps_execReport (dt : Nat) (frame : FfpFrame) (s : State) : KeepsOutcome (vital s) (execReport dt frame s) := by
  unfold execReport
  refine .next_eq ?_
  simp

@[simp] theorem keeps_execReadTargetStatus (dt : Nat) (s : State) : KeepsOutcome (vital s) (execReadTargetStatus dt s) := by
  refine .next_eq (vital_ite ?_ (vital_advance dt s))
  refine (vital_send _ { advance dt s with win := _ }).trans ?_
  simp only [vital_mk, vital_eta, vital_advance]

@[simp] theorem keeps_execPortLinkChange (dt : Nat) (port : Fin 11) (link : PortLink) (s : State) :
    KeepsOutcome (vital s) (execPortLinkChange dt port link s) := by
  unfold execPortLinkChange
  refine .next_eq ?_
  dsimp only
  split_ifs <;> simp

@[simp] theorem keeps_execOverlapEnd (dt : Nat) (s : State) : KeepsOutcome (vital s) (execOverlapEnd dt s) := by
  unfold execOverlapEnd
  refine .next_eq ?_
  (repeat' split) <;> simp

@[simp] theorem keeps_execTrialConfirm (dt : Nat) (s : State) : KeepsOutcome (vital s) (execTrialConfirm dt s) := by
  unfold execTrialConfirm
  refine .next_eq ?_
  (repeat' split) <;> simp

@[simp] theorem keeps_execModelActivationPassed (dt : Nat) (s : State) : KeepsOutcome (vital s) (execModelActivationPassed dt s) := by
  unfold execModelActivationPassed
  refine .next_eq ?_
  (repeat' split) <;> simp

@[simp] theorem keeps_execAtticReadoutComplete (dt : Nat) (bad : List Nat) (s : State) :
    KeepsOutcome (vital s) (execAtticReadoutComplete dt bad s) := by
  unfold execAtticReadoutComplete
  refine .next_eq ?_
  split <;> simp [↓vital_mk]

@[simp] theorem keeps_execCaravanRetry (dt : Nat) (caravan : Nat) (s : State) : KeepsOutcome (vital s) (execCaravanRetry dt caravan s) := by
  unfold execCaravanRetry
  refine .next_eq ?_
  (repeat' split) <;> simp [↓vital_mk]

@[simp] theorem keeps_execHoldLimit (dt : Nat) (s : State) : KeepsOutcome (vital s) (execHoldLimit dt s) := by
  unfold execHoldLimit
  refine .next_eq ?_
  (repeat' split) <;> simp

@[simp] theorem keeps_execRtcSync (dt : Nat) (s : State) : KeepsOutcome (vital s) (execRtcSync dt s) := by
  unfold execRtcSync
  refine .next_eq ?_
  split_ifs <;> simp [↓vital_mk]

@[simp] theorem keeps_execOasisHoldEnd (dt : Nat) (s : State) : KeepsOutcome (vital s) (execOasisHoldEnd dt s) := by
  unfold execOasisHoldEnd
  refine .next_eq ?_
  split_ifs <;> simp [↓vital_mk]

@[simp] theorem keeps_execStandstillRecord (dt : Nat) (ax : Fin 8) (s : State) : KeepsOutcome (vital s) (execStandstillRecord dt ax s) := by
  unfold execStandstillRecord
  refine .next_eq ?_
  split_ifs <;> simp

@[simp] theorem keeps_execFlowPulse (dt : Nat) (input : Nat) (width : Nat) (s : State) :
    KeepsOutcome (vital s) (execFlowPulse dt input width s) := by
  unfold execFlowPulse
  refine .next_eq ?_
  split_ifs <;> simp [↓vital_mk]

@[simp] theorem keeps_execBootFailure (dt : Nat) (cause : Fin 5) (s : State) : KeepsOutcome (vital s) (execBootFailure dt cause s) := by
  unfold execBootFailure
  refine .next_eq ?_
  split_ifs <;> simp

@[simp] theorem keeps_execActivationInstant (dt : Nat) (s : State) : KeepsOutcome (vital s) (execActivationInstant dt s) := by
  unfold execActivationInstant
  refine .next_eq ?_
  simp

@[simp] theorem keeps_execWriteRetry (dt : Nat) (writeId : Nat) (s : State) : KeepsOutcome (vital s) (execWriteRetry dt writeId s) := by
  unfold execWriteRetry
  refine .next_eq ?_
  (repeat' split) <;> simp [↓vital_mk]

@[simp] theorem keeps_execTaskWatchdog (dt : Nat) (task_ : Fin 4) (s : State) : KeepsOutcome (vital s) (execTaskWatchdog dt task_ s) := by
  unfold execTaskWatchdog
  refine .next_eq ?_
  (repeat' split) <;> simp

@[simp] theorem keeps_execSolveComplete (dt : Nat) (result : SolveResult) (s : State) :
    KeepsOutcome (vital s) (execSolveComplete dt result s) := by
  unfold execSolveComplete
  refine .next_eq ?_
  dsimp only
  (repeat' split) <;> simp [↓vital_mk]

@[simp] theorem keeps_execPpsInEdge (dt : Nat) (s : State) : KeepsOutcome (vital s) (execPpsInEdge dt s) := by
  unfold execPpsInEdge
  refine .next_eq ?_
  dsimp only
  (repeat' split) <;> simp [↓vital_mk]

@[simp] theorem keeps_execCanFrameReceived (dt : Nat) (bus : Fin 4) (frame : CanRx) (sof : Nat) (reading : CanReading) (s : State) :
    KeepsOutcome (vital s) (execCanFrameReceived dt bus frame sof reading s) := by
  unfold execCanFrameReceived
  refine .next_eq ?_
  split_ifs <;> simp

@[simp] theorem keeps_execBlockReinsert (dt : Nat) (blk : Fin 16) (s : State) : KeepsOutcome (vital s) (execBlockReinsert dt blk s) := by
  unfold execBlockReinsert
  refine .next_eq ?_
  simp

@[simp] theorem keeps_execVinOvervoltage (dt : Nat) (vin : Nat) (s : State) : KeepsOutcome (vital s) (execVinOvervoltage dt vin s) := by
  unfold execVinOvervoltage
  refine .next_eq ?_
  split_ifs <;> simp

@[simp] theorem keeps_execZcReturned (dt : Nat) (channel : Nat) (s : State) : KeepsOutcome (vital s) (execZcReturned dt channel s) := by
  refine .next_eq (vital_ite (vital_advance dt s) ?_)
  refine (vital_foldl (fun u g => vital_ite ((vital_emit _ _ _).trans (vital_setFeed _ _ u)) rfl) _ _).trans ?_
  simp only [vital_emit, vital_mk, vital_eta, vital_advance]

@[simp] theorem keeps_execT1lSyncTransmit (dt : Nat) (s : State) : KeepsOutcome (vital s) (execT1lSyncTransmit dt s) := by
  unfold execT1lSyncTransmit
  refine .next_eq ?_
  dsimp only
  split_ifs <;> simp [↓vital_mk]

@[simp] theorem keeps_execDiOutOfBand (dt : Nat) (input : Fin 32) (mv : Int) (vdo : Int) (held : Nat) (s : State) :
    KeepsOutcome (vital s) (execDiOutOfBand dt input mv vdo held s) := by
  unfold execDiOutOfBand
  refine .next_eq ?_
  split_ifs <;> simp

@[simp] theorem keeps_execKeyMeasurement (dt : Nat) (signals : List Int) (s : State) :
    KeepsOutcome (vital s) (execKeyMeasurement dt signals s) := by
  refine .next_eq (vital_ite (vital_advance dt s) ?_)
  extract_lets cfg on raw before p1 u1 u2 touched covered fresh p3 u3 u4 u5 p6
  have h2 : vital u2 = vital s := (vital_foldl (fun u n => vital_setKey _ _ u) _ _).trans (by simp only [u1, p1, vital_mk, vital_eta, vital_advance])
  have h3 : vital u3 = vital s := vital_ite (by simpa only [vital_emit, vital_mk, vital_eta] using h2) h2
  have h4 : vital u4 = vital s := vital_ite ((vital_foldl (fun u n => vital_setKey _ _ u) _ _).trans h3) h3
  have h5 : vital u5 = vital s := (vital_foldl (fun u n => vital_judgeTouch _ _ _ u) _ _).trans h4
  exact vital_ite (by simpa only [vital_mk, vital_eta] using h5) h5

@[simp] theorem keeps_execTaskOutput (dt : Nat) (task_ : Fin 5) (s : State) : KeepsOutcome (vital s) (execTaskOutput dt task_ s) := by
  unfold execTaskOutput
  refine .next_eq ?_
  split_ifs <;> simp

@[simp] theorem keeps_execAlarm (dt : Nat) (index : Nat) (s : State) : KeepsOutcome (vital s) (execAlarm dt index s) := by
  unfold execAlarm
  refine .next_eq ?_
  split_ifs <;> simp

@[simp] theorem keeps_execEpochInstant (dt : Nat) (s : State) : KeepsOutcome (vital s) (execEpochInstant dt s) := by
  unfold execEpochInstant
  refine .next_eq ?_
  dsimp only
  (repeat' split) <;> simp [↓vital_mk]

@[simp] theorem keeps_execAoutFault (dt : Nat) (output : Fin 8) (current : Int) (pad : Int) (held : Nat) (s : State) :
    KeepsOutcome (vital s) (execAoutFault dt output current pad held s) := by
  unfold execAoutFault
  refine .next_eq ?_
  split_ifs <;> simp [↓vital_mk]

@[simp] theorem keeps_execWarmStartComplete (dt : Nat) (result : WarmResult) (s : State) :
    KeepsOutcome (vital s) (execWarmStartComplete dt result s) := by
  unfold execWarmStartComplete
  refine .next_eq ?_
  dsimp only
  (repeat' split) <;> simp [↓vital_mk]

@[simp] theorem keeps_execSourceTrip (dt : Nat) (source : Fin 8) (trip : ClockTrip) (s : State) :
    KeepsOutcome (vital s) (execSourceTrip dt source trip s) := by
  unfold execSourceTrip
  refine .next_eq ?_
  (repeat' split) <;> simp

@[simp] theorem keeps_execBusOff (dt : Nat) (bus : Fin 4) (s : State) : KeepsOutcome (vital s) (execBusOff dt bus s) := by
  unfold execBusOff
  refine .next_eq ?_
  split_ifs <;> simp

@[simp] theorem keeps_execTwinAckTimeout (dt : Nat) (s : State) : KeepsOutcome (vital s) (execTwinAckTimeout dt s) := by
  unfold execTwinAckTimeout
  refine .next_eq ?_
  (repeat' split) <;> simp [vital_foldl]

@[simp] theorem keeps_execStepBoundary (dt : Nat) (s : State) : KeepsOutcome (vital s) (execStepBoundary dt s) := by
  unfold execStepBoundary
  refine .next_eq ?_
  dsimp only
  split_ifs <;> simp [↓vital_mk]

@[simp] theorem keeps_execBlockRemovalWindow (dt : Nat) (blk : Fin 16) (s : State) :
    KeepsOutcome (vital s) (execBlockRemovalWindow dt blk s) := by
  unfold execBlockRemovalWindow
  refine .next_eq ?_
  simp

@[simp] theorem keeps_execDecisionAck (dt : Nat) (frame : FfpFrame) (s : State) : KeepsOutcome (vital s) (execDecisionAck dt frame s) := by
  unfold execDecisionAck
  refine .next_eq ?_
  simp

@[simp] theorem keeps_execUplinkLoss (dt : Nat) (s : State) : KeepsOutcome (vital s) (execUplinkLoss dt s) := by
  unfold execUplinkLoss
  refine .next_eq ?_
  split_ifs <;> simp

@[simp] theorem keeps_execFreezeTimeout (dt : Nat) (s : State) : KeepsOutcome (vital s) (execFreezeTimeout dt s) := by
  unfold execFreezeTimeout
  refine .next_eq ?_
  rfl

@[simp] theorem keeps_execGovernorStepEntry (dt : Nat) (mv : Nat) (s : State) : KeepsOutcome (vital s) (execGovernorStepEntry dt mv s) := by
  unfold execGovernorStepEntry
  refine .next_eq ?_
  dsimp only
  split_ifs <;> simp

@[simp] theorem keeps_execTeEvent (dt : Nat) (index : Nat) (caravan : Nat) (s : State) :
    KeepsOutcome (vital s) (execTeEvent dt index caravan s) := by
  unfold execTeEvent
  refine .next_eq ?_
  (repeat' split) <;> simp

@[simp] theorem keeps_execNak (dt : Nat) (frame : FfpFrame) (s : State) : KeepsOutcome (vital s) (execNak dt frame s) := by
  unfold execNak
  refine .next_eq ?_
  simp [↓vital_mk]

@[simp] theorem keeps_execSourceQualified (dt : Nat) (source : Fin 8) (offset : Int) (stopped : Bool) (s : State) :
    KeepsOutcome (vital s) (execSourceQualified dt source offset stopped s) := by
  unfold execSourceQualified
  refine .next_eq ?_
  split_ifs <;> simp

@[simp] theorem keeps_execMboxAssign (dt : Nat) (hi : Bool) (v : BitVec 32) (s : State) :
    KeepsOutcome (vital s) (execMboxAssign dt hi v s) := by
  unfold execMboxAssign
  refine .next_eq ?_
  split_ifs <;> simp

@[simp] theorem keeps_execZcTimeout (dt : Nat) (channel : Nat) (s : State) : KeepsOutcome (vital s) (execZcTimeout dt channel s) := by
  refine .next_eq ?_
  split
  · exact vital_advance dt s
  · refine vital_ite (vital_advance dt s) ?_
    refine (vital_foldl (fun u g => vital_ite ((vital_emit _ _ _).trans (vital_setFeed _ _ u)) (vital_ite (vital_setFeed _ _ u) rfl)) _ _).trans ?_
    simp only [vital_emit, vital_mk, vital_eta, vital_advance]

@[simp] theorem keeps_execLineCycleEnd (dt : Nat) (feed : Nat) (data : FeedData) (cut : Cut) (s : State) :
    KeepsOutcome (vital s) (execLineCycleEnd dt feed data cut s) := by
  unfold execLineCycleEnd
  refine .next_eq ?_
  split_ifs <;> simp

@[simp] theorem keeps_execSupplyRestored (dt : Nat) (vmot : Bool) (mv : Nat) (s : State) :
    KeepsOutcome (vital s) (execSupplyRestored dt vmot mv s) := by
  refine .next_eq (vital_ite (vital_advance dt s) (vital_ite (vital_ite (vital_advance dt s) ?_) ?_))
  · refine (vital_foldl (fun u n => vital_setAxis _ _ u) _ _).trans ?_
    simp only [vital_emit, vital_setPow, vital_advance]
  · refine (vital_resolveAll _).trans (vital_ite ?_ ?_) <;> simp only [vital_emit, vital_setPow, vital_advance]

@[simp] theorem keeps_execPllLocked (dt : Nat) (s : State) : KeepsOutcome (vital s) (execPllLocked dt s) := by
  unfold execPllLocked
  refine .next_eq ?_
  split_ifs <;> simp

@[simp] theorem keeps_execDoRetry (dt : Nat) (output : Fin 24) (s : State) : KeepsOutcome (vital s) (execDoRetry dt output s) := by
  unfold execDoRetry
  refine .next_eq ?_
  (repeat' split) <;> simp

@[simp] theorem keeps_execTwinHeartbeatTimer (dt : Nat) (s : State) : KeepsOutcome (vital s) (execTwinHeartbeatTimer dt s) := by
  unfold execTwinHeartbeatTimer
  refine .next_eq ?_
  split_ifs <;> simp

@[simp] theorem keeps_execCanFrameTransmitted (dt : Nat) (bus : Fin 4) (ev : CanTxEvent) (s : State) :
    KeepsOutcome (vital s) (execCanFrameTransmitted dt bus ev s) := by
  unfold execCanFrameTransmitted
  refine .next_eq ?_
  (repeat' split) <;> simp

@[simp] theorem keeps_execTlsSessionEnd (dt : Nat) (session : Nat) (s : State) :
    KeepsOutcome (vital s) (execTlsSessionEnd dt session s) := by
  unfold execTlsSessionEnd
  refine .next_eq ?_
  simp

@[simp] theorem keeps_execPrpSupervision (dt : Nat) (s : State) : KeepsOutcome (vital s) (execPrpSupervision dt s) := by
  unfold execPrpSupervision
  refine .next_eq ?_
  split_ifs <;> simp [↓vital_mk]

@[simp] theorem keeps_execLedFault (dt : Nat) (led : Fin 8) (current : Nat) (forward : Nat) (s : State) :
    KeepsOutcome (vital s) (execLedFault dt led current forward s) := by
  unfold execLedFault
  refine .next_eq ?_
  split_ifs <;> simp [↓vital_mk]

@[simp] theorem keeps_execQuery (dt : Nat) (frame : FfpFrame) (s : State) : KeepsOutcome (vital s) (execQuery dt frame s) := by
  unfold execQuery
  refine .next_eq ?_
  simp

@[simp] theorem keeps_execStallCheck (dt : Nat) (samples : List EncSample) (s : State) :
    KeepsOutcome (vital s) (execStallCheck dt samples s) := by
  unfold execStallCheck
  refine .next_eq ?_
  (repeat' split) <;> simp [↓vital_mk, vital_foldl]

@[simp] theorem keeps_execEnergy (dt : Nat) (head : TwinHead) (data : Bytes) (s : State) :
    KeepsOutcome (vital s) (execEnergy dt head data s) := by
  unfold execEnergy
  refine .next_eq ?_
  simp

@[simp] theorem keeps_execRecordRead (dt : Nat) (path : Path) (h : RecordHead) (s : State) :
    KeepsOutcome (vital s) (execRecordRead dt path h s) := by
  refine .next_eq (vital_ite (vital_advance dt s) ?_)
  have hu : vital (touchTls path (advance dt s)) = vital s := (vital_touchTls _ _).trans (vital_advance dt s)
  generalize touchTls path (advance dt s) = u at hu ⊢
  refine vital_ite ((vital_badRecord _ _ _ _).trans hu) (vital_ite ?_ ?_)
  · exact (vital_send _ _).trans ((vital_accessFault _ _ _ _).trans hu)
  · exact (vital_clearReadFault _ _ _).trans ((vital_send _ _).trans hu)

@[simp] theorem keeps_execNodeSilence (dt : Nat) (node : Nat) (s : State) : KeepsOutcome (vital s) (execNodeSilence dt node s) := by
  unfold execNodeSilence
  refine .next_eq ?_
  split_ifs <;> simp [↓vital_mk]

@[simp] theorem keeps_execTlsHandshake (dt : Nat) (offer : TlsOffer) (s : State) :
    KeepsOutcome (vital s) (execTlsHandshake dt offer s) := by
  unfold execTlsHandshake
  refine .next_eq ?_
  (repeat' split) <;> simp [↓vital_mk]

@[simp] theorem keeps_execSourceRetry (dt : Nat) (s : State) : KeepsOutcome (vital s) (execSourceRetry dt s) := by
  unfold execSourceRetry
  refine .next_eq ?_
  (repeat' split) <;> simp [vital_foldl]

@[simp] theorem keeps_execAinWindow (dt : Nat) (input : Fin 16) (mean : Int) (moved : Bool) (s : State) :
    KeepsOutcome (vital s) (execAinWindow dt input mean moved s) := by
  unfold execAinWindow
  refine .next_eq ?_
  split_ifs <;> simp [↓vital_mk]

@[simp] theorem keeps_execPeriodicWake (dt : Nat) (s : State) : KeepsOutcome (vital s) (execPeriodicWake dt s) := by
  unfold execPeriodicWake
  refine .next_eq ?_
  split_ifs <;> simp [↓vital_mk]

@[simp] theorem keeps_execHoldReady (dt : Nat) (hold : Nat) (s : State) : KeepsOutcome (vital s) (execHoldReady dt hold s) := by
  unfold execHoldReady
  refine .next_eq ?_
  split_ifs <;> simp

@[simp] theorem keeps_execRingWrite (dt : Nat) (s : State) : KeepsOutcome (vital s) (execRingWrite dt s) := by
  unfold execRingWrite
  refine .next_eq ?_
  (repeat' split) <;> simp

@[simp] theorem keeps_execPtpMessage (dt : Nat) (port : Nat) (domain : Nat) (msg : PtpMsg) (s : State) :
    KeepsOutcome (vital s) (execPtpMessage dt port domain msg s) := by
  unfold execPtpMessage
  refine .next_eq ?_
  dsimp only
  (repeat' split) <;> simp [↓vital_mk]

@[simp] theorem keeps_execOrphanInstant (dt : Nat) (caravan : Nat) (s : State) :
    KeepsOutcome (vital s) (execOrphanInstant dt caravan s) := by
  unfold execOrphanInstant
  refine .next_eq ?_
  simp

@[simp] theorem keeps_execStageDeadline (dt : Nat) (caravan : Nat) (s : State) :
    KeepsOutcome (vital s) (execStageDeadline dt caravan s) := by
  unfold execStageDeadline
  refine .next_eq ?_
  (repeat' split) <;> simp

@[simp] theorem keeps_execQspiUnknownOpcode (dt : Nat) (opcode : BitVec 8) (s : State) :
    KeepsOutcome (vital s) (execQspiUnknownOpcode dt opcode s) := by
  unfold execQspiUnknownOpcode
  refine .next_eq ?_
  split_ifs <;> simp [↓vital_mk]

@[simp] theorem keeps_execTlsIdleTimeout (dt : Nat) (session : Nat) (s : State) :
    KeepsOutcome (vital s) (execTlsIdleTimeout dt session s) := by
  unfold execTlsIdleTimeout
  refine .next_eq ?_
  (repeat' split) <;> simp

@[simp] theorem keeps_execUsbDetach (dt : Nat) (held : Nat) (s : State) : KeepsOutcome (vital s) (execUsbDetach dt held s) := by
  unfold execUsbDetach
  refine .next_eq ?_
  dsimp only
  split_ifs <;> simp [↓vital_mk]

@[simp] theorem keeps_execUsbStable (dt : Nat) (s : State) : KeepsOutcome (vital s) (execUsbStable dt s) := by
  unfold execUsbStable
  refine .next_eq ?_
  (repeat' split) <;> simp [↓vital_mk]

@[simp] theorem keeps_execFatalError (dt : Nat) (source : Fin 8) (unit : BitVec 8) (detail : BitVec 16) (s : State) :
    KeepsOutcome (vital s) (execFatalError dt source unit detail s) := by
  unfold execFatalError
  have hu : vital (advance dt s) = vital s := vital_advance dt s
  generalize advance dt s = u at hu ⊢
  rw [← hu]
  refine .next_eq (vital_ite rfl (vital_ite ?_ ?_))
  · exact (vital_cutDump _ _).trans (vital_fatalCode _ u)
  · simp only [vital_resign, vital_abortAll, vital_abandonReplan, vital_abandonSolve]
    exact (vital_fatalAt _).trans ((vital_raise 10 _).trans ((vital_setModState _ _).trans (vital_fatalCode _ u)))

@[simp] theorem keeps_execLoadTimeout (dt : Nat) (s : State) : KeepsOutcome (vital s) (execLoadTimeout dt s) := by
  unfold execLoadTimeout
  refine .next_eq ?_
  (repeat' split) <;> simp

@[simp] theorem keeps_execEstimationDeadline (dt : Nat) (s : State) : KeepsOutcome (vital s) (execEstimationDeadline dt s) := by
  unfold execEstimationDeadline
  refine .next_eq ?_
  (repeat' split) <;> simp [↓vital_mk]

@[simp] theorem keeps_execNewtonDeadline (dt : Nat) (s : State) : KeepsOutcome (vital s) (execNewtonDeadline dt s) := by
  unfold execNewtonDeadline
  refine .next_eq ?_
  (repeat' split) <;> simp [↓vital_mk]

@[simp] theorem keeps_execScratchUncorrectable (dt : Nat) (inSolve : Bool) (s : State) :
    KeepsOutcome (vital s) (execScratchUncorrectable dt inSolve s) := by
  unfold execScratchUncorrectable
  refine .next_eq ?_
  split_ifs <;> simp [↓vital_mk]

@[simp] theorem keeps_execReplanInstant (dt : Nat) (s : State) : KeepsOutcome (vital s) (execReplanInstant dt s) := by
  unfold execReplanInstant
  refine .next_eq ?_
  dsimp only
  (repeat' split) <;> simp [↓vital_mk]

@[simp] theorem keeps_execReplanDeadline (dt : Nat) (result : ReplanResult) (s : State) :
    KeepsOutcome (vital s) (execReplanDeadline dt result s) := by
  unfold execReplanDeadline
  refine .next_eq ?_
  (repeat' split) <;> simp

@[simp] theorem keeps_execReplanComplete (dt : Nat) (result : ReplanResult) (s : State) :
    KeepsOutcome (vital s) (execReplanComplete dt result s) := by
  unfold execReplanComplete
  refine .next_eq ?_
  split_ifs <;> simp

@[simp] theorem keeps_execCaravanAck (dt : Nat) (frame : FfpFrame) (s : State) : KeepsOutcome (vital s) (execCaravanAck dt frame s) := by
  unfold execCaravanAck
  refine .next_eq ?_
  simp

@[simp] theorem keeps_execConfirmWindowEnd (dt : Nat) (caravan : Nat) (s : State) :
    KeepsOutcome (vital s) (execConfirmWindowEnd dt caravan s) := by
  unfold execConfirmWindowEnd
  refine .next_eq ?_
  (repeat' split) <;> simp

@[simp] theorem keeps_execTelemetry (dt : Nat) (frame : FfpFrame) (s : State) : KeepsOutcome (vital s) (execTelemetry dt frame s) := by
  unfold execTelemetry
  refine .next_eq ?_
  simp

@[simp] theorem keeps_execSync (dt : Nat) (uplink : Nat) (domain : Nat) (t1 : Nat) (s : State) :
    KeepsOutcome (vital s) (execSync dt uplink domain t1 s) := by
  unfold execSync
  refine .next_eq ?_
  dsimp only
  split_ifs <;> simp [↓vital_mk]

@[simp] theorem keeps_execSyncTimeout (dt : Nat) (announce : Bool) (s : State) :
    KeepsOutcome (vital s) (execSyncTimeout dt announce s) := by
  unfold execSyncTimeout
  refine .next_eq ?_
  dsimp only
  split_ifs <;> simp [↓vital_mk]

@[simp] theorem keeps_execHoldoverLimit (dt : Nat) (s : State) : KeepsOutcome (vital s) (execHoldoverLimit dt s) := by
  unfold execHoldoverLimit
  refine .next_eq ?_
  (repeat' split) <;> simp [↓vital_mk]

@[simp] theorem keeps_execResign (dt : Nat) (head : TwinHead) (s : State) : KeepsOutcome (vital s) (execResign dt head s) := by
  refine .next_eq ?_
  have hrx := (vital_receiveTwin head (advance dt s)).trans (vital_advance dt s)
  split <;> rename_i heq <;> rw [heq] at hrx
  · exact hrx
  · exact vital_ite hrx ((vital_setTwin _ _).trans ((vital_twinLoss _ _).trans hrx))

@[simp] theorem keeps_execJournal (dt : Nat) (head : TwinHead) (data : Bytes) (s : State) :
    KeepsOutcome (vital s) (execJournal dt head data s) := by
  unfold execJournal
  refine .next_eq ?_
  simp

@[simp] theorem keeps_execPlan (dt : Nat) (head : TwinHead) (data : Bytes) (s : State) :
    KeepsOutcome (vital s) (execPlan dt head data s) := by
  exact .next_eq ((vital_takeItem _ _ _ _ (fun u => vital_takePlan data u)).trans (vital_advance dt s))

@[simp] theorem keeps_execModelTables (dt : Nat) (head : TwinHead) (data : Bytes) (s : State) :
    KeepsOutcome (vital s) (execModelTables dt head data s) := by
  unfold execModelTables
  refine .next_eq ?_
  split_ifs <;> simp

@[simp] theorem keeps_execKeyEpoch (dt : Nat) (head : TwinHead) (data : Bytes) (s : State) :
    KeepsOutcome (vital s) (execKeyEpoch dt head data s) := by
  exact .next_eq ((vital_takeItem _ _ _ _ (fun u => vital_storeEpoch data u)).trans (vital_advance dt s))

@[simp] theorem keeps_execTwinRetry (dt : Nat) (s : State) : KeepsOutcome (vital s) (execTwinRetry dt s) := by
  unfold execTwinRetry
  refine .next_eq ?_
  (repeat' split) <;> simp

@[simp] theorem keeps_execTimerCycleEnd (dt : Nat) (feed : Nat) (data : FeedData) (cut : Cut) (s : State) :
    KeepsOutcome (vital s) (execTimerCycleEnd dt feed data cut s) := by
  unfold execTimerCycleEnd
  refine .next_eq ?_
  split_ifs <;> simp

@[simp] theorem keeps_execThermalStep (dt : Nat) (data : ThermData) (cut : Cut) (s : State) :
    KeepsOutcome (vital s) (execThermalStep dt data cut s) := by
  unfold execThermalStep
  refine .next_eq ?_
  (repeat' split) <;> simp [↓vital_mk]

@[simp] theorem keeps_execTrap (dt : Nat) (task_ : Fin 5) (code : TrapCode) (inst : Nat) (off : Nat) (s : State) :
    KeepsOutcome (vital s) (execTrap dt task_ code inst off s) := by
  unfold execTrap
  refine .next_eq ?_
  split_ifs <;> simp [↓vital_mk]

@[simp] theorem keeps_execHwTimer (dt : Nat) (timer : Fin 64) (s : State) : KeepsOutcome (vital s) (execHwTimer dt timer s) := by
  unfold execHwTimer
  refine .next_eq ?_
  dsimp only
  (repeat' split) <;> simp [↓vital_mk, vital_foldl]

@[simp] theorem keeps_execEncError (dt : Nat) (ax : Fin 8) (what : EncEvent) (s : State) :
    KeepsOutcome (vital s) (execEncError dt ax what s) := by
  unfold execEncError
  refine .next_eq ?_
  (repeat' split) <;> simp

@[simp] theorem keeps_execCanPeriodicSend (dt : Nat) (s : State) : KeepsOutcome (vital s) (execCanPeriodicSend dt s) := by
  refine .next_eq ((vital_foldl (fun u b => vital_ite rfl ?_) _ _).trans (vital_advance dt s))
  exact vital_foldl (fun v o => vital_takePeriod b o v) _ u

@[simp] theorem keeps_execCanTransceiverFault (dt : Nat) (bus : Fin 4) (fault : Fin 4) (present : Bool) (s : State) :
    KeepsOutcome (vital s) (execCanTransceiverFault dt bus fault present s) := by
  unfold execCanTransceiverFault
  refine .next_eq ?_
  split_ifs <;> simp

@[simp] theorem keeps_execDetectTimeout (dt : Nat) (bus : Fin 4) (s : State) : KeepsOutcome (vital s) (execDetectTimeout dt bus s) := by
  unfold execDetectTimeout
  refine .next_eq ?_
  (repeat' split) <;> simp

@[simp] theorem keeps_execMbusPowerRetry (dt : Nat) (s : State) : KeepsOutcome (vital s) (execMbusPowerRetry dt s) := by
  unfold execMbusPowerRetry
  refine .next_eq ?_
  split_ifs <;> simp

@[simp] theorem keeps_execDiLevelAccepted (dt : Nat) (input : Fin 32) (mv : Int) (vdo : Int) (held : Nat) (s : State) :
    KeepsOutcome (vital s) (execDiLevelAccepted dt input mv vdo held s) := by
  unfold execDiLevelAccepted
  refine .next_eq ?_
  (repeat' split) <;> simp

@[simp] theorem keeps_execDoOpenTest (dt : Nat) (output : Fin 24) (current : Int) (before : Int) (during : Int) (s : State) :
    KeepsOutcome (vital s) (execDoOpenTest dt output current before during s) := by
  refine .next_eq (vital_ite (vital_advance dt s) ?_)
  exact (vital_ioChange _ _ _ _ (fun u => vital_setDout _ _ u)).trans (vital_advance dt s)

@[simp] theorem keeps_execLeap (dt : Nat) (s : State) : KeepsOutcome (vital s) (execLeap dt s) := by
  unfold execLeap
  refine .next_eq ?_
  split_ifs <;> simp [↓vital_mk]

@[simp] theorem keeps_execOscStopped (dt : Nat) (s : State) : KeepsOutcome (vital s) (execOscStopped dt s) := by
  unfold execOscStopped
  refine .next_eq ?_
  split_ifs <;> simp [↓vital_mk]

@[simp] theorem keeps_execVbatLow (dt : Nat) (low : Bool) (s : State) : KeepsOutcome (vital s) (execVbatLow dt low s) := by
  unfold execVbatLow
  refine .next_eq ?_
  split_ifs <;> simp [↓vital_mk]

@[simp] theorem keeps_execTamperDetected (dt : Nat) (source : Fin 10) (s : State) :
    KeepsOutcome (vital s) (execTamperDetected dt source s) := by
  unfold execTamperDetected
  refine .next_eq ?_
  split_ifs <;> simp

@[simp] theorem keeps_execKeyUpdateCommit (dt : Nat) (s : State) : KeepsOutcome (vital s) (execKeyUpdateCommit dt s) := by
  unfold execKeyUpdateCommit
  refine .next_eq ?_
  dsimp only
  (repeat' split) <;> simp

@[simp] theorem keeps_execKeyEpochSwitch (dt : Nat) (s : State) : KeepsOutcome (vital s) (execKeyEpochSwitch dt s) := by
  unfold execKeyEpochSwitch
  refine .next_eq ?_
  (repeat' split) <;> simp

@[simp] theorem keeps_execDebugExpiry (dt : Nat) (s : State) : KeepsOutcome (vital s) (execDebugExpiry dt s) := by
  unfold execDebugExpiry
  refine .next_eq ?_
  split_ifs <;> simp

@[simp] theorem keeps_execQualificationLimit (dt : Nat) (s : State) : KeepsOutcome (vital s) (execQualificationLimit dt s) := by
  unfold execQualificationLimit
  refine .next_eq ?_
  (repeat' split) <;> simp [vital_foldl]

@[simp] theorem keeps_execVdoLow (dt : Nat) (mv : Nat) (held : Nat) (s : State) : KeepsOutcome (vital s) (execVdoLow dt mv held s) := by
  unfold execVdoLow
  refine .next_eq ?_
  split_ifs <;> simp

@[simp] theorem keeps_execVmotLow (dt : Nat) (mv : Nat) (s : State) : KeepsOutcome (vital s) (execVmotLow dt mv s) := by
  unfold execVmotLow
  refine .next_eq ?_
  (repeat' split) <;> simp [vital_foldl]

@[simp] theorem keeps_execHoldMeasurement (dt : Nat) (hold : Nat) (s : State) : KeepsOutcome (vital s) (execHoldMeasurement dt hold s) := by
  unfold execHoldMeasurement
  refine .next_eq ?_
  split_ifs <;> simp

@[simp] theorem keeps_execPciePerst (dt : Nat) (s : State) : KeepsOutcome (vital s) (execPciePerst dt s) := by
  unfold execPciePerst
  refine .next_eq ?_
  split_ifs <;> simp [↓vital_mk]

@[simp] theorem keeps_execCanBusError (dt : Nat) (bus : Fin 4) (err : CanError) (s : State) :
    KeepsOutcome (vital s) (execCanBusError dt bus err s) := by
  unfold execCanBusError
  refine .next_eq ?_
  dsimp only
  split_ifs <;> simp

theorem kept_advance (dt : Nat) (s : State) : Kept (vital s) (vital (advance dt s)) := Kept.of_eq (vital_advance dt s)

@[simp] theorem keeps_execTaskExecutionEnd (dt : Nat) (task_ : Fin 5) (fx : TaskEffects) (s : State) :
    KeepsOutcome (vital s) (execTaskExecutionEnd dt task_ fx s) := by
  unfold execTaskExecutionEnd
  have hu := kept_advance dt s
  generalize advance dt s = u at hu ⊢
  refine .next (kept_ite hu ?_)
  rw [vital_foldl (fun v e => vital_armTimer v e), vital_setTask]
  exact hu.with_progMem (fun hm _ => wf_foldl_write _ _ _ hm)

@[simp] theorem keeps_execUnpairedStandbyTimeout (dt : Nat) (cut : Cut) (s : State) :
    KeepsOutcome (vital s) (execUnpairedStandbyTimeout dt cut s) :=
  .next (kept_ite (kept_takeOver cut (by simpa only [vital_setSec] using kept_advance dt s)) (kept_advance dt s))

@[simp] theorem keeps_execInterruptBlockWrite (dt off : Nat) (v : BitVec 32) (s : State) :
    KeepsOutcome (vital s) (execInterruptBlockWrite dt off v s) :=
  .next (kept_ite (kept_writeIrqBlock off v (kept_advance dt s)) (kept_advance dt s))

@[simp] theorem keeps_execVinPresent (dt vin held : Nat) (facts : StartFacts) (s : State) :
    KeepsOutcome (vital s) (execVinPresent dt vin held facts s) := by
  unfold execVinPresent
  have hu := kept_advance dt s
  generalize advance dt s = u at hu ⊢
  refine .next (kept_ite hu ?_)
  extract_lets v w
  have hv : Kept (vital s) (vital v) := kept_ite (by simpa only [vital_emit] using hu) hu
  have hw : Kept (vital s) (vital w) := by simpa only [w, vital_setPow] using hv
  exact kept_ite (kept_startUp facts (kept_powerOn .powerOn hw)) (kept_ite (kept_startUp facts hw) hw)

@[simp] theorem keeps_execMbusReplyTimeout (dt : Nat) (s : State) : KeepsOutcome (vital s) (execMbusReplyTimeout dt s) := by
  unfold execMbusReplyTimeout
  have hu := kept_advance dt s
  generalize advance dt s = u at hu ⊢
  refine .next ?_
  split
  · exact kept_ite hu (kept_ite (by simpa only [vital_nkeDone] using hu) (by simpa only [vital_attemptFailed] using hu))
  · exact kept_ite (kept_transactDone _ hu) hu
  · exact hu

@[simp] theorem keeps_execTakeover (dt : Nat) (cut : Cut) (s : State) : KeepsOutcome (vital s) (execTakeover dt cut s) := by
  unfold execTakeover
  have hu := kept_advance dt s
  generalize advance dt s = u at hu ⊢
  refine .next ?_
  split
  · exact hu
  · exact kept_ite hu (kept_ite (kept_becomeUnpaired hu) (kept_takeOver cut hu))

theorem kept_receiveTwin {a : Vital} {s t : State} {h : TwinHead} {b : Bool} (hs : Kept a (vital s)) (hrx : receiveTwin h s = (t, b)) :
    Kept a (vital t) := by
  have heq := vital_receiveTwin h s
  rw [hrx] at heq
  exact heq ▸ hs

@[simp] theorem keeps_execTwinAck (dt : Nat) (head : TwinHead) (data : Bytes) (s : State) :
    KeepsOutcome (vital s) (execTwinAck dt head data s) := by
  refine .next ?_
  split <;> rename_i heq <;> have hu := kept_receiveTwin (kept_advance dt s) heq
  · exact hu
  · refine kept_ite hu (kept_ite (kept_itemDurable _ hu) ?_)
    split
    · exact kept_ite (by simpa only [vital_loadFail] using kept_itemDurable _ hu) (kept_standbyLost hu)
    · exact kept_standbyLost hu

@[simp] theorem keeps_execPlantStart (dt : Nat) (s : State) : KeepsOutcome (vital s) (execPlantStart dt s) := by
  unfold execPlantStart
  have hu := kept_advance dt s
  generalize advance dt s = u at hu ⊢
  refine .next ?_
  split
  · exact hu
  · refine kept_ite hu ?_
    rw [vital_reachReady]
    exact kept_ite hu (kept_startPlant hu)

theorem kept_takeItem {a : Vital} {s : State} (type : Nat) (h : TwinHead) {apply : State → State}
    (happly : ∀ u, Kept a (vital u) → Kept a (vital (apply u))) (hs : Kept a (vital s)) : Kept a (vital (takeItem type h apply s)) := by
  unfold takeItem
  split <;> rename_i heq <;> have hu := kept_receiveTwin hs heq
  · exact hu
  · refine kept_ite hu (kept_ite (by simpa only [vital_ackItem] using hu) ?_)
    simpa only [vital_ackItem, vital_mk, vital_eta] using happly _ hu

@[simp] theorem keeps_execRetained (dt : Nat) (head : TwinHead) (data : Bytes) (s : State) :
    KeepsOutcome (vital s) (execRetained dt head data s) :=
  .next (kept_ite (by simpa only [vital_refuseItem] using kept_advance dt s)
    (kept_takeItem _ _ (fun _ hu => kept_storeRetained data hu) (kept_advance dt s)))

@[simp] theorem keeps_execLastGaspComplete (dt : Nat) (cut : Cut) (micros bytes : Nat) (s : State) :
    KeepsOutcome (vital s) (execLastGaspComplete dt cut micros bytes s) := by
  have hu := kept_advance dt s
  have hv : Kept (vital s) (vital (if (advance dt s).boot.restored then lastGasp cut (advance dt s) else advance dt s)) := kept_ite (kept_lastGasp cut hu) hu
  exact .next (kept_ite hu (kept_ite (kept_holdReset .pin hv) (by simpa only [vital_setPow] using hv)))

@[simp] theorem keeps_execRoleResolution (dt : Nat) (lock : Bool) (s : State) : KeepsOutcome (vital s) (execRoleResolution dt lock s) := by
  unfold execRoleResolution
  have hu := kept_advance dt s
  generalize advance dt s = u at hu ⊢
  extract_lets wait
  have hwait : Kept (vital s) (vital wait) := by simpa only [wait, vital_setTwin] using hu
  have hsingle : Kept (vital s) (vital (becomeSingle u)) := by simpa only [vital_becomeSingle] using hu
  refine .next (kept_ite hu (kept_ite hsingle (kept_ite (kept_ite (kept_becomeUnpaired hu) (kept_ite hwait hsingle)) (kept_ite ?_ (kept_ite hwait hsingle)))))
  simpa only [vital_beginHandshake, vital_setTwin] using hu

@[simp] theorem keeps_execChangeTimeout (dt : Nat) (s : State) : KeepsOutcome (vital s) (execChangeTimeout dt s) := by
  unfold execChangeTimeout
  have hu := kept_advance dt s
  generalize advance dt s = u at hu ⊢
  refine .next ?_
  split
  · exact hu
  · exact kept_ite hu (kept_finish _ _ (by simpa only [vital_setProg, vital_mk, vital_eta] using hu))

@[simp] theorem keeps_execKeeperRestart (dt : Nat) (facts : StartFacts) (s : State) :
    KeepsOutcome (vital s) (execKeeperRestart dt facts s) := by
  unfold execKeeperRestart
  have hu := kept_advance dt s
  generalize advance dt s = u at hu ⊢
  refine .next ?_
  split
  · exact hu
  · refine kept_ite hu (kept_ite (kept_endTrial (by simpa only [vital_writeDump, vital_mk, vital_eta] using hu)) ?_)
    have hr := kept_restartKeeper facts (s := writeDump u) (by simpa only [vital_writeDump] using hu)
    generalize restartKeeper facts (writeDump u) = r at hr ⊢
    dsimp only
    split
    · simpa only [vital_setBoot] using hr
    · simpa only [vital_setBoot, vital_setModState, vital_runImage] using hr

@[simp] theorem keeps_execHoldMeasurementEnd (dt hold : Nat) (s : State) : KeepsOutcome (vital s) (execHoldMeasurementEnd dt hold s) := by
  unfold execHoldMeasurementEnd
  have hu := kept_advance dt s
  generalize advance dt s = u at hu ⊢
  refine .next (kept_ite hu ?_)
  extract_lets f c e weak was wait v w
  have hv : Kept (vital s) (vital v) := by simpa only [v, vital_setPow] using hu
  have hw : Kept (vital s) (vital w) := kept_ite hv (by simpa only [vital_emit] using hv)
  clear_value wait
  cases wait with
  | none => exact hw
  | some k => exact kept_finish _ _ hw

@[simp] theorem keeps_execMbusReply (dt : Nat) (reply : MbusReply) (s : State) : KeepsOutcome (vital s) (execMbusReply dt reply s) := by
  unfold execMbusReply
  have hu := kept_advance dt s
  generalize advance dt s = u at hu ⊢
  refine .next (kept_ite (kept_ite (by simpa only [vital_storeReply] using hu) hu) (kept_ite hu ?_))
  split
  · simpa only [vital_exchangeReply] using hu
  · exact kept_ite hu (kept_transactDone _ hu)
  · exact hu

@[simp] theorem keeps_execRetainedRecordDurable (dt : Nat) (s : State) : KeepsOutcome (vital s) (execRetainedRecordDurable dt s) := by
  unfold execRetainedRecordDurable
  have hu := kept_advance dt s
  generalize advance dt s = u at hu ⊢
  refine .next (kept_ite hu ?_)
  rw [vital_replicate]
  exact hu.with_retained (fun hr => wf_foldl_write _ _ _ hr)

@[simp] theorem keeps_execCoreUndervoltage (dt mv held : Nat) (s : State) : KeepsOutcome (vital s) (execCoreUndervoltage dt mv held s) := by
  unfold execCoreUndervoltage
  have hu := kept_advance dt s
  generalize advance dt s = u at hu ⊢
  refine .next (kept_ite hu (kept_ite (by simpa only [vital_setPow] using hu) (kept_holdReset .coreUv ?_)))
  rw [vital_setPow]
  exact kept_ite (by simpa only [vital_tamperResponse, vital_setSec] using hu) hu

theorem Kept.of_vital {a b c : Vital} (h : Kept a b) (hc : c = b) : Kept a c := hc ▸ h

@[simp] theorem keeps_execHelloReply (dt : Nat) (data : Bytes) (s : State) : KeepsOutcome (vital s) (execHelloReply dt data s) := by
  unfold execHelloReply
  have hu := kept_advance dt s
  generalize advance dt s = u at hu ⊢
  refine .next (kept_ite hu ?_)
  extract_lets mine win mism v src sys w x
  have hv : Kept (vital s) (vital v) := by simpa only [v, vital_setTwin] using hu
  have hw : Kept (vital s) (vital w) := kept_ite (kept_letGo (by simpa only [vital_mk, sys, src, vital_eta, vital_abortAll] using hv)) hv
  exact kept_ite (kept_refuseJoin _ _ hw) (by simpa only [vital_sendTwin, x, vital_setTwin] using hw)

@[simp] theorem keeps_execRegisterWrite (dt addr : Nat) (data : Bytes) (s : State) :
    KeepsOutcome (vital s) (execRegisterWrite dt addr data s) := by
  unfold execRegisterWrite
  extract_lets u
  split
  · rintro t ⟨⟩
  · exact .next (kept_ite (kept_hostWrite _ _ (kept_advance dt s)) (kept_advance dt s))

@[simp] theorem keeps_execHostControl (dt : Nat) (v : BitVec 32) (s : State) : KeepsOutcome (vital s) (execHostControl dt v s) :=
  .next (kept_ite (kept_writeHostControl v (kept_advance dt s)) (kept_advance dt s))

@[simp] theorem keeps_execQspiWordCut (dt addr : Nat) (part : Bytes) (s : State) :
    KeepsOutcome (vital s) (execQspiWordCut dt addr part s) := by
  unfold execQspiWordCut
  have hu := kept_advance dt s
  generalize advance dt s = u at hu ⊢
  refine .next (kept_ite ?_ hu)
  extract_lets win w win'
  have hw : Kept (vital s) (vital w) := by simpa only [w, win, vital_mk, vital_eta] using hu
  exact kept_ite (by simpa only [vital_mk, win', vital_eta] using hw) (kept_writeBytes _ _ hw)

@[simp] theorem keeps_execRecordWrite (dt : Nat) (path : Path) (h : RecordHead) (data : Bytes) (s : State) :
    KeepsOutcome (vital s) (execRecordWrite dt path h data s) := by
  unfold execRecordWrite
  have hu := (kept_advance dt s).of_vital (vital_touchTls path _)
  refine .next (kept_ite (kept_advance dt s) ?_)
  generalize touchTls path (advance dt s) = u at hu ⊢
  refine kept_ite (hu.of_vital (vital_badRecord _ _ _ u)) (kept_ite ?_ ?_)
  · exact hu.of_vital ((vital_send _ _).trans (vital_accessFault _ _ _ _))
  · split
    · exact hu.of_vital ((vital_send _ _).trans (vital_accessFault _ _ _ _))
    · exact (hu.with_mem (fun hm => Memory.wf_write _ _ _ hm)).of_vital (vital_send _ _)

theorem keepsVital_busesCommands : ∀ cmd ∈ busesCommands, cmd.KeepsVital := by
  simp only [busesCommands, List.forall_mem_cons]
  simp

theorem keepsVital_caravanCommands : ∀ cmd ∈ caravanCommands, cmd.KeepsVital := by
  simp only [caravanCommands, List.forall_mem_cons]
  simp

theorem keepsVital_clocksCommands : ∀ cmd ∈ clocksCommands, cmd.KeepsVital := by
  simp only [clocksCommands, List.forall_mem_cons]
  simp

theorem keepsVital_elecCommands : ∀ cmd ∈ elecCommands, cmd.KeepsVital := by
  simp only [elecCommands, List.forall_mem_cons]
  simp

theorem keepsVital_ioCommands : ∀ cmd ∈ ioCommands, cmd.KeepsVital := by
  simp only [ioCommands, List.forall_mem_cons]
  simp

theorem keepsVital_loopsCommands : ∀ cmd ∈ loopsCommands, cmd.KeepsVital := by
  simp only [loopsCommands, List.forall_mem_cons]
  simp

theorem keepsVital_mbusCommands : ∀ cmd ∈ mbusCommands, cmd.KeepsVital := by
  simp only [mbusCommands, List.forall_mem_cons]
  simp

theorem keepsVital_modelCommands : ∀ cmd ∈ modelCommands, cmd.KeepsVital := by
  simp only [modelCommands, List.forall_mem_cons]
  simp

theorem keepsVital_motionCommands : ∀ cmd ∈ motionCommands, cmd.KeepsVital := by
  simp only [motionCommands, List.forall_mem_cons]
  simp

theorem keepsVital_netCommands : ∀ cmd ∈ netCommands, cmd.KeepsVital := by
  simp only [netCommands, List.forall_mem_cons]
  simp

theorem keepsVital_optimiserCommands : ∀ cmd ∈ optimiserCommands, cmd.KeepsVital := by
  simp only [optimiserCommands, List.forall_mem_cons]
  simp

theorem keepsVital_powerCommands (cut : Cut) : ∀ cmd ∈ powerCommands cut, cmd.KeepsVital := by
  simp only [powerCommands, List.forall_mem_cons]
  simp

theorem keepsVital_programCmdCommands : ∀ cmd ∈ programCmdCommands, cmd.KeepsVital := by
  simp only [programCmdCommands, List.forall_mem_cons]
  simp

theorem keepsVital_recorderCommands : ∀ cmd ∈ recorderCommands, cmd.KeepsVital := by
  simp only [recorderCommands, List.forall_mem_cons]
  simp

theorem keepsVital_securityCommands : ∀ cmd ∈ securityCommands, cmd.KeepsVital := by
  simp only [securityCommands, List.forall_mem_cons]
  simp

theorem keepsVital_solverCommands : ∀ cmd ∈ solverCommands, cmd.KeepsVital := by
  simp only [solverCommands, List.forall_mem_cons]
  simp

theorem keepsVital_systemCommands : ∀ cmd ∈ systemCommands, cmd.KeepsVital := by
  simp only [systemCommands, List.forall_mem_cons]
  simp

theorem keepsVital_thermCommands : ∀ cmd ∈ thermCommands, cmd.KeepsVital := by
  simp only [thermCommands, List.forall_mem_cons]
  simp

theorem keepsVital_timeCommands : ∀ cmd ∈ timeCommands, cmd.KeepsVital := by
  simp only [timeCommands, List.forall_mem_cons]
  simp

theorem keepsVital_of_mem_allCommands (cut : Cut) : ∀ cmd ∈ allCommands cut, cmd.KeepsVital := by
  simp only [allCommands, List.forall_mem_append]
  exact ⟨⟨⟨⟨⟨⟨⟨⟨⟨⟨⟨⟨⟨⟨⟨⟨⟨⟨keepsVital_busesCommands, keepsVital_caravanCommands⟩, keepsVital_clocksCommands⟩, keepsVital_elecCommands⟩, keepsVital_ioCommands⟩, keepsVital_loopsCommands⟩, keepsVital_mbusCommands⟩, keepsVital_modelCommands⟩, keepsVital_motionCommands⟩, keepsVital_netCommands⟩, keepsVital_optimiserCommands⟩, keepsVital_powerCommands cut⟩, keepsVital_programCmdCommands⟩, keepsVital_recorderCommands⟩, keepsVital_securityCommands⟩, keepsVital_solverCommands⟩, keepsVital_systemCommands⟩, keepsVital_thermCommands⟩, keepsVital_timeCommands⟩

@[simp] theorem keeps_execMailboxTake (dt : Nat) (cut : Cut) (s : State) : KeepsOutcome (vital s) (execMailboxTake dt cut s) := by
  unfold execMailboxTake
  have hu := kept_advance dt s
  generalize advance dt s = u at hu ⊢
  refine .next (kept_ite hu ?_)
  split
  · exact hu
  · refine kept_serve (fun cmd hcmd => keepsVital_of_mem_allCommands cut cmd (List.mem_of_find?_eq_some hcmd)) _ _ _ _ ?_
    simpa only [vital_countLate] using hu

@[simp] theorem keeps_execFwVerifyComplete (dt : Nat) (intact : Bool) (s : State) :
    KeepsOutcome (vital s) (execFwVerifyComplete dt intact s) := by
  unfold execFwVerifyComplete
  have hu := kept_advance dt s
  generalize advance dt s = u at hu ⊢
  refine .next ?_
  split
  · exact hu
  · split
    · exact hu
    · refine kept_ite (by simpa only [vital_opFail, vital_dropOp] using hu) ?_
      extract_lets v w y
      have hy : Kept (vital s) (vital y) := by
        simpa only [y, w, v, vital_opDone, vital_dropOp, vital_progressTo, vital_setBoot] using hu
      exact kept_ite (kept_requestPin hy) hy

@[simp] theorem keeps_execResignRelease (dt : Nat) (s : State) : KeepsOutcome (vital s) (execResignRelease dt s) := by
  unfold execResignRelease
  have hu := kept_advance dt s
  generalize advance dt s = u at hu ⊢
  refine .next ?_
  split
  · exact hu
  · exact kept_ite hu (kept_mbusFollow (by simpa only [vital_outputsOff, vital_mk, vital_eta] using hu))

@[simp] theorem keeps_execDecisionDurable (dt caravan : Nat) (s : State) : KeepsOutcome (vital s) (execDecisionDurable dt caravan s) := by
  unfold execDecisionDurable
  have hu := kept_advance dt s
  generalize advance dt s = u at hu ⊢
  refine .next ?_
  split
  · exact hu
  · exact kept_ite (kept_settleDecision _ (by simpa only [vital_keepCar] using hu)) hu

@[simp] theorem keeps_execAnnounce (dt : Nat) (frame : FfpFrame) (s : State) : KeepsOutcome (vital s) (execAnnounce dt frame s) := by
  have hrx := (vital_receiveFfp frame (advance dt s)).trans (vital_advance dt s)
  unfold execAnnounce onFrame
  refine .next ?_
  split <;> rename_i heq <;> rw [heq] at hrx <;> have hu := Kept.of_eq hrx
  · exact hu
  · split
    · exact kept_ite (kept_hearActive _ hu) hu
    · split
      · simpa only [vital_sendNak] using hu
      · exact kept_ite (kept_hearActive _ hu) hu

@[simp] theorem keeps_execHeartbeat (dt : Nat) (head : TwinHead) (data : Bytes) (s : State) :
    KeepsOutcome (vital s) (execHeartbeat dt head data s) := by
  refine .next ?_
  split <;> rename_i heq <;> have hu := kept_receiveTwin (kept_advance dt s) heq
  · exact hu
  · extract_lets v w
    have hv : Kept (vital s) (vital v) := by simpa only [v, vital_setTwin] using hu
    have hw : Kept (vital s) (vital w) := by simpa only [w, vital_followActive] using hv
    refine kept_ite hv (kept_ite hw ?_)
    rw [vital_emit]
    exact kept_becomeStandby (by simpa only [vital_setTwin] using hw)

@[simp] theorem keeps_execTwinSilence (dt : Nat) (s : State) : KeepsOutcome (vital s) (execTwinSilence dt s) := by
  unfold execTwinSilence
  have hu := kept_advance dt s
  generalize advance dt s = u at hu ⊢
  refine .next (kept_ite hu (kept_ite (kept_releaseWaiters ?_) (kept_ite (kept_standbyLost hu) ?_)))
  · simpa only [vital_setTwin, vital_dropLink] using hu
  · simpa only [vital_setTwin, vital_twinLoss] using hu

@[simp] theorem keeps_execHelloConfirm (dt : Nat) (head : TwinHead) (data : Bytes) (s : State) :
    KeepsOutcome (vital s) (execHelloConfirm dt head data s) := by
  unfold execHelloConfirm
  have hu := kept_advance dt s
  generalize advance dt s = u at hu ⊢
  refine .next ?_
  split
  · exact hu
  · refine kept_ite hu (kept_ite (kept_refuseJoin _ _ (by simpa only [vital_setTwin] using hu)) (kept_ite (kept_refuseJoin _ _ hu) ?_))
    extract_lets v w sys y
    have hw : Kept (vital s) (vital w) := by simpa only [w, v, vital_resolved, vital_setSec, vital_setTwin] using hu
    refine kept_ite ?_ ?_
    · simpa only [vital_tryJoined, vital_fullCopy, vital_sendBeat, vital_mk, sys, vital_eta] using hw
    · have hy : Kept (vital s) (vital y) := kept_ite (kept_letGo hw) hw
      rw [vital_sendBeat]
      exact hy.with_retained (fun _ => rfl)

@[simp] theorem keeps_execTaskInput (dt : Nat) (task_ : Fin 5) (s : State) : KeepsOutcome (vital s) (execTaskInput dt task_ s) := by
  unfold execTaskInput
  have hu := kept_advance dt s
  generalize advance dt s = u at hu ⊢
  refine .next (kept_ite hu (kept_ite ?_ ?_))
  · extract_lets v x
    have hv : Kept (vital s) (vital v) := hu.of_vital (vital_outputInstant _ _)
    clear_value v
    split
    · exact hv
    · exact kept_ite hv (kept_beginCycle _ _ (by simpa only [vital_setTask, vital_setProg, vital_mk, vital_eta] using hv))
  · extract_lets g x v w inst y z
    have hv : Kept (vital s) (vital v) := hu.of_vital (vital_outputInstant _ _)
    have hw : Kept (vital s) (vital w) := kept_ite (kept_switchImage hv) hv
    have hz : Kept (vital s) (vital z) := hw.of_vital (vital_setTask _ _ _)
    exact kept_ite hu (kept_ite hz (kept_cyclicInstant _ _ hz))

@[simp] theorem keeps_execChangeSwitch (dt : Nat) (s : State) : KeepsOutcome (vital s) (execChangeSwitch dt s) :=
  .next (kept_ite (kept_switchImage (kept_advance dt s)) (kept_advance dt s))

@[simp] theorem keeps_execMbusCycleInstant (dt : Nat) (s : State) : KeepsOutcome (vital s) (execMbusCycleInstant dt s) := by
  unfold execMbusCycleInstant
  have hu := kept_advance dt s
  generalize advance dt s = u at hu ⊢
  extract_lets u0 grid v w
  have hv : Kept (vital s) (vital v) := by
    dsimp only [v]
    split
    · exact hu
    · exact kept_mbusFollow (hu.of_vital (vital_setMbus _ _))
  have hw : Kept (vital s) (vital w) := hv.of_vital (vital_setMbus _ _)
  exact .next (kept_ite hu (kept_ite hw (hw.of_vital ((vital_mbusNext _).trans (vital_setMbus _ _)))))

@[simp] theorem keeps_execMbusOvercurrent (dt ma : Nat) (s : State) : KeepsOutcome (vital s) (execMbusOvercurrent dt ma s) := by
  unfold execMbusOvercurrent
  refine .next (kept_ite (kept_advance dt s) ?_)
  simpa only [vital_emit, vital_setMbus] using kept_mbusAbandon (kept_advance dt s)

@[simp] theorem keeps_execRecorderTick (dt : Nat) (s : State) : KeepsOutcome (vital s) (execRecorderTick dt s) := by
  unfold execRecorderTick
  have hu := kept_advance dt s
  generalize advance dt s = u at hu ⊢
  refine .next (kept_ite hu (kept_foldl (fun v _ hv => kept_runMark hv) _ (kept_foldl (fun v n hv => kept_runTrigger _ _ _ _ n hv) _ ?_)))
  rw [vital_foldl (fun v e => vital_enterEvent v e), vital_setRec]
  exact hu

@[simp] theorem keeps_execVinLow (dt vin hold held : Nat) (s : State) : KeepsOutcome (vital s) (execVinLow dt vin hold held s) := by
  unfold execVinLow
  have hu := kept_advance dt s
  generalize advance dt s = u at hu ⊢
  extract_lets entering
  have hlost : Kept (vital s) (vital (setPow (fun p => { p with vin := false }) u)) := by simpa only [vital_setPow] using hu
  exact .next (kept_ite hu (kept_ite hlost (kept_ite (kept_powerOff hlost) (kept_ite hu (kept_enterHoldup _ _ hu)))))

@[simp] theorem keeps_execOrderlyPowerDown (dt hold : Nat) (s : State) : KeepsOutcome (vital s) (execOrderlyPowerDown dt hold s) := by
  unfold execOrderlyPowerDown
  have hu := kept_advance dt s
  generalize advance dt s = u at hu ⊢
  extract_lets u0 q empty v
  have hv : Kept (vital s) (vital v) := by simpa only [v, vital_setPow, vital_zeroKeys] using hu
  exact .next (kept_ite hu (kept_ite (kept_powerOn .holdup hv) (kept_powerOff hv)))

@[simp] theorem keeps_execWake (dt : Nat) (di : BitVec 32) (host : Bool) (s : State) : KeepsOutcome (vital s) (execWake dt di host s) := by
  unfold execWake
  have hu := kept_advance dt s
  generalize advance dt s = u at hu ⊢
  refine .next ?_
  split
  · exact hu
  · extract_lets v w
    have hv : Kept (vital s) (vital v) := kept_ite (by simpa only [vital_latchWake] using hu) hu
    have hw : Kept (vital s) (vital w) := kept_ite (by simpa only [vital_latchWake] using hv) hv
    split
    · exact hw
    · exact kept_ite hw (kept_wakeUp _ hw)

@[simp] theorem keeps_execVinLostInStandby (dt vin held : Nat) (s : State) :
    KeepsOutcome (vital s) (execVinLostInStandby dt vin held s) := by
  unfold execVinLostInStandby
  have hu := kept_advance dt s
  generalize advance dt s = u at hu ⊢
  refine .next ?_
  split
  · exact hu
  · exact kept_ite hu (kept_powerOff (by simpa only [vital_setPow] using hu))

@[simp] theorem keeps_execPinReset (dt held : Nat) (s : State) : KeepsOutcome (vital s) (execPinReset dt held s) :=
  .next (kept_ite (kept_advance dt s) (kept_requestPin (kept_advance dt s)))

@[simp] theorem keeps_execResetRelease (dt : Nat) (facts : StartFacts) (s : State) :
    KeepsOutcome (vital s) (execResetRelease dt facts s) := by
  unfold execResetRelease
  have hu := kept_advance dt s
  generalize advance dt s = u at hu ⊢
  extract_lets u0 v
  have hv : Kept (vital s) (vital v) := by
    dsimp only [v]
    split
    · exact hu
    · exact kept_ite (kept_holdReset .pin hu) hu
  exact .next (kept_ite (kept_startUp facts hv) hv)

@[simp] theorem keeps_execTrialTimeout (dt : Nat) (s : State) : KeepsOutcome (vital s) (execTrialTimeout dt s) := by
  unfold execTrialTimeout
  have hu := kept_advance dt s
  generalize advance dt s = u at hu ⊢
  extract_lets u0 late fatal sys
  exact .next (kept_ite hu (kept_ite (kept_endTrial (by simpa only [vital_mk, sys, vital_eta] using hu)) hu))

end Sys2Proof.Machine
end

section
/-! PROOF. The step invariants, from the lemmas per row; the step's own equations and the reset state. -/

namespace Sys2Proof.Machine
open Sys2Proof

theorem keepsVital_of_commandRow {i : Instr} {cmd : Command} {dt : Nat} {r : Request} (h : commandRow i = some (cmd, dt, r)) : cmd.KeepsVital := by
  cases i <;> simp only [commandRow, reduceCtorEq, Option.some.injEq, Prod.mk.injEq] at h <;> obtain ⟨rfl, -, -⟩ := h <;> simp

theorem keeps_exec (i : Instr) (s : State) : KeepsOutcome (vital s) (exec i s) := by
  cases hrow : commandRow i with
  | some x =>
    obtain ⟨cmd, dt, r⟩ := x
    rw [exec_commandRow hrow]
    exact .next (kept_exchange (keepsVital_of_commandRow hrow) r (kept_advance dt s))
  | none =>
    cases i <;> simp only [commandRow, reduceCtorEq] at hrow <;> simp [exec]

theorem kept_step {s t : State} (h : step s = .next t) : t.pending = s.pending.tail ∧ ((vital s).Sound → (vital t).Sound) := by
  unfold step at h
  split at h
  · rename_i hnil
    obtain rfl := Host.Outcome.next.inj h
    exact ⟨by rw [hnil]; rfl, id⟩
  · rename_i c rest hcons
    have hk := keeps_exec c { s with pending := rest } t h
    rw [vital_mk] at hk
    exact ⟨by rw [hcons]; exact hk.pending, fun hs => hk.sound ⟨hs.mem, hs.free, hs.progMem, hs.retained, hs.hostControl, hs.usbMask, hs.tlsMask, hs.eventEnable⟩⟩

/-- Settles O58, since every command keeps the queue it runs with. -/
theorem everyStepTakesOneCommand : Obligations.EveryStepTakesOneCommand := by
  unfold Obligations.EveryStepTakesOneCommand
  intro s t h
  exact (kept_step h).1

/-- Settles O59, since every write of a byte memory starts from a canonical one and every write of a masked register masks it. -/
theorem stepsKeepMemoriesCanonical : Obligations.StepsKeepMemoriesCanonical := by
  unfold Obligations.StepsKeepMemoriesCanonical
  intro s t hmem hres h
  exact (Vital.sound_iff t).mp ((kept_step h).2 ((Vital.sound_iff s).mpr ⟨hmem, hres⟩))

/-- Settles O1, by the two equations of `step`. -/
theorem stepRunsTheFrontCommand : Obligations.StepRunsTheFrontCommand := by
  unfold Obligations.StepRunsTheFrontCommand
  constructor
  · intro c rest s hpending
    simp only [step, hpending]
  · intro s hpending
    simp only [step, hpending]

/-- Settles O60, by evaluating the reset state. -/
theorem resetMemoriesAreCanonical : Obligations.ResetMemoriesAreCanonical := by
  unfold Obligations.ResetMemoriesAreCanonical
  refine ⟨⟨rfl, rfl, rfl, rfl⟩, ?_, rfl, rfl, rfl, rfl, rfl⟩
  unfold State.reservedClear
  decide

end Sys2Proof.Machine
end

section
/-! PROOF. The control and interrupt blocks: what a word write does to each register, and what a doorbell rings. -/

namespace Sys2Proof.Machine
open Sys2Proof

/-- The four bytes of a word spell it. -/
theorem words_le (v : BitVec 32) : words (le 4 v.toNat) = [v] := by
  have hv := v.isLt
  simp only [le, words, leNat, BitVec.toNat_ofNat]
  congr 1
  apply BitVec.eq_of_toNat_eq
  rw [BitVec.toNat_ofNat]
  omega

/-- A host write of one aligned word below 0x2000 writes that word of the register blocks. -/
theorem hostWrite_word {addr : Nat} (haligned : addr % 4 = 0) (hlow : addr + 4 ≤ 0x2000) (v : BitVec 32) (u : State) :
    hostWrite addr (le 4 v.toNat) u = writeBlockWord addr v u := by
  have hlen : (le 4 v.toNat).length = 4 := rfl
  unfold hostWrite
  rw [if_pos (by omega), if_pos ⟨haligned, by rw [hlen]⟩, List.take_of_length_le (by omega), words_le]
  rfl

theorem runs_registerWrite_word {dt addr : Nat} {v : BitVec 32} {f : State → State} (haligned : addr % 4 = 0) (hlow : addr + 4 ≤ 0x2000)
    (hf : ∀ u, writeBlockWord addr v u = f u) : Runs (.registerWrite dt addr (le 4 v.toNat)) dt (fun u => windowUp u = true) f := by
  intro s hup
  have hlen : (le 4 v.toNat).length = 4 := rfl
  have hin : (!(advance dt s).win.qspi && decide (0x100000 < addr + (le 4 v.toNat).length)) = false := by
    rw [hlen, decide_eq_false (by omega), Bool.and_false]
  change execRegisterWrite dt addr _ s = _
  unfold execRegisterWrite
  simp only [hin, hup, Bool.false_eq_true, if_false, if_true, hostWrite_word haligned hlow, hf]

theorem runs_interruptBlockWrite {dt off : Nat} {v : BitVec 32} {f : State → State} (hf : ∀ u, writeIrqBlock off v u = f u) :
    Runs (.interruptBlockWrite dt off v) dt (fun u => windowUp u = true) f := by
  intro s hup
  change execInterruptBlockWrite dt off v s = _
  simp only [execInterruptBlockWrite, hup, if_true, hf]

theorem writeIrqBlock_progressDone (i : Fin 8) (v : BitVec 32) (u : State) :
    writeIrqBlock (0x020 + 4 * i.val) v u = irqWrite (fun w => { w with progressDone := w.progressDone &&& ~~~ (v.zeroExtend 256 <<< (32 * i.val)) }) u := by
  unfold writeIrqBlock
  rw [if_pos (by omega), show 8 * (0x020 + 4 * i.val - 0x020) = 32 * i.val by omega]
  rfl

theorem writeIrqBlock_progressEnable (i : Fin 8) (v : BitVec 32) (u : State) :
    writeIrqBlock (0x040 + 4 * i.val) v u = irqWrite (fun w => { w with progressEnable := setWord w.progressEnable i.val v }) u := by
  unfold writeIrqBlock
  rw [if_neg (by omega), if_pos (by omega), show (0x040 + 4 * i.val - 0x040) / 4 = i.val by omega]
  rfl

theorem writeIrqBlock_unlisted {off : Nat} (h : off = 0x01C ∨ 0x060 ≤ off) (v : BitVec 32) (u : State) :
    writeIrqBlock off v u = irqWrite id (accessFault .host (0x1000 + off) true u) := by
  unfold writeIrqBlock
  rw [if_neg (by omega), if_neg (by omega)]
  split
  case h_8 => rfl
  all_goals omega

theorem runs_hostControl (dt : Nat) (v : BitVec 32) :
    Runs (.hostControl dt v) dt (fun u => windowUp u = true) (writeHostControl v) := by
  intro s hup
  change execHostControl dt v s = _
  simp only [execHostControl, hup, if_true]

/-- Settles O2, by the word each offset names. -/
theorem hostWordWritesReachTheirRegisters : Obligations.HostWordWritesReachTheirRegisters := by
  unfold Obligations.HostWordWritesReachTheirRegisters
  intro dt v
  refine ⟨?_, runs_interruptBlockWrite fun u => rfl, runs_interruptBlockWrite fun u => rfl, runs_interruptBlockWrite fun u => rfl,
    runs_interruptBlockWrite fun u => rfl, runs_interruptBlockWrite fun u => rfl, runs_interruptBlockWrite fun u => rfl,
    fun i => runs_interruptBlockWrite (writeIrqBlock_progressDone i v), fun i => runs_interruptBlockWrite (writeIrqBlock_progressEnable i v),
    fun off _ hoff _ => runs_interruptBlockWrite (writeIrqBlock_unlisted hoff v),
    runs_registerWrite_word rfl (by decide) fun u => rfl, runs_registerWrite_word rfl (by decide) fun u => rfl,
    runs_registerWrite_word rfl (by decide) fun u => rfl, runs_registerWrite_word rfl (by decide) fun u => rfl,
    runs_registerWrite_word rfl (by decide) fun u => rfl⟩
  intro s hup
  rw [runs_hostControl dt v s hup]
  unfold writeHostControl
  dsimp only
  split <;> rfl

/-- What ringing the mailboxes below `n` that `mask` names leaves of the window. -/
structure RungBelow (mask : BitVec 32) (n : Nat) (s t : State) : Prop where
  st : t.win.st = s.win.st
  busy : t.win.busy = s.win.busy
  mem : t.win.mem = s.win.mem
  rung : ∀ j, j < 32 → t.win.rung.getLsbD j = (s.win.rung.getLsbD j || (decide (j < n) && mask.getLsbD j && !s.win.busy.getLsbD j))
  event : (∃ j, j < n ∧ (mask &&& s.win.busy).getLsbD j = true) → t.win.eventStatus.getLsbD 6 = true
  count : t.win.ringBusyCount % 2 ^ 32 =
    (s.win.ringBusyCount + ((List.range n).filter (fun j => (mask &&& s.win.busy).getLsbD j)).length) % 2 ^ 32

theorem rungBelow_zero (mask : BitVec 32) (s : State) : RungBelow mask 0 s s where
  st := rfl
  busy := rfl
  mem := rfl
  rung := by simp
  event := by simp
  count := by simp

/-- A mailbox that is not named changes nothing. -/
theorem RungBelow.skip {mask : BitVec 32} {n : Nat} {s t : State} (h : RungBelow mask n s t) (hn : mask.getLsbD n = false) :
    RungBelow mask (n + 1) s t where
  st := h.st
  busy := h.busy
  mem := h.mem
  rung j hj := by
    rw [h.rung j hj]
    by_cases hjn : j = n
    · simp [hjn, hn]
    · simp only [show (j < n + 1) = (j < n) from propext (by omega)]
  event := by
    rintro ⟨j, hj, hbit⟩
    refine h.event ⟨j, ?_, hbit⟩
    by_contra hge
    rw [show j = n by omega, BitVec.getLsbD_and, hn] at hbit
    simp at hbit
  count := by rw [h.count, List.range_succ, List.filter_append]; simp [hn]

/-- Ringing a BUSY mailbox counts it and raises RING_WHILE_BUSY. -/
theorem RungBelow.ringBusy {mask : BitVec 32} {n : Nat} {s t : State} (h : RungBelow mask n s t) (hn : mask.getLsbD n = true)
    (hbusy : s.win.busy.getLsbD n = true) : RungBelow mask (n + 1) s (ringBusy t) where
  st := h.st
  busy := h.busy
  mem := h.mem
  rung j hj := by
    refine (h.rung j hj).trans ?_
    by_cases hjn : j = n
    · simp [hjn, hbusy]
    · simp only [show (j < n + 1) = (j < n) from propext (by omega)]
  event _ := by
    change (t.win.eventStatus ||| BitVec.ofNat 32 (2 ^ 6)).getLsbD 6 = true
    simp
  count := by
    change (t.win.ringBusyCount + 1) % 2 ^ 32 % 2 ^ 32 = _
    have hcount := h.count
    simp only [List.range_succ, List.filter_append, List.length_append, List.filter_cons, BitVec.getLsbD_and, hn, hbusy, Bool.and_self, if_true,
      List.filter_nil, List.length_singleton] at hcount ⊢
    omega

/-- A free mailbox waits to be taken once it is rung. -/
theorem RungBelow.hold {mask : BitVec 32} {n : Nat} {s t : State} (h : RungBelow mask n s t) (hn : mask.getLsbD n = true)
    (hfree : s.win.busy.getLsbD n = false) (u : State) (hst : u.win.st = t.win.st) (hbusy : u.win.busy = t.win.busy) (hmem : u.win.mem = t.win.mem)
    (hevent : u.win.eventStatus = t.win.eventStatus) (hcount : u.win.ringBusyCount = t.win.ringBusyCount)
    (hrung : ∀ j, j < 32 → u.win.rung.getLsbD j = (t.win.rung.getLsbD j || j == n)) : RungBelow mask (n + 1) s u where
  st := hst.trans h.st
  busy := hbusy.trans h.busy
  mem := hmem.trans h.mem
  rung j hj := by
    rw [hrung j hj, h.rung j hj]
    by_cases hjn : j = n
    · simp [hjn, hn, hfree]
    · simp [hjn, show (j < n + 1) = (j < n) from propext (by omega)]
  event := by
    rintro ⟨j, hj, hbit⟩
    rw [hevent]
    refine h.event ⟨j, ?_, hbit⟩
    by_contra hge
    rw [show j = n by omega, BitVec.getLsbD_and, hfree] at hbit
    simp at hbit
  count := by rw [hcount, h.count, List.range_succ, List.filter_append]; simp [hfree]

theorem RungBelow.ring {mask : BitVec 32} {n : Nat} {s t : State} (h : RungBelow mask n s t) (hn : mask.getLsbD n = true)
    (hst : s.win.st ≠ .fatal) : RungBelow mask (n + 1) s (ring .host n t) := by
  unfold Machine.ring
  rw [if_neg (h.st ▸ hst)]
  split
  · rename_i hbusy
    exact h.ringBusy hn (h.busy ▸ hbusy)
  · rename_i hbusy
    have hfree : s.win.busy.getLsbD n = false := by simpa [h.busy] using hbusy
    split
    · rename_i hrung
      exact h.hold hn hfree t rfl rfl rfl rfl rfl (fun j _ => by by_cases hjn : j = n <;> simp [hjn, hrung])
    · refine h.hold hn hfree _ rfl rfl rfl rfl rfl (fun j hj => ?_)
      change (t.win.rung ||| BitVec.ofNat 32 (2 ^ n)).getLsbD j = _
      rw [BitVec.getLsbD_or, BitVec.getLsbD_ofNat, Nat.testBit_two_pow]
      rw [decide_eq_true hj, Bool.true_and, beq_eq_decide, decide_eq_decide.mpr (eq_comm (a := n))]

theorem rungBelow_writeDoorbell {mask : BitVec 32} {s : State} (hst : s.win.st ≠ .fatal) : RungBelow mask 32 s (writeDoorbell mask s) := by
  suffices hprefix : ∀ n, n ≤ 32 → RungBelow mask n s ((List.range n).foldl (fun t k => if mask.getLsbD k then ring .host k t else t) s) from
    hprefix 32 (le_refl 32)
  intro n
  induction n with
  | zero => exact fun _ => rungBelow_zero mask s
  | succ n ih =>
    intro hn
    rw [List.range_succ, List.foldl_append]
    simp only [List.foldl_cons, List.foldl_nil]
    split
    · rename_i hbit
      exact (ih (by omega)).ring hbit hst
    · rename_i hbit
      exact (ih (by omega)).skip (by simpa using hbit)

/-- Settles O5, by induction on the mailboxes the doorbell goes through. -/
theorem doorbellRingsFreeMailboxes : Obligations.DoorbellRingsFreeMailboxes := by
  unfold Obligations.DoorbellRingsFreeMailboxes
  intro dt mask s hup hst
  have hrung := rungBelow_writeDoorbell (mask := mask) (s := advance dt s) hst
  refine ⟨irqWrite id (writeDoorbell mask (advance dt s)), ?_, hrung.busy, hrung.mem, fun k => ?_, fun hmask => ?_, hrung.count⟩
  · change execDoorbell dt mask s = _
    simp only [execDoorbell, hup, if_true]
  · exact (hrung.rung k.val k.isLt).trans (by rw [decide_eq_true k.isLt, Bool.true_and]; rfl)
  · refine hrung.event ?_
    obtain ⟨j, hj, hbit⟩ : ∃ j, j < 32 ∧ (mask &&& s.win.busy).getLsbD j = true := by
      by_contra hnone
      refine hmask (BitVec.eq_of_getLsbD_eq fun j hj => ?_)
      rw [show BitVec.getLsbD (0 : BitVec 32) j = false from BitVec.getLsbD_zero]
      by_contra hbit
      exact hnone ⟨j, hj, by simpa using hbit⟩
    exact ⟨j, hj, hbit⟩

end Sys2Proof.Machine
end

section
/-! PROOF. The mailbox exchange: assignment, taking in turn, refusals, untaken requests, and what an answer writes. -/

namespace Sys2Proof.Machine
open Sys2Proof

/-! Assignment -/

/-- What putting the written assignment in force below `n` leaves of the window. -/
structure AssignedBelow (n : Nat) (s t : State) : Prop where
  assign : t.win.assign = s.win.assign
  busy : t.win.busy = s.win.busy
  mem : t.win.mem = s.win.mem
  eff : ∀ j, j < 32 → assignOf t.win.effAssign j =
    if j < n ∧ s.win.busy.getLsbD j = false then assignOf s.win.assign j else assignOf s.win.effAssign j

theorem assignedBelow_zero (s : State) : AssignedBelow 0 s s where
  assign := rfl
  busy := rfl
  mem := rfl
  eff := by simp

/-- The assignment of a BUSY mailbox waits. -/
theorem AssignedBelow.skip {n : Nat} {s t : State} (h : AssignedBelow n s t) (hn : s.win.busy.getLsbD n = true) : AssignedBelow (n + 1) s t where
  assign := h.assign
  busy := h.busy
  mem := h.mem
  eff j hj := by
    rw [h.eff j hj]
    by_cases hjn : j = n
    · simp [hjn, hn]
    · simp only [show (j < n + 1) = (j < n) from propext (by omega)]

theorem assignOf_lt (a : BitVec 64) (k : Nat) : assignOf a k < 4 := Nat.mod_lt _ (by decide)

/-- Putting one mailbox's written assignment in force leaves the others'. -/
theorem AssignedBelow.apply {n : Nat} {s t : State} (h : AssignedBelow n s t) (hlt : n < 32) (hn : s.win.busy.getLsbD n = false) :
    AssignedBelow (n + 1) s (applyAssign n t) := by
  obtain ⟨e, ⟨hwin, -⟩, he⟩ := applyAssign_window n t
  have heff : ∀ j, j < 32 → assignOf e j = if j = n then assignOf t.win.assign n else assignOf t.win.effAssign j := by
    intro j hj
    rcases he with ⟨rfl, hsame⟩ | rfl
    · by_cases hjn : j = n
      · rw [if_pos hjn, hjn, hsame]
      · rw [if_neg hjn]
    · exact assignOf_replaced _ _ _ _ hlt hj (assignOf_lt _ _)
  refine ⟨?_, ?_, ?_, fun j hj => ?_⟩
  · rw [hwin]; exact h.assign
  · rw [hwin]; exact h.busy
  · rw [hwin]; exact h.mem
  · rw [hwin]
    refine (heff j hj).trans ?_
    rw [h.assign, h.eff j hj]
    by_cases hjn : j = n
    · simp [hjn, hn]
    · simp [hjn, show (j < n + 1) = (j < n) from propext (by omega)]

/-- MBOX_ASSIGN once one of its words is written. -/
def writtenAssign (hi : Bool) (v : BitVec 32) (old : BitVec 64) : Nat :=
  if hi then old.toNat % 2 ^ 32 + v.toNat * 2 ^ 32 else old.toNat / 2 ^ 32 * 2 ^ 32 + v.toNat

theorem writtenAssign_lt (hi : Bool) (v : BitVec 32) (old : BitVec 64) : writtenAssign hi v old < 2 ^ 64 := by
  have hold := old.isLt
  have hv := v.isLt
  unfold writtenAssign
  split <;> omega

/-- The state with MBOX_ASSIGN set, before any of it is in force. -/
def withAssign (a : BitVec 64) (s : State) : State := { s with win := { s.win with assign := a } }

theorem assignedBelow_writeAssign (hi : Bool) (v : BitVec 32) (s : State) :
    AssignedBelow 32 (withAssign (BitVec.ofNat 64 (writtenAssign hi v s.win.assign)) s) (writeAssign hi v s) := by
  change AssignedBelow 32 _ ((List.range 32).foldl (fun t k => if t.win.busy.getLsbD k then t else applyAssign k t)
    (withAssign (BitVec.ofNat 64 (writtenAssign hi v s.win.assign)) s))
  generalize withAssign _ s = u
  suffices hprefix : ∀ n, n ≤ 32 → AssignedBelow n u ((List.range n).foldl (fun t k => if t.win.busy.getLsbD k then t else applyAssign k t) u) from
    hprefix 32 (le_refl 32)
  intro n
  induction n with
  | zero => exact fun _ => assignedBelow_zero u
  | succ n ih =>
    intro hn
    have hbelow := ih (by omega)
    rw [List.range_succ, List.foldl_append]
    simp only [List.foldl_cons, List.foldl_nil]
    split
    · rename_i hbusy
      exact hbelow.skip (hbelow.busy ▸ hbusy)
    · rename_i hbusy
      exact hbelow.apply (by omega) (by simpa [hbelow.busy] using hbusy)

/-- Settles O6, by induction on the mailboxes whose assignment is put in force. -/
theorem assignmentWaitsForBusyMailboxes : Obligations.AssignmentWaitsForBusyMailboxes := by
  unfold Obligations.AssignmentWaitsForBusyMailboxes
  intro dt hi v s hup
  have hall := assignedBelow_writeAssign hi v (advance dt s)
  refine ⟨writeAssign hi v (advance dt s), ?_, ?_, fun k => ?_, hall.mem, hall.busy⟩
  · change execMboxAssign dt hi v s = _
    simp only [execMboxAssign, hup, if_true]
  · rw [hall.assign]
    exact (BitVec.toNat_ofNat _ _).trans (Nat.mod_eq_of_lt (writtenAssign_lt hi v s.win.assign))
  · rw [hall.eff k.val k.isLt, hall.assign]
    change (if k.val < 32 ∧ s.win.busy.getLsbD k.val = false then _ else assignOf s.win.effAssign k.val) = _
    by_cases hbusy : s.win.busy.getLsbD k.val = true
    · rw [if_neg (by simp [hbusy]), if_pos hbusy]
    · rw [if_pos ⟨k.isLt, by simpa using hbusy⟩, if_neg hbusy]

/-! Mailbox take -/

theorem nextMailbox_eq_some {u : State} {i k : Nat} (hi : i < 32) (hk : k = (u.win.lastServed + 1 + i) % 32) (htake : takeable u k = true)
    (hfirst : ∀ j, j < i → takeable u ((u.win.lastServed + 1 + j) % 32) = false) : nextMailbox u = some k := by
  unfold nextMailbox
  rw [List.find?_map, Option.map_eq_some_iff]
  refine ⟨i, ?_, hk.symm⟩
  rw [List.find?_range_eq_some]
  exact ⟨by simpa [hk] using htake, by simpa using hi, fun j hj => by simpa using hfirst j hj⟩

theorem nextMailbox_eq_none {u : State} (h : ∀ k, k < 32 → takeable u k = false) : nextMailbox u = none := by
  unfold nextMailbox
  rw [List.find?_eq_none]
  intro k hk
  obtain ⟨i, -, rfl⟩ := List.mem_map.mp hk
  simp [h _ (Nat.mod_lt _ (by decide : 0 < 32))]

/-- Settles O9, by the order in which the Keeper looks for a rung mailbox. -/
theorem mailboxTakeServesRoundRobin : Obligations.MailboxTakeServesRoundRobin := by
  unfold Obligations.MailboxTakeServesRoundRobin
  intro dt cut
  constructor
  · rintro i k s ⟨hserving, hi, hk, htake, hfirst⟩
    change execMailboxTake dt cut s = _
    simp only [execMailboxTake, hserving, Bool.not_true, Bool.false_eq_true, if_false, nextMailbox_eq_some hi hk htake hfirst]
  · rintro s ⟨hserving, hnone⟩
    change execMailboxTake dt cut s = _
    simp only [execMailboxTake, hserving, Bool.not_true, Bool.false_eq_true, if_false, nextMailbox_eq_none hnone, id]

/-! Requests -/

/-- Settles O10, by what a refused request comes to. -/
theorem refusedRequestsAreAnsweredAndChangeNothing : Obligations.RefusedRequestsAreAnsweredAndChangeNothing := by
  unfold Obligations.RefusedRequestsAreAnsweredAndChangeNothing
  intro i cmd dt r s reason detail hrow htaken hcheck
  rw [exec_commandRow hrow, runCommand_refused htaken hcheck]
  simp only [b2n, beq_iff_eq]

/-- A touched TLS session leaves the window's state and its BUSY bits. -/
theorem arrived_busy (dt : Nat) (r : Request) (s : State) : (arrived dt r s).win.busy = s.win.busy := by
  obtain ⟨hwin, -⟩ := keepsWindow_touchTls r.path (advance dt s)
  unfold arrived
  rw [hwin]
  rfl

theorem written_st (cmd : Command) (dt : Nat) (r : Request) (s : State) : (written cmd dt r s).win.st = s.win.st := by
  have harrived : (arrived dt r s).win.st = s.win.st := by
    obtain ⟨hwin, -⟩ := keepsWindow_touchTls r.path (advance dt s)
    unfold arrived
    rw [hwin]
    rfl
  refine Eq.trans ?_ harrived
  unfold written
  dsimp only
  split <;> rfl

/-- A request whose mailbox is within reach and not BUSY is written; STATE and the barriers decide what becomes of it. -/
theorem exchange_reachable {cmd : Command} {dt : Nat} {r : Request} {s : State} (h : reachable dt r s = true) :
    exchange cmd r (advance dt s) =
      (let w := written cmd dt r s
       if w.win.st = .fatal then w
       else if (w.win.st = .booting || barrierHeld r.path r.flags.toNat w) = true then hold r.mbox.val r.path w
       else serve (some cmd) r.mbox.val r.path (headerOf cmd r) (sentPayload dt r s) w) := by
  simp only [reachable, Bool.and_eq_true, Bool.not_eq_true'] at h
  obtain ⟨⟨hup, hreach⟩, hbusy⟩ := h
  have hbusy' : (touchTls r.path (advance dt s)).win.busy.getLsbD r.mbox.val = false := hbusy
  unfold exchange
  simp only [hup, hreach, hbusy', Bool.not_true, Bool.false_eq_true, if_false]
  rfl

/-- Settles O11, by the branches of one exchange. -/
theorem untakenRequestsWaitOrAreDiscarded : Obligations.UntakenRequestsWaitOrAreDiscarded := by
  unfold Obligations.UntakenRequestsWaitOrAreDiscarded
  intro i cmd dt r s hrow
  rw [exec_commandRow hrow, runCommand]
  refine ⟨fun hdown => ?_, fun hup hpath hreach => ?_, fun hup hreach hbusy => ?_, fun hreach hst => ?_, fun hreach hst hwaits => ?_⟩
  · unfold exchange
    simp only [hdown, Bool.not_false, if_true]
  · unfold exchange
    simp only [hup, hreach, Bool.not_true, Bool.not_false, Bool.false_eq_true, if_false, if_true]
  · have hbusy' : (touchTls r.path (advance dt s)).win.busy.getLsbD r.mbox.val = true := (arrived_busy dt r s).symm ▸ hbusy
    unfold exchange
    simp only [hup, hreach, hbusy', Bool.not_true, Bool.false_eq_true, if_false, if_true, arrived]
  · rw [exchange_reachable hreach]
    simp only [written_st, hst, if_true]
  · rw [exchange_reachable hreach]
    simp only [written_st, if_neg hst]
    rw [if_pos (by simpa using hwaits)]

/-! Answers -/

theorem Memory.read_write_same (bs : Bytes) (m : List Host.Cell) (a : Nat) (h : Memory.wf m = true) : Memory.read (Memory.write m a bs) a bs.length = bs := by
  apply List.ext_getElem?
  intro i
  by_cases hi : i < bs.length
  · rw [Memory.getElem?_read _ _ _ _ hi, Memory.get_write _ _ _ _ h, if_pos (by omega), Nat.add_sub_cancel_left, List.getD_eq_getElem?_getD,
      List.getElem?_eq_getElem hi]
    rfl
  · rw [List.getElem?_eq_none (by rw [Memory.length_read]; omega), List.getElem?_eq_none (by omega)]

theorem finish_mem {k : Nat} {e : Taken} {rep : Reply} {u : State} (ht : tabGet? u.win.taken k = some e) :
    (finish k rep u).win.mem = Memory.write u.win.mem (rspAddr k) (answerBytes e rep u) := by
  obtain ⟨a, hwin, -⟩ := finish_window (rep := rep) ht
  generalize finish k rep u = v at hwin ⊢
  rw [hwin]

theorem finish_busy {k : Nat} {e : Taken} {rep : Reply} {u : State} (ht : tabGet? u.win.taken k = some e) :
    (finish k rep u).win.busy = u.win.busy &&& ~~~ BitVec.ofNat 32 (2 ^ k) := by
  obtain ⟨a, hwin, -⟩ := finish_window (rep := rep) ht
  generalize finish k rep u = v at hwin ⊢
  rw [hwin]

theorem finish_complete {k : Nat} {e : Taken} {rep : Reply} {u : State} (ht : tabGet? u.win.taken k = some e) :
    (finish k rep u).win.complete = u.win.complete ||| BitVec.ofNat 32 (2 ^ k) := by
  obtain ⟨a, hwin, -⟩ := finish_window (rep := rep) ht
  generalize finish k rep u = v at hwin ⊢
  rw [hwin]

/-- Settles O12, by what an answer does to the window. -/
theorem answersAreWrittenToTheirMailbox : Obligations.AnswersAreWrittenToTheirMailbox := by
  unfold Obligations.AnswersAreWrittenToTheirMailbox
  intro k e rep u hwf htaken _
  have hbit : ∀ j : Fin 32, (BitVec.ofNat 32 (2 ^ k.val)).getLsbD j.val = decide (k.val = j.val) := fun j => by
    rw [BitVec.getLsbD_ofNat, Nat.testBit_two_pow, decide_eq_true j.isLt, Bool.true_and]
  change Memory.read _ _ (answerBytes e rep u).length = answerBytes e rep u ∧
    (∀ a, a < rspAddr k.val ∨ rspAddr k.val + (answerBytes e rep u).length ≤ a → _) ∧ _
  rw [finish_mem htaken, finish_busy htaken, finish_complete htaken]
  refine ⟨Memory.read_write_same _ _ _ hwf, fun x hx => ?_, ?_, ?_, fun j hj => ?_⟩
  · rw [Memory.get_write _ _ _ _ hwf, if_neg (by omega)]
  · rw [BitVec.getLsbD_and, BitVec.getLsbD_not, hbit]
    simp
  · rw [BitVec.getLsbD_or, hbit]
    simp
  · have hne : k.val ≠ j.val := fun heq => hj (Fin.ext heq.symm)
    rw [BitVec.getLsbD_and, BitVec.getLsbD_not, BitVec.getLsbD_or, hbit]
    simp [hne]

end Sys2Proof.Machine
end

section
/-! PROOF. The law of a modulating loop, and the fault of an axis. -/

namespace Sys2Proof.Machine
open Sys2Proof

/-! The law of a modulating loop -/

theorem clampInt_mem {lo hi : Int} (h : lo ≤ hi) (v : Int) : lo ≤ clampInt lo hi v ∧ clampInt lo hi v ≤ hi := by
  unfold clampInt
  split_ifs <;> omega

theorem sat32_eq_clampInt (v : Int) : (sat32 v).1 = clampInt (-2147483648) 2147483647 v := by
  unfold sat32 clampInt
  split_ifs <;> rfl

/-- A law leaves the record, the set-points, the PV and the mode, and keeps the error for the next sample. -/
theorem lawModulating_frame (l : Loop) :
    (lawModulating l).ePrev = (loopError l).1 ∧ (lawModulating l).pv = l.pv ∧ (lawModulating l).sp = l.sp ∧
      (lawModulating l).spr = l.spr ∧ (lawModulating l).mode = l.mode := by
  unfold lawModulating
  dsimp only
  split_ifs <;> exact ⟨rfl, rfl, rfl, rfl, rfl⟩

/-- In band the output stays; out of band it is the saturated sum of the output and the step, clamped to the output range, and a
positive RATE clamps the step. -/
theorem lawModulating_y (l : Loop) :
    (lawModulating l).inBand = true ∧ (lawModulating l).y = l.y ∨
      (lawModulating l).inBand = false ∧ ∃ dy : Int,
        (0 < sfld l.record 0x54 4 → -sfld l.record 0x54 4 ≤ dy ∧ dy ≤ sfld l.record 0x54 4) ∧
          (lawModulating l).y = clampInt (lOutMin l.record) (lOutMax l.record) (sat32 (l.y + dy)).1 := by
  unfold lawModulating
  extract_lets r e inBand de a b dy rate dyc y yc
  clear_value inBand
  cases inBand with
  | true => exact .inl ⟨rfl, rfl⟩
  | false =>
    refine .inr ⟨rfl, dyc, fun hrate => ?_, rfl⟩
    have hrate' : 0 < rate := hrate
    change -rate ≤ dyc ∧ dyc ≤ rate
    dsimp only [dyc]
    rw [if_pos hrate']
    exact clampInt_mem (by omega) _

/-- Saturating and clamping bring an output no farther from a value in range than the step took it. -/
theorem clampInt_sat32_near {lo hi y dy rate : Int} (hlo : lo ≤ y) (hhi : y ≤ hi) (hmin : -(2 ^ 31) ≤ lo) (hmax : hi < 2 ^ 31)
    (hdown : -rate ≤ dy) (hup : dy ≤ rate) (hrate : 0 < rate) :
    clampInt lo hi (sat32 (y + dy)).1 - y ≤ rate ∧ y - clampInt lo hi (sat32 (y + dy)).1 ≤ rate := by
  rw [sat32_eq_clampInt]
  unfold clampInt
  split_ifs <;> omega

/-- Settles O35, by the two outcomes of the law. -/
theorem loopLawsFollowTheirRules : Obligations.LoopLawsFollowTheirRules := by
  unfold Obligations.LoopLawsFollowTheirRules
  intro l hrange
  obtain ⟨hprev, hpv, hsp, hspr, hmode⟩ := lawModulating_frame l
  obtain ⟨hband, hy⟩ | ⟨hband, dy, hstep, hy⟩ := lawModulating_y l
  · refine ⟨fun hout => ?_, fun _ => hy, fun hrate _ _ _ _ => ?_, hprev, hpv, hsp, hspr, hmode⟩
    · rw [hband] at hout
      exact Bool.noConfusion hout
    · rw [hy]
      omega
  · refine ⟨fun _ => ?_, fun hin => ?_, fun hrate hlo hhi hmin hmax => ?_, hprev, hpv, hsp, hspr, hmode⟩
    · rw [hy]
      exact clampInt_mem hrange _
    · rw [hband] at hin
      exact Bool.noConfusion hin
    · obtain ⟨hdown, hup⟩ := hstep hrate
      rw [hy]
      exact clampInt_sat32_near hlo hhi hmin hmax hdown hup hrate

/-! A fault of an axis -/

theorem tabGet_tabSet_of_ne {α : Type} (d : α) (t : Tab α) {k j : Nat} (a : α) (h : j ≠ k) : tabGet d (tabSet t k a) j = tabGet d t j := by
  unfold tabGet
  congr 1
  induction t with
  | nil => simp [tabSet, tabGet?, Ne.symm h]
  | cons e t ih =>
    obtain ⟨i, x⟩ := e
    unfold tabSet
    split_ifs with hlt heq
    · simp [tabGet?, Ne.symm h]
    · subst heq
      simp [tabGet?, Ne.symm h]
    · simp only [tabGet?]
      rw [ih]

@[simp] theorem axis_setAxis_same (n : Nat) (a : Axis) (s : State) : axis n (setAxis n a s) = a := tabGet_tabSet_same _ _ _ _

theorem axis_setAxis_of_ne {n k : Nat} (h : k ≠ n) (a : Axis) (s : State) : axis k (setAxis n a s) = axis k s := tabGet_tabSet_of_ne _ _ _ h

@[simp] theorem axis_emit (n c : Nat) (l : List Int) (s : State) : axis n (emit c l s) = axis n s := by
  obtain ⟨r, heq⟩ := emit_recorder c l s
  rw [heq]
  rfl

/-- A fault noted on an axis: homing ends, and a stall is counted. -/
def markFault (f : Nat) (a : Axis) : Axis :=
  { a with fault := f, faultPend := f, homed := a.homed && a.homing == 0, homing := 0, stalls := if f = 1 then (a.stalls + 1) % 2 ^ 32 else a.stalls, dirty := true }

/-- An axis that takes a fault: at 5 or above drive is removed at once, below that the axis stops on its ramp first. -/
def faultedAxis (now f : Nat) (a : Axis) : Axis :=
  if 5 ≤ f then
    enterFaulted { restAt now ((markFault f a).posAt now) { markFault f a with homed := (markFault f a).homed && !(markFault f a).moving } with current := 3 }
  else if (markFault f a).moving then stopAxis now (markFault f a)
  else enterFaulted (markFault f a)

theorem axisFault_eq {n f : Nat} {s : State} (huse : fld (axis n s).record 0 1 ≠ 0) (hrole : s.win.role ≠ .standby) (hok : (axis n s).faulted = false)
    (hpend : (axis n s).faultPend = 0) : axisFault n f s = emit 0x0B01 [n, f] (setAxis n (faultedAxis s.tb.now f (axis n s)) s) := by
  unfold axisFault
  dsimp only
  rw [if_neg (by simp [huse, hrole, hok, hpend])]
  rfl

theorem stopAxis_marks (now : Nat) (a : Axis) :
    (stopAxis now a).fault = a.fault ∧ (stopAxis now a).homing = a.homing ∧ (stopAxis now a).faultPend = a.faultPend ∧
      (stopAxis now a).stalls = a.stalls := by
  unfold stopAxis
  split_ifs <;> exact ⟨rfl, rfl, rfl, rfl⟩

theorem faultedAxis_marks (now f : Nat) (a : Axis) :
    (faultedAxis now f a).fault = f ∧ (faultedAxis now f a).homing = 0 ∧
      ((faultedAxis now f a).faulted = true ∨ (faultedAxis now f a).faultPend = f) ∧
      (faultedAxis now f a).stalls = (if f = 1 then (a.stalls + 1) % 2 ^ 32 else a.stalls) := by
  unfold faultedAxis
  split
  · exact ⟨rfl, rfl, .inl rfl, rfl⟩
  · split
    · obtain ⟨hfault, hhoming, hpend, hstalls⟩ := stopAxis_marks now (markFault f a)
      exact ⟨hfault, hhoming, .inr hpend, hstalls⟩
    · exact ⟨rfl, rfl, .inl rfl, rfl⟩

/-- Settles O40, by the three ways a fault is taken. -/
theorem everyAxisFaultIsRemembered : Obligations.EveryAxisFaultIsRemembered := by
  unfold Obligations.EveryAxisFaultIsRemembered
  intro n f s huse hrole hok hpend _
  rw [axisFault_eq huse hrole hok hpend]
  simp only [axis_emit, axis_setAxis_same]
  obtain ⟨hfault, hhoming, hend, hstalls⟩ := faultedAxis_marks s.tb.now f (axis n s)
  refine ⟨hfault, hhoming, hend, hstalls, fun h5 => ?_, fun k hk => axis_setAxis_of_ne hk _ s⟩
  unfold faultedAxis
  rw [if_pos h5]
  exact ⟨rfl, rfl, rfl⟩

end Sys2Proof.Machine
end

section
/-! PROOF. The tamper response: `guarded` gathers the state it is judged by, and most of its steps leave that as it is. -/

namespace Sys2Proof.Machine
open Sys2Proof

/-- What a tamper response is judged by: the security state, and the debug port. -/
def guarded (s : State) : Security × DebugLevel := (s.sec, s.win.debug)

theorem guarded_mk (a b c d e f g h i j k l m n o p q r s t u v w x y) :
    guarded (State.mk a b c d e f g h i j k l m n o p q r s t u v w x y) = (u, c.debug) := by
  simp only [guarded]

@[simp] theorem guarded_eta (s : State) : (s.sec, s.win.debug) = guarded s := by simp only [guarded]

theorem guarded_foldl {α : Type} {f : State → α → State} (h : ∀ u a, guarded (f u a) = guarded u) (l : List α) (s : State) :
    guarded (l.foldl f s) = guarded s := by
  induction l generalizing s with
  | nil => rfl
  | cons a l ih => exact (ih (f s a)).trans (h s a)

theorem guarded_ite {c : Prop} [Decidable c] {a b s : State} (ha : guarded a = guarded s) (hb : guarded b = guarded s) :
    guarded (if c then a else b) = guarded s := by
  split
  · exact ha
  · exact hb

@[simp] theorem guarded_send (o : Output) (s : State) : guarded (send o s) = guarded s := rfl

@[simp] theorem guarded_notify (p : Path) (addr : Nat) (s : State) : guarded (notify p addr s) = guarded s := guarded_ite rfl rfl

@[simp] theorem guarded_notifyAll (addr : Nat) (s : State) : guarded (notifyAll addr s) = guarded s :=
  (guarded_foldl (fun u _ => guarded_notify _ _ u) _ _).trans (guarded_notify _ _ s)

@[simp] theorem guarded_emit (c : Nat) (l : List Int) (s : State) : guarded (emit c l s) = guarded s := by
  obtain ⟨r, heq⟩ := emit_recorder c l s
  rw [heq]
  rfl

@[simp] theorem guarded_raise (k : Nat) (s : State) : guarded (raise k s) = guarded s := rfl

@[simp] theorem guarded_setModState (st : ModState) (s : State) : guarded (setModState st s) = guarded s := by
  unfold setModState
  exact guarded_ite rfl ((guarded_notifyAll _ _).trans (guarded_raise _ _))

@[simp] theorem guarded_yieldRow (row kept yielded : Nat) (s : State) : guarded (yieldRow row kept yielded s) = guarded s := by
  unfold yieldRow
  split
  · exact guarded_ite rfl (guarded_emit _ _ _)
  · exact guarded_emit _ _ _

@[simp] theorem guarded_endEntry (n st reason : Nat) (result : Bytes) (s : State) : guarded (endEntry n st reason result s) = guarded s := by
  unfold endEntry
  split
  · rfl
  · exact guarded_ite (guarded_ite rfl (guarded_notify _ _ _)) rfl

@[simp] theorem guarded_opCancel (n : Nat) (s : State) : guarded (opCancel n s) = guarded s := guarded_endEntry _ _ _ _ _

@[simp] theorem guarded_sessionOps (p : Path) (s : State) : guarded (sessionOps p s) = guarded s :=
  guarded_foldl (fun u _ => guarded_ite (guarded_opCancel _ u) rfl) _ s

@[simp] theorem guarded_endTls (n : Nat) (s : State) : guarded (endTls n s) = guarded s := by
  unfold endTls
  split
  · rfl
  · exact guarded_sessionOps _ _

@[simp] theorem guarded_endAllTls (s : State) : guarded (endAllTls s) = guarded s := guarded_foldl (fun u _ => guarded_endTls _ u) _ s

@[simp] theorem guarded_replicate (type : Nat) (ack : Bool) (data : Bytes) (s : State) : guarded (replicate type ack data s).1 = guarded s := by
  unfold replicate
  split <;> rfl

@[simp] theorem guarded_decide_ (slot : Nat) (c : Caravan) (d waiter : Option Nat) (s : State) : guarded (decide_ slot c d waiter s) = guarded s :=
  guarded_replicate _ _ _ s

@[simp] theorem guarded_abortAll (reason : Nat) (s : State) : guarded (abortAll reason s) = guarded s :=
  guarded_foldl (fun u _ => guarded_ite (guarded_decide_ _ _ _ _ u) rfl) _ s

@[simp] theorem guarded_goInDoubt (id : Nat) (s : State) : guarded (goInDoubt id s) = guarded s := by
  unfold goInDoubt
  split
  · rfl
  · exact guarded_ite rfl ((guarded_emit _ _ _).trans (guarded_replicate _ _ _ _))

@[simp] theorem guarded_tamperCaravans (s : State) : guarded (tamperCaravans s) = guarded s :=
  (guarded_foldl (fun u _ => guarded_ite (guarded_goInDoubt _ u) rfl) _ _).trans (guarded_abortAll 5 s)

/-- After FIELD debug is closed the security state is as it was, and the debug port is not in FIELD. -/
theorem guarded_closeField (s : State) : (guarded (closeField s)).1 = s.sec ∧ (guarded (closeField s)).2 ≠ .field := by
  unfold closeField closeDebug
  split
  · rename_i hfield
    rw [if_neg (by simp [hfield]), guarded_emit]
    exact ⟨rfl, fun h => by cases h⟩
  · rename_i hfield
    exact ⟨rfl, hfield⟩

theorem abortUpdate_sec (s : State) : (abortUpdate s).sec = { s.sec with update := none } := by
  unfold abortUpdate
  split
  · rename_i hnone
    rw [← hnone]
  · exact congrArg Prod.fst (guarded_endEntry _ _ _ _ _)

/-- The security state and the debug port after the keys are taken, as far as a tamper response promises them. -/
structure KeysTaken (n e : Nat) (s : State) : Prop where
  slots : s.sec.slots = []
  update : s.sec.update = none
  tamper : s.sec.tamper ≠ .none
  eVbat : s.sec.eVbat = e
  lastSource : s.sec.lastSource = n

theorem KeysTaken.congr {n e : Nat} {s t : State} (h : KeysTaken n e s) (hsec : t.sec = s.sec) : KeysTaken n e t :=
  ⟨hsec ▸ h.slots, hsec ▸ h.update, hsec ▸ h.tamper, hsec ▸ h.eVbat, hsec ▸ h.lastSource⟩

theorem KeysTaken.blowFuses {n e : Nat} {s : State} (h : KeysTaken n e s) : KeysTaken n e (blowFuses s) := by
  unfold Machine.blowFuses
  extract_lets f t
  have ht : KeysTaken n e t := by
    dsimp only [t]
    split
    · exact h
    · exact ⟨rfl, h.update, h.tamper, h.eVbat, h.lastSource⟩
  split
  · exact ⟨ht.slots, ht.update, nofun, ht.eVbat, ht.lastSource⟩
  · exact ht

theorem blowFuses_win (s : State) : (blowFuses s).win = s.win := by
  unfold blowFuses
  dsimp only
  split_ifs <;> rfl

theorem guarded_tamperEvent (source : Nat) (locked : Bool) (s : State) : guarded (tamperEvent source locked s) = guarded s := by
  unfold tamperEvent emitEvent
  exact guarded_ite rfl rfl

theorem KeysTaken.blowAndRecord {n e : Nat} {s : State} (h : KeysTaken n e s) : KeysTaken n e (blowAndRecord s) := by
  unfold Machine.blowAndRecord
  split
  · exact h.blowFuses
  · refine KeysTaken.congr ?_ (congrArg Prod.fst (guarded_tamperEvent _ _ _))
    obtain ⟨hslots, hupdate, htamper, hvbat, hsource⟩ := h.blowFuses
    exact ⟨hslots, hupdate, htamper, hvbat, hsource⟩

theorem blowAndRecord_debug (s : State) : (blowAndRecord s).win.debug = s.win.debug := by
  unfold blowAndRecord
  split
  · rw [blowFuses_win]
  · refine (congrArg Prod.snd (guarded_tamperEvent _ _ _)).trans ?_
    exact congrArg Window.debug (blowFuses_win s)

theorem KeysTaken.latchTamper {n e : Nat} {s : State} (h : KeysTaken n e s) : KeysTaken n e (latchTamper s) := by
  unfold Machine.latchTamper
  split
  · exact ⟨h.slots, h.update, nofun, h.eVbat, h.lastSource⟩
  · exact h

theorem latchTamper_win (s : State) : (latchTamper s).win = s.win := by
  unfold latchTamper
  split <;> rfl

/-- Settles O49, by following the security state through the response. -/
theorem tamperTakesTheKeys : Obligations.TamperTakesTheKeys := by
  unfold Obligations.TamperTakesTheKeys
  intro n s
  have hall : KeysTaken n (s.sec.eVbat + b2n (storeHolds s)) (tamperResponse n s) ∧ (tamperAwake s = true → (tamperResponse n s).win.debug ≠ .field) := by
    unfold tamperResponse
    extract_lets awake held time ts ev u v w x
    have hv : KeysTaken n ev v := by
      have hsec : v.sec = { u.sec with update := none, slots := [] } := congrArg (fun x : Security => { x with slots := [] }) (abortUpdate_sec u)
      refine ⟨hsec ▸ rfl, hsec ▸ rfl, ?_, hsec ▸ rfl, hsec ▸ rfl⟩
      rw [hsec]
      change ts ≠ .none
      dsimp only [ts]
      split <;> exact nofun
    have hw : w.sec = v.sec := congrArg Prod.fst ((guarded_raise 4 _).trans (guarded_ite (guarded_setModState _ v) rfl))
    have hx : KeysTaken n ev x ∧ (awake = true → x.win.debug ≠ .field) := by
      dsimp only [x]
      split
      · rename_i hasleep
        exact ⟨hv, fun hawake => by simp [hawake] at hasleep⟩
      · obtain ⟨hsec, hdebug⟩ := guarded_closeField (endAllTls (yieldRow 2 6 160 w))
        have hkept : (endAllTls (yieldRow 2 6 160 w)).sec = w.sec :=
          congrArg Prod.fst ((guarded_endAllTls _).trans (guarded_yieldRow _ _ _ w))
        have htamper := guarded_tamperCaravans (closeField (endAllTls (yieldRow 2 6 160 w)))
        exact ⟨hv.congr ((congrArg Prod.fst htamper).trans (hsec.trans (hkept.trans hw))), fun _ hfield => hdebug ((congrArg Prod.snd htamper).symm.trans hfield)⟩
    obtain ⟨hkeys, hdebug⟩ := hx
    constructor
    · refine KeysTaken.latchTamper ?_
      split
      · exact hkeys.blowAndRecord
      · exact hkeys
    · intro hawake
      rw [latchTamper_win]
      split
      · rw [blowAndRecord_debug]
        exact hdebug hawake
      · exact hdebug hawake
  exact ⟨hall.1.slots, hall.1.update, hall.1.tamper, hall.1.eVbat, hall.1.lastSource, hall.2⟩

end Sys2Proof.Machine
end

section
/-! PROOF. Field frames that fail a check. -/

namespace Sys2Proof.Machine
open Sys2Proof

/-- A frame that is not taken does no more than its reception. -/
theorem onFrame_of_untaken {type : Nat} {f : FfpFrame} {content : State → State} {s v : State} (h : receiveFfp f s = (v, false)) :
    onFrame type f content s = v := by
  unfold onFrame
  rw [h]

/-- The rows by which field frames arrive. -/
def frameRows (dt : Nat) (f : FfpFrame) : List Instr :=
  [.telemetry dt f, .writeAck dt f, .nak dt f, .announce dt f, .caravanAck dt f, .decisionAck dt f, .report dt f, .query dt f]

theorem exec_frameRow_of_untaken {dt : Nat} {f : FfpFrame} {i : Instr} {s v : State} (hi : i ∈ frameRows dt f)
    (h : receiveFfp f (advance dt s) = (v, false)) : exec i s = .next v := by
  simp only [frameRows, List.mem_cons, List.not_mem_nil, or_false] at hi
  rcases hi with rfl | rfl | rfl | rfl | rfl | rfl | rfl | rfl <;> exact congrArg Host.Outcome.next (onFrame_of_untaken h)

/-- The counts of a frame that has come in on a port and is no duplicate. -/
def frameIn (f : FfpFrame) (u : State) : State :=
  let v := prpEnter f (setPort f.port (fun q => { q with rx := (q.rx + 1) % 2 ^ 32 }) u)
  { v with net := { v.net with rxFrames := (v.net.rxFrames + 1) % 2 ^ 32 } }

theorem receiveFfp_of_discard {f : FfpFrame} {u : State} {reason : Nat} (hon : ffpOn u = true) (hlow : 1 ≤ f.port) (hhigh : f.port ≤ 10)
    (hup : portUp f.port u = true) (hvid : f.vid = none ∨ f.vid = some (fld u.net.cfg 8 2))
    (hdup : prpDuplicate f (setPort f.port (fun q => { q with rx := (q.rx + 1) % 2 ^ 32 }) u) = false)
    (hreason : discardReason f (frameIn f u) = some reason) :
    receiveFfp f u =
      ((let v := discard reason (frameIn f u)
        if reason = 7 then
          { v with net := { v.net with nodes := tabSet v.net.nodes f.src { tabGet {} v.net.nodes f.src with authFails := min 0xFFFF ((tabGet {} v.net.nodes f.src).authFails + 1) } } }
        else v), false) := by
  have hvid' : ¬ (f.vid.isSome ∧ f.vid ≠ some (fld (setPort f.port (fun q => { q with rx := (q.rx + 1) % 2 ^ 32 }) u).net.cfg 8 2)) := by
    rintro ⟨hsome, hother⟩
    rcases hvid with hnone | hsame
    · simp [hnone] at hsome
    · exact hother hsame
  unfold receiveFfp
  simp only [hon, hlow, hhigh, hup, and_self, decide_true, Bool.not_true, Bool.or_self, Bool.false_eq_true, if_false, if_neg hvid', hdup]
  change (match discardReason f (frameIn f u) with | some r => _ | none => _) = _
  rw [hreason]
  dsimp only [frameIn]
  split <;> rfl

theorem receiveFfp_of_down {f : FfpFrame} {u : State} (h : ffpOn u = false ∨ portUp f.port u = false) : receiveFfp f u = (u, false) := by
  unfold receiveFfp
  rcases h with h | h <;> simp [h]

/-- Settles O22, by the reception that all the rows share. -/
theorem framesThatFailAreCountedAndIgnored : Obligations.FramesThatFailAreCountedAndIgnored := by
  unfold Obligations.FramesThatFailAreCountedAndIgnored
  intro dt f i reason hi
  constructor
  · rintro s ⟨hon, hlow, hhigh, hup, hvid, hdup, hreason⟩
    exact exec_frameRow_of_untaken hi (receiveFfp_of_discard hon hlow hhigh hup hvid hdup hreason)
  · intro s hdown
    exact exec_frameRow_of_untaken hi (receiveFfp_of_down hdown)

end Sys2Proof.Machine
end

section
/-! PROOF. Twin frames: reception, and the items a standby takes or refuses. -/

namespace Sys2Proof.Machine
open Sys2Proof

/-! Twin frames -/

theorem receiveTwin_of_unkeyed (h : TwinHead) {s : State} (hk : s.twin.keyed = false) : receiveTwin h s = (s, false) := by
  simp only [receiveTwin, hk, Bool.not_false, if_true]

theorem receiveTwin_of_badTag {h : TwinHead} {s : State} (ht : h.tagOk = false) (hk : s.twin.keyed = true) :
    receiveTwin h s = ({ s with twin := { s.twin with badFrames := s.twin.badFrames + 1 } }, false) := by
  simp only [receiveTwin, hk, ht, Bool.not_true, Bool.not_false, if_true, Bool.false_eq_true, if_false]

/-- A frame that verifies refreshes the link. -/
theorem receiveTwin_of_valid {h : TwinHead} {s : State} (ht : h.tagOk = true) (hk : s.twin.keyed = true) :
    receiveTwin h s = ({ s with twin := { s.twin with lastValid := s.tb.now, rxSeq := h.seq } }, true) := by
  simp only [receiveTwin, hk, ht, Bool.not_true, Bool.false_eq_true, if_false]

theorem takeItem_of_untaken {type : Nat} {h : TwinHead} {apply : State → State} {s v : State} (hr : receiveTwin h s = (v, false)) :
    takeItem type h apply s = v := by
  simp only [takeItem, hr]

theorem refuseItem_of_untaken {type : Nat} {h : TwinHead} {s v : State} (hr : receiveTwin h s = (v, false)) :
    refuseItem type h s = v := by
  simp only [refuseItem, hr]

/-- An item is refused where its image is not the staged one, or its rows do not validate. -/
def itemRefused (type : Nat) (data : Bytes) (s : State) : Bool :=
  (type == 0x12 && wrongImage data s) || (type == 0x15 && modelRefused data s)

/-- What the row of a replicated item does: a new item that is refused is answered so, every other one taken. -/
def itemEffect (type : Nat) (h : TwinHead) (data : Bytes) (apply : State → State) (s : State) : State :=
  if itemRefused type data s && !s.twin.received.contains h.item then refuseItem type h s else takeItem type h apply s

/-- The rows of the replicated items, with their types and what applies them. -/
def itemRows (dt : Nat) (h : TwinHead) (data : Bytes) : List (Instr × Nat × (State → State)) :=
  [(Instr.journal dt h data, 0x10, storeJournal data), (.energy dt h data, 0x11, storeEnergy data), (.retained dt h data, 0x12, storeRetained data),
    (.plan dt h data, 0x13, takePlan data), (.modelTables dt h data, 0x15, storeTables data), (.keyEpoch dt h data, 0x16, storeEpoch data)]

/-- The row of a replicated item runs `itemEffect`. -/
theorem exec_itemRow {dt : Nat} {h : TwinHead} {data : Bytes} {i : Instr} {type : Nat} {apply : State → State}
    (hi : (i, type, apply) ∈ itemRows dt h data) (s : State) :
    exec i s = .next (itemEffect type h data apply (advance dt s)) := by
  simp only [itemRows, List.mem_cons, List.not_mem_nil, or_false, Prod.mk.injEq] at hi
  rcases hi with ⟨rfl, rfl, rfl⟩ | ⟨rfl, rfl, rfl⟩ | ⟨rfl, rfl, rfl⟩ | ⟨rfl, rfl, rfl⟩ | ⟨rfl, rfl, rfl⟩ | ⟨rfl, rfl, rfl⟩ <;>
    simp only [itemEffect, itemRefused, Nat.reduceBEq, Bool.true_and, Bool.false_and, Bool.or_false, Bool.false_or] <;> rfl

section
variable {type : Nat} {h : TwinHead} {data : Bytes} {apply : State → State} {u : State}

theorem itemEffect_of_untaken {v : State} (hr : receiveTwin h u = (v, false)) : itemEffect type h data apply u = v := by
  unfold itemEffect
  split
  · exact refuseItem_of_untaken hr
  · exact takeItem_of_untaken hr

/-- The active module takes no item. -/
theorem itemEffect_of_active (ht : h.tagOk = true) (hk : u.twin.keyed = true) (ha : u.twin.wantActive = true) :
    itemEffect type h data apply u = { u with twin := { u.twin with lastValid := u.tb.now, rxSeq := h.seq } } := by
  have hr := receiveTwin_of_valid ht hk
  unfold itemEffect
  split
  · simp only [refuseItem, hr, ha, if_true]
  · simp only [takeItem, hr, ha, if_true]

/-- A standby acknowledges a repeated item again. -/
theorem itemEffect_of_repeated (ht : h.tagOk = true) (hk : u.twin.keyed = true) (ha : u.twin.wantActive = false)
    (hc : u.twin.received.contains h.item = true) :
    itemEffect type h data apply u = ackItem type h.item 0 { u with twin := { u.twin with lastValid := u.tb.now, rxSeq := h.seq } } := by
  simp only [itemEffect, takeItem, receiveTwin_of_valid ht hk, ha, hc, Bool.not_true, Bool.and_false, Bool.false_eq_true, if_false, if_true]

/-- A standby applies a new item and acknowledges it. -/
theorem itemEffect_of_new (ht : h.tagOk = true) (hk : u.twin.keyed = true) (ha : u.twin.wantActive = false)
    (hc : u.twin.received.contains h.item = false) (hn : itemRefused type data u = false) :
    itemEffect type h data apply u =
      (let v := apply { u with twin := { u.twin with lastValid := u.tb.now, rxSeq := h.seq } }
       ackItem type h.item 0 { v with twin := { v.twin with received := (h.item :: v.twin.received).take 4096 } }) := by
  simp only [itemEffect, takeItem, receiveTwin_of_valid ht hk, ha, hc, hn, Bool.false_and, Bool.false_eq_true, if_false]

/-- A standby answers a new item that it refuses with RESULT 1. -/
theorem itemEffect_of_refused (ht : h.tagOk = true) (hk : u.twin.keyed = true) (ha : u.twin.wantActive = false)
    (hc : u.twin.received.contains h.item = false) (hn : itemRefused type data u = true) :
    itemEffect type h data apply u = ackItem type h.item 1 { u with twin := { u.twin with lastValid := u.tb.now, rxSeq := h.seq } } := by
  simp only [itemEffect, refuseItem, receiveTwin_of_valid ht hk, ha, hc, hn, Bool.not_false, Bool.and_true, Bool.false_eq_true, if_false, if_true]

end

theorem itemRefused_eq_false {type : Nat} {data : Bytes} {u : State} (hw : type = 0x12 → wrongImage data u = false)
    (hm : type = 0x15 → modelRefused data u = false) : itemRefused type data u = false := by
  simp only [itemRefused, Bool.or_eq_false_iff, Bool.and_eq_false_imp, beq_iff_eq]
  exact ⟨hw, hm⟩

theorem itemRefused_eq_true {type : Nat} {data : Bytes} {u : State}
    (hr : (type = 0x12 ∧ wrongImage data u = true) ∨ (type = 0x15 ∧ modelRefused data u = true)) : itemRefused type data u = true := by
  simpa only [itemRefused, Bool.or_eq_true, Bool.and_eq_true, beq_iff_eq] using hr

/-- A row that does `f` once its time has passed runs whatever `f` is under the condition. -/
theorem runs_of_exec {i : Instr} {dt : Nat} {cond : State → Prop} {f g : State → State} (hexec : ∀ s, exec i s = .next (g (advance dt s)))
    (hg : ∀ u, cond u → g u = f u) : Runs i dt cond f :=
  fun s hs => (hexec s).trans (congrArg _ (hg _ hs))

/-- The rows of the twin frames beside the items. -/
theorem exec_twinFrame_of_badTag {dt : Nat} {h : TwinHead} {data : Bytes} {i : Instr}
    (hi : i ∈ [Instr.modelState dt h data, .heartbeat dt h data, .resign dt h, .twinAck dt h data]) {s v : State}
    (hr : receiveTwin h (advance dt s) = (v, false)) : exec i s = .next v := by
  simp only [List.mem_cons, List.not_mem_nil, or_false] at hi
  rcases hi with rfl | rfl | rfl | rfl
  · change execModelState dt h data s = _
    simp only [execModelState, hr]
  · change execHeartbeat dt h data s = _
    simp only [execHeartbeat, hr]
  · change execResign dt h s = _
    simp only [execResign, hr]
  · change execTwinAck dt h data s = _
    simp only [execTwinAck, hr]

/-- A twin frame whose tag does not verify is counted as bad. -/
theorem runs_twinFrame_of_badTag {dt : Nat} {h : TwinHead} {data : Bytes} {i : Instr}
    (hi : i ∈ [Instr.journal dt h data, .energy dt h data, .retained dt h data, .plan dt h data, .modelTables dt h data, .keyEpoch dt h data,
      .modelState dt h data, .heartbeat dt h data, .resign dt h, .twinAck dt h data]) (ht : h.tagOk = false) :
    Runs i dt (fun u => u.twin.keyed = true) (fun u => { u with twin := { u.twin with badFrames := u.twin.badFrames + 1 } }) := by
  intro s hk
  have hr := receiveTwin_of_badTag (h := h) ht hk
  by_cases hi2 : i ∈ [Instr.modelState dt h data, .heartbeat dt h data, .resign dt h, .twinAck dt h data]
  · exact exec_twinFrame_of_badTag hi2 hr
  · obtain ⟨p, hp, rfl⟩ : ∃ p ∈ itemRows dt h data, p.1 = i := by
      simp only [itemRows, List.mem_cons, List.not_mem_nil, or_false, exists_eq_or_imp, exists_eq_left] at hi hi2 ⊢
      tauto
    exact (exec_itemRow hp s).trans (congrArg _ (itemEffect_of_untaken hr))

/-- Settles O29, by the cases of `itemEffect` and the reception of a twin frame. -/
theorem twinItemsAreAppliedOnceAndAcknowledged : Obligations.TwinItemsAreAppliedOnceAndAcknowledged := by
  unfold Obligations.TwinItemsAreAppliedOnceAndAcknowledged
  refine ⟨fun dt h data i type apply hi ht => ?_, fun dt h data i hi ht => runs_twinFrame_of_badTag hi ht, fun dt h data ht => ?_⟩
  · have hrow := exec_itemRow hi
    refine ⟨runs_of_exec hrow ?_, runs_of_exec hrow ?_, runs_of_exec hrow ?_, runs_of_exec hrow ?_, runs_of_exec hrow ?_⟩
    · rintro u ⟨hk, ha, hc, hw, hm⟩
      exact itemEffect_of_new ht hk ha hc (itemRefused_eq_false hw hm)
    · rintro u ⟨hk, ha, hc⟩
      exact itemEffect_of_repeated ht hk ha hc
    · rintro u ⟨hk, ha, hc, hr⟩
      exact itemEffect_of_refused ht hk ha hc (itemRefused_eq_true hr)
    · rintro u ⟨hk, ha⟩
      exact itemEffect_of_active ht hk ha
    · intro u hk
      exact itemEffect_of_untaken (receiveTwin_of_unkeyed h hk)
  · rintro s ⟨hk, ha⟩
    change execModelState dt h data s = _
    simp only [execModelState, receiveTwin_of_valid ht hk, ha, Bool.false_eq_true, if_false]

end Sys2Proof.Machine
end

section
/-! PROOF. The recorder's 1 ms instant and ring, and the RTC. -/

namespace Sys2Proof.Machine
open Sys2Proof

/-! The recorder's 1 ms instant -/

/-- What waits for the recorder's 1 ms instant: the triggers, the marks and the Event-Fires. -/
def awaiting (s : State) : Tab Trigger × List (Nat × Nat × Bytes) × List (Nat × Nat) :=
  (s.recorder.triggers, s.recorder.marks, s.recorder.fires)

theorem tabGet_nil {α : Type} (d : α) (n : Nat) : tabGet d [] n = d := rfl

theorem awaiting_enterRec (kept : Nat) (r : EvRec) (s : State) : awaiting (enterRec kept r s).1 = awaiting s := by
  unfold enterRec
  split <;> rfl

/-- An event that takes its place in the queue leaves what waits. -/
theorem awaiting_enterEvent (s : State) (e : Event) : awaiting (enterEvent s e) = awaiting s := by
  unfold enterEvent
  induction eventRecords e s generalizing s with
  | nil => rfl
  | cons r l ih => rw [List.foldl_cons, ih, awaiting_enterRec]

theorem awaiting_foldl_enterEvent (l : List Event) (s : State) : awaiting (l.foldl enterEvent s) = awaiting s := by
  induction l generalizing s with
  | nil => rfl
  | cons e l ih => rw [List.foldl_cons, ih, awaiting_enterEvent]

/-- A trigger that is OFF and that no Event-Fire names is left alone. -/
theorem runTrigger_of_awaiting_nil {codes : List Nat} {last k time : Nat} {s : State} (h : awaiting s = ([], [], [])) (n : Nat) :
    runTrigger codes last k time s n = s := by
  simp only [awaiting, Prod.mk.injEq] at h
  obtain ⟨ht, -, hf⟩ := h
  have hoff : fld (trigger n s).defn 0 1 = 0 := by
    rw [trigger, ht, tabGet_nil]
    decide
  unfold runTrigger
  exact if_pos ⟨hoff, by rw [hf, List.filter_nil]⟩

theorem foldl_runTrigger_of_awaiting_nil {codes : List Nat} {last k time : Nat} {s : State} (h : awaiting s = ([], [], [])) (l : List Nat) :
    l.foldl (runTrigger codes last k time) s = s := by
  induction l with
  | nil => rfl
  | cons n l ih => rw [List.foldl_cons, runTrigger_of_awaiting_nil h, ih]

/-- The recorder at the instant `k`: the events of the span take their place. -/
def recordSpan (u : State) : State :=
  (u.recorder.span.foldl (fun l e => insertEvent e l) []).foldl enterEvent
    { u with recorder := { u.recorder with span := [], newCodes := [], lastTick := u.tb.now / 1000000 } }

/-- The codes that the triggers are judged on: those queued outside the order, and those of the span. -/
def judgedCodes (u : State) : List Nat :=
  let evs := (recordSpan u).recorder.queue.filter (fun r => r.kind == 1)
  u.recorder.newCodes ++ (evs.drop (evs.length - ((recordSpan u).recorder.nextSeq - u.recorder.nextSeq))).map (·.code)

/-- The triggers in turn. -/
def judgeAll (u : State) : State :=
  (List.range 128).foldl (runTrigger (judgedCodes u) u.recorder.lastTick (u.tb.now / 1000000) (zoneAt (u.tb.now / 1000000 * 1000000) (recordSpan u))) (recordSpan u)

/-- At a 1 ms instant events, triggers and marks take their place in this order. -/
theorem runs_recorderTick (dt : Nat) :
    Runs (.recorderTick dt) dt (fun u => recorderRuns u = true ∧ u.recorder.lastTick < u.tb.now / 1000000)
      (fun u => (judgeAll u).recorder.marks.foldl (fun x _ => runMark x) (judgeAll u)) := by
  rintro s ⟨hrun, hlate⟩
  change execRecorderTick dt s = _
  unfold execRecorderTick
  extract_lets u k last span codes v before w codes' x
  have hnot : ¬ ((!recorderRuns u) = true ∨ k ≤ last) := by
    rw [hrun]
    simp only [Bool.not_true, Bool.false_eq_true, false_or, Nat.not_le]
    exact hlate
  have hw : w = recordSpan u := rfl
  have hcodes : codes' = judgedCodes u := rfl
  have hx : x = judgeAll u := by
    unfold judgeAll
    rw [← hw, ← hcodes]
  rw [if_neg hnot, hx]

/-- Before the next instant nothing happens. -/
theorem runs_recorderTick_of_early (dt : Nat) : Runs (.recorderTick dt) dt (fun u => u.tb.now / 1000000 ≤ u.recorder.lastTick) id := by
  intro s hearly
  change execRecorderTick dt s = _
  unfold execRecorderTick
  extract_lets u k last span codes v before w codes' x
  rw [if_pos (Or.inr hearly)]
  rfl

theorem awaiting_recordSpan (u : State) : awaiting (recordSpan u) = awaiting u :=
  awaiting_foldl_enterEvent _ _

/-- Without triggers, marks and Event-Fires the instant is the entry of the span's events. -/
theorem judgeAll_of_awaiting_nil {u : State} (h : awaiting u = ([], [], [])) : judgeAll u = recordSpan u :=
  foldl_runTrigger_of_awaiting_nil ((awaiting_recordSpan u).trans h) _

/-- Settles O28, by the recorder's instant, the frame of the events that take their place, and the branches of a ring write. -/
theorem recorderTicksAndWritesTheRing : Obligations.RecorderTicksAndWritesTheRing := by
  unfold Obligations.RecorderTicksAndWritesTheRing
  refine fun dt => ⟨?_, ?_, runs_recorderTick_of_early dt, ?_, ?_⟩
  · rintro s ⟨hrun, hlate, ht, hm, hf⟩
    have hnil : awaiting (advance dt s) = ([], [], []) := by simp only [awaiting, ht, hm, hf]
    have hmarks : (recordSpan (advance dt s)).recorder.marks = [] :=
      congrArg (fun p => p.2.1) ((awaiting_recordSpan (advance dt s)).trans hnil)
    rw [runs_recorderTick dt s ⟨hrun, hlate⟩]
    dsimp only
    rw [judgeAll_of_awaiting_nil hnil, hmarks, List.foldl_nil]
    rfl
  · have hticks := runs_recorderTick dt
    simp only [judgeAll, judgedCodes, recordSpan] at hticks ⊢
    exact hticks
  · rintro q rest s ⟨hrun, hgasp, hq⟩
    change execRingWrite dt s = _
    simp only [execRingWrite, hrun, hgasp, hq, Bool.not_true, Bool.or_self, Bool.false_eq_true, if_false, setRec, putSlot]
  · intro s hgasp
    change execRingWrite dt s = _
    simp only [execRingWrite, hgasp, Bool.or_true, if_true, id_eq]

/-! The RTC -/

/-- The flags of Rtc-Get-Time. -/
theorem rtcFlags_eq (osc vbat leapDue freeze : Bool) (synced : Option Nat) (now : Nat) :
    bitAt 0 osc + bitAt 1 vbat + bitAt 2 (match synced with | none => false | some t => decide (now ≤ t + 2 * 10 ^ 9)) + bitAt 3 leapDue + bitAt 4 freeze =
      (if osc then 1 else 0) + (if vbat then 2 else 0) + (match synced with | none => 0 | some t => if now ≤ t + 2000000000 then 4 else 0) +
        (if leapDue then 8 else 0) + (if freeze then 16 else 0) := by
  cases synced <;> simp [bitAt]

theorem acts_rtcGetTime : Acts .rtcGetTime cmdRtcGetTime always (fun _ u => { u with rtc := { u.rtc with freezeTimeout := false } })
    (fun _ u =>
      let sec := u.rtc.ticks / 32768
      let cal := calendar u.rtc sec
      le 8 (sec % 2 ^ 48) ++ le 2 (u.rtc.ticks % 32768) ++ leInt 2 (leapAt u.rtc sec) ++ le 2 (cal.getD 0 0) ++ (cal.drop 1).map (fun v => BitVec.ofNat 8 v) ++
        le 2 ((if u.rtc.oscStopped then 1 else 0) + (if u.rtc.vbatLow then 2 else 0) +
          (match u.rtc.syncedAt with | none => 0 | some t => if u.tb.now ≤ t + 2000000000 then 4 else 0) + (if u.rtc.leapTime ≠ 0 then 8 else 0) + (if u.rtc.freezeTimeout then 16 else 0)) ++
        leInt 2 u.rtc.cal ++ le 8 u.zone ++ zeros 8) :=
  acts_of_body (fun _ _ s => exec_commandRow rfl s) (by
    intro c u _ _
    have hf := rtcFlags_eq u.rtc.oscStopped u.rtc.vbatLow (u.rtc.leapTime != 0) u.rtc.freezeTimeout u.rtc.syncedAt u.tb.now
    simp only [bne_iff_ne] at hf
    rw [← hf]
    rfl)

theorem acts_rtcSetAlarm : Acts .rtcSetAlarm cmdRtcSetAlarm (fun c u => decide (u.rtc.ticks < fld c.payload 4 8 * 32768 + fld c.payload 12 2))
    (fun c u =>
      let b := c.payload
      let o := tabGet {} u.rtc.alarms (fld b 0 1)
      let a := { o with enable := bit (fld b 1 1) 0, wake := bit (fld b 1 1) 1, repeatS := fld b 16 4, seconds := fld b 4 8, subsec := fld b 12 2 }
      { u with rtc := { u.rtc with alarms := tabSet u.rtc.alarms (fld b 0 1) a } })
    (fun _ _ => []) :=
  acts_of_body (fun _ _ s => exec_commandRow rfl s) (by
    intro c u _ h
    have hfuture : ¬ (fld c.payload 4 8 * 32768 + fld c.payload 12 2 ≤ u.rtc.ticks) := by simpa only [decide_eq_true_eq, Nat.not_le] using h
    simp only [cmdRtcSetAlarm, Alarm.at, hfuture, if_false])

/-- An RTC within a tick of zone time is in step with it. -/
theorem syncRtc_of_close {v : State} (hrun : timeBaseRuns v = true) (hclose : ((v.zone : Int) - v.rtc.ns).natAbs ≤ 30518) :
    syncRtc v = { v with rtc := { v.rtc with syncedAt := some v.tb.now } } := by
  have hticks : ((v.zone : Int) - v.rtc.ns).natAbs ≤ rtcTickNs.natAbs := hclose
  simp only [syncRtc, hrun, hticks, Bool.not_true, Bool.false_eq_true, if_false, if_true]

/-- An RTC further away takes zone time. -/
theorem syncRtc_of_far {v : State} (hrun : timeBaseRuns v = true) (hfar : 30518 < ((v.zone : Int) - v.rtc.ns).natAbs) :
    syncRtc v =
      (let w := adjustRtc (v.zone * 32768 / 10 ^ 9) v
       let ch : Int := (w.rtc.ns : Int) - v.rtc.ns
       let w := if 1000000 < ch.natAbs then emit 0x1003 [ch, 0] w else w
       if w.tb.state = 2 then clearOscStopped w else w) := by
  have hticks : ¬ ((v.zone : Int) - v.rtc.ns).natAbs ≤ rtcTickNs.natAbs := Nat.not_le.mpr hfar
  simp only [syncRtc, hrun, hticks, Bool.not_true, Bool.false_eq_true, if_false]

/-- The comparison of the RTC with zone time, once a second. -/
theorem runs_rtcSync (dt : Nat) :
    Runs (.rtcSync dt) dt (fun u => timeBaseRuns u = true ∧ u.rtc.lastSync ≠ some (u.zone / 1000000000))
      (fun u => syncRtc { u with rtc := { u.rtc with lastSync := some (u.zone / 1000000000) } }) := by
  rintro s ⟨hrun, hlast⟩
  change execRtcSync dt s = _
  have hcond : (timeBaseRuns (advance dt s) && (advance dt s).rtc.lastSync != some ((advance dt s).zone / 10 ^ 9)) = true := by
    rw [hrun, Bool.true_and, bne_iff_ne]
    exact hlast
  exact congrArg Host.Outcome.next (if_pos hcond)

/-- Settles O26, row by row: the bodies of the commands, and the branches of the RTC's instants. -/
theorem rtcCountsSyncsAndWakes : Obligations.RtcCountsSyncsAndWakes := by
  unfold Obligations.RtcCountsSyncsAndWakes
  refine ⟨acts_rtcGetTime, acts_of_body (fun _ _ s => exec_commandRow rfl s) (fun c u _ _ => rfl),
    acts_of_body (fun _ _ s => exec_commandRow rfl s) (fun c u _ _ => rfl), acts_of_body (fun _ _ s => exec_commandRow rfl s) (fun c u _ _ => rfl),
    acts_rtcSetAlarm, acts_of_body (fun _ _ s => exec_commandRow rfl s) (fun c u _ _ => rfl), fun dt => ⟨?_, ?_, ?_, ?_, ?_, ?_, ?_, ?_, ?_⟩⟩
  · rintro s ⟨hrun, hlast, hclose⟩
    exact (runs_rtcSync dt s ⟨hrun, hlast⟩).trans (congrArg _ (syncRtc_of_close hrun hclose))
  · rintro s ⟨hrun, hlast, hfar⟩
    exact (runs_rtcSync dt s ⟨hrun, hlast⟩).trans (congrArg _ (syncRtc_of_far hrun hfar))
  · rintro e t s ⟨hlocked, hstart, hlate⟩
    change execCalUpdate dt e s = _
    have hlate' : t + 1024 * 10 ^ 9 ≤ (advance dt s).tb.now := hlate
    simp only [execCalUpdate, hlocked, hstart, hlate', bne_self_eq_false, Bool.false_eq_true, if_false, if_true]
  · rintro i hi s ⟨hen, hdue⟩
    change execAlarm dt i s = _
    unfold execAlarm
    exact congrArg _ (if_pos ⟨hi, hen, hdue⟩)
  · rintro s ⟨hn, hstandby⟩
    change execPeriodicWake dt s = _
    simp only [execPeriodicWake, hn, hstandby, Bool.false_eq_true, if_false]
  · rintro s ⟨hne, hle⟩
    change execLeap dt s = _
    simp only [execLeap, bne_iff_ne.mpr hne, hle, decide_true, Bool.and_true, if_true]
  · intro s hosc
    change execOscStopped dt s = _
    simp only [execOscStopped, hosc, Bool.false_eq_true, if_false]
  · intro low s hlow
    change execVbatLow dt low s = _
    simp only [execVbatLow, if_neg hlow]
    cases low <;> rfl
  · intro s _
    rfl

end Sys2Proof.Machine
end

section
/-! PROOF. TLS sessions and the service port. -/

namespace Sys2Proof.Machine
open Sys2Proof

/-! Sessions and the service port -/

theorem gateFollow_power (s : State) : (gateFollow s).power = s.power := by
  obtain ⟨g, h, e⟩ := gateFollow_clocks s
  rw [e]

theorem gateFollow_panel (s : State) : (gateFollow s).panel = s.panel := by
  obtain ⟨g, h, e⟩ := gateFollow_clocks s
  rw [e]

theorem emit_power (c : Nat) (l : List Int) (s : State) : (emit c l s).power = s.power := by
  obtain ⟨r, e⟩ := emit_recorder c l s
  rw [e]

theorem emit_panel (c : Nat) (l : List Int) (s : State) : (emit c l s).panel = s.panel := by
  obtain ⟨r, e⟩ := emit_recorder c l s
  rw [e]

/-- In STANDBY the clock gates do not follow what is in use. -/
theorem gateFollow_of_standby {s : State} (h : inStandby s = true) : gateFollow s = s := by
  unfold gateFollow
  rw [if_pos h]

/-- The wake by attachment is judged on the module before the event and the gates. -/
theorem wakes_gateFollow_emit (c : Nat) (l : List Int) (p : Panel) (u : State) :
    (inStandby (gateFollow (emit c l { u with panel := p })) && bit (fld (gateFollow (emit c l { u with panel := p })).panel.cfg 9 1) 0) =
      (inStandby u && bit (fld p.cfg 9 1) 0) := by
  simp only [inStandby, gateFollow_power, gateFollow_panel, emit_power, emit_panel]

theorem endTls_of_open {n : Nat} {e : TlsSession} {u : State} (h : tabGet? u.sys.sessions n = some e) :
    endTls n u = send (.closed (.tls n)) (sessionOps (.tls n) { u with sys := { u.sys with sessions := tabErase u.sys.sessions n } }) := by
  unfold endTls
  rw [h]

/-- The state of an attached port. -/
def attach (cc2 : Bool) (u : State) : State :=
  emit 0x0F05 [1, b2n cc2] { u with panel := { u.panel with attached := true, orientation := cc2 } }

/-- A port whose conditions have held is attached. -/
theorem runs_usbAttach (dt : Nat) (cc2 : Bool) (held : Nat) :
    Runs (.usbAttach dt cc2 held) dt (fun u => u.power.off = false ∧ u.panel.attached = false ∧ (if u.panel.unstable then 2000 else 200) ≤ held)
      (fun u => if inStandby u && bit (fld u.panel.cfg 9 1) 0 then latchWake 2 (gateFollow (attach cc2 u)) else gateFollow (attach cc2 u)) := by
  rintro s ⟨hoff, hatt, hheld⟩
  change execUsbAttach dt cc2 held s = _
  simp only [execUsbAttach, hoff, hatt, Nat.not_lt.mpr hheld, Bool.false_eq_true, false_or, if_false, wakes_gateFollow_emit]
  rfl

/-- The instants of detaching of the last 10 s. -/
def recentDetaches (u : State) : List Nat := u.panel.detaches.filter (fun t => decide (u.tb.now ≤ t + 10000000000))

theorem runs_usbDetach (dt held : Nat) (hheld : 20 ≤ held) :
    Runs (.usbDetach dt held) dt (fun u => u.power.off = false ∧ u.panel.attached = true)
      (fun u =>
        let enters := !u.panel.unstable && decide (3 ≤ (u.tb.now :: recentDetaches u).length)
        let v := emit 0x0F05 [0, b2n u.panel.orientation] (sessionOps .usb
          { u with panel := { u.panel with attached := false, detaches := (u.tb.now :: recentDetaches u).take 8, unstable := u.panel.unstable || enters } })
        if enters then emit 0x0F05 [2, b2n u.panel.orientation] v else v) := by
  rintro s ⟨hoff, hatt⟩
  change execUsbDetach dt held s = _
  simp only [execUsbDetach, hoff, hatt, Nat.not_lt.mpr hheld, Bool.false_eq_true, Bool.not_true, false_or, if_false]
  rfl

/-- Settles O8, row by row, from the attachment and detachment of the port and the end of a session. -/
theorem sessionsOpenAndEnd : Obligations.SessionsOpenAndEnd := by
  unfold Obligations.SessionsOpenAndEnd
  refine fun dt => ⟨?_, ?_, ?_, ?_, ?_, ?_, ?_, ?_, ?_⟩
  · rintro o k s ⟨hserve, htls, hst, halert, hfree⟩
    change execTlsHandshake dt o s = _
    simp only [execTlsHandshake, hserve, htls, beq_eq_false_iff_ne.mpr hst, halert, hfree, Bool.and_self, Bool.not_true, Bool.or_self, Bool.false_eq_true,
      if_false, Option.getD_some]
  · rintro n e s ⟨hopen, hidle⟩
    change execTlsIdleTimeout dt n s = _
    have hidle' : e.lastRecord + 300 * 10 ^ 9 ≤ (advance dt s).tb.now := hidle
    simp only [execTlsIdleTimeout, hopen, hidle', if_true, endTls_of_open hopen]
  · intro n e s hopen
    exact congrArg _ (endTls_of_open hopen)
  · rintro cc2 held s ⟨hoff, hatt, hwake, hheld⟩
    rw [runs_usbAttach dt cc2 held s ⟨hoff, hatt, hheld⟩]
    simp only [hwake, Bool.false_eq_true, if_false]
    rfl
  · rintro cc2 held s ⟨hoff, hatt, hwake, hheld⟩
    rw [runs_usbAttach dt cc2 held s ⟨hoff, hatt, hheld⟩]
    have hstandby : inStandby (attach cc2 (advance dt s)) = true := by
      simp only [inStandby, attach, emit_power]
      exact (Bool.and_eq_true _ _ ▸ hwake).1
    simp only [hwake, if_true, gateFollow_of_standby hstandby]
    rfl
  · rintro held hheld s ⟨hoff, hatt, hcount⟩
    rw [runs_usbDetach dt held hheld s ⟨hoff, hatt⟩]
    have henters : (!(advance dt s).panel.unstable && decide (3 ≤ ((advance dt s).tb.now :: recentDetaches (advance dt s)).length)) = false := by
      rcases hcount with h | h
      · rw [h, Bool.not_true, Bool.false_and]
      · rw [Bool.and_eq_false_iff, decide_eq_false_iff_not, List.length_cons]
        exact Or.inr (by unfold recentDetaches; omega)
    simp only [henters, Bool.or_false, Bool.false_eq_true, if_false]
    rfl
  · rintro held hheld s ⟨hoff, hatt, hstable, hcount⟩
    rw [runs_usbDetach dt held hheld s ⟨hoff, hatt⟩]
    have henters : (!(advance dt s).panel.unstable && decide (3 ≤ ((advance dt s).tb.now :: recentDetaches (advance dt s)).length)) = true := by
      rw [hstable, Bool.not_false, Bool.true_and, decide_eq_true_eq, List.length_cons]
      exact Nat.succ_le_succ hcount
    simp only [henters, Bool.or_true, if_true]
    rfl
  · rintro t s ⟨hlast, hunst, hlate⟩
    change execUsbStable dt s = _
    simp only [execUsbStable, hlast, hunst, hlate, decide_true, Bool.and_self, if_true]
  · rintro s ⟨hserve, hlate⟩
    change execHeartbeatCount dt s = _
    simp only [execHeartbeatCount, hserve, hlate, decide_true, Bool.and_self, if_true]

end Sys2Proof.Machine
end

section
/-! PROOF. The System and Attic classes, firmware and fatal errors; with what a row of the command set answers, from its command's body. -/

namespace Sys2Proof.Machine
open Sys2Proof

/-! What a row of the command set answers, from its command's body -/

section
variable {row : Nat → Request → Instr} {cmd : Command} {cond : Ctx → State → Bool} {effect : Ctx → State → State}
  {payload : Ctx → State → Bytes} (hrow : ∀ dt r, commandRow (row dt r) = some (cmd, dt, r))
include hrow

theorem reads_of_row (hbody : ∀ c u, c.code = cmd.code → cond c u = true → cmd.body c u = (u, .ok (payload c u))) : Reads row cmd cond payload :=
  reads_of_body (fun dt r s => exec_commandRow (hrow dt r) s) hbody

theorem acts_of_row (hbody : ∀ c u, c.code = cmd.code → cond c u = true → cmd.body c u = (effect c u, .ok (payload c u))) :
    Acts row cmd cond effect payload :=
  acts_of_body (fun dt r s => exec_commandRow (hrow dt r) s) hbody

theorem defers_of_row (hbody : ∀ c u, c.code = cmd.code → cond c u = true → cmd.body c u = (effect c u, .deferred)) :
    Defers row cmd cond effect :=
  defers_of_body (fun dt r s => exec_commandRow (hrow dt r) s) hbody

/-- A row that starts a long operation is answered ACCEPTED with its progress entry. -/
theorem starts_of_row {n : Nat} (hbody : ∀ c u, c.code = cmd.code → cond c u = true → cmd.body c u = (effect c u, .accepted n)) :
    Completes row cmd cond effect (fun _ _ => .accepted n) :=
  completes_of_body (fun dt r s => exec_commandRow (hrow dt r) s) (fun c u hk h => ⟨hbody c u hk h, Reply.noConfusion⟩)

end

/-- A long operation takes the lowest FREE entry. -/
theorem startOp_of_free {n : Nat} {s : State} (h : freeEntry s = some n) (c : Ctx) (total : Nat) (f : Nat → State → State) :
    startOp c total s f = (f n (takeEntry n c.path c.code c.tag c.mbox total s), .accepted n) := by
  unfold startOp
  rw [h]

theorem takeEntry_tb (n : Nat) (p : Path) (code tag mbox total : Nat) (s : State) : (takeEntry n p code tag mbox total s).tb = s.tb := rfl

/-! The System and Attic classes -/

theorem reads_atticGetBlock_sound (total : Nat) (bad : List Nat) :
    Reads .atticGetBlock cmdAtticGetBlock (fun c u => u.sys.readoutDone == some (total, bad) && !bad.contains (fld c.payload 0 4))
      (fun c u => le 4 (fld c.payload 0 4) ++ le 4 (crc32c (atticBlock (fld c.payload 0 4) u)) ++ le 4 0 ++ atticBlock (fld c.payload 0 4) u) :=
  reads_of_row (fun _ _ => rfl) fun c u _ h => by
    obtain ⟨hdone, hgood⟩ : u.sys.readoutDone = some (total, bad) ∧ bad.contains (fld c.payload 0 4) = false := by
      simpa only [Bool.and_eq_true, beq_iff_eq, Bool.not_eq_true'] using h
    simp only [cmdAtticGetBlock, hdone, Option.getD_some, hgood, Bool.false_eq_true, if_false, b2n]

theorem reads_atticGetBlock_bad (total : Nat) (bad : List Nat) :
    Reads .atticGetBlock cmdAtticGetBlock (fun c u => u.sys.readoutDone == some (total, bad) && bad.contains (fld c.payload 0 4))
      (fun c u => le 4 (fld c.payload 0 4) ++ le 4 (Config.atticCrc u.sys.dumps (fld c.payload 0 4)) ++ le 4 1 ++ atticBlock (fld c.payload 0 4) u) :=
  reads_of_row (fun _ _ => rfl) fun c u _ h => by
    obtain ⟨hdone, hbad⟩ : u.sys.readoutDone = some (total, bad) ∧ bad.contains (fld c.payload 0 4) = true := by
      simpa only [Bool.and_eq_true, beq_iff_eq] using h
    simp only [cmdAtticGetBlock, hdone, Option.getD_some, hbad, if_true, b2n]

theorem acts_systemReleaseOperation (e : Progress) :
    Acts .systemReleaseOperation cmdSystemReleaseOperation (fun c u => namedOp c u == some e && e.state != 1)
      (fun c u => { u with sys := { u.sys with ops := tabErase u.sys.ops (fld c.payload 0 2) } }) (fun _ _ => []) :=
  acts_of_row (fun _ _ => rfl) fun c u _ h => by
    obtain ⟨hop, hidle⟩ : namedOp c u = some e ∧ ¬ e.state = 1 := by
      simpa only [Bool.and_eq_true, beq_iff_eq, bne_iff_ne, ne_eq] using h
    simp only [cmdSystemReleaseOperation, hop, hidle, if_false]

theorem acts_systemCancelOperation (e : Progress) :
    Acts .systemCancelOperation cmdSystemCancelOperation
      (fun c u => namedOp c u == some e && e.code != 0x0306 && e.state == 1 && !pastPoint (fld c.payload 0 2) u)
      (fun c u => endEntry (fld c.payload 0 2) 4 0x0F [] (dropOp (fld c.payload 0 2) u)) (fun _ _ => [0, 0, 0, 0]) :=
  acts_of_row (fun _ _ => rfl) fun c u _ h => by
    obtain ⟨⟨⟨hop, hcode⟩, hruns⟩, hpoint⟩ : ((namedOp c u = some e ∧ ¬ e.code = 0x0306) ∧ e.state = 1) ∧ pastPoint (fld c.payload 0 2) u = false := by
      simpa only [Bool.and_eq_true, beq_iff_eq, bne_iff_ne, ne_eq, Bool.not_eq_true'] using h
    simp only [cmdSystemCancelOperation, hop, hcode, hruns, hpoint, bne_self_eq_false, Bool.false_eq_true, if_false]
    rfl

theorem reads_systemCancelOperation (e : Progress) :
    Reads .systemCancelOperation cmdSystemCancelOperation (fun c u => namedOp c u == some e && e.code != 0x0306 && e.state != 1) (fun _ _ => [1, 0, 0, 0]) :=
  reads_of_row (fun _ _ => rfl) fun c u _ h => by
    obtain ⟨⟨hop, hcode⟩, hended⟩ : (namedOp c u = some e ∧ ¬ e.code = 0x0306) ∧ (e.state != 1) = true := by
      simpa only [Bool.and_eq_true, beq_iff_eq, bne_iff_ne, ne_eq] using h
    simp only [cmdSystemCancelOperation, hop, hcode, hended, if_false, if_true]
    rfl

theorem completes_systemFirmwareBegin (n : Nat) :
    Completes .systemFirmwareBegin cmdSystemFirmwareBegin (fun _ u => freeEntry u == some n)
      (fun c u => progressTo n 256 (setFwSlot (1 - u.win.imageSlot) { header := c.payload, body := [] }
        (let v := takeEntry n c.path 0x0006 c.tag c.mbox (2 * (256 + fld c.payload 0x0C 4)) u
         { v with sys := { v.sys with fw := some { entry := n, slot := 1 - u.win.imageSlot, bodyLength := fld c.payload 0x0C 4, last := u.tb.now } } })))
      (fun _ _ => .accepted n) :=
  starts_of_row (fun _ _ => rfl) fun c u hk h => by
    have hcode : c.code = 0x0006 := hk
    simp only [cmdSystemFirmwareBegin, startOp_of_free (beq_iff_eq.mp h), hcode, takeEntry_tb]

theorem acts_systemFirmwarePut (f : FwUpdate) :
    Acts .systemFirmwarePut cmdSystemFirmwarePut
      (fun c u => decide (namedFw c u = .inr f) && fld c.payload 4 4 == (fwSlot f.slot u).body.length && decide (fld c.payload 4 4 + fld c.payload 8 2 ≤ f.bodyLength))
      (fun c u => progressTo f.entry (256 + fld c.payload 4 4 + fld c.payload 8 2)
        (setFwSlot f.slot { fwSlot f.slot u with body := (fwSlot f.slot u).body ++ slice c.payload 12 (fld c.payload 8 2) }
          { u with sys := { u.sys with fw := some { f with last := u.tb.now } } }))
      (fun c _ => le 4 (fld c.payload 4 4 + fld c.payload 8 2)) :=
  acts_of_row (fun _ _ => rfl) fun c u _ h => by
    obtain ⟨⟨hfw, hoff⟩, hfits⟩ : (namedFw c u = .inr f ∧ (fld c.payload 4 4 != (fwSlot f.slot u).body.length) = false) ∧
        ¬ f.bodyLength < fld c.payload 4 4 + fld c.payload 8 2 := by
      simpa only [Bool.and_eq_true, decide_eq_true_eq, beq_iff_eq, bne_eq_false_iff_eq, Nat.not_lt] using h
    simp only [cmdSystemFirmwarePut, hfw, hoff, hfits, Bool.false_eq_true, if_false]

theorem acts_systemFirmwareCommit (f : FwUpdate) :
    Acts .systemFirmwareCommit cmdSystemFirmwareCommit (fun c u => decide (namedFw c u = .inr f) && (fwSlot f.slot u).body.length == f.bodyLength)
      (fun c u => { u with sys := { u.sys with fw := some { f with last := u.tb.now, commit := some (fld c.payload 2 2) } } }) (fun _ _ => []) :=
  acts_of_row (fun _ _ => rfl) fun c u _ h => by
    obtain ⟨hfw, hwhole⟩ : namedFw c u = .inr f ∧ ((fwSlot f.slot u).body.length != f.bodyLength) = false := by
      simpa only [Bool.and_eq_true, decide_eq_true_eq, beq_iff_eq, bne_eq_false_iff_eq] using h
    simp only [cmdSystemFirmwareCommit, hfw, hwhole, Bool.false_eq_true, if_false]

theorem completes_atticRead (n : Nat) :
    Completes .atticRead cmdAtticRead (fun _ u => freeEntry u == some n)
      (fun c u => let total := if bit (fld u.sys.atticHeader 6 2) 0 then 1088 else 64
        let v := takeEntry n c.path 0x1202 c.tag c.mbox total u
        { v with sys := { v.sys with readout := some { entry := n, total := total } } })
      (fun _ _ => .accepted n) :=
  starts_of_row (fun _ _ => rfl) fun c u hk h => by
    have hcode : c.code = 0x1202 := hk
    simp only [cmdAtticRead, startOp_of_free (beq_iff_eq.mp h), hcode]

/-- Settles O13, command by command. -/
theorem systemAndAtticClassesAnswer : Obligations.SystemAndAtticClassesAnswer := by
  unfold Obligations.SystemAndAtticClassesAnswer
  exact ⟨reads_of_row (fun _ _ => rfl) fun c u _ _ => rfl, reads_of_row (fun _ _ => rfl) fun c u _ _ => rfl, reads_of_row (fun _ _ => rfl) fun c u _ _ => rfl,
    reads_of_row (fun _ _ => rfl) fun c u _ _ => rfl, reads_of_row (fun _ _ => rfl) fun c u _ _ => rfl, reads_atticGetBlock_sound, reads_atticGetBlock_bad,
    acts_systemReleaseOperation, acts_systemCancelOperation, reads_systemCancelOperation, completes_systemFirmwareBegin, acts_systemFirmwarePut,
    acts_systemFirmwareCommit, acts_of_row (fun _ _ => rfl) fun c u _ _ => rfl, completes_atticRead, acts_of_row (fun _ _ => rfl) fun c u _ _ => rfl⟩

/-! Firmware images, fatal errors, the restart and the Attic readout -/

theorem runs_fwVerifyComplete_of_sound (dt : Nat) (f : FwUpdate) (mode : Nat) :
    Runs (.fwVerifyComplete dt true) dt
      (fun u => u.sys.fw = some f ∧ f.commit = some mode ∧ slice (fwSlot f.slot u).header 0x10 48 = fit 48 (Config.sha384 (fwSlot f.slot u).body))
      (fun u =>
        let x := fwSlot f.slot u
        let v := progressTo f.entry (2 * (256 + f.bodyLength)) { u with boot := { u.boot with preferred := f.slot, trial := true } }
        let v := opDone f.entry (le 1 f.slot ++ slice x.header 7 1 ++ slice x.header 8 2 ++ slice x.header 0x0A 2 ++ zeros 2 ++ fit 48 (Config.sha384 (imageBytes x))) (dropOp f.entry v)
        if mode = 0 then requestPin v else v) := by
  rintro s ⟨hfw, hmode, hdigest⟩
  change execFwVerifyComplete dt true s = _
  simp only [execFwVerifyComplete, hfw, hmode, hdigest, Bool.not_true, bne_self_eq_false, Bool.or_self, Bool.false_eq_true, if_false, setBoot]

theorem runs_fwVerifyComplete_of_bad (dt : Nat) (f : FwUpdate) (mode : Nat) :
    Runs (.fwVerifyComplete dt false) dt (fun u => u.sys.fw = some f ∧ f.commit = some mode) (fun u => opFail f.entry 0x25 (dropOp f.entry u)) := by
  rintro s ⟨hfw, hmode⟩
  change execFwVerifyComplete dt false s = _
  simp only [execFwVerifyComplete, hfw, hmode, Bool.not_false, Bool.true_or, if_true]

theorem runs_fwTimeout (dt : Nat) {f : FwUpdate} (hopen : f.commit = none) :
    Runs (.fwTimeout dt) dt (fun u => u.sys.fw = some f ∧ f.last + 60000000000 ≤ u.tb.now) (fun u => opFail f.entry 0x26 (dropOp f.entry u)) := by
  rintro s ⟨hfw, hlate⟩
  change execFwTimeout dt s = _
  have hlate' : f.last + 60 * 10 ^ 9 ≤ (advance dt s).tb.now := hlate
  simp only [execFwTimeout, hfw, hopen, hlate', Option.isNone_none, and_self, if_true]

section
variable {source : Fin 8} (hsource : source.val ≠ 0) (unit : BitVec 8) (detail : BitVec 16)
include hsource

/-- The first fatal error makes STATE FATAL and discards the rings. -/
theorem execFatalError_first (dt : Nat) {s : State} (hup : keeperUp (advance dt s) = true) (hfirst : (advance dt s).sys.fatalAt = none) :
    execFatalError dt source unit detail s = .next (
      let u := advance dt s
      let v := raise 10 (setModState .fatal { u with win := { u.win with fatalCode := BitVec.ofNat 32 (source.val * 2 ^ 24 + unit.toNat * 2 ^ 16 + detail.toNat) } })
      resign (abortAll 7 (abandonReplan (abandonSolve
        { v with win := { v.win with rung := 0, rungAt := [], rungBy := [] }, sys := { v.sys with fatalAt := some v.tb.now, fatalCut := false } })))) := by
  unfold execFatalError
  generalize advance dt s = u at hup hfirst ⊢
  generalize source.val * 2 ^ 24 + unit.toNat * 2 ^ 16 + detail.toNat = code
  have hruns : ¬ ((!keeperUp u) = true ∨ source.val = 0) := by
    simp only [hup, hsource, Bool.not_true, Bool.false_eq_true, or_self, not_false_eq_true]
  extract_lets
  rw [if_neg hruns, hfirst]
  simp only [Option.isSome_none, Bool.false_eq_true, if_false]
  rfl

/-- A second fatal error before the restart cuts the dump. -/
theorem execFatalError_second (dt : Nat) {s : State} (hup : keeperUp (advance dt s) = true) (hsecond : (advance dt s).sys.fatalAt.isSome = true) :
    ∃ t, execFatalError dt source unit detail s = .next t ∧
      t.win.fatalCode = BitVec.ofNat 32 (source.val * 2 ^ 24 + unit.toNat * 2 ^ 16 + detail.toNat) ∧
      t.win.atticIncomplete = true ∧ t.sys.fatalCut = true ∧ t.win.st = (advance dt s).win.st := by
  unfold execFatalError
  generalize advance dt s = u at hup hsecond ⊢
  -- The code is opaque from here: nothing below turns on its arithmetic.
  obtain ⟨code, hcode⟩ : ∃ code, code = source.val * 2 ^ 24 + unit.toNat * 2 ^ 16 + detail.toNat := ⟨_, rfl⟩
  rw [← hcode]
  have hruns : ¬ ((!keeperUp u) = true ∨ source.val = 0) := by
    simp only [hup, hsource, Bool.not_true, Bool.false_eq_true, or_self, not_false_eq_true]
  extract_lets
  rw [if_neg hruns, if_pos hsecond]
  exact ⟨_, rfl, rfl, rfl, rfl, rfl⟩

end

theorem runs_keeperRestart (dt : Nat) (facts : StartFacts) (at_ n : Nat) (fb : Bool) :
    Runs (.keeperRestart dt facts) dt
      (fun u => keeperUp u = true ∧ u.sys.fatalAt = some at_ ∧ at_ + 60000000 ≤ u.tb.now ∧ onTrial u = false ∧ chooseSlot (restartKeeper facts (writeDump u)) = .inr (n, fb))
      (fun u =>
        let v := setModState .booting (runImage n fb (restartKeeper facts (writeDump u)))
        { v with boot := { v.boot with t0 := (restartKeeper facts (writeDump u)).tb.now } }) := by
  rintro s ⟨hup, hfatal, hlate, htrial, hslot⟩
  change execKeeperRestart dt facts s = _
  simp only [execKeeperRestart, hfatal, hup, Nat.not_lt.mpr hlate, htrial, hslot, decide_false, Bool.and_false, Bool.not_true, Bool.or_self, Bool.false_eq_true,
    if_false, setBoot]

/-- Settles O14, row by row. -/
theorem firmwareAndFatalEventsRun : Obligations.FirmwareAndFatalEventsRun := by
  unfold Obligations.FirmwareAndFatalEventsRun
  refine fun dt => ⟨runs_fwVerifyComplete_of_sound dt, runs_fwVerifyComplete_of_bad dt, fun f hf => runs_fwTimeout dt hf,
    fun source unit detail h s hs => execFatalError_first h unit detail dt hs.1 hs.2, ?_, runs_keeperRestart dt, ?_, ?_⟩
  · intro source unit detail s at_ hsource hup hat
    have hsecond : (advance dt s).sys.fatalAt.isSome = true := congrArg Option.isSome hat
    exact execFatalError_second hsource unit detail dt hup hsecond
  · rintro at_ s ⟨hresign, hlate⟩
    change execResignRelease dt s = _
    simp only [execResignRelease, hresign, Nat.not_lt.mpr hlate, if_false]
  · intro bad o s hout
    change execAtticReadoutComplete dt bad s = _
    simp only [execAtticReadoutComplete, hout]

end Sys2Proof.Machine
end

section
/-! PROOF. The network model's loads, and the solver's class and instants. -/

namespace Sys2Proof.Machine
open Sys2Proof

/-! The network model -/

theorem completes_modelBeginLoad (n : Nat) : Completes .modelBeginLoad cmdModelBeginLoad (fun _ u => freeEntry u == some n)
    (fun c u =>
      let v := takeEntry n c.path 0x0401 c.tag c.mbox (fld c.payload 0x38 4) u
      (replicate 0x15 true c.payload { v with model := { v.model with load := some { entry := n, image := { header := c.payload }, last := u.tb.now } } }).1)
    (fun _ _ => .accepted n) :=
  starts_of_row (fun _ _ => rfl) fun c u hk h => by
    have hcode : c.code = 0x0401 := hk
    simp only [cmdModelBeginLoad, startOp_of_free (beq_iff_eq.mp h), hcode, takeEntry_tb]

theorem acts_modelPutRows (l : ModelLoad) : Acts .modelPutRows cmdModelPutRows
    (fun c u => decide (namedLoad c u = .inr l) && nextRow l.image == some (fld c.payload 2 1, fld c.payload 4 4) &&
      decide (fld c.payload 4 4 + fld c.payload 8 2 ≤ rowsOf l.image.header (fld c.payload 2 1)) &&
      (rowsFail l.image.header (fld c.payload 2 1) 12 (putRows c.payload)).isNone)
    (fun c u =>
      let img := l.image.add (fld c.payload 2 1) (putRows c.payload)
      (replicate 0x15 true c.payload (progressTo l.entry img.count { u with model := { u.model with load := some { l with image := img, last := u.tb.now } } })).1)
    (fun c _ => le 4 (l.image.add (fld c.payload 2 1) (putRows c.payload)).count) :=
  acts_of_row (fun _ _ => rfl) fun c u _ h => by
    obtain ⟨⟨⟨hload, hnext⟩, hfits⟩, hsound⟩ : ((namedLoad c u = .inr l ∧ nextRow l.image = some (fld c.payload 2 1, fld c.payload 4 4)) ∧
        ¬ rowsOf l.image.header (fld c.payload 2 1) < fld c.payload 4 4 + fld c.payload 8 2) ∧ rowsFail l.image.header (fld c.payload 2 1) 12 (putRows c.payload) = none := by
      simpa only [Bool.and_eq_true, decide_eq_true_eq, beq_iff_eq, Nat.not_lt, Option.isNone_iff_eq_none] using h
    simp only [cmdModelPutRows, hload, hnext, hfits, hsound, Option.map_some, bne_self_eq_false, Bool.false_eq_true, if_false]

theorem acts_modelCommitLoad (l : ModelLoad) : Acts .modelCommitLoad cmdModelCommitLoad
    (fun c u => decide (namedLoad c u = .inr l) && l.image.count == fld l.image.header 0x38 4)
    (fun c u => { u with model := { u.model with load := some { l with commit := some (fld c.payload 2 2, fld c.payload 4 8), last := u.tb.now } } }) (fun _ _ => []) :=
  acts_of_row (fun _ _ => rfl) fun c u _ h => by
    obtain ⟨hload, hwhole⟩ : namedLoad c u = .inr l ∧ (l.image.count != fld l.image.header 0x38 4) = false := by
      simpa only [Bool.and_eq_true, decide_eq_true_eq, beq_iff_eq, bne_eq_false_iff_eq] using h
    simp only [cmdModelCommitLoad, hload, hwhole, Bool.false_eq_true, if_false]

theorem reads_modelGetInfo (m : ModelImage) : Reads .modelGetInfo cmdModelGetInfo (fun _ u => u.model.active == some m)
    (fun _ u => m.header ++ m.digest ++ le 8 u.model.activation ++ le 1 u.model.slot ++ le 1 (if u.model.pending.isSome then 1 else 0) ++ zeros 2) :=
  reads_of_row (fun _ _ => rfl) fun c u _ h => by
    simp only [cmdModelGetInfo, beq_iff_eq.mp h, b2n]

theorem reads_modelGetInfo_none : Reads .modelGetInfo cmdModelGetInfo (fun _ u => u.model.active.isNone)
    (fun _ u => zeros 112 ++ le 8 u.model.activation ++ le 1 u.model.slot ++ le 1 (if u.model.pending.isSome then 1 else 0) ++ zeros 2) :=
  reads_of_row (fun _ _ => rfl) fun c u _ h => by
    simp only [cmdModelGetInfo, Option.isNone_iff_eq_none.mp h, b2n]

theorem reads_modelReadRows (m : ModelImage) : Reads .modelReadRows cmdModelReadRows
    (fun c u => u.model.active == some m && decide (fld c.payload 4 4 + fld c.payload 2 2 ≤ (m.table (fld c.payload 0 1)).length))
    (fun c _ => slice c.payload 0 8 ++ (((m.table (fld c.payload 0 1)).drop (fld c.payload 4 4)).take (fld c.payload 2 2)).flatten) :=
  reads_of_row (fun _ _ => rfl) fun c u _ h => by
    obtain ⟨hactive, hfits⟩ : u.model.active = some m ∧ ¬ (m.table (fld c.payload 0 1)).length < fld c.payload 4 4 + fld c.payload 2 2 := by
      simpa only [Bool.and_eq_true, beq_iff_eq, decide_eq_true_eq, Nat.not_lt] using h
    simp only [cmdModelReadRows, hactive, hfits, if_false]

/-- A load that validates on a module that feeds no twin proceeds to the commit for its mode 1 time. -/
theorem modelProceed_at {u : State} {l : ModelLoad} {at_ : Nat} (hload : u.model.load = some l) (hvalid : l.validated = true)
    (hcommit : l.commit = some (1, at_)) (htwin : feedsTwin u = false) (htime : u.zone + 10000000 ≤ at_) : modelProceed u = commitModel l at_ u := by
  simp only [modelProceed, hload, hvalid, hcommit, htwin, Nat.not_lt.mpr htime, Bool.not_true, Bool.false_and, Bool.or_self, Bool.false_eq_true, if_true, and_false,
    if_false]

/-- Mode 0 takes the first epoch instant at least 10 ms away. -/
theorem modelProceed_next {u : State} {l : ModelLoad} {at_ : Nat} (hload : u.model.load = some l) (hvalid : l.validated = true)
    (hcommit : l.commit = some (0, at_)) (hchosen : l.chosen = none) (htwin : feedsTwin u = false) :
    modelProceed u = commitModel l (nextGrid (epochNs u) (u.zone + 9999999)) u := by
  have hlate : u.zone + 10000000 - 1 = u.zone + 9999999 := by omega
  simp only [modelProceed, hload, hvalid, hcommit, hchosen, htwin, hlate, Bool.not_true, Bool.false_and, Bool.or_self, Bool.false_eq_true, if_false, zero_ne_one, false_and]

section
variable (dt : Nat) {l : ModelLoad} {c : Nat × Nat} {s : State} (hload : (advance dt s).model.load = some l) (hcommit : l.commit = some c)
  (hfresh : l.validated = false)
include hload hcommit hfresh

theorem exec_modelValidationComplete_of_sound (hsound : validate l.image (generation (advance dt s).model.active) (advance dt s) = none) :
    exec (.modelValidationComplete dt) s =
      .next (modelProceed { advance dt s with model := { (advance dt s).model with load := some { l with validated := true } } }) := by
  change execModelValidationComplete dt s = _
  simp only [execModelValidationComplete, hload, hcommit, hfresh, hsound, Option.isNone_some, Bool.or_self, Bool.false_eq_true, if_false]

theorem exec_modelValidationComplete_of_unsound {f : Nat × Nat × Nat × Nat × Nat}
    (hfault : validate l.image (generation (advance dt s).model.active) (advance dt s) = some f) :
    exec (.modelValidationComplete dt) s = .next (loadFail l.entry f (advance dt s)) := by
  change execModelValidationComplete dt s = _
  simp only [execModelValidationComplete, hload, hcommit, hfresh, hfault, Option.isNone_some, Bool.or_self, Bool.false_eq_true, if_false]

end

/-- Settles O15, command by command, and from the ways a committed load proceeds. -/
theorem modelLoadsAreStagedCheckedAndCommitted : Obligations.ModelLoadsAreStagedCheckedAndCommitted := by
  unfold Obligations.ModelLoadsAreStagedCheckedAndCommitted
  refine ⟨completes_modelBeginLoad, acts_modelPutRows, acts_modelCommitLoad, reads_modelGetInfo, reads_modelGetInfo_none, reads_modelReadRows,
    fun dt => ⟨?_, ?_, ?_, ?_, ?_⟩⟩
  · rintro l at_ s ⟨hload, hcommit, hfresh, hsound, htwin, htime⟩
    exact (exec_modelValidationComplete_of_sound dt hload hcommit hfresh hsound).trans (congrArg _ (modelProceed_at rfl rfl hcommit htwin htime))
  · rintro l at_ s ⟨hload, hcommit, hfresh, hchosen, hsound, htwin⟩
    exact (exec_modelValidationComplete_of_sound dt hload hcommit hfresh hsound).trans (congrArg _ (modelProceed_next rfl rfl hcommit hchosen htwin))
  · rintro l c s ⟨hload, hcommit, hfresh, hunsound⟩
    obtain ⟨f, hf⟩ := Option.isSome_iff_exists.mp hunsound
    simp only [exec_modelValidationComplete_of_unsound dt hload hcommit hfresh hf, hf]
  · rintro l hopen s ⟨hload, hlate⟩
    change execLoadTimeout dt s = _
    have hlate' : l.last + 60 * 10 ^ 9 ≤ (advance dt s).tb.now := hlate
    simp only [execLoadTimeout, hload, hopen, hlate', Option.isNone_none, and_self, if_true]
  · rintro l at_ hcommit s ⟨hload, hlate⟩
    change execModelActivationPassed dt s = _
    simp only [execModelActivationPassed, hload, hcommit, hlate, if_true]

/-! The Solver class and its instants -/

theorem reads_solverGetConfig : Reads .solverGetConfig cmdSolverGetConfig (fun _ u => u.solver.pend.isNone)
    (fun _ u => u.solver.cfg ++ (le 1 0 ++ zeros 3 ++ le 8 0 ++ zeros 88)) :=
  reads_of_row (fun _ _ => rfl) fun c u _ h => by
    simp only [cmdSolverGetConfig, Option.isNone_iff_eq_none.mp h]

theorem reads_solverGetConfig_pending (b : Bytes) (t : Nat) : Reads .solverGetConfig cmdSolverGetConfig (fun _ u => u.solver.pend == some (b, t))
    (fun _ u => u.solver.cfg ++ (le 1 1 ++ zeros 3 ++ le 8 t ++ b)) :=
  reads_of_row (fun _ _ => rfl) fun c u _ h => by
    simp only [cmdSolverGetConfig, beq_iff_eq.mp h]

theorem acts_solverSetConfig : Acts .solverSetConfig cmdSolverSetConfig
    (fun c u => epochFits u.opt.cfg (fld c.payload 0 4) && (match u.opt.pend with | some (o, _) => epochFits o (fld c.payload 0 4) | none => true) &&
      (fld c.payload 0 4 == fld u.solver.cfg 0 4 || decide (nextGrid (Nat.lcm (fld u.solver.cfg 0 4) (fld c.payload 0 4) * 1000000) u.zone ≤ u.zone + 3600000000000)))
    (fun c u => { u with solver := { u.solver with pend := some (c.payload, nextGrid (Nat.lcm (fld u.solver.cfg 0 4) (fld c.payload 0 4) * 1000000) u.zone) } })
    (fun c u => le 8 (nextGrid (Nat.lcm (fld u.solver.cfg 0 4) (fld c.payload 0 4) * 1000000) u.zone)) :=
  acts_of_row (fun _ _ => rfl) fun c u _ h => by
    simp only [Bool.and_eq_true, Bool.or_eq_true, beq_iff_eq, decide_eq_true_eq] at h
    obtain ⟨⟨hfits, hpend⟩, htime⟩ := h
    have htime' : ¬ (fld c.payload 0 4 ≠ fld u.solver.cfg 0 4 ∧
        u.zone + 3600000000000 < nextGrid (Nat.lcm (fld u.solver.cfg 0 4) (fld c.payload 0 4) * 1000000) u.zone) := by
      rintro ⟨hne, hlt⟩
      exact htime.elim hne (Nat.not_le.mpr hlt)
    rcases hp : u.opt.pend with _ | ⟨o, t⟩
    · simp only [cmdSolverSetConfig, hfits, hp, htime', Bool.not_true, Bool.or_self, Bool.false_eq_true, if_false]
    · have ho : epochFits o (fld c.payload 0 4) = true := by simpa only [hp] using hpend
      simp only [cmdSolverSetConfig, hfits, hp, ho, htime', Bool.not_true, Bool.or_self, Bool.false_eq_true, if_false]

theorem reads_solverReadState (p : PubState) : Reads .solverReadState cmdSolverReadState (fun _ u => u.solver.pub == some p)
    (fun c _ => slice c.payload 0 8 ++ le 8 p.epoch ++ fit ((stateSize (fld c.payload 0 1)).1 * fld c.payload 2 2)
      (((p.records (fld c.payload 0 1)).drop (fld c.payload 4 4)).take (fld c.payload 2 2)).flatten) :=
  reads_of_row (fun _ _ => rfl) fun c u _ h => by
    simp only [cmdSolverReadState, beq_iff_eq.mp h, Option.getD_some]

theorem acts_solverReleaseBinding : Acts .solverReleaseBinding cmdSolverReleaseBinding (fun c u => (tabGet? u.solver.quarantine (fld c.payload 0 4)).isSome)
    (fun c u => { u with solver := { u.solver with quarantine := tabErase u.solver.quarantine (fld c.payload 0 4), suspect := tabErase u.solver.suspect (fld c.payload 0 4) } })
    (fun _ _ => []) :=
  acts_of_row (fun _ _ => rfl) fun c u _ h => by
    have hquar : (tabGet? u.solver.quarantine (fld c.payload 0 4)).isNone = false := by rw [← Option.not_isSome, h, Bool.not_true]
    simp only [cmdSolverReleaseBinding, hquar, Bool.false_eq_true, if_false, releaseBinding]

theorem completes_solverWarmStart (n : Nat) : Completes .solverWarmStart cmdSolverWarmStart (fun _ u => freeEntry u == some n)
    (fun c u => let v := takeEntry n c.path 0x0506 c.tag c.mbox (fld u.solver.cfg 0x54 2) u
      { v with solver := { v.solver with warm := some { entry := n, mode := fld c.payload 0 2 } } })
    (fun _ _ => .accepted n) :=
  starts_of_row (fun _ _ => rfl) fun c u hk h => by
    have hcode : c.code = 0x0506 := hk
    simp only [cmdSolverWarmStart, startOp_of_free (beq_iff_eq.mp h), hcode]

/-- Settles O16, command by command. -/
theorem solverClassAnswers : Obligations.SolverClassAnswers := by
  unfold Obligations.SolverClassAnswers
  exact ⟨reads_solverGetConfig, reads_solverGetConfig_pending, acts_solverSetConfig, reads_of_row (fun _ _ => rfl) fun c u _ _ => rfl, reads_solverReadState,
    acts_solverReleaseBinding, completes_solverWarmStart⟩

/-- What an epoch instant leaves before it turns to the solver: its index, the accepted configurations and a due return to ACTIVE. -/
def enterEpoch (u : State) : State :=
  returnActive (applyNetConfig (applySolverConfig { u with solver := { u.solver with lastEpoch := u.zone / epochNs u } }))

/-- The start of the epoch that an epoch instant opens. -/
def epochStart (u : State) : Nat := u.zone / epochNs u * epochNs u

/-- An epoch instant of an awake module, where no optimiser cell waits to be replaced. -/
theorem exec_epochInstant (dt : Nat) {s : State} (hup : keeperUp (advance dt s) = true) (hawake : awake (advance dt s) = true)
    (hnew : (advance dt s).solver.lastEpoch < (advance dt s).zone / epochNs (advance dt s)) (hlen : 0 < epochNs (advance dt s))
    (hcell : (enterEpoch (advance dt s)).solver.optCell = false) :
    exec (.epochInstant dt) s = .next (
      let t0 := epochStart (advance dt s)
      let v := enterEpoch (advance dt s)
      if v.solver.run.isSome then skipEpoch t0 v
      else
        let w := swapDue t0 v
        match w.model.active with
        | none => w
        | some m => if solverRuns w then startSolve t0 m { w with opt := { w.opt with suspended := true } } else w) := by
  change execEpochInstant dt s = _
  unfold enterEpoch at hcell ⊢
  simp only [execEpochInstant, hup, hawake, Nat.not_le.mpr hnew, Nat.max_eq_right hlen, hcell, Bool.not_true, Bool.false_eq_true, or_self, if_false, epochStart]
  rfl

theorem exec_solveComplete (dt : Nat) (x : SolveResult) {r : Solve} {m : ModelImage} {s : State} (hrun : (advance dt s).solver.run = some r)
    (hactive : (advance dt s).model.active = some m) :
    exec (.solveComplete dt x) s = .next (
      let v := workThrough m r x (advance dt s)
      let t := abandonSolve (advance dt s)
      let t := { t with opt := { t.opt with solveTimes := (t.opt.solveTimes ++ [x.times.getD 4 0]).drop (t.opt.solveTimes.length - 9) } }
      if v.converged then publishSolve r x v t else failSolve r x v t) := by
  change execSolveComplete dt x s = _
  simp only [execSolveComplete, hrun, hactive]

theorem emit_solver (c : Nat) (l : List Int) (s : State) : (emit c l s).solver = s.solver := by
  obtain ⟨r, e⟩ := emit_recorder c l s
  rw [e]

theorem replaceCell_of_spare {u : State} (h : 0 < u.solver.spares) :
    replaceCell u = emit 0x0505 [(u.solver.spares - 1 : Nat)] { u with solver := { u.solver with spares := u.solver.spares - 1 } } := by
  unfold replaceCell
  rw [if_neg (Nat.pos_iff_ne_zero.mp h), Nat.cast_sub h, Nat.cast_one]

/-- Without a spare cell the block is faulted. -/
theorem replaceCell_faulted {u : State} (h : u.solver.spares = 0) : (replaceCell u).solver.faulted = true := by
  unfold replaceCell
  rw [if_pos h, emit_solver]

/-- A first scratch error of a solve restarts it on a spare cell. -/
theorem solveError_restarts {u : State} {r : Solve} (hrun : u.solver.run = some r) (hspare : 0 < u.solver.spares) (hsound : u.solver.faulted = false)
    (hfirst : r.restarted = false) :
    solveError u =
      (let t := emit 0x0505 [(u.solver.spares - 1 : Nat)] { u with solver := { u.solver with spares := u.solver.spares - 1 } }
       { t with solver := { t.solver with hwRetries := (t.solver.hwRetries + 1) % 2 ^ 32, run := some { r with restarted := true, estLimit := false, newtonOver := false } } }) := by
  have hcell : ((replaceCell u).solver.faulted || r.restarted) = false := by
    rw [replaceCell_of_spare hspare, emit_solver, hfirst, Bool.or_false]
    exact hsound
  rw [← replaceCell_of_spare hspare]
  simp only [solveError, hrun, hcell, Bool.false_eq_true, if_false]

/-- A second one, or one without a spare cell, abandons it. -/
theorem solveError_abandons {u : State} {r : Solve} (hrun : u.solver.run = some r) (hlast : r.restarted = true ∨ u.solver.spares = 0) :
    solveError u = abandonSolve { replaceCell u with solver := { (replaceCell u).solver with outcome := 4 } } := by
  have hcell : ((replaceCell u).solver.faulted || r.restarted) = true := by
    rw [Bool.or_eq_true]
    exact hlast.symm.imp replaceCell_faulted id
  simp only [solveError, hrun, hcell, if_true]

theorem runs_warmStartComplete_converged (dt : Nat) (w : WarmStart) {x : WarmResult} (hx : x.converged = true) :
    Runs (.warmStartComplete dt x) dt
      (fun u => u.solver.warm = some w ∧ x.iterations ≤ fld u.solver.cfg 0x54 2 ∧ f32Val x.mass ≤ f32Rat (fld u.solver.cfg 0x14 4) ∧ f32Val x.head ≤ f32Rat (fld u.solver.cfg 0x18 4))
      (fun u =>
        let v := progressTo w.entry x.iterations u
        opDone w.entry (le 4 x.iterations ++ le 4 x.mass ++ le 4 x.head) { v with solver := { v.solver with warm := none, warmIter := some (hydroOf x.result) } }) := by
  rintro s ⟨hwarm, hiter, hmass, hhead⟩
  change execWarmStartComplete dt x s = _
  simp only [execWarmStartComplete, hwarm, hx, hiter, hmass, hhead, decide_true, Bool.and_self, if_true]

theorem runs_warmStartComplete_exhausted (dt : Nat) (w : WarmStart) {x : WarmResult} (hx : x.converged = false) :
    Runs (.warmStartComplete dt x) dt (fun u => u.solver.warm = some w ∧ fld u.solver.cfg 0x54 2 ≤ x.iterations)
      (fun u => endWarm 0x24 (progressTo w.entry x.iterations u)) := by
  rintro s ⟨hwarm, hiter⟩
  change execWarmStartComplete dt x s = _
  simp only [execWarmStartComplete, hwarm, hx, hiter, Bool.false_and, Bool.false_eq_true, if_false, if_true]

/-- Settles O17, instant by instant. -/
theorem solverInstantsRun : Obligations.SolverInstantsRun := by
  unfold Obligations.SolverInstantsRun
  refine fun dt => ⟨?_, ?_, ?_, ?_, fun r m x s hs => exec_solveComplete dt x hs.1 hs.2, ?_, ?_, ?_, ?_,
    fun w x hx => runs_warmStartComplete_converged dt w hx, fun w x hx => runs_warmStartComplete_exhausted dt w hx⟩
  · rintro m s ⟨hup, hawake, hnew, hlen, hidle, hcell, hactive, hruns⟩
    rw [exec_epochInstant dt hup hawake hnew hlen hcell]
    have hidle' : (enterEpoch (advance dt s)).solver.run = none := hidle
    have hactive' : (swapDue (epochStart (advance dt s)) (enterEpoch (advance dt s))).model.active = some m := hactive
    have hruns' : solverRuns (swapDue (epochStart (advance dt s)) (enterEpoch (advance dt s))) = true := hruns
    simp only [hidle', hactive', hruns', Option.isSome_none, Bool.false_eq_true, if_false, if_true]
    rfl
  · rintro s ⟨hup, hawake, hnew, hlen, hbusy, hcell⟩
    rw [exec_epochInstant dt hup hawake hnew hlen hcell]
    have hbusy' : (enterEpoch (advance dt s)).solver.run.isSome = true := hbusy
    simp only [hbusy', if_true]
    rfl
  · rintro r s ⟨hrun, hlate⟩
    change execEstimationDeadline dt s = _
    simp only [execEstimationDeadline, hrun, Nat.not_lt.mpr hlate, if_false]
  · rintro r s ⟨hrun, hlate⟩
    change execNewtonDeadline dt s = _
    simp only [execNewtonDeadline, hrun, Nat.not_lt.mpr hlate, if_false]
  · rintro r hfirst s ⟨hrun, hspare, hsound⟩
    exact congrArg _ (solveError_restarts hrun hspare hsound hfirst)
  · rintro r s ⟨hrun, hlast⟩
    exact congrArg _ (solveError_abandons hrun hlast)
  · intro s hrun
    change execScratchUncorrectable dt false s = _
    simp only [execScratchUncorrectable, hrun, Bool.false_eq_true, if_false, if_true]
  · rintro n t s ⟨hquar, hlate⟩
    change execQuarantineExpiry dt n s = _
    simp only [execQuarantineExpiry, hquar, Nat.not_lt.mpr hlate, if_false, releaseBinding]

end Sys2Proof.Machine
end

section
/-! PROOF. The optimiser's class and instants. -/

namespace Sys2Proof.Machine
open Sys2Proof

/-! The Optimiser class and its instants -/

theorem reads_optimiserGetConfig : Reads .optimiserGetConfig cmdOptimiserGetConfig (fun _ u => u.opt.pend.isNone)
    (fun _ u => (optInputs u).cfg ++ (le 1 0 ++ zeros 7 ++ le 8 0 ++ zeros 64)) :=
  reads_of_row (fun _ _ => rfl) fun c u _ h => by
    simp only [cmdOptimiserGetConfig, Option.isNone_iff_eq_none.mp h]

theorem reads_optimiserGetConfig_pending (b : Bytes) (t : Nat) : Reads .optimiserGetConfig cmdOptimiserGetConfig (fun _ u => u.opt.pend == some (b, t))
    (fun _ u => (optInputs u).cfg ++ (le 1 1 ++ zeros 7 ++ le 8 t ++ b)) :=
  reads_of_row (fun _ _ => rfl) fun c u _ h => by
    simp only [cmdOptimiserGetConfig, beq_iff_eq.mp h]

/-- A configuration on the grid in force waits for the next replan instant. -/
theorem acts_optimiserSetConfig_sameGrid : Acts .optimiserSetConfig cmdOptimiserSetConfig
    (fun c u => optFits c.payload u && slice c.payload 0 8 == slice u.opt.cfg 0 8 && decide (nextGrid (replanNs u) u.zone ≤ u.zone + 86400000000000))
    (fun c u => { u with opt := { u.opt with pend := some (c.payload, nextGrid (replanNs u) u.zone) } }) (fun _ u => le 8 (nextGrid (replanNs u) u.zone)) :=
  acts_of_row (fun _ _ => rfl) fun c u _ h => by
    simp only [Bool.and_eq_true, decide_eq_true_eq] at h
    obtain ⟨⟨hfits, hsame⟩, hday⟩ := h
    simp only [cmdOptimiserSetConfig, hfits, hsame, Nat.not_lt.mpr hday, decide_false, Bool.not_true, Bool.or_self, Bool.false_eq_true, if_false, if_true]

/-- A configuration that changes the grid waits for the next boundary common to both. -/
theorem acts_optimiserSetConfig_newGrid (n : Nat) : Acts .optimiserSetConfig cmdOptimiserSetConfig
    (fun c u => optFits c.payload u && slice c.payload 0 8 != slice u.opt.cfg 0 8 && decide (n ≤ u.zone + 86400000000000) &&
      n == nextGrid (Nat.lcm (Nat.lcm (fld c.payload 0 4) (fld c.payload 4 4)) (Nat.lcm (fld u.opt.cfg 0 4) (fld u.opt.cfg 4 4)) * 1000000) u.zone)
    (fun c u => { u with opt := { u.opt with pend := some (c.payload, n) } }) (fun _ _ => le 8 n) :=
  acts_of_row (fun _ _ => rfl) fun c u _ h => by
    simp only [Bool.and_eq_true, decide_eq_true_eq, beq_iff_eq, bne_iff_ne, ne_eq] at h
    obtain ⟨⟨⟨hfits, hnew⟩, hday⟩, rfl⟩ := h
    simp only [cmdOptimiserSetConfig, hfits, beq_eq_false_iff_ne.mpr hnew, Nat.not_lt.mpr hday, decide_false, Bool.not_true, Bool.or_self, Bool.false_eq_true, if_false]

theorem acts_optimiserPutCurves : Acts .optimiserPutCurves cmdOptimiserPutCurves
    (fun c u => (putCurves c.payload).zipIdx.all (fun e => (entryFail (fld c.payload 0 2 + e.2) e.1 u).isNone))
    (fun c u => { u with opt := { u.opt with curves := (putCurves c.payload).zipIdx.foldl (fun t e => tabSet t (fld c.payload 0 2 + e.2) e.1) u.opt.curves } }) (fun _ _ => []) :=
  acts_of_row (fun _ _ => rfl) fun c u _ h => by
    have hsound : (putCurves c.payload).zipIdx.findSome? (fun e => (entryFail (fld c.payload 0 2 + e.2) e.1 u).map (fun o => 4 + 64 * e.2 + o)) = none := by
      simp only [List.findSome?_eq_none_iff, Option.map_eq_none_iff]
      simpa only [List.all_eq_true, Option.isNone_iff_eq_none] using h
    simp only [cmdOptimiserPutCurves, hsound]

theorem acts_optimiserPutSeries : Acts .optimiserPutSeries cmdOptimiserPutSeries (fun c _ => (disorder 0 (putPoints c.payload)).isNone)
    (fun c u => { u with opt := { u.opt with series := tabSet u.opt.series (fld c.payload 0 1 * 65536 + fld c.payload 2 2) (putPoints c.payload) } }) (fun _ _ => []) :=
  acts_of_row (fun _ _ => rfl) fun c u _ h => by
    simp only [cmdOptimiserPutSeries, Option.isNone_iff_eq_none.mp h]

theorem reads_optimiserReadPlan (p : Plan) (l : List Bytes) : Reads .optimiserReadPlan cmdOptimiserReadPlan
    (fun c u => u.opt.plan == some p && tabGet? (if fld c.payload 0 1 = 0 then p.units else p.pumps) (fld c.payload 8 4) == some l)
    (fun c _ => slice c.payload 0 12 ++ zeros 4 ++ le 8 p.basis ++ le 8 p.step1 ++ le 4 p.stepMs ++ le 2 p.horizon ++ le 1 p.outcome ++ zeros 1 ++
      fit (16 * fld c.payload 4 2) ((l.drop (fld c.payload 2 2 - 1)).take (fld c.payload 4 2)).flatten) :=
  reads_of_row (fun _ _ => rfl) fun c u _ h => by
    simp only [Bool.and_eq_true, beq_iff_eq] at h
    obtain ⟨hplan, hunit⟩ := h
    simp only [cmdOptimiserReadPlan, hplan, hunit]

theorem completes_optimiserFitStore (n : Nat) : Completes .optimiserFitStore cmdOptimiserFitStore (fun c u => freeEntry u == some n && isStore (fld c.payload 0 4) u)
    (fun c u => let k := fitSamples (fld c.payload 0 4) (fld c.payload 4 4) u
      let v := takeEntry n c.path 0x0608 c.tag c.mbox k u
      { v with opt := { v.opt with fit := some { entry := n, store := fld c.payload 0 4, samples := k } } })
    (fun _ _ => .accepted n) :=
  starts_of_row (fun _ _ => rfl) fun c u hk h => by
    simp only [Bool.and_eq_true, beq_iff_eq] at h
    obtain ⟨hfree, hstore⟩ := h
    have hcode : c.code = 0x0608 := hk
    simp only [cmdOptimiserFitStore, hstore, startOp_of_free hfree, hcode, Bool.not_true, Bool.false_eq_true, if_false]

theorem reads_optimiserGetStoreModel : Reads .optimiserGetStoreModel cmdOptimiserGetStoreModel (fun c u => isStore (fld c.payload 0 4) u)
    (fun c u => storeModel (optInputs u).storeModels (fld c.payload 0 4)) :=
  reads_of_row (fun _ _ => rfl) fun c u _ h => by
    simp only [cmdOptimiserGetStoreModel, h, if_true]

/-- Settles O18, command by command. -/
theorem optimiserClassAnswers : Obligations.OptimiserClassAnswers := by
  unfold Obligations.OptimiserClassAnswers
  exact ⟨reads_optimiserGetConfig, reads_optimiserGetConfig_pending, acts_optimiserSetConfig_sameGrid, acts_optimiserSetConfig_newGrid, acts_optimiserPutCurves,
    acts_optimiserPutSeries, reads_of_row (fun _ _ => rfl) fun c u _ _ => rfl, reads_optimiserReadPlan, acts_of_row (fun _ _ => rfl) fun c u _ _ => rfl,
    completes_optimiserFitStore, reads_optimiserGetStoreModel⟩

theorem runs_replanInstant (dt : Nat) (m : ModelImage) : Runs (.replanInstant dt) dt
    (fun u => 0 < replanNs u ∧ u.opt.lastReplan < u.zone / replanNs u ∧
      (let v := applyOptConfig (publishPlan { u with opt := { u.opt with lastReplan := u.zone / replanNs u } })
       v.opt.run = none ∧ v.win.power = .active ∧ driving v = true ∧ v.opt.solved = true ∧ safeStart v = false ∧ v.model.active = some m ∧ inputsThere m v = true))
    (fun u => startReplan (u.zone / replanNs u * replanNs u) m (applyOptConfig (publishPlan { u with opt := { u.opt with lastReplan := u.zone / replanNs u } }))) := by
  rintro s ⟨hlen, hnew, hidle, hpower, hdrive, hsolved, hsafe, hactive, hinputs⟩
  change execReplanInstant dt s = _
  simp only [execReplanInstant, Nat.max_eq_right hlen, Nat.not_le.mpr hnew, hidle, hpower, hdrive, hsolved, hsafe, hactive, hinputs, Option.isSome_none,
    bne_self_eq_false, Bool.not_true, Bool.or_self, Bool.false_eq_true, if_false, if_true]

theorem active_or_quiet {p : PowerState} (h : p = .active ∨ p = .quiet) : (p == .active || p == .quiet) = true := by
  rcases h with rfl | rfl <;> decide

theorem runs_stepBoundary (dt : Nat) : Runs (.stepBoundary dt) dt
    (fun u => 0 < planStepNs u ∧ u.opt.lastStep < u.zone / planStepNs u * planStepNs u ∧
      (let v := keepDemand (u.zone / planStepNs u * planStepNs u) { u with opt := { u.opt with lastStep := u.zone / planStepNs u * planStepNs u } }
       driving v = true ∧ (v.win.power = .active ∨ v.win.power = .quiet)))
    (fun u => deliverStep (u.zone / planStepNs u * planStepNs u)
      (keepDemand (u.zone / planStepNs u * planStepNs u) { u with opt := { u.opt with lastStep := u.zone / planStepNs u * planStepNs u } })) := by
  rintro s ⟨hlen, hnew, hdrive, hpower⟩
  change execStepBoundary dt s = _
  simp only [execStepBoundary, Nat.max_eq_right hlen, Nat.not_le.mpr hnew, hdrive, active_or_quiet hpower, Bool.and_self, if_false, if_true]

/-- A module that is not in Oasis mode enters it with its cause. -/
theorem enterOasis_of_out {cause : Nat} {u : State} (h : u.win.oasis = false) :
    enterOasis cause u = emit 0x0005 [0, (cause : Int)] (setOasis true { u with opt := { u.opt with oasisPhase := 1, oasisCause := cause, oasisEntry := u.zone } }) := by
  simp only [enterOasis, h, Bool.false_eq_true, if_false]

/-- Settles O19, instant by instant. -/
theorem optimiserInstantsRun : Obligations.OptimiserInstantsRun := by
  unfold Obligations.OptimiserInstantsRun
  refine fun dt => ⟨runs_replanInstant dt, ?_, ?_, runs_stepBoundary dt, ?_, ?_, ?_, ?_, ?_, ?_⟩
  · intro x s hsusp
    change execReplanComplete dt x s = _
    simp only [execReplanComplete, hsusp, Bool.false_eq_true, if_false]
  · rintro x r s ⟨hrun, hlate⟩
    change execReplanDeadline dt x s = _
    simp only [execReplanDeadline, hrun, Nat.not_lt.mpr hlate, if_false]
  · rintro b s ⟨hbasis, hdrive, hout, hold⟩
    change execPlanAgeLimit dt s = _
    simp only [execPlanAgeLimit, hbasis, hdrive, hold, decide_true, Bool.and_self, if_true, enterOasis_of_out hout]
    rfl
  · rintro s ⟨hdrive, hswitch, halive, hout⟩
    change execUplinkLoss dt s = _
    simp only [execUplinkLoss, hdrive, hswitch, halive, Bool.not_false, Bool.and_self, if_true, enterOasis_of_out hout]
    rfl
  · intro s hs
    change execOasisHoldEnd dt s = _
    unfold execOasisHoldEnd
    exact congrArg _ (if_pos hs)
  · rintro x f hmany s ⟨hfit, hbind⟩
    change execStoreFitComplete dt x s = _
    have hbind' : ¬ storeBindings f.store { advance dt s with opt := { (advance dt s).opt with fit := none } } < 3 := Nat.not_lt.mpr hbind
    simp only [execStoreFitComplete, hfit, Nat.not_lt.mpr hmany, hbind', if_false]
    rfl
  · rintro x f hfew s hfit
    change execStoreFitComplete dt x s = _
    simp only [execStoreFitComplete, hfit, hfew, if_true]
  · rintro x f hmany s ⟨hfit, hbind⟩
    change execStoreFitComplete dt x s = _
    have hbind' : storeBindings f.store { advance dt s with opt := { (advance dt s).opt with fit := none } } < 3 := hbind
    simp only [execStoreFitComplete, hfit, Nat.not_lt.mpr hmany, hbind', if_false, if_true]

end Sys2Proof.Machine
end

section
/-! PROOF. The Caravan class, and the activation instant that refutes the statement about its timers. -/

namespace Sys2Proof.Machine
open Sys2Proof

/-! The Caravan class -/

/-- What goes to the twin leaves the caravans as they are. -/
theorem replicate_car (type : Nat) (ack : Bool) (data : Bytes) (s : State) : (replicate type ack data s).1.car = s.car := by
  unfold replicate
  split <;> rfl

theorem putCar_slot (k : Nat) (x : Caravan) (s : State) : tabGet? (putCar k x s).car.slots k = some x := by
  rw [putCar, replicate_car]
  exact tabGet?_tabSet_same _ _ _

theorem findCar_of_slot {n k : Nat} {x : Caravan} {u : State} (h : carSlot n u = some (k, x)) : findCar n u = some x := by
  simp only [findCar, h]

/-- Members are added behind those the caravan has. -/
theorem addMembers_slot {k : Nat} {x : Caravan} {u : State} (h : tabGet? u.car.slots k = some x) (es : List (Nat × Nat)) :
    ∃ ms : List Member, ms.length = es.length ∧ tabGet? (addMembers k es u).car.slots k = some { x with members := x.members ++ ms } := by
  refine ⟨es.map (fun e => { target := e.1, value := e.2, status := if tgtKind e.1 = 1 then 0 else 1 }), List.length_map _, ?_⟩
  simp only [addMembers, h]
  exact putCar_slot _ _ _

/-- A caravan opens in the lowest free slot under the next id, without members. -/
theorem openCar_of_free {k : Nat} {u : State} (h : (List.range 16).find? (fun j => (tabGet? u.car.slots j).isNone) = some k) (tAct origin : Nat) (auto lock : Bool) :
    ∃ (x : Caravan) (v : State), openCar tAct origin auto lock u = some (k, v) ∧ tabGet? v.car.slots k = some x ∧ x.id = u.car.nextId ∧ x.members = [] := by
  unfold openCar
  rw [h]
  exact ⟨_, _, rfl, putCar_slot _ _ _, rfl, rfl⟩

/-- Where no entry is barred by Oasis mode, the search for the first such entry finds none. -/
theorem find?_zipIdx_eq_none {es : List (Nat × Nat)} {p : Nat × Nat → Bool} (h : es.any p = false) : es.zipIdx.find? (fun e => p e.1) = none := by
  rw [List.find?_eq_none]
  intro e he
  exact List.any_eq_false.mp h e.1 (List.fst_mem_of_mem_zipIdx he)

/-- An id that is not 0 names an open caravan, to which members are added while it is neither sealed nor decided. -/
theorem completes_caravanStage_more (k : Nat) (x : Caravan) : Completes .caravanStage cmdCaravanStage
    (fun c u => fld c.payload 0 4 != 0 && !(stageEntries c.payload).any (fun e => u.win.oasis && tgtKind e.1 == 1) && carSlot (fld c.payload 0 4) u == some (k, x) &&
      tabGet? u.car.slots k == some x && !x.isSealed && x.state == 0 && x.deciding.isNone &&
      (busyEntry (some x.id) x.tAct (x.members.map (·.target)) u (stageEntries c.payload) 0).isNone && !tooMany (x.members.map (·.target)) (stageEntries c.payload))
    (fun c u => if bit (fld c.payload 4 2) 0 then sealCar k (addMembers k (stageEntries c.payload) u) else addMembers k (stageEntries c.payload) u)
    (fun c u => match tabGet? (addMembers k (stageEntries c.payload) u).car.slots k with
      | some y => .ok (le 4 y.id ++ le 2 y.members.length ++ zeros 2)
      | none => .ok (zeros 8)) :=
  completes_of_body (fun _ _ s => exec_commandRow rfl s) fun c u _ h => by
    simp only [Bool.and_eq_true, bne_iff_ne, ne_eq, beq_iff_eq, Bool.not_eq_true', Option.isNone_iff_eq_none] at h
    obtain ⟨⟨⟨⟨⟨⟨⟨⟨hid, hoasis⟩, hcar⟩, hslot⟩, hsealed⟩, hstate⟩, hopen⟩, hbusy⟩, hfew⟩ := h
    obtain ⟨ms, -, hadded⟩ := addMembers_slot hslot (stageEntries c.payload)
    simp only [cmdCaravanStage, findCar_of_slot hcar, hid, find?_zipIdx_eq_none hoasis, hbusy, hfew, hcar, hsealed, hstate, hopen, hadded, Option.isNone_some, Option.map_some,
      Option.isSome_none, Bool.false_eq_true, not_false_eq_true, ne_eq, not_true_eq_false, and_false, or_self, if_false, if_true, reduceCtorEq, and_self]

/-- The id 0 opens a caravan. -/
theorem completes_caravanStage_open (k : Nat) : Completes .caravanStage cmdCaravanStage
    (fun c u => fld c.payload 0 4 == 0 && !(stageEntries c.payload).any (fun e => u.win.oasis && tgtKind e.1 == 1) && (findCar 0 u).isNone &&
      (busyEntry none (fld c.payload 8 8) [] u (stageEntries c.payload) 0).isNone && !tooMany [] (stageEntries c.payload) &&
      (List.range 16).find? (fun j => (tabGet? u.car.slots j).isNone) == some k)
    (fun c u => match openCar (fld c.payload 8 8) 1 (bit (fld c.payload 4 2) 1) (bit (fld c.payload 4 2) 2) u with
      | some (_, v) => if bit (fld c.payload 4 2) 0 then sealCar k (addMembers k (stageEntries c.payload) v) else addMembers k (stageEntries c.payload) v
      | none => u)
    (fun c u => .ok (le 4 u.car.nextId ++ le 2 (stageEntries c.payload).length ++ zeros 2)) :=
  acts_of_row (fun _ _ => rfl) fun c u _ h => by
    simp only [Bool.and_eq_true, beq_iff_eq, Bool.not_eq_true', Option.isNone_iff_eq_none] at h
    obtain ⟨⟨⟨⟨⟨hid, hoasis⟩, hcar⟩, hbusy⟩, hfew⟩, hfree⟩ := h
    obtain ⟨x, v, hopen, hslot, hxid, hxmem⟩ :=
      openCar_of_free hfree (fld c.payload 8 8) 1 (bit (fld c.payload 4 2) 1) (bit (fld c.payload 4 2) 2)
    obtain ⟨ms, hlen, hadded⟩ := addMembers_slot hslot (stageEntries c.payload)
    simp only [cmdCaravanStage, hid, hcar, find?_zipIdx_eq_none hoasis, hbusy, hfew, hopen, hadded, hxid, hxmem, hlen, Option.map_none, Option.isNone_none, List.nil_append,
      Bool.false_eq_true, ne_eq, not_true_eq_false, false_and, if_false]

theorem defers_caravanCommit (k : Nat) (x : Caravan) : Defers .caravanCommit cmdCaravanCommit
    (fun c u => carSlot (fld c.payload 0 4) u == some (k, x) && x.id == fld c.payload 0 4 && x.origin == 1 && x.standing == 0 && x.state == 1)
    (fun c u => decide_ k x none (some c.mbox) u) :=
  defers_of_row (fun _ _ => rfl) fun c u _ h => by
    simp only [Bool.and_eq_true, beq_iff_eq] at h
    obtain ⟨⟨⟨⟨hcar, hid⟩, horigin⟩, hstanding⟩, hstate⟩ := h
    simp only [cmdCaravanCommit, findCar_of_slot hcar, hid, hcar, horigin, hstanding, hstate, ne_eq, not_true_eq_false, if_false]

theorem defers_caravanAbort (k : Nat) (x : Caravan) : Defers .caravanAbort cmdCaravanAbort
    (fun c u => carSlot (fld c.payload 0 4) u == some (k, x) && x.id == fld c.payload 0 4 && x.origin == 1 && x.standing == 0)
    (fun c u => decide_ k x (some 1) (some c.mbox) u) :=
  defers_of_row (fun _ _ => rfl) fun c u _ h => by
    simp only [Bool.and_eq_true, beq_iff_eq] at h
    obtain ⟨⟨⟨hcar, hid⟩, horigin⟩, hstanding⟩ := h
    simp only [cmdCaravanAbort, findCar_of_slot hcar, hid, hcar, horigin, hstanding, ne_eq, not_true_eq_false, if_false]

theorem reads_caravanReadMembers (x : Caravan) : Reads .caravanReadMembers cmdCaravanReadMembers
    (fun c u => findCar (fld c.payload 0 4) u == some x && decide (fld c.payload 4 2 + fld c.payload 6 2 ≤ x.members.length))
    (fun c _ => c.payload.take 8 ++ ((x.members.drop (fld c.payload 4 2)).take (fld c.payload 6 2)).flatMap memberRecord) :=
  reads_of_row (fun _ _ => rfl) fun c u _ h => by
    simp only [Bool.and_eq_true, beq_iff_eq, decide_eq_true_eq] at h
    obtain ⟨hcar, hfits⟩ := h
    simp only [cmdCaravanReadMembers, hcar, Nat.not_lt.mpr hfits, if_false]

/-- Settles O20, command by command. -/
theorem caravanClassAnswers : Obligations.CaravanClassAnswers := by
  unfold Obligations.CaravanClassAnswers
  refine ⟨completes_caravanStage_open, completes_caravanStage_more, defers_caravanCommit, defers_caravanAbort, ?_, reads_caravanReadMembers,
    reads_of_row (fun _ _ => rfl) fun c u _ _ => rfl, reads_of_row (fun _ _ => rfl) fun c u _ _ => rfl, ?_⟩
  · intro x
    refine reads_of_row (fun _ _ => rfl) fun c u _ h => ?_
    simp only [cmdCaravanGetStatus, beq_iff_eq.mp h]
  · refine acts_of_row (fun _ _ => rfl) fun c u _ h => ?_
    simp only [cmdCaravanSetConfig, h, if_true]

/-- A module whose engine runs, with a caravan due at once whose one member names a target that an ended caravan of a later instant
has applied. -/
def overtaken : State :=
  { car := { slots := [(0, { id := 1, state := 2, origin := 1, tAct := 0, tStage := 0, lateMs := 0, confirmMs := 0, retryMs := 0,
                             members := [{ target := 0, value := 0, status := 1 }] })]
             ended := [{ id := 2, state := 4, origin := 1, tAct := 1, tStage := 0, lateMs := 0, confirmMs := 0, retryMs := 0,
                         members := [{ target := 0, value := 0, status := 2 }] }] }
    boot := { plant := true } }

/-- Refutes O21: at an activation instant a member whose target a caravan of a later instant has already applied is not written and
judged, as the statement has it for every due member; it is ORPHANED (reason 0x14), and counted so. -/
theorem not_caravanMessagesAndTimersRun : ¬ Obligations.CaravanMessagesAndTimersRun := by
  unfold Obligations.CaravanMessagesAndTimersRun
  rintro ⟨-, -, -, -, htimers⟩
  obtain ⟨-, -, -, -, -, hactivation, -⟩ := htimers 0 0
  have hrun := hactivation overtaken (by decide +kernel)
  have hnext : activate (advance 0 overtaken) = _ := Host.Outcome.next.inj hrun
  exact absurd (congrArg (fun t => t.car.orphanedTotal) hnext) (by decide +kernel)

end Sys2Proof.Machine
end

section
/-! PROOF. The Network and Time class, field messages, and the network's timers. -/

namespace Sys2Proof.Machine
open Sys2Proof

/-! The Network and Time class -/

/-- Addresses and VLAN change only while no caravan is open. -/
theorem acts_netSetConfig : Acts .netSetConfig cmdNetSetConfig
    (fun c u => decide (3 * fld c.payload 0x0B 1 ≤ fld c.payload 0x0C 1) &&
      (u.car.slots == [] || (slice c.payload 0 8 == slice u.net.cfg 0 8 && slice c.payload 8 2 == slice u.net.cfg 8 2)))
    (fun c u => { u with net := { u.net with pend := some (c.payload, nextEpoch u) } }) (fun _ u => le 8 (nextEpoch u)) :=
  acts_of_row (fun _ _ => rfl) fun c u _ h => by
    rw [Bool.and_eq_true, decide_eq_true_eq] at h
    obtain ⟨hsilence, hquiet⟩ := h
    have hbarred : ((slice c.payload 0 8 != slice u.net.cfg 0 8 || slice c.payload 8 2 != slice u.net.cfg 8 2) && u.car.slots != []) = false := by
      rw [bne, bne, bne, ← Bool.not_and, ← Bool.not_or, Bool.or_comm, hquiet, Bool.not_true]
    simp only [cmdNetSetConfig, Nat.not_lt.mpr hsilence, hbarred, Bool.false_eq_true, if_false]

theorem reads_portCableTest : Reads .portCableTest cmdPortCableTest
    (fun c u => decide (3 ≤ fld c.payload 0 1) && (!portInUse (fld c.payload 0 1) u || fld c.payload 1 1 != 0))
    (fun c u => let m := Config.cableTest (fld c.payload 0 1) u.tb.now
      le 1 (m.1 % 5) ++ le 1 0 ++ le 2 (if m.1 % 5 = 1 ∨ m.1 % 5 = 2 then min 1000 m.2 else 0xFFFF)) :=
  reads_of_row (fun _ _ => rfl) fun c u _ h => by
    rw [Bool.and_eq_true, decide_eq_true_eq] at h
    obtain ⟨hport, hfree⟩ := h
    have hused : (portInUse (fld c.payload 0 1) u && fld c.payload 1 1 == 0) = false := by
      rw [← Bool.not_not (portInUse _ u && _), Bool.not_and, ← bne, hfree, Bool.not_true]
    simp only [cmdPortCableTest, Nat.not_lt.mpr hport, hused, Bool.false_eq_true, if_false]

theorem acts_timeSetConfig_sameSource : Acts .timeSetConfig cmdTimeSetConfig (fun c u => fld u.tb.cfg 0 1 == fld c.payload 0 1)
    (fun c u => { u with tb := { u.tb with cfg := c.payload } }) (fun _ _ => []) :=
  acts_of_row (fun _ _ => rfl) fun c u _ h => by
    simp only [cmdTimeSetConfig, beq_iff_eq.mp h, if_true]

theorem acts_timeSetConfig_newSource : Acts .timeSetConfig cmdTimeSetConfig (fun c u => fld u.tb.cfg 0 1 != fld c.payload 0 1)
    (fun c u =>
      let src := fld c.payload 0 1
      setTimeState (if src = 2 then 0 else 1) { u with tb := { u.tb with cfg := c.payload, source := (if src = 0 then chooseSource u.tb.masters else if src = 1 then 3 else 0), inBand := 0, armed := none, lastSync := u.tb.now } })
    (fun _ _ => []) :=
  acts_of_row (fun _ _ => rfl) fun c u _ h => by
    simp only [cmdTimeSetConfig, bne_iff_ne.mp h, if_false]

theorem acts_timeSet_freeRun : Acts .timeSet cmdTimeSet (fun _ u => fld u.tb.cfg 0 1 == 2)
    (fun c u => stepZone (fld c.payload 0 8 * 10 ^ 9 + fld c.payload 8 4) u) (fun c _ => le 8 (fld c.payload 0 8 * 10 ^ 9 + fld c.payload 8 4)) :=
  acts_of_row (fun _ _ => rfl) fun c u _ h => by
    simp only [cmdTimeSet, beq_iff_eq.mp h, if_true]

theorem acts_timeSet_pps : Acts .timeSet cmdTimeSet (fun _ u => fld u.tb.cfg 0 1 == 1) (fun c u => { u with tb := { u.tb with armed := some (fld c.payload 0 8) } })
    (fun c _ => le 8 (fld c.payload 0 8 * 10 ^ 9 + fld c.payload 8 4)) :=
  acts_of_row (fun _ _ => rfl) fun c u _ h => by
    have hpps : ¬ fld u.tb.cfg 0 1 = 2 := by rw [beq_iff_eq.mp h]; decide
    simp only [cmdTimeSet, hpps, if_false]

/-- Settles O23, command by command. -/
theorem networkClassAnswers : Obligations.NetworkClassAnswers := by
  unfold Obligations.NetworkClassAnswers
  exact ⟨reads_of_row (fun _ _ => rfl) fun c u _ _ => rfl, acts_netSetConfig, reads_of_row (fun _ _ => rfl) fun c u _ _ => rfl, reads_portCableTest,
    reads_of_row (fun _ _ => rfl) fun c u _ _ => rfl, reads_of_row (fun _ _ => rfl) fun c u _ _ => rfl, reads_of_row (fun _ _ => rfl) fun c u _ _ => rfl,
    reads_of_row (fun _ _ => rfl) fun c u _ _ => rfl, acts_timeSetConfig_sameSource, acts_timeSetConfig_newSource, acts_timeSet_freeRun, acts_timeSet_pps,
    acts_of_row (fun _ _ => rfl) fun c u _ _ => rfl, reads_of_row (fun _ _ => rfl) fun c u _ _ => rfl⟩

/-! Field messages and the timers of the network -/

/-- A frame that is taken, and whose header fits its row, is taken by its content. -/
theorem onFrame_of_taken {type : Nat} {f : FfpFrame} {content : State → State} {s : State} (htype : f.type = type) (hnak : f.type ≠ 0x07)
    (htaken : (receiveFfp f s).2 = true) (hheader : nakHeader f (receiveFfp f s).1 = none) : onFrame type f content s = content (receiveFfp f s).1 := by
  unfold onFrame
  rcases hr : receiveFfp f s with ⟨v, taken⟩
  rw [hr] at htaken hheader
  obtain rfl : taken = true := htaken
  subst htype
  simp only [hnak, hheader, if_false, if_true]

theorem onFrame_of_nak {f : FfpFrame} {content : State → State} {s : State} (htype : f.type = 0x07) (htaken : (receiveFfp f s).2 = true) :
    onFrame 0x07 f content s = content (receiveFfp f s).1 := by
  unfold onFrame
  rcases hr : receiveFfp f s with ⟨v, taken⟩
  rw [hr] at htaken
  obtain rfl : taken = true := htaken
  simp only [htype, if_true]

theorem hears_telemetry : Hears .telemetry 0x01 (fun _ => true) takeTelemetry :=
  fun _ _ htype _ _ hs => congrArg _ (onFrame_of_taken htype (by rw [htype]; decide) hs.1 hs.2)

theorem hears_writeAck : Hears .writeAck 0x04 (fun _ => true) takeWriteAck :=
  fun _ _ htype _ _ hs => congrArg _ (onFrame_of_taken htype (by rw [htype]; decide) hs.1 hs.2)

/-- An announcement that is due goes out. -/
theorem runs_announceTimer (dt : Nat) : Runs (.announceTimer dt) dt
    (fun u => speaks u = true ∧ ∀ a, u.net.announced = some a → a + 25000000 ≤ u.tb.now)
    (fun u => sendFfp 0x06 0xFFFF (le 4 u.net.senderEpoch ++ le 1 1 ++ zeros 3 ++ le 8 u.zone) { u with net := { u.net with announced := some u.tb.now } }) := by
  rintro s ⟨hspeaks, hdue⟩
  change execAnnounceTimer dt s = _
  rcases ha : (advance dt s).net.announced with _ | a
  · simp only [execAnnounceTimer, ha, announce, hspeaks, Bool.not_true, Bool.false_eq_true, if_false, if_true]
  · simp only [execAnnounceTimer, ha, hdue a ha, decide_true, announce, hspeaks, Bool.not_true, Bool.false_eq_true, if_false, if_true]

theorem runs_prpSupervision (dt : Nat) : Runs (.prpSupervision dt) dt
    (fun u => (∀ a, u.net.supervised = some a → a + 2000000000 ≤ u.tb.now) ∧ switchUp u = true ∧ fld u.net.cfg 0x0A 1 = 1 ∧ uplinksOut u ≠ [])
    (fun u => send .prp { u with net := { u.net with supervised := some u.tb.now } }) := by
  rintro s ⟨hdue, hswitch, hprp, hup⟩
  change execPrpSupervision dt s = _
  rcases ha : (advance dt s).net.supervised with _ | a
  · simp only [execPrpSupervision, ha, hswitch, hprp, bne_iff_ne.mpr hup, beq_self_eq_true, Bool.and_self, if_true]
  · simp only [execPrpSupervision, ha, hdue a ha, hswitch, hprp, bne_iff_ne.mpr hup, beq_self_eq_true, decide_true, Bool.and_self, if_true]

theorem runs_nodeSilence (dt : Nat) {node : Nat} (n : Node) (hlow : 1 ≤ node) (hhigh : node ≤ 0xFFFD) : Runs (.nodeSilence dt node) dt
    (fun u => tabGet? u.net.nodes node = some n ∧ n.state = 1 ∧ n.heardAt + fld u.net.cfg 0x0C 1 * epochNs u ≤ u.tb.now)
    (fun u => emit 0x0801 [node, 0] { u with net := { u.net with nodes := tabSet u.net.nodes node { n with state := 2, returned := 0 } } }) := by
  rintro s ⟨hnode, hstate, hlate⟩
  change execNodeSilence dt node s = _
  have hget : tabGet {} (advance dt s).net.nodes node = n := by rw [tabGet, hnode, Option.getD_some]
  simp only [execNodeSilence, hget, hlow, hhigh, hstate, hlate, and_self, if_true]

/-- A T1L port follows its link and its amplitude. -/
theorem runs_portLinkChange_t1l (dt : Nat) {p : Fin 11} (l : PortLink) (hp : 3 ≤ p.val) : Runs (.portLinkChange dt p l) dt
    (fun u => switchUp u = true ∧ t1lEnabled p.val u = true ∧ (port p.val u).link ≠ 3)
    (setPort p.val (fun q => { q with
      link := if l.up && !l.amplitude then 1 else 0
      reason := if l.up && !l.amplitude then 0 else if l.amplitude then 2 else 1
      polarity := l.up && !l.amplitude && l.polarity })) := by
  rintro s ⟨hswitch, hen, hlink⟩
  change execPortLinkChange dt p l s = _
  have hne : ¬ p.val = 0 := by omega
  have huplink : ¬ (p.val = 1 ∨ p.val = 2) := by omega
  simp only [execPortLinkChange, hne, hswitch, hen, hlink, huplink, hp, Bool.not_true, Bool.false_eq_true, and_false, or_self, decide_true, Bool.and_true, if_false, b2n]

/-- An uplink follows its link; its SyncE source is judged on the module with the port so set. -/
theorem runs_portLinkChange_uplink (dt : Nat) {p : Fin 11} (l : PortLink) (hp : p.val = 1 ∨ p.val = 2) : Runs (.portLinkChange dt p l) dt
    (fun u => switchUp u = true ∧ (port p.val u).link ≠ 3)
    (fun u =>
      let v := setPort p.val (fun q => { q with link := if l.up then 1 else 0, reason := if l.up then 0 else 1, polarity := l.up && l.polarity }) u
      if l.up && l.synce then followSources 0 (setClkSource (p.val + 2) (fun c => { c with valid := true }) v)
      else if (clkSource (p.val + 2) v).state = 0 then setClkSource (p.val + 2) (fun c => { c with valid := false }) v else tripSource (p.val + 2) 4 v) := by
  rintro s ⟨hswitch, hlink⟩
  change execPortLinkChange dt p l s = _
  have hlow : ¬ 3 ≤ p.val := by omega
  have hne : ¬ p.val = 0 := by omega
  simp only [execPortLinkChange, hne, hswitch, hlink, hp, hlow, Bool.not_true, false_and, or_self, decide_false, Bool.and_false, Bool.not_false, Bool.and_true, Bool.false_eq_true, if_false, if_true, b2n]

/-- Settles O24, row by row. -/
theorem networkMessagesAndTimersRun : Obligations.NetworkMessagesAndTimersRun := by
  unfold Obligations.NetworkMessagesAndTimersRun
  refine ⟨hears_telemetry, hears_writeAck, fun dt f htype s hs => congrArg _ (onFrame_of_nak htype hs),
    fun dt => ⟨?_, ?_, ?_, ?_, fun node n hlow hhigh => runs_nodeSilence dt n hlow hhigh, runs_prpSupervision dt, fun p l hp => runs_portLinkChange_t1l dt l hp, ?_, ?_⟩⟩
  · rintro id w s ⟨hwrite, hlate, hfew⟩
    change execWriteRetry dt id s = _
    simp only [execWriteRetry, hwrite, Nat.not_lt.mpr hlate, hfew, if_false, if_true]
  · rintro id w s ⟨hwrite, hlate, hmany⟩
    change execWriteRetry dt id s = _
    simp only [execWriteRetry, hwrite, Nat.not_lt.mpr hlate, Nat.not_le.mpr hmany, if_false]
  · rintro s ⟨hspeaks, hnone⟩
    exact runs_announceTimer dt s ⟨hspeaks, fun a ha => nomatch hnone.symm.trans ha⟩
  · rintro a s ⟨hspeaks, hlast, hlate⟩
    exact runs_announceTimer dt s ⟨hspeaks, fun b hb => Option.some.inj (hlast.symm.trans hb) ▸ hlate⟩
  · rintro p l hp hup hsynce s hs
    rw [runs_portLinkChange_uplink dt l hp s hs]
    simp only [hup, hsynce, Bool.and_self, Bool.true_and, if_true]
  · rintro p l hp hdown s hs
    rw [runs_portLinkChange_uplink dt l hp s hs]
    simp only [hdown, Bool.false_eq_true, if_false]
    rfl

end Sys2Proof.Machine
end

section
/-! PROOF. The Event class, and the pair: heartbeats, silence, takeover and the handshake. -/

namespace Sys2Proof.Machine
open Sys2Proof

/-! The Event class -/

theorem reads_eventRead_ahead : Reads .eventRead cmdEventRead
    (fun c u => decide (0 ≤ toSigned 32 ((fld c.payload 0 4 + 2 ^ 32 - u.recorder.nextWrite % 2 ^ 32) % 2 ^ 32)))
    (fun c u => le 4 (max 1 (u.recorder.nextWrite - 8192)) ++ le 4 u.recorder.nextWrite ++ le 4 (fld c.payload 0 4) ++ zeros 4) :=
  reads_of_row (fun _ _ => rfl) fun c u _ h => by
    simp only [cmdEventRead, of_decide_eq_true h, if_true, oldestSeq]

theorem reads_eventRead_stored (first : Nat) : Reads .eventRead cmdEventRead
    (fun c u => let ahead := toSigned 32 ((fld c.payload 0 4 + 2 ^ 32 - u.recorder.nextWrite % 2 ^ 32) % 2 ^ 32)
      decide (ahead < 0) && first == max (max 1 (u.recorder.nextWrite - 8192)) ((u.recorder.nextWrite : Int) + ahead).toNat)
    (fun c u => le 4 (max 1 (u.recorder.nextWrite - 8192)) ++ le 4 u.recorder.nextWrite ++ le 4 first ++ le 2 (min (fld c.payload 4 2) (u.recorder.nextWrite - first)) ++ zeros 2 ++
      (List.range (min (fld c.payload 4 2) (u.recorder.nextWrite - first))).flatMap (fun i => (readSeq (first + i) u.recorder).bytes)) :=
  reads_of_row (fun _ _ => rfl) fun c u _ h => by
    simp only [Bool.and_eq_true, decide_eq_true_eq, beq_iff_eq] at h
    obtain ⟨hpast, hfirst⟩ := h
    simp only [cmdEventRead, not_le.mpr hpast, if_false, oldestSeq, hfirst]

theorem defers_eventFire : Defers .eventFire cmdEventFire (fun c u => fld (trigger (fld c.payload 0 1) u).defn 0 1 != 0)
    (fun c u => { u with recorder := { u.recorder with fires := u.recorder.fires ++ [(c.mbox, fld c.payload 0 1)] } }) :=
  defers_of_row (fun _ _ => rfl) fun c u _ h => by
    simp only [cmdEventFire, bne_iff_ne.mp h, if_false, setRec]

/-- Settles O27, command by command. -/
theorem recorderReadsSetsAndFires : Obligations.RecorderReadsSetsAndFires := by
  unfold Obligations.RecorderReadsSetsAndFires
  exact ⟨reads_eventRead_ahead, reads_eventRead_stored, reads_of_row (fun _ _ => rfl) fun c u _ _ => rfl, acts_of_row (fun _ _ => rfl) fun c u _ _ => rfl, defers_eventFire,
    defers_of_row (fun _ _ => rfl) fun c u _ _ => rfl, reads_of_row (fun _ _ => rfl) fun c u _ _ => rfl⟩

/-! The twin link -/

theorem setOasis_twin (o : Bool) (s : State) : (setOasis o s).twin = s.twin := by
  unfold setOasis
  split <;> rfl

/-- Following the active module's Oasis mode changes no more of the link than the partner's epoch. -/
theorem followActive_twin (data : Bytes) (s : State) : (followActive data s).twin = { s.twin with partnerEpoch := fld data 4 4 } := by
  unfold followActive
  extract_lets oasis
  split
  · rfl
  · rw [setOasis_twin]

section
variable {dt : Nat} {h : TwinHead} {data : Bytes} (ht : h.tagOk = true)
include ht

theorem runs_heartbeat_active : Runs (.heartbeat dt h data) dt (fun u => u.twin.keyed = true ∧ u.twin.wantActive = true)
    (fun u => { u with twin := { u.twin with lastValid := u.tb.now, rxSeq := h.seq, beatHeard := some u.tb.now } }) := by
  rintro s ⟨hkeyed, hactive⟩
  change execHeartbeat dt h data s = _
  simp only [execHeartbeat, receiveTwin_of_valid ht hkeyed, setTwin, hactive, if_true]

/-- A standby follows what the heartbeat says, and joins once it says ACTIVE. -/
theorem runs_heartbeat_standby : Runs (.heartbeat dt h data) dt (fun u => u.twin.keyed = true ∧ u.twin.wantActive = false)
    (fun u =>
      let v := followActive data { u with twin := { u.twin with lastValid := u.tb.now, rxSeq := h.seq, beatHeard := some u.tb.now } }
      if u.twin.joined || fld data 0 1 != Role.active.code then v
      else emit 0x0008 [2, (fld (v.twin.reply.getD []) 0 8 : Int)] (becomeStandby { v with twin := { v.twin with joined := true } })) := by
  rintro s ⟨hkeyed, hactive⟩
  change execHeartbeat dt h data s = _
  simp only [execHeartbeat, receiveTwin_of_valid ht hkeyed, setTwin, hactive, Bool.false_eq_true, if_false, followActive_twin]

theorem runs_resign : Runs (.resign dt h) dt (fun u => u.twin.keyed = true ∧ u.twin.wantActive = false ∧ u.twin.joined = true ∧ u.twin.lostAt = none)
    (fun u =>
      let v := twinLoss 0 { u with twin := { u.twin with lastValid := u.tb.now, rxSeq := h.seq } }
      { v with twin := { v.twin with lostAt := some (u.tb.now, false) } }) := by
  rintro s ⟨hkeyed, hactive, hjoined, hlost⟩
  change execResign dt h s = _
  simp only [execResign, receiveTwin_of_valid ht hkeyed, hactive, hjoined, hlost, Option.isSome_none, Bool.not_true, Bool.or_self, Bool.false_eq_true, if_false, setTwin]

/-- An acknowledgement of an item that waits for one. -/
theorem runs_twinAck : Runs (.twinAck dt h data) dt (fun u => u.twin.keyed = true ∧ u.twin.wantActive = true ∧ ∃ x ∈ u.twin.unacked, x.id = fld data 0 4)
    (fun u =>
      let v := { u with twin := { u.twin with lastValid := u.tb.now, rxSeq := h.seq } }
      if fld data 5 1 = 0 then itemDurable (fld data 0 4) v
      else match u.model.load with
        | some l => if fld data 4 1 = 0x15 then loadFail l.entry (0x2D, 0, noRow, 0xFFFF, noRow) (itemDurable (fld data 0 4) v) else standbyLost v
        | none => standbyLost v) := by
  rintro s ⟨hkeyed, hactive, hitem⟩
  change execTwinAck dt h data s = _
  have hwaits : (advance dt s).twin.unacked.any (fun i => i.id == fld data 0 4) = true := by
    simpa only [List.any_eq_true, beq_iff_eq] using hitem
  simp only [execTwinAck, receiveTwin_of_valid ht hkeyed, hactive, hwaits, Bool.not_true, Bool.or_self, Bool.false_eq_true, if_false] <;> rfl

end

section
variable {dt : Nat} {data : Bytes}

theorem runs_hello (hlen : data.length = 200) : Runs (.hello dt data) dt (fun u => twinUp u = true ∧ u.twin.resolve ≠ 0 ∧ u.twin.keyed = false)
    (fun u =>
      let v := if u.twin.nonce.isSome then u else beginHandshake u
      let v := { v with twin := { v.twin with hello := some data, resolve := if v.twin.resolve = 2 then 1 else v.twin.resolve } }
      send (.twin 0x21 0 (helloPayload (slice data 8 32) v)) v) := by
  rintro s ⟨hup, hresolve, hkeyed⟩
  change execHello dt data s = _
  rcases hn : (advance dt s).twin.nonce with _ | n <;>
    simp only [execHello, hup, beq_eq_false_iff_ne.mpr hresolve, hkeyed, hlen, hn, bne_self_eq_false, Bool.not_true, Bool.or_self, Bool.false_eq_true, Option.isNone_none,
      Option.isNone_some, Option.isSome_none, Option.isSome_some, if_false, if_true, setTwin]

/-- What a complete exchange decides, before its confirmation. -/
def takeReply (data : Bytes) (u : State) : State :=
  let v := { u with twin := { u.twin with reply := some data, wantActive := wins (helloPayload [] u) data } }
  if !wins (helloPayload [] u) data && fld (helloPayload [] u) 0x48 1 == 1 && fld data 0x48 1 == 1 then
    letGo { abortAll 4 v with sys := { (abortAll 4 v).sys with released := true } }
  else v

/-- The confirmation of a complete exchange. -/
def confirmReply (win : Bool) (mismatch : Nat) (v : State) : State :=
  sendTwin 0x22 0 (le 1 (if mismatch ≠ 0 then 1 else 0) ++ le 1 (if win then 1 else 2) ++ zeros 2 ++ le 4 mismatch) { v with twin := { v.twin with confirmed := true, txSeq := 1 } }

theorem runs_helloReply (hlen : data.length = 200) : Runs (.helloReply dt data) dt
    (fun u => twinUp u = true ∧ u.twin.keyed = false ∧ u.twin.confirmed = false ∧ u.twin.nonce = some (slice data 0x28 32))
    (fun u => if bit (mismatchOf (helloPayload [] u) data) 8 then refuseJoin (mismatchOf (helloPayload [] u) data) data (takeReply data u)
      else confirmReply (wins (helloPayload [] u) data) (mismatchOf (helloPayload [] u) data) (takeReply data u)) := by
  rintro s ⟨hup, hkeyed, hconf, hnonce⟩
  change execHelloReply dt data s = _
  simp only [execHelloReply, hup, hkeyed, hconf, hlen, hnonce, bne_self_eq_false, Bool.not_true, Bool.or_self, Bool.false_eq_true, Option.isNone_some, if_false]
  simp only [takeReply, confirmReply, setTwin, b2n, bne_iff_ne]

theorem takeReply_of_kept {u : State} (h : wins (helloPayload [] u) data = true ∨ fld data 0x48 1 ≠ 1) :
    takeReply data u = { u with twin := { u.twin with reply := some data, wantActive := wins (helloPayload [] u) data } } := by
  have hkeep : (!wins (helloPayload [] u) data && fld (helloPayload [] u) 0x48 1 == 1 && fld data 0x48 1 == 1) = false := by
    rcases h with h | h
    · rw [h, Bool.not_true, Bool.false_and, Bool.false_and]
    · rw [beq_eq_false_iff_ne.mpr h, Bool.and_false]
  simp only [takeReply, hkeep, Bool.false_eq_true, if_false]

/-- A running module that loses lets go. -/
theorem takeReply_of_loser {u : State} (hwin : wins (helloPayload [] u) data = false) (hmine : fld (helloPayload [] u) 0x48 1 = 1) (hdata : fld data 0x48 1 = 1) :
    takeReply data u =
      (let a := abortAll 4 { u with twin := { u.twin with reply := some data, wantActive := false } }
       letGo { a with sys := { a.sys with released := true } }) := by
  simp only [takeReply, hwin, hmine, hdata, Bool.not_false, beq_self_eq_true, Bool.and_self, if_true]

variable {h : TwinHead}

theorem runs_helloConfirm_badTag (ht : h.tagOk = false) (peer : Bytes) : Runs (.helloConfirm dt h data) dt
    (fun u => u.twin.reply = some peer ∧ twinUp u = true ∧ u.twin.keyed = false ∧ u.twin.confirmed = true)
    (fun u => refuseJoin ((mismatchOf (helloPayload [] u) peer) ||| fld data 4 4) peer { u with twin := { u.twin with badFrames := u.twin.badFrames + 1 } }) := by
  rintro s ⟨hreply, hup, hkeyed, hconf⟩
  change execHelloConfirm dt h data s = _
  simp only [execHelloConfirm, hreply, hup, hkeyed, hconf, ht, Bool.not_true, Bool.not_false, Bool.or_self, Bool.false_eq_true, if_false, if_true, setTwin]

theorem runs_helloConfirm_refused (ht : h.tagOk = true) (peer : Bytes) : Runs (.helloConfirm dt h data) dt
    (fun u => u.twin.reply = some peer ∧ twinUp u = true ∧ u.twin.keyed = false ∧ u.twin.confirmed = true ∧
      (((mismatchOf (helloPayload [] u) peer) ||| fld data 4 4) ≠ 0 ∨ fld data 0 1 ≠ 0))
    (fun u => refuseJoin ((mismatchOf (helloPayload [] u) peer) ||| fld data 4 4) peer u) := by
  rintro s ⟨hreply, hup, hkeyed, hconf, hmism⟩
  change execHelloConfirm dt h data s = _
  simp only [execHelloConfirm, hreply, hup, hkeyed, hconf, ht, if_pos hmism, Bool.not_true, Bool.or_self, Bool.false_eq_true, if_false]

/-- The link that a complete exchange without mismatch keys. -/
def keyLink (h : TwinHead) (u : State) : State :=
  resolved { u with
    twin := { u.twin with keyed := true, joined := false, lastValid := u.tb.now, rxSeq := h.seq, unacked := [], received := [], nonce := none, hello := none, confirmed := false, retryAt := none, unpaired := false, mismatch := 0, lostAt := none, txSeq := 2 }
    sec := { u.sec with twinKeyMissing := false } }

theorem runs_helloConfirm_accepted (ht : h.tagOk = true) (hrefused : fld data 0 1 = 0) (hmism : fld data 4 4 = 0) (peer : Bytes) :
    Runs (.helloConfirm dt h data) dt
      (fun u => u.twin.reply = some peer ∧ twinUp u = true ∧ u.twin.keyed = false ∧ u.twin.confirmed = true ∧ mismatchOf (helloPayload [] u) peer = 0)
      (fun u =>
        let v := keyLink h u
        if u.twin.wantActive then tryJoined (fullCopy (sendBeat { v with sys := { v.sys with released := false, resignAt := none } }))
        else
          let w := if u.boot.plant && v.win.role != .standby then letGo v else v
          sendBeat { w with car := { w.car with slots := [] }, prog := { w.prog with retained := [], retPend := [], forces := [] } }) := by
  rintro s ⟨hreply, hup, hkeyed, hconf, hsame⟩
  change execHelloConfirm dt h data s = _
  simp only [execHelloConfirm, hreply, hup, hkeyed, hconf, ht, hrefused, hmism, hsame, Nat.or_zero, Bool.not_true, Bool.or_self, Bool.false_eq_true, ne_eq, not_true_eq_false,
    or_self, if_false]
  rfl

end

/-- The silence of a partner with which the module has joined. -/
theorem runs_twinSilence (dt : Nat) : Runs (.twinSilence dt) dt
    (fun u => u.twin.keyed = true ∧ keeperUp u = true ∧ u.twin.lastValid + 50000000 ≤ u.tb.now ∧ u.twin.lostAt = none)
    (fun u =>
      if !u.twin.joined then releaseWaiters { dropLink u with twin := { (dropLink u).twin with resolve := if u.win.role = .standby then 3 else 0, waitFrom := u.tb.now } }
      else if u.twin.wantActive then standbyLost u
      else { twinLoss 0 u with twin := { (twinLoss 0 u).twin with lostAt := some (u.tb.now, true) } }) := by
  rintro s ⟨hkeyed, hup, hlate, hlost⟩
  change execTwinSilence dt s = _
  simp only [execTwinSilence, hkeyed, hup, Nat.not_lt.mpr hlate, hlost, decide_false, Option.isSome_none, Bool.not_true, Bool.or_self, Bool.false_eq_true, if_false, setTwin]

theorem runs_takeover (dt : Nat) (cut : Cut) (t : Nat) (l : Bool) : Runs (.takeover dt cut) dt
    (fun u => u.twin.lostAt = some (t, l) ∧ keeperUp u = true ∧ t + 100000000 ≤ u.tb.now)
    (fun u => if u.sec.tamper != .none then becomeUnpaired u else takeOver cut u) := by
  rintro s ⟨hlost, hup, hlate⟩
  change execTakeover dt cut s = _
  simp only [execTakeover, hlost, hup, Nat.not_lt.mpr hlate, decide_false, Bool.not_true, Bool.or_self, Bool.false_eq_true, if_false]

theorem runs_twinHeartbeatTimer (dt : Nat) : Runs (.twinHeartbeatTimer dt) dt
    (fun u => twinUp u = true ∧ u.twin.keyed = true ∧ (∀ b, u.twin.beatSent = some b → b + 10000000 ≤ u.tb.now)) sendBeat := by
  rintro s ⟨hup, hkeyed, hdue⟩
  change execTwinHeartbeatTimer dt s = _
  rcases hb : (advance dt s).twin.beatSent with _ | b
  · simp only [execTwinHeartbeatTimer, hup, hkeyed, hb, Bool.and_self, if_true]
  · simp only [execTwinHeartbeatTimer, hup, hkeyed, hb, hdue b hb, decide_true, Bool.and_self, if_true]

theorem runs_helloTimer (dt : Nat) : Runs (.helloTimer dt) dt
    (fun u => twinUp u = true ∧ u.twin.nonce.isSome = true ∧ u.twin.hello = none ∧ (∀ t, u.twin.helloSent = some t → t + 10000000 ≤ u.tb.now)) sendHello := by
  rintro s ⟨hup, hnonce, hhello, hdue⟩
  change execHelloTimer dt s = _
  rcases hb : (advance dt s).twin.helloSent with _ | b
  · simp only [execHelloTimer, hup, hnonce, hhello, hb, Option.isNone_none, Bool.and_self, if_true]
  · simp only [execHelloTimer, hup, hnonce, hhello, hb, hdue b hb, Option.isNone_none, decide_true, Bool.and_self, if_true]

theorem runs_twinAckTimeout (dt : Nat) : Runs (.twinAckTimeout dt) dt (fun u => feedsTwin u = true ∧ twinUp u = true)
    (fun u => (u.twin.unacked.filter (fun x => decide (x.sent + 5000000 ≤ u.tb.now))).foldl (fun w x => sendTwin x.type x.id x.data w)
      { u with twin := { u.twin with unacked := u.twin.unacked.map (fun x => if x.sent + 5000000 ≤ u.tb.now then { x with sent := u.tb.now } else x) } }) := by
  rintro s ⟨hfeeds, hup⟩
  change execTwinAckTimeout dt s = _
  simp only [execTwinAckTimeout, hfeeds, hup, Bool.not_true, Bool.or_self, Bool.false_eq_true, if_false, setTwin, decide_eq_true_eq]

/-- An announcement of the active module on an uplink. -/
theorem exec_announce {dt : Nat} {f : FfpFrame} (htype : f.type = 0x06) {s : State} (htaken : (receiveFfp f (advance dt s)).2 = true)
    (hheader : nakHeader f (receiveFfp f (advance dt s)).1 = none) : exec (.announce dt f) s = .next (hearActive f (receiveFfp f (advance dt s)).1) :=
  congrArg _ (onFrame_of_taken htype (by rw [htype]; decide) htaken hheader)

/-- What a heard announcement notes. -/
def noteActive (f : FfpFrame) (u : State) : State :=
  { u with twin := { u.twin with announceHeard := u.tb.now, partnerEpoch := fld f.body 0 4 } }

theorem hearActive_of_listening {f : FfpFrame} (hport : f.port = 1 ∨ f.port = 2) (hsrc : f.src = 0) {u : State} {t : Nat} (hlost : u.twin.lostAt = some (t, true)) :
    hearActive f u = becomeUnpaired (twinLoss 2 (noteActive f u)) := by
  have huplink : ¬ (f.port ≠ 1 ∧ f.port ≠ 2) := by tauto
  simp only [hearActive, hsrc, huplink, ne_eq, not_true_eq_false, or_self, if_false, setTwin, hlost, noteActive]

theorem hearActive_of_resolved {f : FfpFrame} (hport : f.port = 1 ∨ f.port = 2) (hsrc : f.src = 0) {u : State} (hlost : ∀ t, u.twin.lostAt ≠ some (t, true))
    (hresolve : u.twin.resolve ≠ 2) : hearActive f u = noteActive f u := by
  have huplink : ¬ (f.port ≠ 1 ∧ f.port ≠ 2) := by tauto
  rcases hl : u.twin.lostAt with _ | ⟨t, l⟩
  · simp only [hearActive, hsrc, huplink, ne_eq, not_true_eq_false, or_self, if_false, setTwin, hl, hresolve, noteActive]
  · have hnot : l = false := by
      cases l
      · rfl
      · exact absurd hl (hlost t)
    simp only [hearActive, hsrc, huplink, ne_eq, not_true_eq_false, or_self, if_false, setTwin, hl, hnot, hresolve, noteActive]

/-- Settles O30, row by row: the heartbeats and acknowledgements, the handshake, and what an announcement says. -/
theorem twinLinkLivesAndTakesOver : Obligations.TwinLinkLivesAndTakesOver := by
  unfold Obligations.TwinLinkLivesAndTakesOver
  refine fun dt => ⟨runs_twinHeartbeatTimer dt, fun h data ht => runs_heartbeat_active ht, ?_, ?_, fun h ht => runs_resign ht, ?_, ?_, ?_, ?_, ?_, ?_, ?_, ?_,
    runs_twinAckTimeout dt, runs_helloTimer dt, fun data hlen => runs_hello hlen, ?_, ?_, ?_, fun h data peer ht => runs_helloConfirm_refused ht peer,
    fun h data peer ht => runs_helloConfirm_badTag ht peer, ?_, ?_, ?_, ?_, ?_⟩
  · rintro h data ht s ⟨hkeyed, hactive, hjoined⟩
    rw [runs_heartbeat_standby ht s ⟨hkeyed, hactive⟩]
    simp only [hjoined, Bool.true_or, if_true]
  · rintro h data ht hsays s ⟨hkeyed, hactive, hjoined⟩
    rw [runs_heartbeat_standby ht s ⟨hkeyed, hactive⟩]
    simp only [hjoined, hsays, bne_self_eq_false, Bool.or_self, Bool.false_eq_true, if_false]
  · rintro s ⟨hkeyed, hup, hlate, hlost, hjoined, hactive⟩
    rw [runs_twinSilence dt s ⟨hkeyed, hup, hlate, hlost⟩]
    simp only [hjoined, hactive, Bool.not_true, Bool.false_eq_true, if_false]
  · rintro s ⟨hkeyed, hup, hlate, hlost, hjoined, hactive⟩
    rw [runs_twinSilence dt s ⟨hkeyed, hup, hlate, hlost⟩]
    simp only [hjoined, hactive, Bool.not_true, Bool.false_eq_true, if_false, if_true]
  · rintro s ⟨hkeyed, hup, hlate, hlost, hjoined⟩
    rw [runs_twinSilence dt s ⟨hkeyed, hup, hlate, hlost⟩]
    simp only [hjoined, Bool.not_false, if_true]
  · rintro cut t l s ⟨hlost, hup, hlate, htamper⟩
    rw [runs_takeover dt cut t l s ⟨hlost, hup, hlate⟩]
    simp only [htamper, bne_self_eq_false, Bool.false_eq_true, if_false]
  · rintro cut t l s ⟨hlost, hup, hlate, htamper⟩
    rw [runs_takeover dt cut t l s ⟨hlost, hup, hlate⟩]
    simp only [bne_iff_ne.mpr htamper, if_true]
  · rintro h data ht hok s hs
    rw [runs_twinAck ht s hs]
    simp only [hok, if_true]
  · rintro h data ht hbad s ⟨hkeyed, hactive, hitem, hload⟩
    rw [runs_twinAck ht s ⟨hkeyed, hactive, hitem⟩]
    rcases hl : (advance dt s).model.load with _ | l
    · simp only [hbad, hl, if_false]
    · have htype : ¬ fld data 4 1 = 0x15 := hload.resolve_right (by rw [hl]; exact Option.some_ne_none l)
      simp only [hbad, hl, htype, if_false]
  · rintro h data l ht hbad htype s ⟨hkeyed, hactive, hitem, hload⟩
    rw [runs_twinAck ht s ⟨hkeyed, hactive, hitem⟩]
    simp only [hbad, hload, htype, if_false, if_true]
  · rintro data hlen s ⟨hup, hkeyed, hconf, hnonce, hsound, hkept⟩
    rw [runs_helloReply hlen s ⟨hup, hkeyed, hconf, hnonce⟩]
    simp only [hsound, takeReply_of_kept hkept, confirmReply, Bool.false_eq_true, if_false]
  · rintro data hlen s ⟨hup, hkeyed, hconf, hnonce, hsound, hwin, hmine, hdata⟩
    rw [runs_helloReply hlen s ⟨hup, hkeyed, hconf, hnonce⟩]
    simp only [hsound, takeReply_of_loser hwin hmine hdata, confirmReply, hwin, Bool.false_eq_true, if_false]
  · rintro data hlen s ⟨hup, hkeyed, hconf, hnonce, hbar, hkept⟩
    rw [runs_helloReply hlen s ⟨hup, hkeyed, hconf, hnonce⟩]
    simp only [hbar, takeReply_of_kept hkept, if_true]
  · rintro h data peer ht hrefused hmism s ⟨hreply, hup, hkeyed, hconf, hsame, hactive⟩
    rw [runs_helloConfirm_accepted ht hrefused hmism peer s ⟨hreply, hup, hkeyed, hconf, hsame⟩]
    dsimp only
    rw [if_pos hactive]
    rfl
  · rintro h data peer ht hrefused hmism s ⟨hreply, hup, hkeyed, hconf, hsame, hactive, hplant⟩
    rw [runs_helloConfirm_accepted ht hrefused hmism peer s ⟨hreply, hup, hkeyed, hconf, hsame⟩]
    have hstay : ((advance dt s).boot.plant && (keyLink h (advance dt s)).win.role != .standby) = false := by rw [hplant, Bool.false_and]
    dsimp only
    rw [if_neg (by rw [hactive]; decide), hstay, if_neg Bool.false_ne_true]
    rfl
  · rintro t s ⟨hretry, hup, hkeyed, hresolve, hdue⟩
    change execTwinRetry dt s = _
    simp only [execTwinRetry, hretry, hup, hkeyed, bne_iff_ne.mpr hresolve, hdue, decide_true, Bool.not_false, Bool.and_self, if_true]
  · rintro f htype hport hsrc s ⟨htaken, hheader, hlost, hresolve⟩
    exact (exec_announce htype htaken hheader).trans (congrArg _ (hearActive_of_resolved hport hsrc hlost hresolve))
  · rintro f t htype hport hsrc s ⟨htaken, hheader, hlost⟩
    exact (exec_announce htype htaken hheader).trans (congrArg _ (hearActive_of_listening hport hsrc hlost))

end Sys2Proof.Machine
end

section
/-! PROOF. The electrical and the thermal class. -/

namespace Sys2Proof.Machine
open Sys2Proof

/-! The electrical class -/

theorem reads_elecGetConfig_pending (b : Bytes) (l : List Nat) : Reads .elecGetConfig cmdElecGetConfig (fun _ u => u.elec.pend == some (b, l))
    (fun _ u => u.elec.cfg ++ le 1 1 ++ zeros 7 ++ b) :=
  reads_of_row (fun _ _ => rfl) fun c u _ h => by
    simp only [cmdElecGetConfig, beq_iff_eq.mp h, Option.isSome_some, b2n, if_true]

theorem reads_elecGetConfig : Reads .elecGetConfig cmdElecGetConfig (fun _ u => u.elec.pend.isNone)
    (fun _ u => u.elec.cfg ++ le 1 0 ++ zeros 7 ++ zeros 864) :=
  reads_of_row (fun _ _ => rfl) fun c u _ h => by
    simp only [cmdElecGetConfig, Option.isNone_iff_eq_none.mp h, Option.isSome_none, b2n, Bool.false_eq_true, if_false]

/-- A sound configuration becomes pending for every feed. -/
theorem acts_elecSetConfig : Acts .elecSetConfig cmdElecSetConfig
    (fun c u => (badWiring c.payload).isNone && (sharedFeed c.payload).isNone && (feedNoChannel c.payload).isNone && !applyTooSoon c.payload u)
    (fun c u => applyIdleFeeds { u with elec := { u.elec with pend := some (c.payload, [0, 1, 2, 3, 4]) } }) (fun _ _ => []) :=
  acts_of_row (fun _ _ => rfl) fun c u _ h => by
    simp only [Bool.and_eq_true, Option.isNone_iff_eq_none, Bool.not_eq_true'] at h
    obtain ⟨⟨⟨hwiring, hshared⟩, hchannel⟩, hsoon⟩ := h
    simp only [cmdElecSetConfig, hwiring, hshared, hchannel, hsoon, Bool.false_eq_true, if_false]
    rfl

theorem feedDisabled_of_latched {f : Nat} {u : State} {b : Bytes} (h : (feed f u).latched = some b) : feedDisabled f u = false := by
  simp only [feedDisabled, h, Option.isNone_some, Bool.and_false]

theorem reads_elecReadValues (b : Bytes) : Reads .elecReadValues cmdElecReadValues (fun c u => (feed (fld c.payload 0 1) u).latched == some b) (fun _ _ => b) :=
  reads_of_row (fun _ _ => rfl) fun c u _ h => by
    have hlatched := beq_iff_eq.mp h
    simp only [cmdElecReadValues, feedDisabled_of_latched hlatched, hlatched, Bool.false_eq_true, if_false]

theorem reads_elecReadValues_unlatched : Reads .elecReadValues cmdElecReadValues
    (fun c u => (feed (fld c.payload 0 1) u).latched.isNone && wiring (feedRec u.elec.cfg (fld c.payload 0 1)) != 0)
    (fun c u => le 1 (fld c.payload 0 1) ++ le 1 (wiring (feedRec u.elec.cfg (fld c.payload 0 1))) ++ zeros 158) :=
  reads_of_row (fun _ _ => rfl) fun c u _ h => by
    simp only [Bool.and_eq_true, Option.isNone_iff_eq_none, bne_iff_ne, ne_eq] at h
    obtain ⟨hlatched, hwired⟩ := h
    have hen : feedDisabled (fld c.payload 0 1) u = false := by simp only [feedDisabled, beq_eq_false_iff_ne.mpr hwired, Bool.false_and]
    simp only [cmdElecReadValues, hen, hlatched, Bool.false_eq_true, if_false]

theorem reads_elecReadRegisters : Reads .elecReadRegisters cmdElecReadRegisters (fun c u => !feedDisabled (fld c.payload 0 1) u)
    (fun c u => let f := fld c.payload 0 1
      le 1 f ++ zeros 3 ++ le 4 (feed f u).latchSeq ++ le 8 (feed f u).latchTime ++ le 2 (setFlags f u) ++ zeros 14 ++
        (readRegs 31250 (u.win.role == .standby) (feed f u).latchedRegs (feed f u).snaps (feed f u).repl).flatMap Reg.bytes) :=
  reads_of_row (fun _ _ => rfl) fun c u _ h => by
    simp only [cmdElecReadRegisters, (Bool.not_eq_true' _).mp h, Bool.false_eq_true, if_false]

/-- Settles O31, command by command. -/
theorem electricalMeteringAnswers : Obligations.ElectricalMeteringAnswers := by
  unfold Obligations.ElectricalMeteringAnswers
  refine ⟨reads_elecGetConfig_pending, reads_elecGetConfig, acts_elecSetConfig, reads_elecReadValues, reads_elecReadValues_unlatched, reads_elecReadRegisters,
    reads_of_row (fun _ _ => rfl) fun c u _ _ => rfl, ?_⟩
  refine acts_of_row (fun _ _ => rfl) fun c u _ h => ?_
  simp only [cmdElecAcknowledgeLoss, h, if_true]

/-! The thermal class -/

theorem reads_thermGetConfig_pending (b : Bytes) (l : List Nat) : Reads .thermGetConfig cmdThermGetConfig (fun _ u => u.therm.pend == some (b, l))
    (fun _ u => u.therm.cfg ++ le 1 1 ++ zeros 7 ++ b) :=
  reads_of_row (fun _ _ => rfl) fun c u _ h => by
    simp only [cmdThermGetConfig, beq_iff_eq.mp h, Option.isSome_some, b2n, if_true]

theorem reads_thermGetConfig : Reads .thermGetConfig cmdThermGetConfig (fun _ u => u.therm.pend.isNone)
    (fun _ u => u.therm.cfg ++ le 1 0 ++ zeros 7 ++ zeros 784) :=
  reads_of_row (fun _ _ => rfl) fun c u _ h => by
    simp only [cmdThermGetConfig, Option.isNone_iff_eq_none.mp h, Option.isSome_none, b2n, Bool.false_eq_true, if_false]

/-- Where every element passes the test, the search for one that fails it finds none. -/
theorem find?_eq_none_of_all {α : Type} {l : List α} {p q : α → Bool} (h : l.all p = true) (hq : ∀ a, p a = true → q a = false) : l.find? q = none := by
  rw [List.find?_eq_none]
  intro a ha
  rw [hq a (List.all_eq_true.mp h a ha)]
  exact Bool.false_ne_true

/-- Where every element passes the test, none fails it. -/
theorem any_eq_false_of_all {α : Type} {l : List α} {p q : α → Bool} (h : l.all p = true) (hq : ∀ a, p a = true → q a = false) : l.any q = false := by
  rw [List.any_eq_false]
  intro a ha
  rw [hq a (List.all_eq_true.mp h a ha)]
  exact Bool.false_ne_true

/-- A sound configuration becomes pending for every pair. -/
theorem acts_thermSetConfig : Acts .thermSetConfig cmdThermSetConfig
    (fun c u => let b := c.payload
      (enabledPairs b).all (fun p => fld (rtdRec b (2 * p)) 0 1 != 0 && fld (rtdRec b (2 * p + 1)) 0 1 != 0 && fld (flowRec b (fld (pairRec b p) 1 1)) 0 1 != 0) &&
      (enabledPairs b).all (fun p => (enabledPairs b).all (fun q => !(decide (q < p)) || fld (pairRec b q) 1 1 != fld (pairRec b p) 1 1)) &&
      (List.range 8).all (fun n => fld (flowRec b n) 0 1 != 4 || canInputFits 5 (fld (flowRec b n) 12 4) u) && !applyTooSoon b u)
    (fun c u => applyIdlePairs { u with therm := { u.therm with pend := some (c.payload, [0, 1, 2, 3, 4, 5, 6, 7]) } }) (fun _ _ => []) :=
  acts_of_row (fun _ _ => rfl) fun c u _ h => by
    rw [Bool.and_eq_true, Bool.and_eq_true, Bool.and_eq_true, Bool.not_eq_true'] at h
    obtain ⟨⟨⟨hchannels, hflows⟩, hcan⟩, hsoon⟩ := h
    have hbad := find?_eq_none_of_all hchannels (q := fun p => fld (rtdRec c.payload (2 * p)) 0 1 == 0 || fld (rtdRec c.payload (2 * p + 1)) 0 1 == 0 ||
        fld (flowRec c.payload (fld (pairRec c.payload p) 1 1)) 0 1 == 0) fun p hp => by
      simpa only [Bool.and_eq_true, bne_iff_ne, ne_eq, Bool.or_eq_false_iff, beq_eq_false_iff_ne] using hp
    have hdup := find?_eq_none_of_all hflows (q := fun p => (enabledPairs c.payload).any (fun q => decide (q < p) && fld (pairRec c.payload q) 1 1 == fld (pairRec c.payload p) 1 1))
      fun p hp => any_eq_false_of_all hp fun q hq => by
        rwa [← Bool.not_not (_ && _), Bool.not_and, ← bne, Bool.not_eq_false']
    have hfits := any_eq_false_of_all hcan (q := fun n => fld (flowRec c.payload n) 0 1 == 4 && !canInputFits 5 (fld (flowRec c.payload n) 12 4) u) fun n hn => by
      rwa [← Bool.not_not (_ && _), Bool.not_and, ← bne, Bool.not_not, Bool.not_eq_false']
    simp only [cmdThermSetConfig, hbad, hdup, hfits, hsoon, Bool.false_eq_true, if_false]
    rfl

theorem reads_thermReadValues (b : Bytes) : Reads .thermReadValues cmdThermReadValues
    (fun c u => !pairDisabled (fld c.payload 0 1) u && (pair (fld c.payload 0 1) u).latched == some b) (fun _ _ => b) :=
  reads_of_row (fun _ _ => rfl) fun c u _ h => by
    simp only [Bool.and_eq_true, Bool.not_eq_true', beq_iff_eq] at h
    simp only [cmdThermReadValues, h.1, h.2, Bool.false_eq_true, if_false]

theorem reads_thermReadValues_unlatched : Reads .thermReadValues cmdThermReadValues
    (fun c u => !pairDisabled (fld c.payload 0 1) u && (pair (fld c.payload 0 1) u).latched.isNone) (fun c _ => le 1 (fld c.payload 0 1) ++ zeros 63) :=
  reads_of_row (fun _ _ => rfl) fun c u _ h => by
    simp only [Bool.and_eq_true, Bool.not_eq_true', Option.isNone_iff_eq_none] at h
    simp only [cmdThermReadValues, h.1, h.2, Bool.false_eq_true, if_false]

theorem reads_thermReadRegisters : Reads .thermReadRegisters cmdThermReadRegisters (fun c u => !pairDisabled (fld c.payload 0 1) u)
    (fun c u => let p := fld c.payload 0 1
      le 1 p ++ zeros 3 ++ le 4 (pair p u).latchSeq ++ le 8 (pair p u).latchTime ++ le 2 (setPairFlags p u) ++ zeros 14 ++
        (readRegs 0 (u.win.role == .standby) (pair p u).latchedRegs (pair p u).snaps (pair p u).repl).flatMap Reg.bytes) :=
  reads_of_row (fun _ _ => rfl) fun c u _ h => by
    simp only [cmdThermReadRegisters, (Bool.not_eq_true' _).mp h, Bool.false_eq_true, if_false]

theorem acts_thermPutGlycol : Acts .thermPutGlycol cmdThermPutGlycol (fun c u => !glycolInUse (fld c.payload 0 1) u)
    (fun c u => { u with therm := { u.therm with glycol := tabSet u.therm.glycol (fld c.payload 0 1) (slice c.payload 4 64) } }) (fun _ _ => []) :=
  acts_of_row (fun _ _ => rfl) fun c u _ h => by
    simp only [cmdThermPutGlycol, (Bool.not_eq_true' _).mp h, Bool.false_eq_true, if_false]

/-- Settles O32, command by command. -/
theorem thermalMeteringAnswers : Obligations.ThermalMeteringAnswers := by
  unfold Obligations.ThermalMeteringAnswers
  refine ⟨reads_thermGetConfig_pending, reads_thermGetConfig, acts_thermSetConfig, reads_thermReadValues, reads_thermReadValues_unlatched, reads_thermReadRegisters,
    reads_of_row (fun _ _ => rfl) fun c u _ _ => rfl, reads_of_row (fun _ _ => rfl) fun c u _ _ => rfl, acts_thermPutGlycol, reads_of_row (fun _ _ => rfl) fun c u _ _ => rfl, ?_⟩
  refine acts_of_row (fun _ _ => rfl) fun c u _ h => ?_
  simp only [cmdThermAcknowledgeLoss, h, if_true]

end Sys2Proof.Machine
end

section
/-! PROOF. The Loop class and the loop engine. -/

namespace Sys2Proof.Machine
open Sys2Proof

/-! The Loop class and the loop engine -/

/-- A sound record waits for its slot's first sample. -/
theorem acts_loopSetConfig : Acts .loopSetConfig cmdLoopSetConfig
    (fun c u =>
      let n := fld c.payload 0 2
      let slots := (u.loops.slots.map (·.1)).filter (fun k => k != n) ++ [n]
      let view := fun k => if k = n then c.payload.drop 4 else latestRecord k u
      !caravanHolds (0x20000000 + n) u && !ownedFault view slots n u && !cascadeFault view slots && !guardFault view slots n u &&
        loadFits (loadItems (fun k => (loopSlot k u).record) view slots (fun k => k == n || (loopSlot k u).pend.isSome)))
    (fun c u =>
      let n := fld c.payload 0 2
      let view := fun k => if k = n then c.payload.drop 4 else latestRecord k u
      let p := (schedule n u).getD ((scheduleAt view 4 (c.payload.drop 4)).getD (1, 0))
      setLoop n { loopSlot n u with pend := some (c.payload.drop 4, firstSample p u) } u)
    (fun c u =>
      let n := fld c.payload 0 2
      let view := fun k => if k = n then c.payload.drop 4 else latestRecord k u
      le 8 (zoneAt (firstSample ((schedule n u).getD ((scheduleAt view 4 (c.payload.drop 4)).getD (1, 0))) u) u)) :=
  acts_of_row (fun _ _ => rfl) fun c u _ h => by
    simp only [Bool.and_eq_true, Bool.not_eq_true'] at h
    obtain ⟨⟨⟨⟨hheld, howned⟩, hcascade⟩, hguard⟩, hload⟩ := h
    simp only [cmdLoopSetConfig, hheld, howned, hcascade, hguard, hload, Bool.not_true, Bool.false_eq_true, if_false]

theorem acts_loopSetMode : Acts .loopSetMode cmdLoopSetMode (fun c u => !(fld c.payload 2 1 == 1 && lGuard (latestRecord (fld c.payload 0 2) u)))
    (fun c u => let n := fld c.payload 0 2
      setLoop n { loopSlot n u with reqPend := some (fld c.payload 2 1, hostInstant n u) } u)
    (fun c u => le 8 (zoneAt (hostInstant (fld c.payload 0 2) u) u)) :=
  acts_of_row (fun _ _ => rfl) fun c u _ h => by
    have hfree : ¬ (fld c.payload 2 1 = 1 ∧ lGuard (latestRecord (fld c.payload 0 2) u) = true) := by
      simpa only [Bool.not_eq_true', ← Bool.not_eq_true, Bool.and_eq_true, beq_iff_eq] using h
    simp only [cmdLoopSetMode, hfree, if_false]

theorem acts_loopSetSetpoint : Acts .loopSetSetpoint cmdLoopSetSetpoint
    (fun c u => lSpSource (latestRecord (fld c.payload 0 2) u) == 0 && !lGuard (latestRecord (fld c.payload 0 2) u))
    (fun c u => let n := fld c.payload 0 2
      setLoop n { loopSlot n u with localPend := some (fld c.payload 4 4, hostInstant n u) } u)
    (fun c u => le 8 (zoneAt (hostInstant (fld c.payload 0 2) u) u)) :=
  acts_of_row (fun _ _ => rfl) fun c u _ h => by
    simp only [Bool.and_eq_true, beq_iff_eq, Bool.not_eq_true'] at h
    obtain ⟨hlocal, hguard⟩ := h
    simp only [cmdLoopSetSetpoint, hlocal, hguard, ne_eq, not_true_eq_false, Bool.false_eq_true, or_self, if_false]

theorem acts_loopSetOutput : Acts .loopSetOutput cmdLoopSetOutput (fun c u => loopMode (fld c.payload 0 2) u == 1)
    (fun c u =>
      let n := fld c.payload 0 2
      let r := (loopSlot n u).record
      setLoop n { loopSlot n u with outPend := some (clampInt (lOutMin r) (lOutMax r) (sfld c.payload 4 4), hostInstant n u) } u)
    (fun c u => le 8 (zoneAt (hostInstant (fld c.payload 0 2) u) u)) :=
  acts_of_row (fun _ _ => rfl) fun c u _ h => by
    simp only [cmdLoopSetOutput, beq_iff_eq.mp h, ne_eq, not_true_eq_false, if_false]

/-- Settles O34, command by command and from the loop engine's tick. -/
theorem loopClassAnswersAndEngineRuns : Obligations.LoopClassAnswersAndEngineRuns := by
  unfold Obligations.LoopClassAnswersAndEngineRuns
  refine ⟨reads_of_row (fun _ _ => rfl) fun c u _ _ => rfl, acts_loopSetConfig, acts_loopSetMode, acts_loopSetSetpoint, acts_loopSetOutput,
    acts_of_row (fun _ _ => rfl) fun c u _ _ => rfl, fun dt => ⟨?_, ?_, ?_⟩⟩
  · rintro s ⟨hnew, hruns⟩
    change execLoopSample dt s = _
    simp only [execLoopSample, loopTick, Nat.not_le.mpr hnew, hruns, Bool.not_true, Bool.false_eq_true, if_false, List.foldl_cons, List.foldl_nil] <;> rfl
  · intro s hold
    change execLoopSample dt s = _
    simp only [execLoopSample, loopTick, hold, if_true]
  · rintro s ⟨hnew, hidle, hfeeds⟩
    change execLoopReplicationTimer dt s = _
    have hidle' (l : LoopEngine) : t0Runs { advance dt s with loops := l } = false := hidle
    have hfeeds' (l : LoopEngine) : feedsTwin { advance dt s with loops := l } = true := hfeeds
    simp only [execLoopReplicationTimer, Nat.not_le.mpr hnew, hidle', hfeeds', Bool.not_true, Bool.or_self, Bool.false_eq_true, if_false]

end Sys2Proof.Machine
end

section
/-! PROOF. The Program class and the program's events. -/

namespace Sys2Proof.Machine
open Sys2Proof

/-! The Program class -/

theorem acts_programPutImage : Acts .programPutImage cmdProgramPutImage
    (fun c u => (fld c.payload 0 4 == 0 || fld c.payload 0 4 == u.prog.staged.length) &&
      decide (((if fld c.payload 0 4 = 0 then [] else u.prog.staged) ++ c.payload.drop 8).length ≤ 6291456))
    (fun c u => setProg (fun p => { p with staged := (if fld c.payload 0 4 = 0 then [] else u.prog.staged) ++ c.payload.drop 8 }) u)
    (fun c u => le 4 ((if fld c.payload 0 4 = 0 then [] else u.prog.staged) ++ c.payload.drop 8).length) :=
  acts_of_row (fun _ _ => rfl) fun c u _ h => by
    simp only [Bool.and_eq_true, Bool.or_eq_true, beq_iff_eq, decide_eq_true_eq] at h
    obtain ⟨hoff, hsize⟩ := h
    have hoff' : ¬ (fld c.payload 0 4 ≠ 0 ∧ fld c.payload 0 4 ≠ u.prog.staged.length) := by
      rintro ⟨hstart, hnext⟩
      exact hoff.elim hstart hnext
    simp only [cmdProgramPutImage, hoff', Nat.not_lt.mpr hsize, if_false]

theorem acts_programCommitImage : Acts .programCommitImage cmdProgramCommitImage
    (fun c u => fld c.payload 0 1 == 0 && decide (progState u ≤ 1) && u.prog.change.isNone && (imageBad u.prog.staged u).isNone &&
      !(directory u.prog.staged).any (ownershipBad (directory u.prog.staged) u))
    (fun _ u => setProg (fun p => { p with req := 1, discarded := 0, queue := [], timers := [], tasks := p.tasks.map (fun e => (e.1, { e.2 with overruns := 0, skipped := 0, execLast := 0, execMax := 0 })) })
      (placeImage u.prog.staged (sendChange 0 u.prog.staged u)).1)
    (fun _ u => (placeImage u.prog.staged (sendChange 0 u.prog.staged u)).2) :=
  acts_of_row (fun _ _ => rfl) fun c u _ h => by
    simp only [Bool.and_eq_true, beq_iff_eq, decide_eq_true_eq, Option.isNone_iff_eq_none, Bool.not_eq_true'] at h
    obtain ⟨⟨⟨⟨hmode, hstate⟩, hchange⟩, hsound⟩, howned⟩ := h
    have hstopped : ¬ (progState u ≠ 0 ∧ progState u ≠ 1) := by omega
    simp only [cmdProgramCommitImage, hmode, hstopped, hchange, hsound, howned, Option.isSome_none, Bool.false_eq_true, true_and, zero_ne_one, false_and, if_false]

theorem defers_programCommitImage : Defers .programCommitImage cmdProgramCommitImage
    (fun c u => fld c.payload 0 1 == 1 && progState u == 2 && u.prog.change.isNone && (imageBad u.prog.staged u).isNone &&
      !(directory u.prog.staged).any (ownershipBad (directory u.prog.staged) u))
    (fun c u => setProg (fun p => { p with change := some { image := u.prog.staged, from_ := (sendChange 1 u.prog.staged u).tb.now, mbox := c.mbox } })
      (sendChange 1 u.prog.staged u)) :=
  defers_of_row (fun _ _ => rfl) fun c u _ h => by
    simp only [Bool.and_eq_true, beq_iff_eq, Option.isNone_iff_eq_none, Bool.not_eq_true'] at h
    obtain ⟨⟨⟨⟨hmode, hstate⟩, hchange⟩, hsound⟩, howned⟩ := h
    simp only [cmdProgramCommitImage, hmode, hstate, hchange, hsound, howned, Option.isSome_none, Bool.false_eq_true, one_ne_zero, ne_eq, not_true_eq_false, false_and,
      and_false, if_false, if_true]

theorem acts_programSetMode_stop : Acts .programSetMode cmdProgramSetMode (fun c u => fld c.payload 0 1 == 1 && u.prog.req != 1) (fun _ u => stopProgram 1 u)
    (fun _ u => le 8 u.zone) :=
  acts_of_row (fun _ _ => rfl) fun c u _ h => by
    simp only [Bool.and_eq_true, beq_iff_eq, bne_iff_ne, ne_eq] at h
    simp only [cmdProgramSetMode, h.1, h.2, if_true, if_false]

theorem acts_programSetMode_hold : Acts .programSetMode cmdProgramSetMode (fun c u => fld c.payload 0 1 == 3 && u.win.debug != .closed && u.prog.req != 3)
    (fun _ u => noteNoProgram (sendMode (setProg (fun p => { p with req := 3, holdAt := some u.tb.now }) u))) (fun _ u => le 8 u.zone) :=
  acts_of_row (fun _ _ => rfl) fun c u _ h => by
    simp only [Bool.and_eq_true, beq_iff_eq, bne_iff_ne, ne_eq] at h
    obtain ⟨⟨hmode, hdebug⟩, hreq⟩ := h
    simp only [cmdProgramSetMode, hmode, hdebug, hreq, Nat.reduceEqDiff, if_true, if_false]

theorem acts_programSetMode_run : Acts .programSetMode cmdProgramSetMode
    (fun c u => fld c.payload 0 1 == 2 && u.prog.req != 2 && (fld c.payload 1 1 != 2 || u.prog.req == 3 || u.prog.hot))
    (fun c u => runProgram (fld c.payload 1 1) u) (fun _ u => le 8 u.zone) :=
  acts_of_row (fun _ _ => rfl) fun c u _ h => by
    simp only [Bool.and_eq_true, Bool.or_eq_true, beq_iff_eq, bne_iff_ne, ne_eq] at h
    obtain ⟨⟨hmode, hreq⟩, hkind⟩ := h
    have hstart : ¬ (fld c.payload 1 1 = 2 ∧ u.prog.req ≠ 3 ∧ (!u.prog.hot) = true ∧ u.prog.req ≠ 2) := by
      rintro ⟨hresume, hheld, hcold, -⟩
      rw [Bool.not_eq_true'] at hcold
      rcases hkind with (hk | hk) | hk
      · exact hk hresume
      · exact hheld hk
      · exact Bool.false_ne_true (hcold.symm.trans hk)
    simp only [cmdProgramSetMode, hmode, hstart, hreq, Nat.reduceEqDiff, if_false]

theorem reads_programReadVars : Reads .programReadVars cmdProgramReadVars
    (fun c u => (List.range (fld c.payload 0 2)).all (fun i => (entryOf (progDir u) (fld c.payload (4 + 8 * i) 8)).isSome))
    (fun c u => le 2 (fld c.payload 0 2) ++ zeros 2 ++ ((List.range (fld c.payload 0 2)).map (fun i => fld c.payload (4 + 8 * i) 8)).flatMap
      (fun v => match entryOf (progDir u) v with | some e => varRecord e u | none => [])) :=
  reads_of_row (fun _ _ => rfl) fun c u _ h => by
    have hknown : ((List.range (fld c.payload 0 2)).map (fun i => fld c.payload (4 + 8 * i) 8)).zipIdx.find? (fun e => (entryOf (progDir u) e.1).isNone) = none := by
      rw [List.find?_eq_none]
      intro e he
      obtain ⟨i, hi, hid⟩ := List.mem_map.mp (List.fst_mem_of_mem_zipIdx he)
      rw [← hid, Bool.not_eq_true, Option.isNone_eq_false_iff]
      exact List.all_eq_true.mp h i hi
    simp only [cmdProgramReadVars, hknown] <;> rfl

theorem acts_programSetForce (e : Bytes) : Acts .programSetForce cmdProgramSetForce
    (fun c u => entryOf (progDir u) (fld c.payload 0 8) == some e && eType e != 0x0D && !entryGuard e &&
      ((tabGet? u.prog.forces (fld c.payload 0 8)).isSome || decide (u.prog.forces.length < 256)))
    (fun c u => sendForces (setProg (fun p => { p with forces := tabSet p.forces (fld c.payload 0 8) (slice c.payload 8 (eSize e)) }) u)) (fun _ _ => []) :=
  acts_of_row (fun _ _ => rfl) fun c u _ h => by
    simp only [Bool.and_eq_true, Bool.or_eq_true, beq_iff_eq, bne_iff_ne, ne_eq, Bool.not_eq_true', decide_eq_true_eq] at h
    obtain ⟨⟨⟨hentry, htype⟩, hguard⟩, hroom⟩ := h
    have hroom' : ¬ ((tabGet? u.prog.forces (fld c.payload 0 8)).isNone = true ∧ 256 ≤ u.prog.forces.length) := by
      rintro ⟨hnew, hfull⟩
      rw [Option.isNone_iff_eq_none] at hnew
      rw [hnew] at hroom
      exact hroom.elim (fun h => Bool.false_ne_true h) (Nat.not_lt.mpr hfull)
    simp only [cmdProgramSetForce, hentry, htype, hguard, hroom', Bool.false_eq_true, or_self, if_false]

theorem acts_programReleaseForce_all : Acts .programReleaseForce cmdProgramReleaseForce (fun c u => fld c.payload 0 8 == 0 && u.prog.forces != [])
    (fun _ u => sendForces (setProg (fun p => { p with forces := [] }) u)) (fun _ u => le 2 u.prog.forces.length ++ zeros 2) :=
  acts_of_row (fun _ _ => rfl) fun c u _ h => by
    simp only [Bool.and_eq_true, beq_iff_eq, bne_iff_ne, ne_eq] at h
    obtain ⟨hall, hsome⟩ := h
    have hlen : ¬ u.prog.forces.length = 0 := fun hzero => hsome (List.length_eq_zero_iff.mp hzero)
    simp only [cmdProgramReleaseForce, hall, List.length_nil, Nat.sub_zero, hlen, if_true, if_false]

theorem acts_programReleaseForce_one : Acts .programReleaseForce cmdProgramReleaseForce
    (fun c u => fld c.payload 0 8 != 0 && decide ((tabErase u.prog.forces (fld c.payload 0 8)).length < u.prog.forces.length))
    (fun c u => sendForces (setProg (fun p => { p with forces := tabErase u.prog.forces (fld c.payload 0 8) }) u))
    (fun c u => le 2 (u.prog.forces.length - (tabErase u.prog.forces (fld c.payload 0 8)).length) ++ zeros 2) :=
  acts_of_row (fun _ _ => rfl) fun c u _ h => by
    simp only [Bool.and_eq_true, decide_eq_true_eq, bne_iff_ne, ne_eq] at h
    obtain ⟨hone, hfewer⟩ := h
    have hlen : ¬ u.prog.forces.length - (tabErase u.prog.forces (fld c.payload 0 8)).length = 0 := by omega
    simp only [cmdProgramReleaseForce, hone, hlen, if_false]

/-- Settles O36, command by command. -/
theorem programClassAnswers : Obligations.ProgramClassAnswers := by
  unfold Obligations.ProgramClassAnswers
  exact ⟨acts_programPutImage, acts_programCommitImage, defers_programCommitImage, reads_of_row (fun _ _ => rfl) fun c u _ _ => rfl, acts_programSetMode_stop,
    acts_programSetMode_hold, acts_programSetMode_run, acts_of_row (fun _ _ => rfl) fun c u _ _ => rfl, reads_of_row (fun _ _ => rfl) fun c u _ _ => rfl,
    reads_programReadVars, acts_programSetForce, acts_programReleaseForce_all, acts_programReleaseForce_one, reads_of_row (fun _ _ => rfl) fun c u _ _ => rfl,
    reads_of_row (fun _ _ => rfl) fun c u _ _ => rfl, acts_of_row (fun _ _ => rfl) fun c u _ _ => rfl⟩

/-! The events of the program -/

theorem progState_setTask (t : Nat) (x : Task) (s : State) : progState (setTask t x s) = progState s := rfl

theorem progImage_setTask (t : Nat) (x : Task) (s : State) : progImage (setTask t x s) = progImage s := rfl

/-- A cycle of a cyclic task begins at its input instant. -/
theorem runs_taskInput_cyclic (dt : Nat) (t : Fin 5) (x : Task) (ht : t.val ≠ 4) : Runs (.taskInput dt t) dt
    (fun u => progRuns u = true ∧ progState u = 2 ∧ u.prog.change = none ∧ (taskGrid (progImage u) t.val).1 ≠ 0 ∧
      tickIn (taskGrid (progImage u) t.val) (task t.val u).lastIn (u.tb.now / 100000) = true ∧ task t.val (outputInstant t.val u) = x ∧
      (outputInstant t.val u).prog.change = none ∧ taskOn (progImage (outputInstant t.val u)) t.val = true ∧ progState (outputInstant t.val u) = 2 ∧
      x.from_ ≤ lastInstant (taskGrid (progImage (outputInstant t.val u)) t.val) (u.tb.now / 100000) * 100000 ∧ x.executing = false ∧ x.overrun = false)
    (fun u => let v := outputInstant t.val u
      cyclicInstant t.val (lastInstant (taskGrid (progImage v) t.val) (u.tb.now / 100000) * 100000) (setTask t.val { x with lastIn := u.tb.now / 100000 } v)) := by
  rintro s ⟨hruns, -, -, hgrid, htick, hx, hchange, hon, hstate, hfrom, -, -⟩
  change execTaskInput dt t s = _
  simp only [execTaskInput, hruns, ht, hgrid, htick, hx, hchange, hon, hstate, Nat.not_lt.mpr hfrom, progState_setTask, progImage_setTask, Option.isSome_none,
    Bool.and_false, Bool.false_and, Bool.not_true, beq_self_eq_true, Bool.true_or, Bool.false_eq_true, or_self, if_false]

/-- TE takes the first event of its queue. -/
theorem runs_taskInput_event (dt : Nat) (e : Nat × Nat × Nat × Nat) (rest : List (Nat × Nat × Nat × Nat)) : Runs (.taskInput dt 4) dt
    (fun u => progRuns u = true ∧ (outputInstant 4 u).prog.queue = e :: rest ∧ progState (outputInstant 4 u) = 2 ∧ (outputInstant 4 u).prog.change = none ∧
      (task 4 (outputInstant 4 u)).tin = none ∧ taskOn (progImage (outputInstant 4 u)) 4 = true ∧ e.2.2.2 ≤ u.tb.now / 100000 * 100000)
    (fun u => let v := outputInstant 4 u
      beginCycle 4 (u.tb.now / 100000 * 100000) (setTask 4 { task 4 v with event := some (e.1, e.2.1, e.2.2.1) } (setProg (fun p => { p with queue := rest }) v))) := by
  rintro s ⟨hruns, hqueue, hstate, hchange, hidle, hon, hdue⟩
  change execTaskInput dt 4 s = _
  have h4 : (4 : Fin 5).val = 4 := rfl
  simp only [execTaskInput, hruns, h4, hqueue, hstate, hchange, hidle, hon, Nat.not_lt.mpr hdue, Option.isSome_none, Bool.not_true, Bool.false_eq_true, ne_eq,
    not_true_eq_false, or_self, if_false, if_true]

section
variable (ts : Program → Tab HwTimer) (s : State)

theorem progRuns_timers : progRuns (setProg (fun p => { p with timers := ts p }) s) = progRuns s := rfl

theorem progState_timers : progState (setProg (fun p => { p with timers := ts p }) s) = progState s := rfl

theorem progImage_timers : progImage (setProg (fun p => { p with timers := ts p }) s) = progImage s := rfl

end

/-- An event of TE that a hardware timer raises. -/
def timerEvents (n : Nat) (u : State) : List Nat :=
  (List.range (eventCount (progImage u))).filter (fun i => fld (eventRec (progImage u) i) 0 4 == 4 + n * 65536)

theorem runs_hwTimer (dt : Nat) (n : Fin 64) (x : HwTimer) : Runs (.hwTimer dt n) dt
    (fun u => tabGet? u.prog.timers n.val = some x ∧ x.target ≤ u.zone ∧ progRuns u = true ∧ progState u = 2)
    (fun u => (timerEvents n.val u).foldl (fun t i => queueEvent i (x.expiries + 1) x.target t)
      (setProg (fun p => { p with
        timers := if x.period = 0 then tabErase p.timers n.val else tabSet p.timers n.val { x with expiries := x.expiries + 1, target := x.target + x.period } }) u)) := by
  rintro s ⟨htimer, hdue, hruns, hstate⟩
  change execHwTimer dt n s = _
  simp only [execHwTimer, htimer, Nat.not_lt.mpr hdue, progRuns_timers, progState_timers, progImage_timers, hruns, hstate, bne_self_eq_false, Bool.not_true, Bool.or_self,
    Bool.false_eq_true, if_false, timerEvents]

/-- Settles O37, event by event. -/
theorem programEventsRun : Obligations.ProgramEventsRun := by
  unfold Obligations.ProgramEventsRun
  refine fun dt => ⟨fun t x ht => runs_taskInput_cyclic dt t x ht, runs_taskInput_event dt, ?_, ?_, ?_, ?_, ?_, ?_, ?_, ?_, ?_, ?_⟩
  · rintro t fx s ⟨hexec, hruns⟩
    change execTaskExecutionEnd dt t fx s = _
    simp only [execTaskExecutionEnd, hexec, hruns, Bool.not_true, Bool.false_eq_true, or_self, if_false] <;> rfl
  · rintro t i s ⟨hin, hexec, hlate⟩
    change execTaskWatchdog dt t s = _
    simp only [execTaskWatchdog, hin, hexec, hlate, and_self, if_true]
  · intro t code inst off s hexec
    change execTrap dt t code inst off s = _
    simp only [execTrap, hexec, if_true]
  · rintro t s ⟨hheld, hlate⟩
    change execHoldLimit dt s = _
    simp only [execHoldLimit, hheld, hlate, if_true]
  · rintro s ⟨hchange, hstate, hquiet, hinstant⟩
    change execChangeSwitch dt s = _
    simp only [execChangeSwitch, hchange, hstate, hquiet, hinstant, beq_self_eq_true, Bool.and_self, if_true]
  · rintro c s ⟨hchange, hlate⟩
    change execChangeTimeout dt s = _
    simp only [execChangeTimeout, hchange, Nat.not_lt.mpr hlate, if_false]
  · rintro s ⟨hlines, hfree⟩
    change execRetainedRecordDurable dt s = _
    simp only [execRetainedRecordDurable, hlines, hfree, decide_false, Bool.or_self, Bool.false_eq_true, if_false]
  · rintro i k d s ⟨hruns, hstate, hknown, hdata⟩
    change execTeEvent dt i k s = _
    simp only [execTeEvent, hruns, hstate, Nat.not_le.mpr hknown, hdata, decide_false, bne_self_eq_false, Bool.not_true, Bool.or_self, Bool.false_eq_true, if_false]
  · rintro n x s ⟨htimer, hdue, hruns, hstate, hperiod⟩
    rw [runs_hwTimer dt n x s ⟨htimer, hdue, hruns, hstate⟩]
    simp only [hperiod, if_true]
    rfl
  · rintro n x s ⟨htimer, hdue, hruns, hstate, hperiod⟩
    rw [runs_hwTimer dt n x s ⟨htimer, hdue, hruns, hstate⟩]
    simp only [hperiod, if_false]
    rfl

end Sys2Proof.Machine
end

section
/-! PROOF. The Motion class and the axes' events. -/

namespace Sys2Proof.Machine
open Sys2Proof

/-! The Motion class -/

theorem acts_axisSetConfig : Acts .axisSetConfig cmdAxisSetConfig
    (fun c u => !caravanHolds (0x30000000 + fld c.payload 0 1) u && !axisConflict (fld c.payload 0 1) (slice c.payload 4 64) u)
    (fun c u => setAxis (fld c.payload 0 1) (applyPend u.tb.now { axis (fld c.payload 0 1) u with pend := some (slice c.payload 4 64) }) u) (fun _ _ => []) :=
  acts_of_row (fun _ _ => rfl) fun c u _ h => by
    simp only [Bool.and_eq_true, Bool.not_eq_true'] at h
    simp only [cmdAxisSetConfig, h.1, h.2, Bool.false_eq_true, if_false]

theorem acts_axisSetMode : Acts .axisSetMode cmdAxisSetMode (fun c u => fld c.payload 1 1 != 2 || axisGuarded (fld c.payload 0 1) u)
    (fun c u => setAxis (fld c.payload 0 1) { axis (fld c.payload 0 1) u with req := fld c.payload 1 1, dirty := true } u) (fun _ u => le 8 u.zone) :=
  acts_of_row (fun _ _ => rfl) fun c u _ h => by
    have hruns : ¬ (fld c.payload 1 1 = 2 ∧ (!axisGuarded (fld c.payload 0 1) u) = true) := by
      rintro ⟨hstop, hfree⟩
      rw [hstop, (Bool.not_eq_true' _).mp hfree] at h
      exact Bool.false_ne_true h
    simp only [cmdAxisSetMode, hruns, if_false]

theorem acts_axisSetMode_stop : Acts .axisSetMode cmdAxisSetMode (fun c u => fld c.payload 1 1 == 2 && !axisGuarded (fld c.payload 0 1) u)
    (fun c u => setAxis (fld c.payload 0 1) (stopAxis u.tb.now { axis (fld c.payload 0 1) u with req := fld c.payload 1 1, dirty := true, homing := 0 }) u) (fun _ u => le 8 u.zone) :=
  acts_of_row (fun _ _ => rfl) fun c u _ h => by
    have hstop : fld c.payload 1 1 = 2 ∧ (!axisGuarded (fld c.payload 0 1) u) = true := by
      simpa only [Bool.and_eq_true, beq_iff_eq] using h
    simp only [cmdAxisSetMode, if_pos hstop]

/-- A homed axis in MANUAL that nothing else writes starts towards its share of the stroke. -/
theorem acts_axisMove : Acts .axisMove cmdAxisMove
    (fun c u => (axis (fld c.payload 0 1) u).homed && axisMode (fld c.payload 0 1) u == 1 && (loopOwner 3 (fld c.payload 0 1) u).isNone &&
      !(bindsTo (progDir u) 0x45 (fld c.payload 0 1)).any (fun e => !entryGuard e))
    (fun c u =>
      let n := fld c.payload 0 1
      let v := fld c.payload 4 4
      setAxis n (startMove u.tb.now (roundAway (f32Val v * (stroke (axis n u) : Rat))) { axis n u with dirty := true })
        (setTarget 3 n { target 3 n u with local_ := some v, value := f32Val v } u)) (fun _ u => le 8 u.zone) :=
  acts_of_row (fun _ _ => rfl) fun c u _ h => by
    simp only [Bool.and_eq_true, beq_iff_eq, Option.isNone_iff_eq_none, Bool.not_eq_true'] at h
    obtain ⟨⟨⟨hhomed, hmode⟩, hloop⟩, hprog⟩ := h
    simp only [cmdAxisMove, hhomed, hmode, hloop, hprog, Option.isSome_none, Bool.or_self, Bool.not_true, Bool.false_eq_true, ne_eq, not_true_eq_false, if_false]
    rfl

theorem acts_axisHome : Acts .axisHome cmdAxisHome
    (fun c u => !axisGuarded (fld c.payload 0 1) u && axisMode (fld c.payload 0 1) u != 0 && axisMode (fld c.payload 0 1) u != 6 &&
      axisMode (fld c.payload 0 1) u != 7 && (axis (fld c.payload 0 1) u).faultPend == 0)
    (fun c u => setAxis (fld c.payload 0 1) (homeStart u.tb.now (axis (fld c.payload 0 1) u)) u) (fun _ u => le 8 u.zone) :=
  acts_of_row (fun _ _ => rfl) fun c u _ h => by
    simp only [Bool.and_eq_true, Bool.not_eq_true', bne_iff_ne, ne_eq, beq_iff_eq] at h
    obtain ⟨⟨⟨⟨hguard, hoff⟩, hfaulted⟩, hheld⟩, hpend⟩ := h
    simp only [cmdAxisHome, hguard, hoff, hfaulted, hheld, hpend, ne_eq, not_true_eq_false, Bool.false_eq_true, or_self, if_false]

theorem acts_axisClearFault : Acts .axisClearFault cmdAxisClearFault
    (fun c u => (axis (fld c.payload 0 1) u).faulted && !(axis (fld c.payload 0 1) u).causes.contains (axis (fld c.payload 0 1) u).fault)
    (fun c u =>
      let a := axis (fld c.payload 0 1) u
      let m := if a.current = 3 then (if fld a.record 0x1C 4 = 0 then 1 else 0) else a.current
      setAxis (fld c.payload 0 1) { a with faulted := false, fault := 0, target := a.pos, restAt := u.tb.now, current := m } u) (fun _ _ => []) :=
  acts_of_row (fun _ _ => rfl) fun c u _ h => by
    simp only [Bool.and_eq_true, Bool.not_eq_true'] at h
    obtain ⟨hfaulted, hgone⟩ := h
    simp only [cmdAxisClearFault, hfaulted, hgone, Bool.not_true, Bool.false_eq_true, if_false]

/-- Settles O38, command by command. -/
theorem motionClassAnswers : Obligations.MotionClassAnswers := by
  unfold Obligations.MotionClassAnswers
  exact ⟨reads_of_row (fun _ _ => rfl) fun c u _ _ => rfl, acts_axisSetConfig, acts_axisSetMode, acts_axisSetMode_stop, acts_axisMove, acts_axisHome, acts_axisClearFault,
    acts_of_row (fun _ _ => rfl) fun c u _ _ => rfl⟩

/-! The events of the axes -/

/-- A ramp that has run out leaves its axis at rest, where neither a fault nor a homing run goes on from there. -/
theorem motionEnd_of_quiet {n : Nat} {u : State} {r : Ramp} (hramp : (axis n u).ramp = some r) (hend : r.end_ ≤ u.tb.now) (hfault : (axis n u).faultPend = 0)
    (hhoming : (axis n u).homing = 0) :
    motionEnd n u = setAxis n (applyPend u.tb.now (restAt r.end_ (match r.goal with | some g => g | none => (axis n u).posAt u.tb.now) (axis n u))) u := by
  simp only [motionEnd, hramp, Nat.not_lt.mpr hend, restAt, hfault, hhoming, ne_eq, not_true_eq_false, if_false] <;> rfl

/-- The high limit input becomes active away from the end of the stroke. -/
theorem limitSwitch_high_early {n k : Nat} {u : State} (hk : fld (axis n u).record 0x28 1 = k) (hwired : k ≠ 0xFF) (hused : fld (axis n u).record 0 1 ≠ 0)
    (hon : (di k u).value = true) (hwas : (axis n u).highOn = false)
    (hfar : fld (axis n u).record 0x34 4 < ((stroke (axis n u) : Int) - (axis n u).posAt u.tb.now).natAbs) :
    limitSwitch n true u = axisFault n 3 (setAxis n { axis n u with highOn := true } u) := by
  simp only [limitSwitch, hk, bne_iff_ne.mpr hwired, hused, hon, hwas, Int.natAbs_natCast, Nat.not_le.mpr hfar, decide_false, Bool.and_self, Bool.not_true, Bool.false_and,
    Bool.true_eq_false, Bool.false_eq_true, or_self, if_false, if_true]

/-- The high limit input becomes inactive. -/
theorem limitSwitch_high_off {n k : Nat} {u : State} (hk : fld (axis n u).record 0x28 1 = k) (hwired : k ≠ 0xFF) (hused : fld (axis n u).record 0 1 ≠ 0)
    (hoff : (di k u).value = false) (hwas : (axis n u).highOn = true) :
    limitSwitch n true u = setAxis n { axis n u with highOn := false, atHigh := false } u := by
  simp only [limitSwitch, hk, bne_iff_ne.mpr hwired, hused, hoff, hwas, Bool.and_false, Bool.not_true, Bool.not_false, Bool.false_and, Bool.false_eq_true, or_self, if_false,
    if_true]

/-- Settles O39, event by event. -/
theorem motionEventsRun : Obligations.MotionEventsRun := by
  unfold Obligations.MotionEventsRun
  refine fun dt => ⟨?_, ?_, ?_, ?_, ?_, ?_, ?_, ?_, ?_, ?_⟩
  · rintro n r s ⟨hramp, hend, hfault, hhoming⟩
    exact congrArg Host.Outcome.next (motionEnd_of_quiet hramp hend hfault hhoming)
  · intro s hnew
    change execStallCheck dt [] s = _
    simp only [execStallCheck, List.foldl_nil, Nat.not_le.mpr hnew, if_false]
  · intro n s hencoder
    change execEncError dt n .illegal s = _
    simp only [execEncError, hencoder, if_false]
  · intro n s hencoder
    change execEncError dt n .openInput s = _
    simp only [execEncError, hencoder, if_false]
  · rintro n k s ⟨hk, hwired, hused, hon, hwas, hfar⟩
    exact congrArg Host.Outcome.next (limitSwitch_high_early hk hwired hused hon hwas hfar)
  · rintro n k s ⟨hk, hwired, hused, hoff, hwas⟩
    exact congrArg Host.Outcome.next (limitSwitch_high_off hk hwired hused hoff hwas)
  · intro n f s _
    change execDriverFault dt n f true s = _
    simp only [execDriverFault, if_true]
  · intro n f s _
    change execDriverFault dt n f false s = _
    simp only [execDriverFault, Bool.false_eq_true, if_false]
  · rintro n s ⟨hrest, hcurrent, hlate⟩
    change execHoldDelay dt n s = _
    simp only [execHoldDelay, hrest, hcurrent, hlate, decide_true, Bool.not_false, Bool.and_self, if_true]
  · rintro n s ⟨hrest, hnew, hlate⟩
    change execStandstillRecord dt n s = _
    simp only [execStandstillRecord, hrest, hnew, hlate, decide_true, Bool.not_false, Bool.and_self, if_true, saveAxis]

end Sys2Proof.Machine
end

section
/-! PROOF. The buses: CAN and M-Bus. -/

namespace Sys2Proof.Machine
open Sys2Proof

/-! The CAN half of the bus class -/

/-- A timing of mode 0 leaves the bus passive, with its counters at 0. -/
theorem acts_canSetConfig_off : Acts .canSetConfig cmdCanSetConfig (fun c _ => !badTiming (c.payload.drop 4) && fld (c.payload.drop 4) 0 1 == 0)
    (fun c u => setCan (fld c.payload 0 1) { canBus (fld c.payload 0 1) u with cfg := c.payload.drop 4, detect := none, found := none, err := 1, tec := 0, recCount := 0, recovering := false } u)
    (fun _ _ => []) :=
  acts_of_row (fun _ _ => rfl) fun c u _ h => by
    simp only [Bool.and_eq_true, Bool.not_eq_true', beq_iff_eq] at h
    simp only [cmdCanSetConfig, h.1, h.2, Bool.false_eq_true, if_false, if_true]

theorem acts_canSetConfig_on : Acts .canSetConfig cmdCanSetConfig (fun c _ => !badTiming (c.payload.drop 4) && fld (c.payload.drop 4) 0 1 != 0)
    (fun c u =>
      let x := canBus (fld c.payload 0 1) u
      setCan (fld c.payload 0 1) { x with cfg := c.payload.drop 4, detect := none, found := none, recovering := x.recovering || (x.err == 3 && bit (fld (c.payload.drop 4) 1 1) 1) } u)
    (fun _ _ => []) :=
  acts_of_row (fun _ _ => rfl) fun c u _ h => by
    simp only [Bool.and_eq_true, Bool.not_eq_true', bne_iff_ne, ne_eq] at h
    simp only [cmdCanSetConfig, h.1, h.2, Bool.false_eq_true, if_false]

theorem acts_canSetObjects : Acts .canSetObjects cmdCanSetObjects
    (fun c u => (chunks 16 (fld c.payload 3 1) (c.payload.drop 4)).zipIdx.all (fun e =>
      !(bindingFields (canObj (fld c.payload 0 1) (fld c.payload 2 1 + e.2) u).record e.1 && canBound (fld c.payload 0 1) (fld c.payload 2 1 + e.2) u)))
    (fun c u => (chunks 16 (fld c.payload 3 1) (c.payload.drop 4)).zipIdx.foldl (fun t e => setObject (fld c.payload 0 1) (fld c.payload 2 1 + e.2) e.1 t) u)
    (fun _ _ => []) :=
  acts_of_row (fun _ _ => rfl) fun c u _ h => by
    have hfree := find?_eq_none_of_all h (q := fun e => bindingFields (canObj (fld c.payload 0 1) (fld c.payload 2 1 + e.2) u).record e.1 &&
      canBound (fld c.payload 0 1) (fld c.payload 2 1 + e.2) u) fun e he => by simpa only [Bool.not_eq_true'] using he
    simp only [cmdCanSetObjects, hfree]

theorem acts_canSend : Acts .canSend cmdCanSend
    (fun c u => fld (canObj (fld c.payload 0 1) (fld c.payload 1 1) u).record 0 1 == 2 && !progSends (fld c.payload 0 1) (fld c.payload 1 1) u)
    (fun c u =>
      let b := fld c.payload 0 1
      let o := fld c.payload 1 1
      let x := canObj b o u
      let v := setCan b ((canBus b u).setObj o { x with data := patch x.data 0 (slice c.payload 4 (fld c.payload 2 1)) }) u
      if fld x.record 3 1 = 0 then requestSend b o v else v) (fun _ _ => []) :=
  acts_of_row (fun _ _ => rfl) fun c u _ h => by
    simp only [Bool.and_eq_true, Bool.not_eq_true', beq_iff_eq] at h
    simp only [cmdCanSend, h.1, h.2, ne_eq, not_true_eq_false, Bool.false_eq_true, if_false]

theorem acts_canDetectRate : Acts .canDetectRate cmdCanDetectRate (fun c u => (canBus (fld c.payload 0 1) u).detect.isNone)
    (fun c u =>
      let d : Detect := { dwell := fld c.payload 2 2, timeout := fld c.payload 4 2, from_ := u.tb.now, since := u.tb.now, cand := 0, good := 0, nominal := 0, brs := false }
      setCan (fld c.payload 0 1) { canBus (fld c.payload 0 1) u with detect := some d, found := none, detResult := 0, detRates := (0, 0) } u) (fun _ _ => []) :=
  acts_of_row (fun _ _ => rfl) fun c u _ h => by
    simp only [cmdCanDetectRate, Option.isNone_iff_eq_none.mp h, Option.isSome_none, Bool.false_eq_true, if_false]

theorem acts_canRecover : Acts .canRecover cmdCanRecover (fun c u => (canBus (fld c.payload 0 1) u).err == 3)
    (fun c u => setCan (fld c.payload 0 1) { canBus (fld c.payload 0 1) u with recovering := true } u) (fun _ _ => []) :=
  acts_of_row (fun _ _ => rfl) fun c u _ h => by
    simp only [cmdCanRecover, beq_iff_eq.mp h, ne_eq, not_true_eq_false, if_false]

/-- Settles O41, command by command. -/
theorem canClassAnswers : Obligations.CanClassAnswers := by
  unfold Obligations.CanClassAnswers
  exact ⟨reads_of_row (fun _ _ => rfl) fun c u _ _ => rfl, acts_canSetConfig_off, acts_canSetConfig_on, acts_canSetObjects, reads_of_row (fun _ _ => rfl) fun c u _ _ => rfl,
    acts_of_row (fun _ _ => rfl) fun c u _ _ => rfl, acts_canSend, acts_canDetectRate, acts_canRecover, reads_of_row (fun _ _ => rfl) fun c u _ _ => rfl⟩

/-! The events of the CAN buses -/

theorem runs_canFrameReceived (dt : Nat) (b : Fin 4) (f : CanRx) (sof : Nat) (rd : CanReading) : Runs (.canFrameReceived dt b f sof rd) dt
    (fun u => canMode b.val u = 1 ∧ (f.fd = false ∨ bit (fld (canBus b.val u).cfg 1 1) 0 = true) ∧
      canMode b.val (detectGood b.val (f.fd && f.brs) (offer b.val f (u.zone - sof) rd u)) = 1)
    (fun u =>
      let v := detectGood b.val (f.fd && f.brs) (offer b.val f (u.zone - sof) rd u)
      judgeCan b.val (setCan b.val { canBus b.val v with recCount := recAfterGood (canBus b.val v).recCount } v)) := by
  rintro s ⟨hmode, hfd, -⟩
  change execCanFrameReceived dt b f sof rd s = _
  have hfits : ¬ (f.fd = true ∧ (!bit (fld (canBus b.val (advance dt s)).cfg 1 1) 0) = true ∧ (canBus b.val (advance dt s)).detect.isNone = true ∧
      (canBus b.val (advance dt s)).found.isNone = true) := by
    rintro ⟨hframe, hclassic, -⟩
    rw [Bool.not_eq_true'] at hclassic
    exact hfd.elim (fun h => Bool.false_ne_true (h.symm.trans hframe)) (fun h => Bool.false_ne_true (hclassic.symm.trans h))
  simp only [execCanFrameReceived, hmode, hfits, Nat.reduceEqDiff, one_ne_zero, or_self, if_false, if_true]

/-- Without a rate detection a bad frame is no candidate's. -/
theorem detectBad_of_none {b : Nat} {data : Bool} {u : State} (h : (canBus b u).detect = none) : detectBad b data u = u := by
  simp only [detectBad, h]

/-- An error of a bus that takes part moves its counters. -/
theorem exec_canBusError (dt : Nat) (b : Fin 4) (err : CanError) {s : State} (hmode : canMode b.val (advance dt s) = 1 ∨ canMode b.val (advance dt s) = 3)
    (hon : (canBus b.val (advance dt s)).err ≠ 3) (hdetect : (canBus b.val (advance dt s)).detect = none) :
    exec (.canBusError dt b err) s = .next (judgeCan b.val (setCan b.val (match err with
        | .transmit => { canBus b.val (advance dt s) with tec := (canBus b.val (advance dt s)).tec + 8 }
        | .passiveAck => canBus b.val (advance dt s)
        | .receive => { canBus b.val (advance dt s) with recCount := (canBus b.val (advance dt s)).recCount + 1 }
        | .dominant => { canBus b.val (advance dt s) with recCount := (canBus b.val (advance dt s)).recCount + 8 }
        | .dataPhase => { canBus b.val (advance dt s) with recCount := (canBus b.val (advance dt s)).recCount + 1 }) (advance dt s))) := by
  change execCanBusError dt b err s = _
  have hnot0 : ¬ canMode b.val (advance dt s) = 0 := by omega
  have hnot2 : ¬ canMode b.val (advance dt s) = 2 := by omega
  simp only [execCanBusError, hnot0, hnot2, hon, or_self, if_false, detectBad_of_none hdetect] <;> rfl

/-- Settles O42, event by event. -/
theorem canEventsRun : Obligations.CanEventsRun := by
  unfold Obligations.CanEventsRun
  refine fun dt => ⟨runs_canFrameReceived dt, ?_, ?_, ?_, ?_, fun s _ => rfl, fun b s hs => exec_canBusError dt b .transmit hs.1 hs.2.1 hs.2.2,
    fun b s hs => exec_canBusError dt b .receive hs.1 hs.2.1 hs.2.2, ?_, ?_, ?_, ?_, ?_, ?_⟩
  · intro b s hmode
    change execCanFrameTransmitted dt b .started s = _
    simp only [execCanFrameTransmitted, hmode, if_false]
  · intro b s hmode
    change execCanFrameTransmitted dt b .completed s = _
    simp only [execCanFrameTransmitted, hmode, if_false]
  · intro b s hmode
    change execCanFrameTransmitted dt b .lost s = _
    simp only [execCanFrameTransmitted, hmode, if_false]
  · intro b s hmode
    change execCanFrameTransmitted dt b .failed s = _
    simp only [execCanFrameTransmitted, hmode, if_false]
  · rintro b s ⟨hmode, hon, htec⟩
    change execBusOff dt b s = _
    simp only [execBusOff, hmode, hon, Nat.not_le.mpr htec, or_self, if_false]
  · rintro b s ⟨hmode, hoff, hrun⟩
    change execBusOffRecovery dt b s = _
    simp only [execBusOffRecovery, hmode, hoff, hrun, ne_eq, not_true_eq_false, Bool.not_true, Bool.false_eq_true, or_self, if_false]
  · rintro b k s ⟨hmode, hclear⟩
    change execCanTransceiverFault dt b k true s = _
    simp only [execCanTransceiverFault, hmode, hclear, Bool.false_eq_true, or_self, if_false, if_true]
  · rintro b k s ⟨hmode, hset⟩
    change execCanTransceiverFault dt b k false s = _
    simp only [execCanTransceiverFault, hmode, hset, Bool.false_eq_true, Bool.true_eq_false, or_self, if_false]
  · rintro b d s ⟨hdetect, hlate⟩
    change execDetectDwell dt b s = _
    simp only [execDetectDwell, hdetect, Nat.not_lt.mpr hlate, if_false]
  · rintro b d s ⟨hdetect, hlate, hnone⟩
    change execDetectTimeout dt b s = _
    simp only [execDetectTimeout, hdetect, Nat.not_lt.mpr hlate, Nat.not_le.mpr hnone, if_false]

/-! The M-Bus master -/

theorem acts_mbusSetConfig : Acts .mbusSetConfig cmdMbusSetConfig
    (fun c _ => (List.range (fld c.payload 3 1)).all (fun i => (List.range i).all (fun j => fld c.payload (16 + 4 * j) 1 != fld c.payload (16 + 4 * i) 1)))
    (fun c u => setMbus (fun m => { m with pend := some c.payload }) u) (fun _ _ => []) :=
  acts_of_row (fun _ _ => rfl) fun c u _ h => by
    have hdistinct := find?_eq_none_of_all h (q := fun i => (List.range i).any (fun j => fld c.payload (16 + 4 * j) 1 == fld c.payload (16 + 4 * i) 1)) fun i hi =>
      any_eq_false_of_all hi fun j hj => by simpa only [bne_iff_ne, ne_eq, beq_eq_false_iff_ne] using hj
    simp only [cmdMbusSetConfig, hdistinct]

/-- A cycle starts at its instant. -/
theorem runs_mbusCycleInstant (dt : Nat) : Runs (.mbusCycleInstant dt) dt
    (fun u => busesUp u = true ∧ u.buses.mbus.lastCycle < u.zone / (max 1 (fld u.buses.mbus.cfg 4 2) * 1000000000) ∧ u.buses.mbus.pend = none ∧
      u.buses.mbus.line = 1 ∧ u.buses.mbus.running = false ∧ serving u = true)
    (fun u => mbusNext (setMbus (fun m => { m with lastCycle := u.zone / (max 1 (fld u.buses.mbus.cfg 4 2) * 1000000000), running := true, next := 0, cycleStart := u.zone, cycleFrom := u.tb.now }) u)) := by
  rintro s ⟨hup, hnew, hpend, hline, hidle, hserve⟩
  change execMbusCycleInstant dt s = _
  have hserve' (b : Buses) : serving { advance dt s with buses := b } = true := hserve
  simp only [execMbusCycleInstant, hup, Nat.not_le.mpr hnew, hpend, setMbus, hline, hidle, hserve', Bool.not_true, Bool.false_eq_true, ne_eq, not_true_eq_false, or_self,
    if_false]
  rfl

/-- A good reply in time to a request is stored, and the next slave follows. -/
theorem exchangeReply_of_good {x : MbusExchange} {r : MbusReply} {u : State} (hnke : x.nke = false)
    (htime : u.tb.now ≤ replyLimit x.sent (slaveBaud u.buses.mbus x.slot) + r.began) (hcoll : r.collision = false) (hgood : replyGood r = true)
    (hlast : (slave x.addr (storeReply x.addr r.bytes u)).chain = 0) :
    exchangeReply x r u = mbusNext (setMbus (fun m => { m with exch := none }) (storeReply x.addr r.bytes u)) := by
  have hkept : setMbus (fun m => { m with faults := m.faults }) u = u := rfl
  simp only [exchangeReply, Nat.not_lt.mpr htime, hnke, hcoll, hkept, hgood, hlast, Bool.not_true, Bool.false_eq_true, ne_eq, not_true_eq_false, if_false]

/-- Settles O43, command by command and event by event. -/
theorem mbusAnswersAndRuns : Obligations.MbusAnswersAndRuns := by
  unfold Obligations.MbusAnswersAndRuns
  refine ⟨reads_of_row (fun _ _ => rfl) fun c u _ _ => rfl, acts_mbusSetConfig, reads_of_row (fun _ _ => rfl) fun c u _ _ => rfl,
    acts_of_row (fun _ _ => rfl) fun c u _ _ => rfl, defers_of_row (fun _ _ => rfl) fun c u _ _ => rfl,
    fun dt => ⟨runs_mbusCycleInstant dt, ?_, ?_, ?_, ?_, ?_⟩⟩
  · rintro r x s ⟨hline, hexch, hnke, htime, hcoll, hgood, hlast⟩
    change execMbusReply dt r s = _
    simp only [execMbusReply, hline, hexch, exchangeReply_of_good hnke htime hcoll hgood hlast, Nat.reduceEqDiff, ne_eq, not_true_eq_false, if_false]
  · rintro x s ⟨hexch, hlate, hnke⟩
    change execMbusReplyTimeout dt s = _
    simp only [execMbusReplyTimeout, hexch, Nat.not_lt.mpr hlate, hnke, Bool.false_eq_true, if_false]
  · rintro x s ⟨hexch, hlate, hnke⟩
    change execMbusReplyTimeout dt s = _
    simp only [execMbusReplyTimeout, hexch, Nat.not_lt.mpr hlate, hnke, if_false, if_true]
  · intro ma s hline
    change execMbusOvercurrent dt ma s = _
    simp only [execMbusOvercurrent, hline, ne_eq, not_true_eq_false, if_false]
  · rintro s ⟨hoff, hlate⟩
    change execMbusPowerRetry dt s = _
    simp only [execMbusPowerRetry, hoff, hlate, and_self, if_true]

end Sys2Proof.Machine
end

section
/-! PROOF. The I/O and panel class. -/

namespace Sys2Proof.Machine
open Sys2Proof

/-! The I/O and panel class -/

theorem acts_ioSetConfig : Acts .ioSetConfig cmdIoSetConfig
    (fun c u => (ilockConflict c.payload).isNone && (List.range 8).all (fun n => !(ilockOn n u && ilockRec c.payload n != ilockRec u.io.cfg n)) &&
      (blockOverlap c.payload).isNone && (presenceUsed c.payload u).isNone)
    (fun c u => { u with io := { u.io with pend := some (c.payload, (u.tb.now / 100000 + 1) * 100000) } }) (fun _ _ => []) :=
  acts_of_row (fun _ _ => rfl) fun c u _ h => by
    simp only [Bool.and_eq_true, Option.isNone_iff_eq_none] at h
    obtain ⟨⟨⟨hconflict, hilocks⟩, hblocks⟩, hpresence⟩ := h
    have hkept := find?_eq_none_of_all hilocks (q := fun n => ilockOn n u && ilockRec c.payload n != ilockRec u.io.cfg n) fun n hn => by
      simpa only [Bool.not_eq_true'] using hn
    simp only [cmdIoSetConfig, hconflict, hkept, hblocks, hpresence]

/-- A host write of an output nothing else writes is its LOCAL value from the first tick at least 1 ms later. -/
theorem acts_ioSetOutput : Acts .ioSetOutput cmdIoSetOutput
    (fun c u => (loopOwner (2 - fld c.payload 0 1) (fld c.payload 1 1) u).isNone &&
      !(bindsTo (progDir u) (bindKind (2 - fld c.payload 0 1)) (fld c.payload 1 1)).any (fun e => !entryGuard e))
    (fun c u => { u with io := { u.io with writes := u.io.writes ++ [{ kind := fld c.payload 0 1, index := fld c.payload 1 1, value := fld c.payload 4 4, due := (u.tb.now + 1099999) / 100000 * 100000 }] } })
    (fun _ u => le 8 (zoneAt ((u.tb.now + 1099999) / 100000 * 100000) u)) :=
  acts_of_row (fun _ _ => rfl) fun c u _ h => by
    simp only [Bool.and_eq_true, Option.isNone_iff_eq_none, Bool.not_eq_true'] at h
    obtain ⟨hloop, hprog⟩ := h
    simp only [cmdIoSetOutput, hloop, hprog, Option.isSome_none, Bool.or_self, Bool.false_eq_true, if_false, Nat.add_assoc, Nat.reduceAdd]

theorem acts_ioClearOutput : Acts .ioClearOutput cmdIoClearOutput
    (fun c u => let d := dout (fld c.payload 0 1) u
      d.latched && !d.reversed && d.test != 3)
    (fun c u => let n := fld c.payload 0 1
      ioChange 1 n (fun v => redrive n (setDout n { dout n v with latched := false, trip := 0, retries := 0 } v)) u) (fun _ _ => []) :=
  acts_of_row (fun _ _ => rfl) fun c u _ h => by
    simp only [Bool.and_eq_true, Bool.not_eq_true', bne_iff_ne, ne_eq] at h
    obtain ⟨⟨hlatched, hforward⟩, htest⟩ := h
    simp only [cmdIoClearOutput, hlatched, hforward, htest, Bool.not_true, Bool.false_eq_true, or_self, if_false]

theorem acts_ioResetInterlock : Acts .ioResetInterlock cmdIoResetInterlock
    (fun c u => ilockOn (fld c.payload 0 1) u && !(fld (ilockRec u.io.cfg (fld c.payload 0 1)) 0 1 == 1 && ilockActive (ilockRec u.io.cfg (fld c.payload 0 1)) u))
    (fun c u => resolveAll (emit 0x0F03 [(fld c.payload 0 1 : Int), 1] { u with io := { u.io with ilocks := tabSet u.io.ilocks (fld c.payload 0 1) { on := false } } }))
    (fun _ _ => []) :=
  acts_of_row (fun _ _ => rfl) fun c u _ h => by
    rw [Bool.and_eq_true] at h
    obtain ⟨hon, hquiet⟩ := h
    have hquiet' : ¬ (fld (ilockRec u.io.cfg (fld c.payload 0 1)) 0 1 = 1 ∧ ilockActive (ilockRec u.io.cfg (fld c.payload 0 1)) u = true) := by
      simpa only [Bool.not_eq_true', ← Bool.not_eq_true, Bool.and_eq_true, beq_iff_eq] using hquiet
    simp only [cmdIoResetInterlock, hquiet', hon, if_false, if_true]

theorem acts_panelSetLeds : Acts .panelSetLeds cmdPanelSetLeds
    (fun c u => (List.range 8).all (fun n => !(fld u.panel.cfg (0x11 + 4 * n) 1 == 1 && (fld c.payload (2 * n) 1, fld c.payload (2 * n + 1) 1) != tabGet (0, 0) u.panel.leds n)))
    (fun c u => { u with panel := { u.panel with leds := (List.range 8).foldl (fun t n => tabSet t n (fld c.payload (2 * n) 1, fld c.payload (2 * n + 1) 1)) u.panel.leds } })
    (fun _ _ => []) :=
  acts_of_row (fun _ _ => rfl) fun c u _ h => by
    have hfree := find?_eq_none_of_all h (q := fun n => fld u.panel.cfg (0x11 + 4 * n) 1 == 1 &&
        (fld c.payload (2 * n) 1, fld c.payload (2 * n + 1) 1) != tabGet (0, 0) u.panel.leds n) fun n hn => by
      simpa only [Bool.not_eq_true'] using hn
    simp only [cmdPanelSetLeds, hfree]

/-- Settles O44, command by command. -/
theorem ioAndPanelClassAnswers : Obligations.IoAndPanelClassAnswers := by
  unfold Obligations.IoAndPanelClassAnswers
  exact ⟨reads_of_row (fun _ _ => rfl) fun c u _ _ => rfl, acts_ioSetConfig, reads_of_row (fun _ _ => rfl) fun c u _ _ => rfl,
    reads_of_row (fun _ _ => rfl) fun c u _ _ => rfl, acts_ioSetOutput, acts_ioClearOutput, acts_ioResetInterlock, reads_of_row (fun _ _ => rfl) fun c u _ _ => rfl,
    acts_of_row (fun _ _ => rfl) fun c u _ _ => rfl, reads_of_row (fun _ _ => rfl) fun c u _ _ => rfl, acts_panelSetLeds⟩

end Sys2Proof.Machine
end

section
/-! PROOF. Security and clock events. -/

namespace Sys2Proof.Machine
open Sys2Proof

/-! Security events -/

theorem setBank_tamper (n : Nat) (b : Tab SlotImage) (s : State) : (setBank n b s).sec.tamper = s.sec.tamper := by
  unfold setBank setSec
  split <;> rfl

theorem setBank_win (n : Nat) (b : Tab SlotImage) (s : State) : (setBank n b s).win = s.win := rfl

/-- A commit record puts its bank in force, and loads its keys where no tamper and no VENDOR debug forbid it. -/
theorem exec_keyUpdateCommit {dt : Nat} {s : State} {w : KeyUpdate} (hupdate : (advance dt s).sec.update = some w) :
    exec (.keyUpdateCommit dt) s = .next (
      let u := advance dt s
      let v := setSec (fun x => { x with bank := 1 - u.sec.bank, updateCounter := w.counter, commitSeq := (x.commitSeq + 1) % 2 ^ 32, update := none })
        (setBank (1 - u.sec.bank) w.bank u)
      opDone w.entry (le 8 w.counter ++ le 8 w.written) (emit 0x0304 [(w.counter : Int), (w.written : Int)]
        (if u.sec.tamper = .none ∧ u.win.debug ≠ .vendor then loadKeys v else v))) := by
  change execKeyUpdateCommit dt s = _
  have htamper := setBank_tamper (1 - (advance dt s).sec.bank) w.bank (advance dt s)
  have hwin := setBank_win (1 - (advance dt s).sec.bank) w.bank (advance dt s)
  simp only [execKeyUpdateCommit, hupdate, setSec, htamper, hwin, Bool.and_eq_true, decide_eq_true_eq, bne_iff_ne]

/-- At SWITCH_TIME a module that is no STANDBY switches its key epoch and tells the standby. -/
theorem runs_keyEpochSwitch (dt : Nat) (r : Rollover) : Runs (.keyEpochSwitch dt) dt
    (fun u => u.sec.roll = some r ∧ r.old = none ∧ keeperUp u = true ∧ u.win.role ≠ .standby ∧ r.switch ≤ u.zone)
    (fun u =>
      let v := emit 0x0306 [(r.next : Int)] (setSec (fun x => { x with keyEpoch := r.next, roll := some { r with old := some x.keyEpoch } }) u)
      (replicate 0x16 true (epochItem v) v).1) := by
  rintro s ⟨hroll, hold, hup, hrole, hdue⟩
  have hpending : pendingRoll (advance dt s) = some r := by simp only [pendingRoll, hroll, Option.filter_some, hold, Option.isNone_none, if_true]
  change execKeyEpochSwitch dt s = _
  simp only [execKeyEpochSwitch, hpending, hup, bne_iff_ne.mpr hrole, hdue, decide_true, Bool.and_self, if_true, switchEpoch]

/-- Settles O48, event by event. -/
theorem securityEventsRun : Obligations.SecurityEventsRun := by
  unfold Obligations.SecurityEventsRun
  refine fun dt => ⟨?_, ?_, runs_keyEpochSwitch dt, ?_, ?_, ?_, ?_⟩
  · rintro w s ⟨hupdate, hkeyless⟩
    rw [exec_keyUpdateCommit hupdate]
    simp only [if_neg (not_and_or.mpr (hkeyless.imp_right not_not.mpr))]
  · rintro w s ⟨hupdate, htamper, hdebug⟩
    rw [exec_keyUpdateCommit hupdate]
    simp only [if_pos (And.intro htamper hdebug)]
  · rintro r s ⟨hroll, hold, hup, hdue⟩
    change execOverlapEnd dt s = _
    have hdue' : overlapEnd r ≤ (advance dt s).zone := hdue
    simp only [execOverlapEnd, hroll, hup, hold, hdue', decide_true, Bool.and_self, if_true, endOverlap]
  · rintro n s ⟨harmed, hnew⟩
    change execTamperDetected dt n s = _
    simp only [execTamperDetected, harmed, hnew, Bool.not_false, Bool.and_self, if_true]
  · intro n hn s hactive
    change execTamperSourceClear dt n s = _
    simp only [execTamperSourceClear, bne_iff_ne.mpr hn, hactive, Bool.and_self, if_true]
  · rintro s ⟨hup, hdue⟩
    change execDebugExpiry dt s = _
    simp only [execDebugExpiry, hup, hdue, decide_true, Bool.and_self, if_true]

/-! Clock events -/

/-- A source that qualifies after its count takes its offset, and the multiplexers without a better source take it. -/
theorem runs_sourceQualified (dt : Nat) (x : Fin 8) (o : Int) (hlow : 2 ≤ x.val) (hx : x.val ≠ 5) : Runs (.sourceQualified dt x o false) dt
    (fun u => u.power.off = false ∧ (clkSource x.val u).state = 1 ∧ (clkSource x.val u).countFrom + countNs x.val u ≤ u.tb.now)
    (fun u => followDegraded (takeSource x.val 1 (takeSource x.val 0
      (sourceTo x.val 2 (fun k => { k with offset := max (-32768) (min 32767 o), qualAt := u.tb.now }) u)))) := by
  rintro s ⟨hon, hstate, hcounted⟩
  have hzero : x.val ≠ 0 := by omega
  have hone : x.val ≠ 1 := by omega
  change execSourceQualified dt x o false s = _
  simp only [execSourceQualified, hzero, hone, hx, hon, hstate, Nat.not_lt.mpr hcounted, Bool.and_false, Bool.false_eq_true, ne_eq, not_true_eq_false, or_self, if_false]

/-- A stopped source in use or counting is tripped. -/
theorem runs_sourceTrip_stopped (dt : Nat) (x : Fin 8) (hzero : x.val ≠ 0) : Runs (.sourceTrip dt x .stopped) dt
    (fun u => u.power.off = false ∧ ((clkSource x.val u).state = 1 ∨ (clkSource x.val u).state = 2)) (tripSource x.val 1) := by
  rintro s ⟨hon, hstate⟩
  change execSourceTrip dt x .stopped s = _
  have hlive : ¬ ((clkSource x.val (advance dt s)).state ≠ 1 ∧ (clkSource x.val (advance dt s)).state ≠ 2) := by
    simpa only [not_and_or, not_not] using hstate
  simp only [execSourceTrip, hzero, hon, hlive, Bool.false_eq_true, or_self, if_false]

/-- So is one whose frequency leaves its window, with the offset measured. -/
theorem runs_sourceTrip_freq (dt : Nat) (x : Fin 8) (o : Int) (hzero : x.val ≠ 0) (hx : x.val ≠ 5) : Runs (.sourceTrip dt x (.freq o)) dt
    (fun u => u.power.off = false ∧ ((clkSource x.val u).state = 1 ∨ (clkSource x.val u).state = 2) ∧ freqWindow x.val u < o.natAbs)
    (fun u => tripSource x.val 2 (setClkSource x.val (fun k => { k with offset := max (-32768) (min 32767 o) }) u)) := by
  rintro s ⟨hon, hstate, hout⟩
  change execSourceTrip dt x (.freq o) s = _
  have hlive : ¬ ((clkSource x.val (advance dt s)).state ≠ 1 ∧ (clkSource x.val (advance dt s)).state ≠ 2) := by
    simpa only [not_and_or, not_not] using hstate
  simp only [execSourceTrip, hzero, hx, hon, hlive, Nat.not_le.mpr hout, Bool.false_eq_true, or_self, if_false]

/-- A TCXO qualified for WTR_S takes the CM multiplexer back. -/
theorem runs_wtrRevert (dt : Nat) : Runs (.wtrRevert dt) dt
    (fun u => u.power.off = false ∧ u.clocks.cm.source ≠ 1 ∧ u.clocks.cm.held = none ∧ (clkSource 1 u).state = 2 ∧
      (clkSource 1 u).qualAt + wtrNs u ≤ u.tb.now ∧ (switchTo 1 1 1 u).clocks.ref.source = 0)
    (fun u => followDegraded (switchTo 1 1 1 u)) := by
  rintro s ⟨hon, hsource, hfree, hstate, hwaited, hnoref⟩
  have hrestored : restored 1 (advance dt s) = true := by
    simp only [restored, isQualified, hstate, hwaited, beq_self_eq_true, decide_true, Bool.and_self]
  change execWtrRevert dt s = _
  simp only [execWtrRevert, hon, hsource, hfree, hrestored, hnoref, Option.isNone_none, ne_eq, not_false_eq_true, not_true_eq_false, Bool.false_eq_true, and_self,
    false_and, if_false, if_true]

/-- Settles O51, event by event. -/
theorem clockEventsRun : Obligations.ClockEventsRun := by
  unfold Obligations.ClockEventsRun
  refine fun dt => ⟨fun x o => runs_sourceQualified dt x o, runs_sourceTrip_stopped dt, fun x o => runs_sourceTrip_freq dt x o, ?_, ?_, runs_wtrRevert dt, ?_⟩
  · intro s hon
    change execQualificationLimit dt s = _
    simp only [execQualificationLimit, hon, Bool.false_eq_true, if_false] <;> rfl
  · intro s hon
    change execSourceRetry dt s = _
    simp only [execSourceRetry, hon, Bool.false_eq_true, if_false]
  · rintro s ⟨hon, hlocking, hheld⟩
    change execPllLocked dt s = _
    simp only [execPllLocked, hon, hlocking, hheld, beq_self_eq_true, decide_true, Bool.not_false, Bool.and_self, if_true, pllTo]

end Sys2Proof.Machine
end

section
/-! PROOF. The Power class, and start-up, roles and resets. -/

namespace Sys2Proof.Machine
open Sys2Proof

/-! The Power class -/

theorem not_holdup_or_standby_of_active_or_quiet {u : State} (h : (u.win.power == .active || u.win.power == .quiet) = true) :
    ¬ (u.win.power = .holdup ∨ u.win.power = .standby) := by
  rw [Bool.or_eq_true, beq_iff_eq, beq_iff_eq] at h
  rcases h with h | h <;> simp [h]

theorem acts_powerSetState_active (cut : Cut) : Acts (fun dt r => .powerSetState dt r cut) (cmdPowerSetState cut)
    (fun c u => u.win.power == .quiet && fld c.payload 0 1 == 0)
    (fun _ u => setPow (fun p => { p with returnAt := some (u.power.returnAt.getD (nextEpoch u)) }) u)
    (fun _ u => le 8 (u.power.returnAt.getD (nextEpoch u))) :=
  acts_of_row (fun _ _ => rfl) fun c u _ h => by
    simp only [Bool.and_eq_true, beq_iff_eq] at h
    obtain ⟨hquiet, htarget⟩ := h
    simp [cmdPowerSetState, hquiet, htarget]

theorem acts_powerSetState_quiet (cut : Cut) : Acts (fun dt r => .powerSetState dt r cut) (cmdPowerSetState cut)
    (fun c u => u.win.power == .active && fld c.payload 0 1 == 1) (fun _ u => setPower .quiet (abandonReplan (abandonSolve u))) (fun _ u => le 8 u.zone) :=
  acts_of_row (fun _ _ => rfl) fun c u _ h => by
    simp only [Bool.and_eq_true, beq_iff_eq] at h
    obtain ⟨hactive, htarget⟩ := h
    simp [cmdPowerSetState, hactive, htarget]

/-- STANDBY without a blocker and with a wake source is answered first, then entered. -/
theorem defers_powerSetState (cut : Cut) : Defers (fun dt r => .powerSetState dt r cut) (cmdPowerSetState cut)
    (fun c u => (u.win.power == .active || u.win.power == .quiet) && fld c.payload 0 1 == 2 && standbyBlockers u == 0 && (List.range 5).any (fun k => wakeEnabled k u))
    (fun c u => enterStandby cut (finish c.mbox (.ok (le 8 u.zone)) u)) :=
  defers_of_row (fun _ _ => rfl) fun c u _ h => by
    rw [Bool.and_eq_true, Bool.and_eq_true, Bool.and_eq_true, beq_iff_eq, beq_iff_eq] at h
    obtain ⟨⟨⟨hpower, htarget⟩, hblock⟩, hwake⟩ := h
    simp only [cmdPowerSetState, not_holdup_or_standby_of_active_or_quiet hpower, htarget, hblock, hwake, OfNat.ofNat_ne_zero, OfNat.ofNat_ne_one, ne_eq, not_true_eq_false, Bool.not_true,
      Bool.false_eq_true, if_false]

/-- What blocks STANDBY is named, and nothing changes. -/
theorem completes_powerSetState (cut : Cut) : Completes (fun dt r => .powerSetState dt r cut) (cmdPowerSetState cut)
    (fun c u => (u.win.power == .active || u.win.power == .quiet) && fld c.payload 0 1 == 2 && standbyBlockers u != 0 && (List.range 5).any (fun k => wakeEnabled k u))
    (fun _ u => u) (fun _ u => .err 0x06 0xFFFF (le 4 (standbyBlockers u))) :=
  completes_of_body (fun _ _ s => exec_commandRow rfl s) fun c u _ h => by
    rw [Bool.and_eq_true, Bool.and_eq_true, Bool.and_eq_true, beq_iff_eq, bne_iff_ne] at h
    obtain ⟨⟨⟨hpower, htarget⟩, hblock⟩, hwake⟩ := h
    refine ⟨?_, Reply.noConfusion⟩
    have hhears : bitAt 7 false = 0 := rfl
    simp only [cmdPowerSetState, not_holdup_or_standby_of_active_or_quiet hpower, htarget, hblock, hwake, hhears, OfNat.ofNat_ne_zero, OfNat.ofNat_ne_one, ne_eq, not_false_eq_true,
      Bool.not_true, Nat.add_zero, if_false, if_true]

theorem defers_powerMeasureHoldup : Defers .powerMeasureHoldup cmdPowerMeasureHoldup
    (fun _ u => u.power.holdReady && !u.power.measuring && u.power.measureWait.isNone) (fun c u => setPow (fun p => { p with measureWait := some c.mbox }) u) :=
  defers_of_row (fun _ _ => rfl) fun c u _ h => by
    simp only [Bool.and_eq_true, Bool.not_eq_true', Option.isNone_iff_eq_none] at h
    obtain ⟨⟨hready, hidle⟩, hnone⟩ := h
    simp only [cmdPowerMeasureHoldup, hready, hidle, hnone, Option.isSome_none, Bool.not_true, Bool.or_self, Bool.false_eq_true, if_false]

/-- Settles O52, command by command. -/
theorem powerClassAnswers : Obligations.PowerClassAnswers := by
  unfold Obligations.PowerClassAnswers
  exact ⟨reads_of_row (fun _ _ => rfl) fun c u _ _ => rfl, reads_of_row (fun _ _ => rfl) fun c u _ _ => rfl, acts_of_row (fun _ _ => rfl) fun c u _ _ => rfl,
    fun cut => ⟨acts_powerSetState_active cut, acts_powerSetState_quiet cut, defers_powerSetState cut, completes_powerSetState cut⟩, defers_powerMeasureHoldup⟩

/-! Start-up, roles and resets -/

/-- VIN within range for 100 ms starts a module that is OFF. -/
theorem runs_vinPresent (dt vin h : Nat) (f : StartFacts) (hheld : 100000000 ≤ h) (hlow : 18000 ≤ vin) (hhigh : vin ≤ 32000) :
    Runs (.vinPresent dt vin h f) dt (fun u => u.power.off = true)
      (fun u => startUp f (powerOn .powerOn (setPow (fun p => { p with vin := true, vinOver := false }) u))) := by
  intro s hoff
  change execVinPresent dt vin h f s = _
  have hoff' : (setPow (fun p => { p with vin := true, vinOver := false }) (advance dt s)).power.off = true := hoff
  simp only [execVinPresent, Nat.not_lt.mpr hheld, Nat.not_lt.mpr hlow, Nat.not_lt.mpr hhigh, hoff, hoff', Bool.not_true, Bool.false_eq_true, and_false, or_self, if_false,
    if_true]

theorem requestPin_of_standby {u : State} (hon : u.power.off = false) (hfree : u.boot.held = false) (hpin : u.boot.pinAt = none) (hstandby : u.win.power = .standby) :
    requestPin u = holdReset .pin u := by
  simp [requestPin, hon, hfree, hpin, hstandby]

theorem requestPin_of_awake {u : State} (hon : u.power.off = false) (hfree : u.boot.held = false) (hpin : u.boot.pinAt = none)
    (hawake : u.win.power = .active ∨ u.win.power = .quiet) :
    requestPin u = { u with power := { u.power with gaspOk := false }, boot := { u.boot with pinAt := some u.tb.now } } := by
  rcases hawake with hpower | hpower <;> simp [requestPin, hon, hfree, hpin, hpower]

theorem exec_pinReset {dt h : Nat} (hheld : 10000 ≤ h) (s : State) : exec (.pinReset dt h) s = .next (requestPin (advance dt s)) := by
  change execPinReset dt h s = _
  simp only [execPinReset, Nat.not_lt.mpr hheld, if_false]

/-- A release starts the module held, or the one whose PIN reset has been asked for 5 ms. -/
theorem exec_resetRelease_of_held {dt : Nat} {f : StartFacts} {s : State} (hheld : (advance dt s).boot.held = true) (hpin : (advance dt s).boot.pinAt = none) :
    exec (.resetRelease dt f) s = .next (startUp f (advance dt s)) := by
  change execResetRelease dt f s = _
  simp only [execResetRelease, hpin, hheld, if_true]

theorem exec_resetRelease_of_pin {dt t : Nat} {f : StartFacts} {s : State} (hpin : (advance dt s).boot.pinAt = some t)
    (hdue : t + 5000000 ≤ (advance dt s).tb.now) : exec (.resetRelease dt f) s = .next (startUp f (holdReset .pin (advance dt s))) := by
  change execResetRelease dt f s = _
  have hheld : (holdReset .pin (advance dt s)).boot.held = true := rfl
  simp only [execResetRelease, hpin, hdue, hheld, if_true]

/-- Without a lock, role resolution waits for a partner there was before, and decides SINGLE without one, started safely or not. -/
theorem exec_roleResolution_of_no_lock {dt : Nat} {s : State} (hup : keeperUp (advance dt s) = true) (hboot : (advance dt s).win.st = .booting)
    (hresolve : (advance dt s).twin.resolve = 0) (hkind : (advance dt s).boot.kind ≠ .keeper) :
    exec (.roleResolution dt false) s = .next (if (advance dt s).boot.lastRole ≠ .single
      then setTwin (fun t => { t with resolve := 2, waitFrom := (advance dt s).tb.now }) (advance dt s) else becomeSingle (advance dt s)) := by
  change execRoleResolution dt false s = _
  have hcold : ((advance dt s).boot.kind == .keeper) = false := beq_eq_false_iff_ne.mpr hkind
  simp only [execRoleResolution, hup, hboot, hresolve, hcold, bne_self_eq_false, Bool.not_true, Bool.or_self, Bool.false_and, Bool.false_eq_true, if_false, ite_self,
    bne_iff_ne]

/-- 50 ms after the role the plant starts, but for a restart of the Keeper alone, and the module is READY. -/
theorem exec_plantStart_of_due {dt t : Nat} {s : State} (hrole : (advance dt s).boot.resolvedAt = some t) (hup : keeperUp (advance dt s) = true)
    (hawake : awake (advance dt s) = true) (hboot : (advance dt s).win.st = .booting) (hdue : t + 50000000 ≤ (advance dt s).tb.now) :
    exec (.plantStart dt) s = .next (reachReady (if (advance dt s).boot.kind = .keeper then advance dt s else startPlant (advance dt s))) := by
  change execPlantStart dt s = _
  simp only [execPlantStart, hrole, hup, hawake, hboot, Nat.not_lt.mpr hdue, decide_false, bne_self_eq_false, Bool.not_true, Bool.or_self, Bool.false_eq_true, if_false,
    beq_iff_eq]

/-- A boot failure the slots allow is held. -/
theorem runs_bootFailure (dt : Nat) (k : Fin 5) : Runs (.bootFailure dt k) dt
    (fun u => u.power.off = false ∧ u.boot.held = false ∧ u.boot.restored = false ∧ u.boot.failure = 0 ∧ 3 ≤ k.val ∧ (∃ p, chooseSlot u = .inr p))
    (setBoot (fun b => { b with failure := k.val })) := by
  rintro s ⟨hon, hfree, hearly, hnone, hk, p, hslot⟩
  have hzero : (k.val == 0) = false := beq_eq_false_iff_ne.mpr (by omega)
  change execBootFailure dt k s = _
  simp only [execBootFailure, hon, hfree, hearly, hnone, hslot, hk, hzero, decide_true, bne_self_eq_false, Bool.not_true, Bool.or_self, Bool.false_eq_true, if_false]

/-- An unpaired standby that has heard no ANNOUNCE for 5 s takes over. -/
theorem runs_unpairedStandbyTimeout (dt : Nat) (cut : Cut) : Runs (.unpairedStandbyTimeout dt cut) dt
    (fun u => twinUp u = true ∧ u.twin.unpaired = true ∧ u.sec.tamper = .none ∧ (portUp 1 u = true ∨ portUp 2 u = true) ∧ u.twin.announceHeard + 5000000000 ≤ u.tb.now)
    (fun u => takeOver cut (setSec (fun x => { x with twinKeyMissing := false }) u)) := by
  rintro s ⟨hup, hunpaired, htamper, hports, hsilent⟩
  have hports' := Bool.or_eq_true_iff.mpr hports
  change execUnpairedStandbyTimeout dt cut s = _
  simp only [execUnpairedStandbyTimeout, hup, hunpaired, htamper, hports', hsilent, beq_self_eq_true, decide_true, Bool.and_self, if_true]

/-- A trial not READY within 30 s ends. -/
theorem runs_trialTimeout (dt : Nat) : Runs (.trialTimeout dt) dt
    (fun u => onTrial u = true ∧ u.power.off = false ∧ u.boot.held = false ∧ u.boot.restored = true ∧ u.boot.reached = false ∧ u.boot.t0 + 30000000000 ≤ u.tb.now)
    (fun u => endTrial { u with sys := { u.sys with fatalAt := none } }) := by
  rintro s ⟨htrial, hon, hfree, hrestored, hreached, hlate⟩
  change execTrialTimeout dt s = _
  simp only [execTrialTimeout, htrial, hon, hfree, hrestored, hreached, hlate, decide_true, Bool.not_true, Bool.not_false, Bool.and_self, Bool.or_self, Bool.true_or,
    Bool.false_eq_true, if_false, if_true]

/-- Settles O54, event by event. -/
theorem startUpRolesAndResetsRun : Obligations.StartUpRolesAndResetsRun := by
  unfold Obligations.StartUpRolesAndResetsRun
  refine fun dt => ⟨fun vin h f hheld hlow hhigh => runs_vinPresent dt vin h f hheld hlow hhigh, ?_, ?_, ?_, ?_, ?_, runs_bootFailure dt, ?_, ?_, ?_,
    runs_unpairedStandbyTimeout dt, ?_, ?_, runs_trialTimeout dt, ?_, ?_⟩
  · rintro h hheld s ⟨hon, hfree, hpin, hstandby⟩
    rw [exec_pinReset hheld, requestPin_of_standby hon hfree hpin hstandby]
  · rintro h hheld s ⟨hon, hfree, hpin, hawake⟩
    rw [exec_pinReset hheld, requestPin_of_awake hon hfree hpin hawake]
  · rintro s ⟨hon, hpcie⟩
    change execPciePerst dt s = _
    simp only [execPciePerst, hon, hpcie, Bool.or_self, Bool.false_eq_true, if_false]
  · rintro f s ⟨hheld, hpin⟩
    exact exec_resetRelease_of_held hheld hpin
  · rintro f t s ⟨hpin, hdue⟩
    exact exec_resetRelease_of_pin hpin hdue
  · rintro s ⟨hup, hboot, hresolve, hkind, hlast⟩
    rw [exec_roleResolution_of_no_lock hup hboot hresolve hkind, if_neg (not_not.mpr hlast)]
  · rintro s ⟨hup, hboot, hresolve, hkind, hlast⟩
    rw [exec_roleResolution_of_no_lock hup hboot hresolve hkind, if_pos hlast]
  · rintro s ⟨hup, hwaiting, hlate⟩
    change execRoleWaitTimeout dt s = _
    simp only [execRoleWaitTimeout, hup, hwaiting, hlate, beq_self_eq_true, decide_true, Bool.and_self, if_true]
  · rintro t s ⟨hrole, hup, hawake, hboot, hdue, hcold⟩
    rw [exec_plantStart_of_due hrole hup hawake hboot hdue, if_neg hcold]
  · rintro t s ⟨hrole, hup, hawake, hboot, hdue, hkeeper⟩
    rw [exec_plantStart_of_due hrole hup hawake hboot hdue, if_pos hkeeper]
  · rintro t s ⟨hready, htrial, hstate, hlate⟩
    change execTrialConfirm dt s = _
    simp only [execTrialConfirm, hready, htrial, hstate, hlate, beq_self_eq_true, decide_true, Bool.and_self, if_true]
  · intro n s hruns
    change execTaskOutput dt n s = _
    simp only [execTaskOutput, hruns, if_true]

end Sys2Proof.Machine
end
